-- ==== Sys2Proof/Word.lean ====
section
/-! DEFINITION. The word types of the AX4836 and the plain records that its commands carry as operands: what an
external agent (a host, a port's far end, a partner engine, a sensor) or a timer hands to the engine in one step. -/

namespace Sys2Proof

/-- One octet on a wire or in a byte-addressed memory. -/
abbrev Byte := BitVec 8

/-- An S8.27 sample (R20): two's complement, 36 bits, full scale 0x0_0800_0000. -/
abbrev Sample := BitVec 36

/-- An S4.31 coefficient (R21): two's complement, 36 bits, unity 0x0_8000_0000. -/
abbrev Coef := BitVec 36

/-- A table of like things by number, in one canonical form: keys strictly rising, unlisted keys at a default. -/
abbrev Map (α : Type) := List (Nat × α)

/-- A dictionary value (R341): every fixed-size type as its number, STRING and BLOB as their octets. -/
inductive Val where
  | num (v : Int)
  | bytes (b : List Byte)
  deriving DecidableEq, Repr

/-- The paths on which Hapol reaches the engine (R345). -/
inductive Path where
  | udpCp | udpMp0 | udpMp1 | rawCp | rawMp0 | rawMp1 | mailbox | swiska
  deriving DecidableEq, Repr

/-- Who writes an object: the Hapol path, the session in use (0: none) and the LOOM_ID a forwarded write names. -/
structure Writer where
  path : Path
  session : Nat
  deriving DecidableEq, Repr

/-- One Hapol message as it arrives (R344, R345): its path, the source address and its octets. -/
structure Envelope where
  path : Path
  peer : Nat
  msg : List Byte
  deriving DecidableEq, Repr

/-- The bits of a Treadle channel's TDn_ISD and TDn_VSD over one pick, sampled on the rising edges of TD_SDCLK (R318), the newest in bit
0. -/
structure SenseBits where
  ch : Nat
  current : BitVec 2048
  voltage : BitVec 2048
  deriving DecidableEq, Repr

/-- What the engine samples or is told at one batten: the balls of GPIO0 to GPIO5, the measured lane speed of each
loaded shuttle (R104), the sense bitstreams of the pick and the latest bits of the rail bitstreams (R318, R322), the outputs whose write by the
reed, the mix accumulators or the temple is late (R41), the local instant in ns of the last such write (R37), the instances
whose shadow run missed or whose comparison failed (R44, R114) and the overflowed instances whose samples did not return
(R125). -/
structure BattenEnv where
  gpio : Nat
  speeds : List (Nat × Nat)
  sense : List SenseBits
  rails : List (Nat × BitVec 382)
  fabricLate : List Nat
  fabricDone : Nat
  shadowMissed : List Nat
  shadowFail : List Nat
  overflowLost : List Nat
  deriving DecidableEq, Repr

/-- A unit of fabric work: an object instance or a mix bus. -/
inductive Elem where
  | inst (i : Nat)
  | bus (b : Nat)
  deriving DecidableEq, Repr

/-- Faults met while a task reads its stores: input positions with a parity error (R28) and the tier that held them
(1 local, 2 harness, 3 warp, 4 LPDDR5, 5 beams), corrected and uncorrectable coefficient pairs (R29). -/
structure TaskFaults where
  parity : List Nat
  tier : Nat
  eccCorrected : Nat
  eccDouble : Bool
  deriving DecidableEq, Repr

/-- A data rate of LPDDR5 in MT/s (chapter 19). -/
inductive DdrRate where
  | mts6400 | mts5500 | mts4266
  deriving DecidableEq, Repr

/-- The outcome of LPDDR5 training (R430 step 9, R435): the fitted size in MiB with the highest rate that passes, or the channel that
failed. -/
inductive DdrTraining where
  | trained (mib : Nat) (rate : DdrRate)
  | failed (channel : Fin 2)
  deriving DecidableEq, Repr

/-- The result of a harness self-test (R410): per shuttle 0 to 5, whether the patterns passed and the lane speed measured
at the present voltage and temperature in Mop/s, from which S_vt follows (R413). -/
structure SelfTest where
  pass : List Bool
  speeds : List Nat
  deriving DecidableEq, Repr

/-- What the lockstep of the selvedge path reports for one sample of one output (R132), and the lower of the two copies'
limiter gains in S4.31 (R133). -/
structure SelvCopy where
  output : Nat
  parityX : Bool
  parityY : Bool
  differ : Bool
  low : Int
  deriving DecidableEq, Repr

/-- The measurements of one assessment (R157, R406): per slot its frequency offset from nominal against the local oscillator in
ppb, whether its phase tracker has converged; the measured time offset in ns; the frequency of SP1 against the reference in ppb; the
sixteen sensors in 0.01 degC. -/
structure AssessEnv where
  freq : List (Nat × Int)
  tracked : List Nat
  timeOffset : Int
  spError : Int
  sensors : List Int
  deriving DecidableEq, Repr

/-- A PTP message with its hardware stamp (R153, R256, R257). Announce carries the foreign master's dataset. -/
inductive PtpMsg where
  | announce (domain clockClass accuracy variance stepsRemoved priority1 priority2 grandmaster sender : Nat)
  | sync (domain : Nat) (sender : Nat) (twoStep : Bool)
  | followUp (domain : Nat) (identity : Nat)
  | delayReq (domain : Nat) (identity : Nat)
  | delayResp (domain : Nat) (identity : Nat)
  deriving DecidableEq, Repr

/-- The PTP messages the engine sends (R257). -/
inductive PtpTx where
  | announce | sync | followUp | delayReq | delayResp
  deriving DecidableEq, Repr

/-- One input frame of an audio port as its line decoder gives it (R196 to R211): the audio word of each channel; the other bits of each
AES3 or MADI channel ([0] validity, [1] user, [2] channel status, [3] parity, [4] subframe A, [5] block start); the channels that a 4B5B
violation fell in and the violations in all; the bit clocks since the last frame start on a TDM port; whether the preambles of the AES3
frame came in sequence, or the MADI frame had its channel-0 marker. The number of words of a MADI frame is its channel count. -/
structure PortFrame where
  words : List (Nat × Nat)
  flags : List (Nat × Nat)
  codeBad : List Nat
  codeErrors : Nat
  bclks : Nat
  inSequence : Bool
  deriving DecidableEq, Repr

/-- A frame at a MAC (R223, R229): its octets without FCS, and whether FCS and symbols were good. -/
structure EthFrame where
  octets : List Byte
  fcsGood : Bool
  codeError : Bool
  deriving DecidableEq, Repr

/-- Which clock fault ended a port's stream without a frame (R205). -/
inductive LockCause where
  | biphase | signalDetect | lineClock
  deriving DecidableEq, Repr

/-- Why a trained Swiska link went down (R282). -/
inductive LinkCause where
  | clock | headers | markers | skew | loopRequest | retrain
  deriving DecidableEq, Repr

/-- A timed or direct action as the holder sends it in a catch-up (R303): ID, object, value, sample, TAG, LATE and whether it
is a direct write. -/
structure SentAction where
  id : Nat
  key : Nat
  val : Val
  sample : Nat
  tag : Nat
  late : Nat
  direct : Bool
  deriving DecidableEq, Repr

/-- A lease or handover message's fields (R301, R356) with the path on which it came: 0 to 5 a Swiska port, 6 to 8 MP0, MP1
and CP with the source address and whether the tag verifies under TWIN_LEASE_KEY. -/
structure LeaseMsg where
  path : Nat
  peer : Nat
  tagGood : Bool
  state : Nat
  prefer : Bool
  epoch : Nat
  seq : Nat
  durationMs : Nat
  pick : Nat
  takePick : Nat
  deriving DecidableEq, Repr

/-- The masters of the creel in the order of R369. -/
inductive Master where
  | coreA | coreB | bridge | agent | mover | debug
  deriving DecidableEq, Repr

/-- One creel transaction (R369 to R374): a read or a write of an aligned word, opening or closing a lock. -/
structure CreelOp where
  addr : Nat
  write : Bool
  data : BitVec 32
  lock : Bool
  close : Bool
  deriving DecidableEq, Repr

/-- The four Heddle targets (R389). -/
inductive Target where
  | coreA | coreB | host | field
  deriving DecidableEq, Repr

/-- The stores the scrubber reads (R417). -/
inductive Store where
  | delayLine | otherState | coef | dict | workRam
  deriving DecidableEq, Repr

/-- Why a start failed before stage 5 (R435). -/
inductive StartFault where
  | imageInvalid | hostImage | selfTest
  deriving DecidableEq, Repr

/-- TAP instructions by what R451 grants them under. -/
inductive Tap where
  | bypass | idcode | extest | samplePreload | intest | halt | creelRead | creelWrite | fabric
  deriving DecidableEq, Repr

end Sys2Proof
end

