-- ==== Sys2Proof/Syntax.lean ====
section
/-! DEFINITION. The commands of the AX4836: one constructor per row of spec/opcode_table.json, with the operands that
the row's rule speaks of. `t` is the instant of the step in ns of the local count that engine time is kept on (R150);
a row without `t` falls at the instant its rule fixes. `w` is the writer of an object (path and session). -/

namespace Sys2Proof

/-- The steps of the engine: every operation and event of the table, whole and indivisible. -/
inductive Instr where
  /-- BATTEN (R18): At each pick boundary on SP0 the engine releases due cloth-beam slots, hands closed warp-beam
      slots to the fabric, hands due parameter changes to their objects and switches or starts reweave moves. -/
  | batten (env : BattenEnv)
  /-- TASK_COMPLETE (R42): The completion detector of a shuttle signals the end of an object's last task for the pick,
      which makes the new state copy valid and sets the finish time. -/
  | taskComplete (t : Nat) (e : Elem) (f : TaskFaults)
  /-- SLACK_WARN (R40): After 64 consecutive picks below the warning threshold, the engine raises SLACK_WARN, or
      repeats it, and plans a rebalance off the slowest shuttle. -/
  | slackWarn (t : Nat)
  /-- SLACK_WARN_CLEAR (R40): After 64 consecutive picks at or above the warning threshold, SLACK_WARN clears. -/
  | slackWarnClear (t : Nat)
  /-- SLACK_ALARM_CLEAR (R40): After 64 consecutive picks at or above the alarm threshold, SLACK_ALARM clears. -/
  | slackAlarmClear (t : Nat)
  /-- SLACK_CLEAR (R38): A write of 1 returns PICK_SLACK_MIN and every SHUTTLE_SLACK_MIN to 0xFFFF_FFFF. -/
  | slackClear (t : Nat) (w : Writer) (v : Nat)
  /-- GRAPH_COMMIT (R50): A write of 1 to GRAPH_COMMIT copies the edit copy and starts its compilation into a new
      weaving plan. -/
  | graphCommit (t : Nat) (w : Writer)
  /-- DISCARD_EDITS (R50): A write of 2 to GRAPH_COMMIT resets the edit copy to the running plan. -/
  | discardEdits (t : Nat) (w : Writer)
  /-- COMPILE_DONE (R51): The compile finishes, and either the switch to the new plan is prepared or the commit is
      refused with GRAPH_ERROR set. -/
  | compileDone (t : Nat)
  /-- GRAPH_SWITCH (R115): At the first batten at which every commit move has passed and every new partition load is
      complete, the engine switches to the new plan and fades the routing differences. -/
  | graphSwitch (t : Nat)
  /-- OBJECT_WRITE (R342): A write to a dictionary object that has no row of its own is checked and applied as a
      direct, edit-copy or saved write. -/
  | objectWrite (t : Nat) (w : Writer) (key : Nat) (v : Val)
  /-- CONTRIB_SET (R59): A write sets the gain of one contribution in the edit copy, and also in the running plan when
      live-eligible. -/
  | contribSet (t : Nat) (w : Writer) (v : Nat)
  /-- TWILL_REQUEST (R64): A write requests a twill swap of one instance from its active to its staged coefficient
      set, judged for admission at the write. -/
  | twillRequest (t : Nat) (w : Writer) (v : Nat)
  /-- TWILL_DONE (R64): After N crossfade samples only the new instance runs, its coefficients become active and the
      old instance is released. -/
  | twillDone (t : Nat) (i : Nat)
  /-- ROUTE_FADE_END (R67): A route crossfade reaches sample N, after which only the new source is read and held
      positions are freed at the next batten. -/
  | routeFadeEnd (t : Nat) (dest : Nat)
  /-- ROUTE_DEFERRED_APPLY (R69): A deferred route change is applied at offset 0 of the pick that opens after the
      running fade ends. -/
  | routeDeferredApply (t : Nat) (dest : Nat)
  /-- DELAY_FADE_END (R89): A delay-time crossfade ends and only the new tap is read, or a deferred time change is
      applied. -/
  | delayFadeEnd (t : Nat) (i : Nat)
  /-- TRIM_RAMP_END (R81): A GAIN_TRIM gain, mute or polarity ramp reaches its end value. -/
  | trimRampEnd (t : Nat) (i : Nat)
  /-- GEN_CROSSFADE_END (R96): A 5 ms generator waveform crossfade ends and only the newest waveform plays. -/
  | genCrossfadeEnd (t : Nat) (i : Nat)
  /-- SELV_RAMP_END (R130): A selvedge gain, mute or polarity ramp over SELV_RAMP_MS completes. -/
  | selvRampEnd (t : Nat) (o : Fin 64)
  /-- FIRP_LOAD_DONE (R86): The transform of staged coefficients into partitions completes and FIRP_LOAD_STATE shows
      3. -/
  | firpLoadDone (t : Nat) (i : Nat)
  /-- LD_RUN (R95): A write of 1 clears integrated loudness and true peak and starts a run, and a write of 0 freezes
      them. -/
  | ldRun (t : Nat) (w : Writer) (i : Nat) (v : Nat)
  /-- LOUDNESS_UPDATE (R95): Every 100 ms of samples the momentary and short-term loudness values update. -/
  | loudnessUpdate (t : Nat) (i : Nat)
  /-- MTR_CLEAR (R95): A write of 1 resets MTR_PEAK_HOLD and MTR_OVER_COUNT of a METER instance. -/
  | mtrClear (t : Nat) (w : Writer) (i : Nat) (v : Nat)
  /-- REWEAVE_BULK_COPY_DONE (R110): The placement mover finishes the bulk copy of an instance, so the closing copy
      and the shadow pick can follow. -/
  | reweaveBulkCopyDone (t : Nat) (i : Nat) (logged : Nat)
  /-- REWEAVE_ABANDONED (R111): After 16 failed closings, a move is abandoned and counted. -/
  | reweaveAbandoned (t : Nat) (i : Nat)
  /-- FAULT_MOVE_START (R116): The state copy of a fault move completes, so the moved instance starts at the next
      batten without a shadow pick. -/
  | faultMoveStart (t : Nat) (i : Nat) (readable : Bool)
  /-- MEND_DRAIN_START (R409): Every MEND_INTERVAL_S ÷ 9 the engine selects the harness with the oldest self-test and
      starts its mending drain under leave. -/
  | mendDrainStart (t : Nat)
  /-- MEND_SELF_TEST (R410): A drained harness carries no work, enters state 3 and starts its self-test. -/
  | mendSelfTest (t : Nat) (h : Fin 9)
  /-- MEND_SELF_TEST_DONE (R410): The self-test finishes and sets new ratings, and the harness becomes the reserve or
      is retired. -/
  | mendSelfTestDone (t : Nat) (h : Fin 9) (r : SelfTest)
  /-- PLACE_QUIET (R101): A write starts or ends a quiet period that defers mending drains and derate rebalances. -/
  | placeQuiet (t : Nat) (w : Writer) (v : Nat)
  /-- PLACE_QUIET_END (R101): The quiet period runs out and voluntary moves may start again. -/
  | placeQuietEnd (t : Nat)
  /-- OVERFLOW_EVICT (R127): An owner receives OVERFLOW_EVICT for a guest instance and re-places it by an eviction
      move. -/
  | overflowEvict (t : Nat) (i : Nat)
  /-- OVERFLOW_EVICT_FAILED (R127): The eviction move has not switched 64 picks before the partner's 2,048 picks end. -/
  | overflowEvictFailed (t : Nat) (i : Nat)
  /-- GUEST_EVICT_END (R126): The 2,048 picks after an eviction notice end, so the partner stops the guest and its
      commit proceeds. -/
  | guestEvictEnd (t : Nat) (p : Fin 6)
  /-- SELVEDGE_SAMPLE (R129): At each sample, both lockstep copies compute each selvedge output and compare their
      results. -/
  | selvedgeSample (t : Nat) (faults : List SelvCopy)
  /-- ASSESSMENT (R157): At the first batten after each 125 ms of engine time, every candidate is measured and judged
      and a selection is made. -/
  | assessment (t : Nat) (env : AssessEnv)
  /-- REF_RATE (R161): A rate of change beyond REF_RATE_PPB at 4 consecutive assessments disqualifies a candidate. -/
  | refRate (t : Nat) (slot : Fin 24)
  /-- REF_DISAGREE_CLEAR (R167): The difference stays at or below half the threshold for 10 s, so REF_DISAGREE clears
      and the outvoted candidate requalifies. -/
  | refDisagreeClear (t : Nat) (a : Fin 24) (b : Fin 24)
  /-- REF_CAND_QUALIFIED (R158): A candidate has held state 2 for its qualification time and enters state 3. -/
  | refCandQualified (t : Nat) (slot : Fin 24)
  /-- SUCCESSOR_PREQUALIFIED (R162): The successor's phase tracker has converged for 2 s. -/
  | successorPrequalified (t : Nat)
  /-- REF_WTR_EXPIRED (R163): A better candidate has outranked the selected one for REF_WTR_S, so it is chosen. -/
  | refWtrExpired (t : Nat)
  /-- REF_CAND_LOST (R159): A candidate source is detected lost by its type's criterion, without waiting for an
      assessment. -/
  | refCandLost (t : Nat) (slot : Fin 24)
  /-- REF_SWITCHED (R165): At the first batten after the deciding assessment or loss, selection changes with phase
      build-out. -/
  | refSwitched (t : Nat) (offset : Int)
  /-- HOLDOVER (R176): SP0 and SP1 enter averaged holdover at the control value averaged from the history. -/
  | holdover (t : Nat)
  /-- BUILDOUT_STEER_DONE (R166): SP1 comes within 10 ppb of the new reference, and the remaining phase difference is
      removed. -/
  | buildoutSteerDone (t : Nat) (offset : Int)
  /-- SLEW_DONE (R136): The slew of the remaining time offset completes. -/
  | slewDone (t : Nat)
  /-- TIME_LOCKED (R173): 8 consecutive assessments within 10 ppb and ±1,000 ns move TIME_STATE to locked and start
      history recording. -/
  | timeLocked (t : Nat)
  /-- TIME_STEPPED (R136): At the next batten engine time and the pick counter step by whole picks. -/
  | timeStepped (t : Nat)
  /-- TIME_SET (R138): A write in free-run sets engine time, rounded to the batten grid, at the next batten. -/
  | timeSet (t : Nat) (w : Writer) (v : Nat)
  /-- XO_OFFSET_UPDATE (R157): Every 10 s with a median yardstick, XO_OFFSET_PPB is written. -/
  | xoOffsetUpdate (t : Nat)
  /-- TIMED_CANCEL (R147): A write removes one pending action by its ID. -/
  | timedCancel (t : Nat) (w : Writer) (v : Nat)
  /-- TIMED_CANCEL_TAG (R147): A write removes every cancellable pending action that carries the tag. -/
  | timedCancelTag (t : Nat) (w : Writer) (v : Nat)
  /-- SP_SOURCE_WRITE (R172): A write of SP_SOURCE or SP_RATE returns an auxiliary spindle to acquisition. -/
  | spSourceWrite (t : Nat) (w : Writer) (sp : Fin 8) (rate : Bool) (v : Nat)
  /-- SP_ACQUIRED (R172): An auxiliary spindle completes its steering and locks. -/
  | spAcquired (t : Nat) (sp : Fin 8)
  /-- SP_HOLDOVER_OOS (R179): An auxiliary spindle's holdover timer runs out and it enters state 5. -/
  | spHoldoverOos (t : Nat) (sp : Fin 8)
  /-- SYNC_IN_PULSE (R185): A SYNC_IN pulse arrives, is qualified and checks the outputs aligned to it. -/
  | syncInPulse (t : Nat) (p : Fin 2)
  /-- ALIGN_CHECK (R186): At each whole second, epoch-aligned outputs are checked and corrected after 3 checks beyond
      tolerance. -/
  | alignCheck (t : Nat)
  /-- ALIGN_SLEW_DONE (R186): An alignment slew brings the edge error to 0. -/
  | alignSlewDone (t : Nat) (k : Fin 6)
  /-- ALIGN_LOST (R188): The alignment pulse is lost, so the output runs on at the phase of its spindle. -/
  | alignLost (t : Nat) (p : Fin 2)
  /-- ALIGN_OFFSET_WRITE (R186): A write of ALIGN_OFFSET_NS or ALIGN_SOURCE jumps the output at its next edge. -/
  | alignOffsetWrite (t : Nat) (w : Writer) (k : Fin 6) (source : Bool) (v : Int)
  /-- PTP_MESSAGE_RX (R153): A time-stamped PTP message reaches the ordinary clock, which updates its master choice
      and the slot quality. -/
  | ptpMessageRx (t : Nat) (mac : Fin 3) (m : PtpMsg)
  /-- PTP_MESSAGE_TX (R257): At its profile interval the ordinary clock sends Announce, Sync with Follow_Up or
      Delay_Req. -/
  | ptpMessageTx (t : Nat) (mac : Fin 3) (m : PtpTx)
  /-- PTP_HOLDOVER_CLASS (R191): After PTP_HOLDOVER_CLASS_S in holdover, the advertised clockClass degrades. -/
  | ptpHoldoverClass (t : Nat)
  /-- PTP_GM_DOMAIN_WRITE (R192): A domain write returns the port to INITIALIZING and may lose the selected reference. -/
  | ptpGmDomainWrite (t : Nat) (w : Writer) (mac : Fin 3) (v : Nat)
  /-- PORT_FRAME (R205): An input frame arrives, is checked for glitch, rate change, parity and non-audio marks, and
      is written to the warp beam. -/
  | portFrame (t : Nat) (port : Fin 28) (f : PortFrame)
  /-- CLOCK_STOP (R205): The slave-clock watchdog expires with no frame start within 1.25 frame periods. -/
  | clockStop (t : Nat) (port : Fin 28)
  /-- LOCK_LOSS (R205): AES3 biphase lock, MADI signal detect or the MADI line clock is lost. -/
  | lockLoss (t : Nat) (port : Fin 28) (c : LockCause)
  /-- PORT_ERROR_LOCK_LOSS (R209): Errors in 8 consecutive frames count as lock loss. -/
  | portErrorLockLoss (t : Nat) (port : Fin 28)
  /-- PORT_RELOCKED (R207): 64 good frames qualify the port, which places a read window and starts the fade-in. -/
  | portRelocked (t : Nat) (port : Fin 28)
  /-- PORT_FADE_IN_DONE (R207): The 20 ms fade-in ends and the port returns to state 3. -/
  | portFadeInDone (t : Nat) (port : Fin 28)
  /-- TDM_CONFIG_WRITE (R198): A write to a running TDM port's settings returns it to searching. -/
  | tdmConfigWrite (t : Nat) (w : Writer) (port : Fin 16) (sub : Nat) (v : Nat)
  /-- TDM_MASK_WRITE (R198): A mask write changes slot positions, and new slots fade in over 20 ms. -/
  | tdmMaskWrite (t : Nat) (w : Writer) (port : Fin 16) (tx : Bool) (v : Nat)
  /-- NONAUDIO_CLEAR (R212): With no mark for NONAUDIO_HOLD_MS, the channel fades back in. -/
  | nonaudioClear (t : Nat) (port : Fin 284) (ch : Nat)
  /-- ASRC_ACQUIRED (R217): An ASRC channel acquires and enters state 3. -/
  | asrcAcquired (t : Nat) (ch : Fin 256)
  /-- SAMPLE_INSTANT (R219): At each SP0 sample instant, every member of each warp group is read from the common
      window. -/
  | sampleInstant (t : Nat)
  /-- FRAME_RX (R229): A MAC receives a frame, stamps it, checks it and assigns it to a receive class or drops it. -/
  | frameRx (t : Nat) (mac : Fin 3) (f : EthFrame)
  /-- MAC_LINK_UP (R226): The PCS or RGMII status holds for 10 ms and the link comes up. -/
  | macLinkUp (t : Nat) (mac : Fin 3)
  /-- MAC_LINK_DOWN (R226): The PCS or RGMII status is lost and the link goes down. -/
  | macLinkDown (t : Nat) (mac : Fin 3)
  /-- IP_ADDRESS_WRITE (R224): A write of the address, netmask or VLAN takes effect at once, with gratuitous ARP and
      multicast rejoins. -/
  | ipAddressWrite (t : Nat) (w : Writer) (mac : Fin 3) (sub : Nat) (v : Nat)
  /-- PAUSE_REPEAT (R231): Every 16 ms while the CP control buffer stays above 25 %, PAUSE is sent again. -/
  | pauseRepeat (t : Nat)
  /-- CONTROL_BUFFER_LOW (R231): The CP control buffer drains to 25 %, so PAUSE with quanta 0 is sent. -/
  | controlBufferLow (t : Nat)
  /-- PFC_REPEAT (R232): At half the pause time while the bulk buffer stays high, PFC is sent again. -/
  | pfcRepeat (t : Nat) (mac : Fin 2)
  /-- BULK_BUFFER_LOW (R232): The bulk buffer drains to 32,768 octets, so PFC with quanta 0 is sent. -/
  | bulkBufferLow (t : Nat) (mac : Fin 2)
  /-- PAUSE_QUANTA_EXPIRE (R233): The hold from a received PAUSE or PFC ends and transmission resumes. -/
  | pauseQuantaExpire (t : Nat) (mac : Fin 3)
  /-- MEDIA_PACKET_TX (R238): After the instant of its last sample, a media packet is sent on each leg. -/
  | mediaPacketTx (t : Nat) (stream : Fin 256)
  /-- MS_RX_RESTART (R241): 8 consistent packets with a new timestamp base show a sender restart, so the stream re-
      acquires. -/
  | msRxRestart (t : Nat) (stream : Fin 256)
  /-- MS_RX_SILENT (R251): No copy of a stream has been in time for 1 s. -/
  | msRxSilent (t : Nat) (stream : Fin 256)
  /-- STREAM_WRITE (R244): A write to a media stream's settings restarts the stream with mute and fade-in. -/
  | streamWrite (t : Nat) (w : Writer) (key : Nat) (v : Int)
  /-- NET_STATS_SNAPSHOT (R255): A write of 1 copies all MAC counters at one instant, and a write of 0 returns them to
      live values. -/
  | netStatsSnapshot (t : Nat) (w : Writer) (v : Nat)
  /-- SW_ENABLE (R279): A write of 1 starts the port's forwarded clock and asks leave for training. -/
  | swEnable (t : Nat) (w : Writer) (port : Fin 6) (v : Nat)
  /-- SW_CLOCK_LOCK (R279): The receiver locks to the partner's forwarded clock and checks the frequency offset. -/
  | swClockLock (t : Nat) (port : Fin 6) (ppb : Int)
  /-- SW_BLOCK_LOCK (R272): 64 valid sync headers give block lock on a lane and fix its polarity. -/
  | swBlockLock (t : Nat) (port : Fin 6) (lane : Fin 4) (phys : Nat) (inverted : Bool)
  /-- SW_MARKER_LOCK (R272): Two markers at the expected spacing give marker lock and deskew of the lanes. -/
  | swMarkerLock (t : Nat) (port : Fin 6) (skew : List Int)
  /-- SW_TRAIN_STEP_TIMEOUT (R278): A training request is not answered within 1 ms and is repeated, and 8 in a row
      fail training. -/
  | swTrainStepTimeout (t : Nat) (port : Fin 6) (lane : Fin 4)
  /-- SW_TRAIN_FAILED (R279): Step 4 overruns SW_TRAIN_TIMEOUT_MS, or a step fails, so SW_STATE reads 7. -/
  | swTrainFailed (t : Nat) (port : Fin 6)
  /-- SW_TRAIN_RETRY (R279): 1 s after a failure, training starts again from step 0. -/
  | swTrainRetry (t : Nat) (port : Fin 6)
  /-- SW_LINK_DOWN (R282): Clock lock, sync headers, markers or skew fail, so the trained link goes down. -/
  | swLinkDown (t : Nat) (port : Fin 6) (c : LinkCause)
  /-- TRAINING_RESTART (R282): 10 ms after the link goes down, training starts again. -/
  | trainingRestart (t : Nat) (port : Fin 6)
  /-- ALIGNMENT_MARKER (R270): A received marker gives the round trip, hop delay and partner time. -/
  | alignmentMarker (t : Nat) (port : Fin 6) (block : BitVec 1024) (corrected : Nat) (failed : Nat)
  /-- ALIGNMENT_MARKER_TX (R269): Every 16,384 blocks each lane sends a marker. -/
  | alignmentMarkerTx (t : Nat) (port : Fin 6)
  /-- TRAINING_BLOCK (R277): A training block brings tap requests, status, EQF, FEC, precoding and loopback fields. -/
  | trainingBlock (t : Nat) (port : Fin 6) (block : BitVec 1024)
  /-- IDLE_BLOCK (R267): An idle block carries the partner's quality, hop count, identity and guest budget. -/
  | idleBlock (t : Nat) (port : Fin 6) (block : BitVec 1024)
  /-- AUDIO_CUT (R288): A received cut is matched to a stream and kept, replaced or discarded in the copy record. -/
  | audioCut (t : Nat) (port : Fin 6) (block : BitVec 1024)
  /-- BULK_BLOCK (R268): A bulk block delivers a segment of a Hapol message, twin state or overflow state. -/
  | bulkBlock (t : Nat) (port : Fin 6) (block : BitVec 1024)
  /-- TEST_PATTERN (R292): In loopback a PRBS31 block is checked and wrong bits counted. -/
  | testPattern (t : Nat) (port : Fin 6) (block : BitVec 1024)
  /-- SW_PICK_DECIDE (R271): At the first batten after two hop measurements, the engine decides whether received cuts
      join the open or the following pick. -/
  | swPickDecide (t : Nat) (port : Fin 6)
  /-- SW_PICK_CHANGED (R271): The deciding condition fails at 8 consecutive markers, so the pick assignment changes
      and streams re-acquire. -/
  | swPickChanged (t : Nat) (port : Fin 6)
  /-- SW_EQF_UPDATE (R276): Every 2^20 symbols the receiver computes EQF for each lane. -/
  | swEqfUpdate (t : Nat) (port : Fin 6) (lane : Fin 4) (o1 : Nat) (o2 : Nat) (o3 : Nat) (e : Nat)
  /-- SW_EQF_LOW (R283): EQF stays below SW_EQF_WARN for 1 s, so an adaptation burst is requested. -/
  | swEqfLow (t : Nat) (port : Fin 6) (lane : Fin 4)
  /-- ADAPTATION_BURST_END (R283): An adaptation burst of up to 20 ms ends and releases its leave. -/
  | adaptationBurstEnd (t : Nat) (port : Fin 6)
  /-- SW_LOOPBACK (R292): A write enters or leaves a loopback test mode. -/
  | swLoopback (t : Nat) (w : Writer) (port : Fin 6) (v : Nat)
  /-- SW_RETRAIN (R282): A write of 1 takes the link down and trains it again. -/
  | swRetrain (t : Nat) (w : Writer) (port : Fin 6) (v : Nat)
  /-- TWIN_PAIRED (R295): The pairing conditions come to hold, so pairing and catch-up begin. -/
  | twinPaired (t : Nat) (enabled : Bool) (names : Nat)
  /-- DIGEST (R300): A partner digest arrives and is compared, and a mismatch is judged from the fault flags. -/
  | digest (t : Nat) (port : Fin 6) (block : BitVec 1024)
  /-- TWIN_DIGEST_MISSING (R299): A partner digest has not arrived by batten b + TWIN_DIGEST_WAIT. -/
  | twinDigestMissing (t : Nat) (pick : Nat)
  /-- TWIN_EXCHANGE_LOST (R299): After 64 consecutive missing digests, TWIN_STATE reads 6. -/
  | twinExchangeLost (t : Nat)
  /-- CATCHUP_IMAGE_DONE (R303): The joiner has applied the shared image, compiled and loaded, and starts the state
      copy. -/
  | catchupImageDone (t : Nat) (image : List (Nat × Val)) (acts : List SentAction)
  /-- CATCHUP_CLOSING (R303): At the closing batten the joiner installs the last state words and the timed-action
      queue. -/
  | catchupClosing (t : Nat) (seq : Nat) (words : List (Nat × List Int)) (acts : List SentAction)
  /-- TWIN_FILL_DONE (R303): The longest history item has been rewritten, so verification starts. -/
  | twinFillDone (t : Nat)
  /-- TWIN_VERIFIED (R303): After 64 matching digests the twin is paired and starts sending. -/
  | twinVerified (t : Nat)
  /-- CATCHUP_RESTART (R303): 10 s after a failed catch-up, it starts again from step 1. -/
  | catchupRestart (t : Nat)
  /-- FORWARDED_WRITE (R297): The standby receives a forwarded write or cancel and applies it at the pick the holder
      fixed. -/
  | forwardedWrite (t : Nat) (env : Envelope)
  /-- LEASE_MESSAGE_TX (R307): Every LEASE_RENEW_MS each twin sends a renew or standby message on every lease path. -/
  | leaseMessageTx (t : Nat)
  /-- LEASE_RENEW (R310): A renew message arrives and may make an engine that also holds the lease yield. -/
  | leaseRenew (t : Nat) (m : LeaseMsg)
  /-- LEASE_STANDBY (R308): A standby message echoes a renewal and moves the holder's deadline. -/
  | leaseStandby (t : Nat) (m : LeaseMsg)
  /-- LEASE_HANDOVER (R313): A handover message tells the standby to take at TAKE_PICK with the next epoch. -/
  | leaseHandover (t : Nat) (m : LeaseMsg)
  /-- SELVEDGE_STATE (R133): Selvedge state blocks from the twin arrive and serve a re-seed. -/
  | selvedgeState (t : Nat) (port : Fin 6) (block : BitVec 1024)
  /-- LEASE_RELEASE (R308): At send stamp of E + D the holder releases the lease, or keeps it alone when the partner
      is silent. -/
  | leaseRelease (t : Nat)
  /-- LEASE_TAKEN (R309): After D + G of silence or of no renewal for the designated taker, the engine takes the
      lease. -/
  | leaseTaken (t : Nat)
  /-- TAKE_PICK (R313): At batten TAKE_PICK the holder releases and the standby that received the handover takes. -/
  | takePick (t : Nat)
  /-- LEASE_SWAP (R313): A write of 1 on the holder starts a planned handover. -/
  | leaseSwap (t : Nat) (w : Writer) (v : Nat)
  /-- LEASE_DRILL (R315): Once the drill interval has passed, the holder starts a planned handover. -/
  | leaseDrill (t : Nat)
  /-- SINGULAR_READBACK (R314): Within 10 ms of a take, AUTHORITY and the singular outputs are read back at the balls. -/
  | singularReadback (t : Nat) (differs : Bool)
  /-- TD_START (R324): TD_ENABLE at 1 starts a channel in state 0 by enabling the stage at m = 0. -/
  | tdStart (t : Nat) (ch : Fin 32)
  /-- TD_RELAY_CLOSE (R324): 50 ms after the start RLYn rises. -/
  | tdRelayClose (t : Nat) (ch : Fin 32)
  /-- TD_CONTACTS_SETTLED (R324): After TD_RELAY_SETTLE_MS the DC test ramps up, or the fade-in starts. -/
  | tdContactsSettled (t : Nat) (ch : Fin 32)
  /-- TD_DC_TEST_MEASURE (R332): After the 10 ms hold, R = v ÷ i is measured and classified. -/
  | tdDcTestMeasure (t : Nat) (ch : Fin 32) (volts : BitVec 382) (amps : BitVec 382)
  /-- TD_TEST_RAMP_DOWN_DONE (R324): The DC test voltage reaches zero and the sequence gain starts to ramp up. -/
  | tdTestRampDownDone (t : Nat) (ch : Fin 32)
  /-- TD_SEQUENCE_GAIN_DONE (R324): The 20 ms sequence-gain ramp ends and the channel runs. -/
  | tdSequenceGainDone (t : Nat) (ch : Fin 32)
  /-- TD_STOP (R325): TD_ENABLE at 0, a rail fault or Doff ramps the sequence gain to zero. -/
  | tdStop (t : Nat) (ch : Fin 32)
  /-- TD_GAIN_RAMP_DOWN_DONE (R325): At 20 ms the modulator runs at m = 0. -/
  | tdGainRampDownDone (t : Nat) (ch : Fin 32)
  /-- TD_RELAY_OPEN (R325): At 30 ms RLYn falls. -/
  | tdRelayOpen (t : Nat) (ch : Fin 32)
  /-- TD_RELAY_RELEASED (R325): After TD_RELAY_RELEASE_MS the modulator stops, TDn_EN falls and the channel rests. -/
  | tdRelayReleased (t : Nat) (ch : Fin 32)
  /-- TD_OVERCURRENT (R334): A fast-path current beyond TD_OC_MA drops TDn_EN and the PWM outputs within 4 µs. -/
  | tdOvercurrent (t : Nat) (ch : Fin 32) (bits : BitVec 31)
  /-- TD_SHORT (R334): The current stays below 500 mA for 1 ms, so RLYn drops. -/
  | tdShort (t : Nat) (ch : Fin 32)
  /-- TD_RELAY_HOT (R334): After 20 ms without low current, RLYn drops anyway. -/
  | tdRelayHot (t : Nat) (ch : Fin 32)
  /-- TD_RETRY (R335): 500 ms after a failure, the channel restarts with the DC test at −20 dB target gain. -/
  | tdRetry (t : Nat) (ch : Fin 32)
  /-- TD_GAIN_RECOVER (R335): After 2 s at −20 dB without failure, the gain ramps to 0 dB over 1 s. -/
  | tdGainRecover (t : Nat) (ch : Fin 32)
  /-- TD_OC_FAILS_RESET (R335): After TD_OC_CLEAR_S clean at 0 dB, TD_OC_FAILS returns to 0. -/
  | tdOcFailsReset (t : Nat) (ch : Fin 32)
  /-- TD_SENSE_FAULT (R323): A sense bitstream holds one level for 64 bits, so the stage stops. -/
  | tdSenseFault (t : Nat) (ch : Fin 32) (bits : BitVec 64)
  /-- TD_SENSE_RELAY_DROP (R323): 10 ms after a sense fault RLYn drops. -/
  | tdSenseRelayDrop (t : Nat) (ch : Fin 32)
  /-- TD_SENSE_RECOVER (R323): After the bitstream has been valid for 1 s, the channel restarts without a test. -/
  | tdSenseRecover (t : Nat) (ch : Fin 32)
  /-- TD_RAIL_FAULT (R327): A rail outside its limits for 1 ms stops every channel on it. -/
  | tdRailFault (t : Nat) (rail : Fin 4)
  /-- TD_RAIL_RECOVER (R327): After the rail has stayed in limits for 500 ms, its channels restart or rest. -/
  | tdRailRecover (t : Nat) (rail : Fin 4)
  /-- TH_PILOT_MEASURE (R331): Each second the 5 Hz pilot gives Re and corrects the coil temperature. -/
  | thPilotMeasure (t : Nat) (ch : Fin 32)
  /-- AC_RUN (R333): A write of 1 in diagnostic mode starts the AC load test. -/
  | acRun (t : Nat) (w : Writer) (ch : Fin 32) (v : Nat)
  /-- AC_TEST_DONE (R333): After 250 ms the impedance result is set and the gain ramps back. -/
  | acTestDone (t : Nat) (ch : Fin 32)
  /-- TD_CLEAR (R336): A write of 1 returns a latched channel to state 0. -/
  | tdClear (t : Nat) (w : Writer) (ch : Fin 32) (v : Nat)
  /-- TD_PWM_RATE_WRITE (R320): A carrier write restarts a running channel. -/
  | tdPwmRateWrite (t : Nat) (w : Writer) (ch : Fin 32) (v : Nat)
  /-- TD_DIAG_MODE_WRITE (R333): A write sets diagnostic mode, and leaving it ends a running AC test. -/
  | tdDiagModeWrite (t : Nat) (w : Writer) (v : Nat)
  /-- READ (R349): A READ message returns the value items from one batten. -/
  | read (t : Nat) (env : Envelope)
  /-- WRITE (R350): A WRITE message applies its items together or not at all. -/
  | write (t : Nat) (env : Envelope)
  /-- WRITE_TIMED (R351): A WRITE_TIMED message inserts its items as timed actions, all or none. -/
  | writeTimed (t : Nat) (env : Envelope)
  /-- SUBSCRIBE_VALUE (R352): A SUBSCRIBE with OP 1 creates a value subscription. -/
  | subscribeValue (t : Nat) (env : Envelope)
  /-- SUBSCRIBE_EVENTS (R352): A SUBSCRIBE with OP 2 creates an events subscription. -/
  | subscribeEvents (t : Nat) (env : Envelope)
  /-- SUBSCRIBE_REMOVE (R352): A SUBSCRIBE with OP 0 removes a subscription. -/
  | subscribeRemove (t : Nat) (env : Envelope)
  /-- NOTIFY_PERIOD (R353): PERIOD_MS passes without a notification, so the value is sent. -/
  | notifyPeriod (t : Nat) (sub : Nat)
  /-- NOTIFY_ACK (R354): A NOTIFY reply acknowledges an event notification. -/
  | notifyAck (t : Nat) (env : Envelope)
  /-- NOTIFY_TIMEOUT (R354): An unacknowledged event NOTIFY is sent again, and after the retries its subscription is
      removed. -/
  | notifyTimeout (t : Nat) (session : Nat) (req : Nat)
  /-- BLOCK_WRITE_BEGIN (R355): A BLOCK write-begin opens a write transfer of a BLOB. -/
  | blockWriteBegin (t : Nat) (env : Envelope)
  /-- BLOCK_WRITE_DATA (R355): A data segment arrives, and the last one applies the value after a CRC check. -/
  | blockWriteData (t : Nat) (env : Envelope)
  /-- BLOCK_READ_BEGIN (R355): A read-begin copies the value and opens a read transfer. -/
  | blockReadBegin (t : Nat) (env : Envelope)
  /-- BLOCK_READ_DATA (R355): A read-data request returns one segment. -/
  | blockReadData (t : Nat) (env : Envelope)
  /-- BLOCK_ABORT (R355): An abort ends a transfer. -/
  | blockAbort (t : Nat) (env : Envelope)
  /-- BLOCK_IDLE (R355): A transfer idle for 5 s is discarded. -/
  | blockIdle (t : Nat) (xfer : Nat)
  /-- CHALLENGE_OPEN (R359): An open starts an untagged session or returns a nonce for a keyed one. -/
  | challengeOpen (t : Nat) (env : Envelope)
  /-- CHALLENGE_PROVE (R359): A tagged prove opens the keyed session. -/
  | challengeProve (t : Nat) (env : Envelope)
  /-- CHALLENGE_CLOSE (R363): A close ends the session. -/
  | challengeClose (t : Nat) (env : Envelope)
  /-- DEBUG_REQUEST (R452): OP 0x10 draws a new nonce for a debug scope. -/
  | debugRequest (t : Nat) (env : Envelope)
  /-- DEBUG_ANSWER (R452): OP 0x11 grants the scope when its tag verifies. -/
  | debugAnswer (t : Nat) (env : Envelope)
  /-- DEBUG_PASSWORD (R453): OP 0x12 grants a scope when the OEM password hash matches. -/
  | debugPassword (t : Nat) (env : Envelope)
  /-- DEBUG_CLOSE (R455): OP 0x13 withdraws the debug scope. -/
  | debugClose (t : Nat) (env : Envelope)
  /-- DEBUG_EXPIRY (R455): DEBUG_HOLD_S after the grant, the scope is withdrawn. -/
  | debugExpiry (t : Nat)
  /-- DEBUG_LOCKOUT_END (R454): The 600 s refusal after three failures ends. -/
  | debugLockoutEnd (t : Nat)
  /-- DEBUG_CORE_HALT (R456): A core halted under HALT suspends its duties, and core B releases the lease. -/
  | debugCoreHalt (t : Nat) (core : Fin 2)
  /-- TAP_INSTRUCTION (R448): A TAP instruction is carried out, or acts as BYPASS when locked. -/
  | tapInstruction (t : Nat) (ins : Tap)
  /-- SESSION_IDLE (R363): No accepted message for HAPOL_SESSION_IDLE_S ends a session. -/
  | sessionIdle (t : Nat) (session : Nat)
  /-- SESSION_CLOSE (R363): A write of 1 ends a session slot. -/
  | sessionClose (t : Nat) (w : Writer) (slot : Fin 32) (v : Nat)
  /-- HAPOL_CLAIM (R365): A write claims an index range for the session. -/
  | hapolClaim (t : Nat) (w : Writer) (v : Nat)
  /-- HAPOL_RELEASE (R365): A write releases the writer's own claim. -/
  | hapolRelease (t : Nat) (w : Writer) (v : Nat)
  /-- HAPOL_CLAIM_BREAK (R365): A write removes any claim of that range. -/
  | hapolClaimBreak (t : Nat) (w : Writer) (v : Nat)
  /-- DICT_SAVE (R343): Within 2 s of an RWS write, the saved image copy is written and made latest. -/
  | dictSave (t : Nat)
  /-- DICT_RESTORE_DEFAULTS (R343): A write of 1 makes the next start restore RWS defaults. -/
  | dictRestoreDefaults (t : Nat) (w : Writer) (v : Nat)
  /-- WRITE_CFG (R378): The host-port command 0x01 sets WIDTH and EVT_MBX. -/
  | writeCfg (t : Nat) (b : Byte)
  /-- READ_STATUS (R379): The host-port command 0x05 returns the status word and clears its sticky bits. -/
  | readStatus (t : Nat) (clocked : Nat)
  /-- CREEL_WRITE (R380): The host-port command 0x02 writes words through the creel bridge. -/
  | creelWrite (t : Nat) (addr : Nat) (data : List Byte)
  /-- CREEL_READ (R380): The host-port command 0x0B reads creel words after the marker byte. -/
  | creelRead (t : Nat) (addr : Nat) (words : Nat) (fillers : Nat)
  /-- MBX_WRITE (R381): The host-port command 0x20 delivers one Hapol message to the mailbox. -/
  | mbxWrite (t : Nat) (sent : List Byte)
  /-- MBX_READ (R381): The host-port command 0x21 returns the head reply. -/
  | mbxRead (t : Nat) (clocked : Nat)
  /-- EVT_READ (R382): The host-port command 0x30 returns and frees host bobbin records. -/
  | evtRead (t : Nat) (max : Nat) (clocked : Nat)
  /-- READ_ID (R378): The host-port command 0x9F returns the part identification. -/
  | readId (t : Nat) (clocked : Nat)
  /-- CREEL_TRANSACTION (R369): A master's creel transaction is arbitrated and served, or ends with an error response. -/
  | creelTransaction (t : Nat) (reqs : List (Master × CreelOp))
  /-- CREEL_LOCK_BROKEN (R371): A locked sequence reaches 16 transactions or 2 µs and is broken. -/
  | creelLockBroken (t : Nat) (m : Master)
  /-- BOOT_CTRL_WRITE (R375): A core A write sets BOOT_REMAP and BOOT_LOCK. -/
  | bootCtrlWrite (t : Nat) (m : Master) (v : BitVec 32)
  /-- BOOT_IMAGE_LEN (R428): A write of the host image length starts verification. -/
  | bootImageLen (t : Nat) (m : Master) (v : Nat)
  /-- CRL_DDR_SEG_WRITE (R374): A write selects a master's LPDDR5 window segment. -/
  | crlDdrSegWrite (t : Nat) (m : Master) (reg : Master) (v : BitVec 32)
  /-- CORE_RESTARTED (R368): A core watchdog runs 10 ms without restart, so the core restarts from work RAM. -/
  | coreRestarted (t : Nat) (core : Fin 2)
  /-- CORE_RESTART_DONE (R368): The core restart completes and its duties resume. -/
  | coreRestartDone (t : Nat) (core : Fin 2)
  /-- FILTERED_LEVEL_CHANGE (R386): A raw line holds its new level for N cycles and the filtered level changes. -/
  | filteredLevelChange (t : Nat) (source : Nat)
  /-- HED_CLAIM (R389): A core reads HED_CLAIM_A or HED_CLAIM_B and claims the winning source into its bobbin. -/
  | hedClaim (t : Nat) (core : Fin 2)
  /-- BOBBIN_CLAIM (R389): A host or field-network bobbin has room, so the Heddle claims the winning source. -/
  | bobbinClaim (t : Nat) (field : Bool)
  /-- LETOFF_OVERRUN (R398): A grant is held beyond its longest hold. -/
  | letoffOverrun (t : Nat) (id : Nat)
  /-- LETOFF_MAX_WAIT (R399): A request has waited LETOFF_MAX_WAIT_MS and is refused. -/
  | letoffMaxWait (t : Nat) (id : Nat)
  /-- READ_VOUT (R400): A PMBus READ_VOUT transaction reads the rail voltage. -/
  | readVout (t : Nat) (word : Option (BitVec 16))
  /-- READ_IOUT (R400): A PMBus READ_IOUT transaction reads the rail current. -/
  | readIout (t : Nat) (word : Option (BitVec 16))
  /-- STATUS_WORD (R405): A PMBus STATUS_WORD transaction reads the regulator status. -/
  | statusWord (t : Nat) (word : Option (BitVec 16))
  /-- PMB_ALERT_N (R400): A fall of PMB_ALERT_N starts a STATUS_WORD read. -/
  | pmbAlertN (t : Nat)
  /-- VCORE_NOT_SETTLED (R403): A step has not settled in 5 ms, so its grant is released. -/
  | vcoreNotSettled (t : Nat)
  /-- VCORE_STEP_DOWN (R404): After 600 s with ample slack, VDD_CORE steps down. -/
  | vcoreStepDown (t : Nat)
  /-- PMBUS_RETRY (R405): Every 100 ms in fault, PMBus is retried. -/
  | pmbusRetry (t : Nat) (good : Bool)
  /-- THERMTRIP (R407): A sensor reaches +125 °C, so hardware drops the stages, drives THERMTRIP_N low and holds
      reset. -/
  | thermtrip (t : Nat)
  /-- AGING_HOUR (R412): Each powered hour adds equivalent stress hours. -/
  | agingHour (t : Nat)
  /-- SCRUB_WORD (R417): The scrubber reads a stored word and repairs or counts a fault. -/
  | scrubWord (t : Nat) (st : Store) (tier : Nat) (key : Nat) (pos : Nat) (double : Bool)
  /-- SCRUB_BURST (R417): A granted LPDDR5 scrub burst of up to 64 MiB runs. -/
  | scrubBurst (t : Nat) (words : Nat)
  /-- MON_CLEAR (R419): A write of 1 clears a monitor's histogram, minimum and maximum. -/
  | monClear (t : Nat) (w : Writer) (m : Fin 7) (v : Nat)
  /-- MON_HIST_CONFIG_WRITE (R419): A write of BASE or WIDTH clears the histogram. -/
  | monHistConfigWrite (t : Nat) (w : Writer) (m : Fin 7) (width : Bool) (v : Int)
  /-- OUTPUT_COUNT_CLEAR (R420): A write of 1 clears temple and saturation counters. -/
  | outputCountClear (t : Nat) (w : Writer) (v : Nat)
  /-- POWER_UP (R423): The always-on rails become valid and the always-on domain is held in reset. -/
  | powerUp (t : Nat)
  /-- PORST_N_RISE (R425): PORST_N rises, straps are sampled, engine time starts and a start begins. -/
  | porstNRise (t : Nat) (straps : Nat) (flash : Option (List Byte × List Byte))
  /-- PORST_N_FALL (R425): PORST_N falls and resets everything, the always-on domain included. -/
  | porstNFall (t : Nat)
  /-- RESET_N_FALL (R425): RESET_N falls and resets all but the always-on domain, or wakes from Doff. -/
  | resetNFall (t : Nat)
  /-- RESET_N_RISE (R425): RESET_N rises and a start begins. -/
  | resetNRise (t : Nat)
  /-- CORE_PG_RISE (R423): Power good rises and core A leaves reset 1 ms later. -/
  | corePgRise (t : Nat)
  /-- CORE_PG_TIMEOUT (R423): CORE_PG has not risen 50 ms after CORE_EN, so the start fails. -/
  | corePgTimeout (t : Nat)
  /-- CORE_PG_FALL (R469): CORE_PG falls for over 10 µs, so the engine resets and restarts after 100 ms. -/
  | corePgFall (t : Nat)
  /-- START_DONE (R435): BOOT_STAGE reaches 5, the failure counters clear and the first batten follows. -/
  | startDone (t : Nat) (ddr : DdrTraining) (selfTests : List SelfTest)
  /-- START_TIMEOUT (R435): BOOT_STAGE has not reached 5 in 60 s cold or 20 s warm, so the start fails. -/
  | startTimeout (t : Nat)
  /-- START_REQUEST_WARM (R434): A write of 1 stops outputs, saves and resets for a warm start. -/
  | startRequestWarm (t : Nat) (w : Writer)
  /-- START_REQUEST_COLD (R434): A write of 2 stops outputs, saves and resets for a cold start. -/
  | startRequestCold (t : Nat) (w : Writer)
  /-- RETAINED_RECORD_WRITE (R431): Every 600 s while locked, the retained-state record is written. -/
  | retainedRecordWrite (t : Nat)
  /-- DOFF_REQUEST (R439): A write of 1 requests Doff at the next batten. -/
  | doffRequest (t : Nat) (w : Writer) (v : Nat)
  /-- DOFF_ENTRY (R440): At the batten, the wake latch is armed, Treadle stops, outputs fade and flash writing starts. -/
  | doffEntry (t : Nat)
  /-- DOFF_LATCH_SAMPLE (R441): After flash writing, the wake latch is sampled and CORE_EN falls when it is clear. -/
  | doffLatchSample (t : Nat)
  /-- WAKE_TIMER (R442): Engine time reaches DOFF_WAKE_TIME. -/
  | wakeTimer (t : Nat)
  /-- WAKE_IN (R442): An enabled wake input has a rising edge held for 1 µs. -/
  | wakeIn (t : Nat) (n : Fin 4)
  /-- WAKE_CP_LINK (R442): The CP link state changes in Doff. -/
  | wakeCpLink (t : Nat)
  /-- FIELD_LOCK_BLOW (R449): A write of 0x4C4F_434B blows FIELD_LOCK. -/
  | fieldLockBlow (t : Nat) (w : Writer) (v : Nat)
  /-- OEM_PW_SET (R453): A write fuses the OEM password hash and scope. -/
  | oemPwSet (t : Nat) (w : Writer) (b : List Byte)
  /-- FW_IMAGE (R460): A write transfer to FW_IMAGE checks the image and starts programming the idle slot. -/
  | fwImage (t : Nat) (w : Writer) (image : List Byte)
  /-- FW_PROGRAMMED (R460): Programming of the idle slot completes or is abandoned. -/
  | fwProgrammed (t : Nat) (done : Bool)
  /-- FW_SEC_COMMIT (R461): A write raises FW_MIN_SEC to the running image's SEC_VERSION. -/
  | fwSecCommit (t : Nat) (w : Writer) (v : Nat)
  /-- FW_KEY_REVOKE (R461): A write blows vendor key revocation bits. -/
  | fwKeyRevoke (t : Nat) (w : Writer) (v : Nat)
  /-- START_FAILED (R435): Before stage 5, the firmware image fails verification in both slots, the host image fails,
      or the harness self-test fails in more than one harness, so the start fails and the engine resets as by RESET_N. -/
  | startFailed (t : Nat) (c : StartFault)
  /-- POWER_LOSS (R424): The supplies, the always-on rails included, are removed at any instant: the device stops, a
      save in progress leaves the previous copy valid, a firmware slot being programmed reads 2, and a tripped
      THERMTRIP_N is released. -/
  | powerLoss (t : Nat)
  /-- PTP_ANNOUNCE_TIMEOUT (R159): An ordinary clock receives no Announce within announceReceiptTimeout times the
      announce interval, so the best master clock algorithm runs again and the port may enter MASTER under R190. -/
  | ptpAnnounceTimeout (t : Nat) (mac : Fin 3)
  /-- DEBUG_CORE_RESUME (R456): A core halted under the HALT scope is released, and its Hapol service, reference
      assessments and leave decisions resume. -/
  | debugCoreResume (t : Nat) (core : Fin 2)
  deriving DecidableEq, Repr

end Sys2Proof
end

