-- ==== Sys2Proof/WellFormed.lean ====
section
/-! DEFINITION. Which commands an agent outside the engine can send: operands within the widths and counts that the manual
gives their fields. Every meaning is total on ill-formed commands too; a statement that needs a range says so. -/

namespace Sys2Proof

/-- A number of n bits. -/
def fits (n v : Nat) : Bool := decide (v < 2 ^ n)

/-- A two's-complement number of n bits. -/
def signedFits (n : Nat) (v : Int) : Bool := decide (-(2 ^ (n - 1)) ≤ v) && decide (v < 2 ^ (n - 1))

/-- An object instance, 0 to 16,383 (R46). -/
def instOk (i : Nat) : Bool := decide (i < 16384)

/-- An instance, or one of 2,048 buses (R56). -/
def elemOk : Elem → Bool
  | .inst i => instOk i
  | .bus b => decide (b < 2048)

/-- A value of at most 80 bits or 65,535 octets (R341). -/
def valOk : Val → Bool
  | .num v => decide (-(2 ^ 79) ≤ v) && decide (v < 2 ^ 80)
  | .bytes b => decide (b.length < 65536)

/-- Octets that one frame or message can hold. -/
def octetsOk (b : List Byte) : Bool := decide (b.length < 2 ^ 24)

/-- The six shuttles of a harness self-test (R9, R410). -/
def testOk (r : SelfTest) : Bool := r.pass.length == 6 && r.speeds.length == 6

/-- A size that LPDDR5 can have (R444). -/
def ddrOk : DdrTraining → Bool
  | .trained mib _ => decide (1024 ≤ mib) && decide (mib ≤ 16384)
  | .failed _ => true

/-- The fields of a lease message within their widths (R301, R356), from one of nine paths. -/
def leaseOk (m : LeaseMsg) : Bool :=
  decide (m.path < 9) && fits 48 m.peer && fits 3 m.state && fits 32 m.epoch && fits 32 m.seq && fits 16 m.durationMs &&
    fits 64 m.pick && fits 64 m.takePick

/-- Whether every operand of a command lies within its field. -/
def Instr.wellFormed : Instr → Bool
  | .batten _ => true
  | .taskComplete _ e _ => elemOk e
  | .slackWarn _ => true
  | .slackWarnClear _ => true
  | .slackAlarmClear _ => true
  | .slackClear _ _ v => fits 80 v
  | .graphCommit _ _ => true
  | .discardEdits _ _ => true
  | .compileDone _ => true
  | .graphSwitch _ => true
  | .objectWrite _ _ key v => fits 24 key && valOk v
  | .contribSet _ _ v => fits 80 v
  | .twillRequest _ _ v => fits 80 v
  | .twillDone _ i => instOk i
  | .routeFadeEnd _ dest => fits 32 dest
  | .routeDeferredApply _ dest => fits 32 dest
  | .delayFadeEnd _ i => instOk i
  | .trimRampEnd _ i => instOk i
  | .genCrossfadeEnd _ i => instOk i
  | .selvRampEnd _ _ => true
  | .firpLoadDone _ i => instOk i
  | .ldRun _ _ i v => instOk i && fits 80 v
  | .loudnessUpdate _ i => instOk i
  | .mtrClear _ _ i v => instOk i && fits 80 v
  | .reweaveBulkCopyDone _ i _ => instOk i
  | .reweaveAbandoned _ i => instOk i
  | .faultMoveStart _ i _ => instOk i
  | .mendDrainStart _ => true
  | .mendSelfTest _ _ => true
  | .mendSelfTestDone _ _ r => testOk r
  | .placeQuiet _ _ v => fits 80 v
  | .placeQuietEnd _ => true
  | .overflowEvict _ i => instOk i
  | .overflowEvictFailed _ i => instOk i
  | .guestEvictEnd _ _ => true
  | .selvedgeSample _ _ => true
  | .assessment _ _ => true
  | .refRate _ _ => true
  | .refDisagreeClear _ _ _ => true
  | .refCandQualified _ _ => true
  | .successorPrequalified _ => true
  | .refWtrExpired _ => true
  | .refCandLost _ _ => true
  | .refSwitched _ _ => true
  | .holdover _ => true
  | .buildoutSteerDone _ _ => true
  | .slewDone _ => true
  | .timeLocked _ => true
  | .timeStepped _ => true
  | .timeSet _ _ v => fits 80 v
  | .xoOffsetUpdate _ => true
  | .timedCancel _ _ v => fits 80 v
  | .timedCancelTag _ _ v => fits 80 v
  | .spSourceWrite _ _ _ _ v => fits 80 v
  | .spAcquired _ _ => true
  | .spHoldoverOos _ _ => true
  | .syncInPulse _ _ => true
  | .alignCheck _ => true
  | .alignSlewDone _ _ => true
  | .alignLost _ _ => true
  | .alignOffsetWrite _ _ _ _ v => signedFits 64 v
  | .ptpMessageRx _ _ _ => true
  | .ptpMessageTx _ _ _ => true
  | .ptpHoldoverClass _ => true
  | .ptpGmDomainWrite _ _ _ v => fits 80 v
  | .portFrame _ _ _ => true
  | .clockStop _ _ => true
  | .lockLoss _ _ _ => true
  | .portErrorLockLoss _ _ => true
  | .portRelocked _ _ => true
  | .portFadeInDone _ _ => true
  | .tdmConfigWrite _ _ _ sub v => fits 8 sub && fits 80 v
  | .tdmMaskWrite _ _ _ _ v => fits 80 v
  | .nonaudioClear _ _ _ => true
  | .asrcAcquired _ _ => true
  | .sampleInstant _ => true
  | .frameRx _ _ f => octetsOk f.octets
  | .macLinkUp _ _ => true
  | .macLinkDown _ _ => true
  | .ipAddressWrite _ _ _ sub v => fits 8 sub && fits 80 v
  | .pauseRepeat _ => true
  | .controlBufferLow _ => true
  | .pfcRepeat _ _ => true
  | .bulkBufferLow _ _ => true
  | .pauseQuantaExpire _ _ => true
  | .mediaPacketTx _ _ => true
  | .msRxRestart _ _ => true
  | .msRxSilent _ _ => true
  | .streamWrite _ _ key v => fits 24 key && signedFits 64 v
  | .netStatsSnapshot _ _ v => fits 80 v
  | .swEnable _ _ _ v => fits 80 v
  | .swClockLock _ _ _ => true
  | .swBlockLock _ _ _ _ _ => true
  | .swMarkerLock _ _ _ => true
  | .swTrainStepTimeout _ _ _ => true
  | .swTrainFailed _ _ => true
  | .swTrainRetry _ _ => true
  | .swLinkDown _ _ _ => true
  | .trainingRestart _ _ => true
  | .alignmentMarker _ _ _ _ _ => true
  | .alignmentMarkerTx _ _ => true
  | .trainingBlock _ _ _ => true
  | .idleBlock _ _ _ => true
  | .audioCut _ _ _ => true
  | .bulkBlock _ _ _ => true
  | .testPattern _ _ _ => true
  | .swPickDecide _ _ => true
  | .swPickChanged _ _ => true
  | .swEqfUpdate _ _ _ _ _ _ _ => true
  | .swEqfLow _ _ _ => true
  | .adaptationBurstEnd _ _ => true
  | .swLoopback _ _ _ v => fits 80 v
  | .swRetrain _ _ _ v => fits 80 v
  | .twinPaired _ _ _ => true
  | .digest _ _ _ => true
  | .twinDigestMissing _ _ => true
  | .twinExchangeLost _ => true
  | .catchupImageDone _ _ _ => true
  | .catchupClosing _ _ _ _ => true
  | .twinFillDone _ => true
  | .twinVerified _ => true
  | .catchupRestart _ => true
  | .forwardedWrite _ env => octetsOk env.msg
  | .leaseMessageTx _ => true
  | .leaseRenew _ m => leaseOk m
  | .leaseStandby _ m => leaseOk m
  | .leaseHandover _ m => leaseOk m
  | .selvedgeState _ _ _ => true
  | .leaseRelease _ => true
  | .leaseTaken _ => true
  | .takePick _ => true
  | .leaseSwap _ _ v => fits 80 v
  | .leaseDrill _ => true
  | .singularReadback _ _ => true
  | .tdStart _ _ => true
  | .tdRelayClose _ _ => true
  | .tdContactsSettled _ _ => true
  | .tdDcTestMeasure _ _ _ _ => true
  | .tdTestRampDownDone _ _ => true
  | .tdSequenceGainDone _ _ => true
  | .tdStop _ _ => true
  | .tdGainRampDownDone _ _ => true
  | .tdRelayOpen _ _ => true
  | .tdRelayReleased _ _ => true
  | .tdOvercurrent _ _ _ => true
  | .tdShort _ _ => true
  | .tdRelayHot _ _ => true
  | .tdRetry _ _ => true
  | .tdGainRecover _ _ => true
  | .tdOcFailsReset _ _ => true
  | .tdSenseFault _ _ _ => true
  | .tdSenseRelayDrop _ _ => true
  | .tdSenseRecover _ _ => true
  | .tdRailFault _ _ => true
  | .tdRailRecover _ _ => true
  | .thPilotMeasure _ _ => true
  | .acRun _ _ _ v => fits 80 v
  | .acTestDone _ _ => true
  | .tdClear _ _ _ v => fits 80 v
  | .tdPwmRateWrite _ _ _ v => fits 80 v
  | .tdDiagModeWrite _ _ v => fits 80 v
  | .read _ env => octetsOk env.msg
  | .write _ env => octetsOk env.msg
  | .writeTimed _ env => octetsOk env.msg
  | .subscribeValue _ env => octetsOk env.msg
  | .subscribeEvents _ env => octetsOk env.msg
  | .subscribeRemove _ env => octetsOk env.msg
  | .notifyPeriod _ _ => true
  | .notifyAck _ env => octetsOk env.msg
  | .notifyTimeout _ _ req => fits 32 req
  | .blockWriteBegin _ env => octetsOk env.msg
  | .blockWriteData _ env => octetsOk env.msg
  | .blockReadBegin _ env => octetsOk env.msg
  | .blockReadData _ env => octetsOk env.msg
  | .blockAbort _ env => octetsOk env.msg
  | .blockIdle _ _ => true
  | .challengeOpen _ env => octetsOk env.msg
  | .challengeProve _ env => octetsOk env.msg
  | .challengeClose _ env => octetsOk env.msg
  | .debugRequest _ env => octetsOk env.msg
  | .debugAnswer _ env => octetsOk env.msg
  | .debugPassword _ env => octetsOk env.msg
  | .debugClose _ env => octetsOk env.msg
  | .debugExpiry _ => true
  | .debugLockoutEnd _ => true
  | .debugCoreHalt _ _ => true
  | .tapInstruction _ _ => true
  | .sessionIdle _ _ => true
  | .sessionClose _ _ _ v => fits 80 v
  | .hapolClaim _ _ v => fits 80 v
  | .hapolRelease _ _ v => fits 80 v
  | .hapolClaimBreak _ _ v => fits 80 v
  | .dictSave _ => true
  | .dictRestoreDefaults _ _ v => fits 80 v
  | .writeCfg _ _ => true
  | .readStatus _ _ => true
  | .creelWrite _ addr data => fits 32 addr && octetsOk data
  | .creelRead _ addr _ _ => fits 32 addr
  | .mbxWrite _ sent => octetsOk sent
  | .mbxRead _ _ => true
  | .evtRead _ _ _ => true
  | .readId _ _ => true
  | .creelTransaction _ _ => true
  | .creelLockBroken _ _ => true
  | .bootCtrlWrite _ _ _ => true
  | .bootImageLen _ _ v => fits 32 v
  | .crlDdrSegWrite _ _ _ _ => true
  | .coreRestarted _ _ => true
  | .coreRestartDone _ _ => true
  | .filteredLevelChange _ source => fits 9 source
  | .hedClaim _ _ => true
  | .bobbinClaim _ _ => true
  | .letoffOverrun _ _ => true
  | .letoffMaxWait _ _ => true
  | .readVout _ _ => true
  | .readIout _ _ => true
  | .statusWord _ _ => true
  | .pmbAlertN _ => true
  | .vcoreNotSettled _ => true
  | .vcoreStepDown _ => true
  | .pmbusRetry _ _ => true
  | .thermtrip _ => true
  | .agingHour _ => true
  | .scrubWord _ _ _ _ _ _ => true
  | .scrubBurst _ _ => true
  | .monClear _ _ _ v => fits 80 v
  | .monHistConfigWrite _ _ _ _ v => signedFits 64 v
  | .outputCountClear _ _ v => fits 80 v
  | .powerUp _ => true
  | .porstNRise _ straps _ => fits 8 straps
  | .porstNFall _ => true
  | .resetNFall _ => true
  | .resetNRise _ => true
  | .corePgRise _ => true
  | .corePgTimeout _ => true
  | .corePgFall _ => true
  | .startDone _ ddr selfTests => ddrOk ddr && selfTests.all testOk
  | .startTimeout _ => true
  | .startRequestWarm _ _ => true
  | .startRequestCold _ _ => true
  | .retainedRecordWrite _ => true
  | .doffRequest _ _ v => fits 80 v
  | .doffEntry _ => true
  | .doffLatchSample _ => true
  | .wakeTimer _ => true
  | .wakeIn _ _ => true
  | .wakeCpLink _ => true
  | .fieldLockBlow _ _ v => fits 80 v
  | .oemPwSet _ _ b => octetsOk b
  | .fwImage _ _ image => octetsOk image
  | .fwProgrammed _ _ => true
  | .fwSecCommit _ _ v => fits 80 v
  | .fwKeyRevoke _ _ v => fits 80 v
  | .startFailed _ _ => true
  | .powerLoss _ => true
  | .ptpAnnounceTimeout _ _ => true
  | .debugCoreResume _ _ => true

end Sys2Proof
end

