-- ==== Sys2Proof/Decode.lean ====
section
/-! DEFINITION. Words that spell a command. spec/opcode_table.json gives no row any bits: the AX4836 has no instruction
encoding, and its commands come as messages, frames, pins and timers, whose layouts the meanings read themselves. -/

namespace Sys2Proof

/-- The command that a word of nbits bits spells by the table's bits: none, since no row has any. -/
def decodeTableWord (nbits w : Nat) : Option Instr :=
  match nbits, w with
  | _, _ => none

end Sys2Proof
end

