-- ==== Sys2Proof/Config.lean ====
section
/-! DEFINITION. What one part is made with, and the values the manual leaves open. Every constant here is opaque: no
statement can see its value, so what is proved holds for every part and for every value an open result may take. -/

namespace Sys2Proof

/-! ## Fuses (R2, R445 and the tables of 18_identity_and_access.md) -/

/-- Whether the part is an AX4836-IB; an AX4836-CB otherwise (R1, R2). -/
opaque Config.gradeIB : Bool
/-- TEMP_GRADE: 0 for CB, 1 for IB (R2). -/
def Config.grade : Int := if Config.gradeIB then 1 else 0
/-- The ASCII octets of a name. -/
def ascii (s : String) : List Byte := s.toList.map (fun c => BitVec.ofNat 8 c.toNat)
/-- The text of PART_NUMBER (R2). -/
def Config.partNumber : List Byte := ascii (if Config.gradeIB then "AX4836-IB" else "AX4836-CB")
/-- TJ_RATED_MAX in 0.01 degC: +100 degC for CB, +105 degC for IB (R1, R407). -/
def Config.tjRatedMax : Int := if Config.gradeIB then 10500 else 10000
/-- The six ASCII characters of the fabrication lot (R445). -/
opaque Config.lotFuse : Vector (BitVec 7) 6
/-- The wafer's number less one: 1 to 25 (R445). -/
opaque Config.waferFuse : Fin 25
/-- Die column on the wafer (R445). -/
opaque Config.columnFuse : BitVec 8
/-- Die row on the wafer (R445). -/
opaque Config.rowFuse : BitVec 8
/-- Test-program revision (R445). -/
opaque Config.testFuse : BitVec 16
/-- Year and week of test (R445). -/
opaque Config.dateFuse : BitVec 16
/-- Tester speed bin of a shuttle in Mop/s per lane (R413, R445). -/
opaque Config.speedFuse : Nat → BitVec 16

/-- FAB_LOT, 6 octets. -/
def Config.fabLot : List Byte := Config.lotFuse.toList.map (fun c => c.setWidth 8)
/-- WAFER. -/
def Config.wafer : Int := Config.waferFuse.val + 1
/-- DIE_X. -/
def Config.dieX : Int := Config.columnFuse.toNat
/-- DIE_Y. -/
def Config.dieY : Int := Config.rowFuse.toNat
/-- TEST_REV. -/
def Config.testRev : Int := Config.testFuse.toNat
/-- DATE_CODE. -/
def Config.dateCode : Int := Config.dateFuse.toNat
/-- AGING_S0 of a shuttle: its tester speed bin at the worst rated corner (R413, R445). -/
def Config.speedBinOf (shuttle : Nat) : Nat := (Config.speedFuse shuttle).toNat
/-- SPEED_BIN: the lowest tester speed bin of the 54 shuttles (R445). -/
def Config.speedBin : Int := (((List.range 54).map Config.speedBinOf).foldl min (Config.speedBinOf 0) : Nat)
/-- Two octets, the upper first. -/
def twoBytes (w : BitVec 16) : List Byte := [w.extractLsb' 8 8, w.extractLsb' 0 8]
/-- DIE_ID, 16 octets, bits [127:120] first (R445). -/
def Config.dieId : List Byte :=
  Config.fabLot ++ [BitVec.ofNat 8 (Config.waferFuse.val + 1), Config.columnFuse, Config.rowFuse] ++ twoBytes Config.testFuse ++
    twoBytes (BitVec.ofInt 16 Config.speedBin) ++ twoBytes Config.dateFuse ++ [0]
/-- The base station address (R224, R445). -/
opaque Config.macFuse : BitVec 48
/-- MAC_BASE. -/
def Config.macBase : Int := Config.macFuse.toNat
/-- The boot ROM's word at a creel byte address (R373). -/
opaque Config.bootRom : Nat → Byte
/-- A byte of the fuse, identity and security window or of the dictionary store (R373), whose layout is not given. -/
opaque Config.window : Nat → Byte

/-! ## Keys and signatures of the vendor -/

/-- Whether an Ed25519 signature over an image verifies under vendor key k (R458). -/
opaque Config.imageValid : List Byte → Nat → Bool
/-- The die's debug key, which Dravoster writes at wafer test (R452). -/
opaque Config.debugKey : Vector Byte 32
/-- A fresh nonce or session ID (R359): the n-th value that the part draws. -/
opaque Config.nonce : Nat → List Byte
opaque Config.sessionId : Nat → Nat

/-! ## Results that the manual names without fixing every bit -/

/-- Whether a result that the manual gives as a real number, without saying how it is rounded, is the upper of its two
neighbours: a function of its operands, since equal engines compute alike (R17). -/
opaque Config.roundUp : List Int → Bool
/-- Free coefficients of the analog prototype of a peak or shelf section (R82): shape, gain, Q, number. -/
opaque Config.prototype : Nat → Int → Nat → Nat → Int
/-- Tap of a phase of the interpolator that oversamples four times (R93, R95), in S4.31. -/
opaque Config.interpolator : Nat → Nat → Int
/-- Transform rounding of a partitioned convolution for one sample, from its taps and inputs (R88). -/
opaque Config.transformError : List Int → List Int → Int
/-- A sample of a noise sequence: wave, instance, first sample and number (R75, R96). -/
opaque Config.noise : Nat → Nat → Nat → Nat → Int
/-- Octets that the bulk transmit queue of a MAC holds (0xC018:11). -/
opaque Config.bulkQueue : Nat
/-- Draw n of the dither of an output at a pick and offset (R62). -/
opaque Config.uniform : Nat → Nat → Nat → Nat → Nat
/-- The ASRC's output for one sample from its input history and ratio (R214 to R217). -/
opaque Config.asrc : List Int → Nat → Int

/-- F_VT in 0.001 for VDD_CORE in mV and TJ in 0.01 degC, the fused characterization factor (R413). -/
opaque Config.speedFactor : Nat → Int → Nat
/-- Instance number at its owner, and load, that the payload of a bulk block of KIND 0x02 names (R126, R127, R268). -/
opaque Config.overflowState : Nat → Nat × Nat
/-- A free value: what a step reads where the manual leaves a value open, drawn with `State.fresh`. -/
opaque Config.free : Nat → Int

end Sys2Proof
end

