-- ==== Sys2Proof/Machine/State.lean ====
section
/-! DEFINITION. The state of the AX4836 as plain data. The object dictionary (R339) is one table `dict` keyed by
index * 256 + sub-index, which lists only values that differ from their default; `run` is the running plan's copy of
the graph objects (R50). Everything the rules speak of that no object shows stands in the structures below. -/

namespace Sys2Proof
namespace Machine

/-- Why a step could stop. No rule of the manual stops the engine: every command has an effect, an error answer or
none, so no meaning raises this; it is kept because the interface asks for a reason type. Safe: never raised. -/
inductive Fault where
  /-- Raised by no meaning. Safe. -/
  | none
  deriving DecidableEq, Repr

/-- Why a command could be turned away by the model. -/
inductive Refusal where
  /-- Raised by `exec` alone, for a command without a meaning; the mnemonic names it. Safe: the model stops. -/
  | notModelled (mnemonic : String)
  deriving DecidableEq, Repr

/-- What one command made the engine put out: on a wire, a link, a port, a pin or as an answer. The engine's `sent`
holds those of the latest command that emitted any (the model's own observation, log entry 4). -/
inductive Emit where
  /-- The answer to a write: status (R366) and APPLIED (R350). -/
  | answer (key status applied : Nat)
  /-- A Hapol message on its path (R345). -/
  | hapol (path : Path) (peer : Nat) (msg : List Byte)
  /-- The bytes that the host port drives (R378). -/
  | hostPort (bytes : List Byte)
  /-- A creel response: data, and whether it is an error response (R369). -/
  | creel (m : Master) (data : BitVec 32) (error : Bool)
  /-- The channel-status block of an AES3 output subframe or MADI output channel (R200, R202). -/
  | status (dest : Nat) (block : List Byte)
  /-- Output samples released at a batten (R18), as port words or as S8.27, with the degraded mark (R41). -/
  | audio (dest pick : Nat) (words : List Int) (degraded : Bool)
  /-- The duties of TDn_PWMA and TDn_PWMB in 2^-28 for the samples of a pick (R319). -/
  | pwm (ch pick : Nat) (duties : List (Int × Int))
  /-- The frequency in Hz of a clock output from now on. -/
  | clock (name : String) (hz : Nat)
  /-- The waveform of a timing output from its next edge on: kind, pulse width in ns, rate in mHz and the instant of that edge in ns of
  engine time (R182 to R186). -/
  | edges (out kind width rate first : Nat)
  /-- One selvedge output sample (R129). -/
  | selvedge (output : Nat) (word : Int)
  /-- An Ethernet frame of a MAC, without FCS. -/
  | frame (mac : Nat) (octets : List Byte)
  /-- PAUSE (class 0) or PFC quanta sent by a MAC (R231, R232). -/
  | pause (mac prio quanta : Nat)
  /-- A PTP message: kind, domain, clockClass, clockAccuracy, priority1, priority2, stepsRemoved (R191, R257). -/
  | ptp (mac : Nat) (kind : PtpTx) (fields : List Nat)
  /-- A media packet on one leg: stream, leg, sequence number, timestamp and payload (R237, R238). -/
  | media (stream leg seq ts : Nat) (payload : List Byte)
  /-- A 128-byte Swiska block on a lane of a port (R266), before the line coding of that lane (R262 to R264, R273). -/
  | block (port lane : Nat) (bits : BitVec 1024)
  /-- OVERFLOW_EVICT for a guest instance, to its owner on a Swiska port (R126). -/
  | evict (port inst : Nat)
  /-- A PMBus transaction: command code and data (R400). -/
  | pmbus (command data : Nat)
  /-- The level of an output pin: TDn_EN, GPIO, SYNC_OUT edges and the like, by name and number; -1 is high impedance. -/
  | pin (name : String) (unit : Nat) (level : Int)
  /-- The level that an output pin takes at a later instant of local time, held until then (R425). -/
  | pinLater (name : String) (unit : Nat) (level : Int) (at_ : Nat)
  deriving DecidableEq, Repr

/-- Engine time (R134 to R138). `now` is the local count of SP1 in ns, never stepped or slewed; engine time is now + offset less what the
slew has taken off. `pick` is PICK_COUNT; `step` the whole picks (signed) to step at the next batten; `set` the value of TIME_SET. -/
structure Clock where
  now : Nat
  offset : Int
  pick : Nat
  step : Int
  set : Option Nat
  /-- The offset in ns that is being slewed out, positive while engine time is ahead, and the local ns at which the slew began (R136). -/
  slewing : Int
  slewFrom : Nat
  /-- Whether engine time has stepped since the latest batten (R137). -/
  stepped : Bool
  deriving DecidableEq, Repr

/-- A timed or direct action (R18, R140 to R147). Direct writes have id 0 and `direct` set. -/
structure Action where
  id : Nat
  key : Nat
  val : Val
  /-- The sample it selects (R141). -/
  sample : Nat
  /-- Engine time of its insertion in ns. -/
  stamp : Nat
  /-- LATE: 0 use TIMED_LATE_POLICY, 1 apply late, 2 discard. -/
  late : Nat
  tag : Nat
  session : Nat
  direct : Bool
  /-- Whether the edit copy has taken the value at the write already (R50). -/
  edited : Bool
  /-- Whether the running plan has lost its target since its insertion (R146). -/
  gone : Bool
  deriving DecidableEq, Repr

/-- A parameter's value before sample `at`, kept while picks before it are still to be computed (R142). -/
structure Past where
  key : Nat
  sample : Nat
  old : Val
  deriving DecidableEq, Repr

/-- A ramp of a gain from sample `sample` on over `len` samples (R70, R81, R130), in S4.31 coefficients, with the weights of a
law of R67; law 0 is a straight line. -/
structure Ramp where
  key : Nat
  sample : Nat
  from_ : Int
  to_ : Int
  len : Nat
  law : Nat
  deriving DecidableEq, Repr

/-- A weighted source of a fade's outgoing side: the weight is num / den (R67, R69). -/
structure Part where
  src : Nat
  num : Int
  den : Nat
  deriving DecidableEq, Repr

/-- A route or delay-tap crossfade (R67 to R71, R89). `unit` is a DEST_ID, or an instance with `tap` set. -/
structure Fade where
  unit : Nat
  tap : Bool
  sample : Nat
  len : Nat
  law : Nat
  old : List Part
  new : Nat
  /-- A change deferred under R69, with the new source. -/
  deferred : Option Nat
  ended : Bool
  deriving DecidableEq, Repr

/-- A stored item of an instance (R105, R106). -/
structure Holding where
  inst : Nat
  /-- 0 coefficients, 1 state or a delay line. -/
  part : Nat
  words : Nat
  /-- 1 local store, 2 harness store, 3 warp store, 4 LPDDR5. -/
  tier : Nat
  /-- The shuttle of a local store or the harness of a harness store, else 0. -/
  home : Nat
  /-- Groups of eight words that it would move in LPDDR5 in eight picks. -/
  groups : Nat
  deriving DecidableEq, Repr

/-- A twill swap (R64 to R66). `start` is its first sample once it runs. -/
structure Twill where
  inst : Nat
  fadeMs : Nat
  /-- The action that asked for it. -/
  ask : Action
  /-- 0 waiting to start at its batten, 1 waiting for a partition load, 2 running. -/
  phase : Nat
  start : Nat
  /-- The stored items of its second instance (R65). -/
  items : List Holding
  deriving DecidableEq, Repr

/-- The stored words (R27) of one source or output for one pick, with the degraded mark (R41) and whether they stand in for a result
that was not written in time. -/
structure Block where
  id : Nat
  pick : Nat
  words : List Nat
  degraded : Bool
  missed : Bool
  deriving DecidableEq, Repr

/-- A stored word of the warp beam (R11, R27). -/
structure WarpSample where
  src : Nat
  sample : Nat
  word : Nat
  degraded : Bool
  deriving DecidableEq, Repr

/-- What an instance or a bus holds between picks (R42): the next pick to compute, the state registers, the histories
of its pins (newest first) and the sample at which it started (R75). -/
structure Work where
  elem : Elem
  next : Nat
  regs : List Int
  hist : List (List Int)
  start : Nat
  /-- One more than the first sample of the plan that removed it, while a fade still reads it (R70); 0 while it is in the running plan. -/
  left : Nat
  deriving DecidableEq, Repr

/-- A compiled weaving plan (R48, R51, R105). -/
structure Plan where
  dict : Map Val
  instClass : Map Nat
  busClass : Map Nat
  /-- Release offset in picks of each route entry (R33, R87, R123). -/
  offset : Map Nat
  /-- Picks after its opening batten at which the last result of an element is due (R33, R37), by element number. -/
  due : Map Nat
  /-- Picks after its opening batten at which an element's readings are updated (R74, R91, R93). -/
  shown : Map Nat
  place : Map Nat
  items : List Holding
  /-- FIR_PARTITIONED block phases (R88). -/
  phase : Map Nat
  sources : Nat
  dests : Nat
  pool : Nat
  deriving DecidableEq, Repr

/-- A removed contribution that fades out (R70): its gain at `sample`, in S4.31. -/
structure Tail where
  bus : Nat
  src : Nat
  gain : Int
  sample : Nat
  len : Nat
  law : Nat
  deriving DecidableEq, Repr

/-- An output whose release offset changed and that fades from its samples at the old offset (R70). -/
structure Shift where
  dest : Nat
  old : Nat
  sample : Nat
  len : Nat
  law : Nat
  deriving DecidableEq, Repr

/-- What a LOUDNESS instance holds beside its registers (R95): the weighted energies of its latest 100 ms blocks, newest first, at most
30, with their number since its start; the first sample of the run; and the gating blocks of the run by bin of 0.01 LU above -70
LUFS. -/
structure Loud where
  inst : Nat
  energies : List Int
  total : Nat
  runFrom : Nat
  bins : Map Nat
  deriving DecidableEq, Repr

/-- A reweave move (R107 to R116). `kind`: 1 fault, 2 commit, 5 eviction, 3 drain, 4 rebalance. -/
structure Move where
  inst : Nat
  kind : Nat
  src : Nat
  dst : Nat
  /-- 0 planned, 1 waiting for leave, 2 bulk copy, 3 closing, 4 shadow, 5 releasing, 6 fault copy, 7 passed: it switches in step 4 of
  the batten (R18). -/
  phase : Nat
  closings : Nat
  planned : Nat
  logged : Nat
  /-- Local ns at which its copy could begin (R110, R116). -/
  since : Nat
  /-- B's storage from the plan to the switch, then A's until it is freed (R110). -/
  items : List Holding
  /-- Swiska blocks of the instance's state that have arrived (R127). -/
  blocks : Nat
  deriving DecidableEq, Repr

/-- An output's temple gain and last released sample (R41, R61), or an object output pin's hold (R43): `dest` is the DEST_ID
or the pin's SOURCE_ID. -/
structure OutState where
  dest : Nat
  gain : Int
  last : Int
  /-- 0 live, 1 holding, 2 fading out from `sample`, 3 silent, 4 fading in from `sample`, 5 holding after a fault move began. -/
  phase : Nat
  sample : Nat
  held : Int
  deriving DecidableEq, Repr

/-- One selvedge output (R129 to R133): limiter gain, last good sample, hold state, first live sample after a hold, and the
limiter gain that a re-seed without a twin loads. -/
structure Selv where
  output : Nat
  gain : Int
  lastGood : Int
  /-- 0 live, 1 held until a re-seed, 2 crossfading. -/
  phase : Nat
  pos : Nat
  low : Int
  deriving DecidableEq, Repr

/-- The graph side of the engine: plans, fades, ramps and sample stores. -/
structure Graph where
  plan : Plan
  /-- The copy that is being compiled (R52). -/
  compiling : Option (Map Val)
  /-- A compiled plan that waits for its switching batten. -/
  ready : Option Plan
  /-- Live writes since the compile began (R54). -/
  live : List (Nat × Val)
  past : List Past
  ramps : List Ramp
  fades : List Fade
  tails : List Tail
  shifts : List Shift
  /-- Copies of earlier plans by the first sample of the plan that replaced each, for what is leaving (R70). -/
  olds : List (Nat × Map Val)
  twills : List Twill
  /-- Writes that wait for a running twill swap (R66). -/
  waiting : List Action
  works : List Work
  /-- The four warp-beam slots: the open one and the three before it (R32). -/
  warp : List WarpSample
  /-- Closed warp-beam slots handed to the stores for relaxed paths (R33). -/
  kept : List Block
  /-- The four cloth-beam slots of the outputs (R32). -/
  cloth : List Block
  blocks : List Block
  outs : List OutState
  louds : List Loud
  selvs : List Selv
  /-- Instances whose new partitions wait for a load at commit (R86). -/
  loads : List Nat
  /-- Instances whose coefficients reload at the next batten (R29). -/
  reload : List Nat
  /-- Instances whose coefficient pair the scrubber found bad, acted on at the next batten (R417). -/
  badCoefs : List Nat
  deriving DecidableEq, Repr

/-- A guest instance of a partner (R126): its number at the owner, the owner's port, its lane-operations per pick, the shuttle that runs
it, and the pick at which an eviction ends it, or 0. -/
structure Guest where
  inst : Nat
  port : Nat
  load : Nat
  shuttle : Nat
  ends : Nat
  deriving DecidableEq, Repr

/-- Placement and slack (R37 to R44, R98 to R127). -/
structure Fabric where
  moves : List Move
  /-- Finish times: shuttle (54 stands for reed and mix), local ns, and the batten at which the deadline falls (R37). -/
  finish : List (Nat × Nat × Nat)
  /-- Consecutive picks below and at or above each threshold (R40). -/
  warnBelow : Nat
  warnAbove : Nat
  alarmAbove : Nat
  /-- The shuttle with the lowest slack at the latest batten, 54 for none. -/
  slowest : Nat
  /-- Consecutive ns with ample slack (R404) start here. -/
  ampleSince : Nat
  /-- The end of the quiet period in local ns, 0 for none (R101). -/
  quietUntil : Nat
  /-- Filtered lane speed over CORNER_FACTOR per shuttle, in 2^-16 Mop/s (R104). -/
  filtered : Map Int
  /-- Derated shuttles whose load is still above their budget (R104). -/
  derated : List Nat
  /-- Local ns of the latest failed comparison per shuttle (R114), and destinations not to retry. -/
  mismatch : Map Nat
  noRetry : List (Nat × Nat)
  /-- Harness numbers to drain first (R114). -/
  mendFirst : List Nat
  /-- The harness of the running mending drain or self-test. -/
  mending : Option Nat
  /-- Ratings before the running self-test (R117). -/
  oldRatings : List (Nat × Nat)
  /-- D_now of each shuttle as a quotient (R413). -/
  slowed : List (Nat × Nat)
  /-- Local ns of the latest mending selection (R409). -/
  mendAt : Nat
  guests : List Guest
  /-- Own overflowed instances under eviction: (instance, pick of the deadline, whether OVERFLOW_EVICT_FAILED was raised). -/
  evictions : List (Nat × Nat × Bool)
  /-- Whether a commit waits for guests to leave (R126). -/
  commitWaits : Bool
  deriving DecidableEq, Repr

/-- A pending source of one target (R384, R388). -/
structure Pend where
  target : Nat
  source : Nat
  /-- Engine time in ns at which it became pending. -/
  time : Nat
  arg : Nat
  merged : Bool
  latched : Bool
  clear : Bool
  /-- A level source that fell after it was selected (R390). -/
  withdrawn : Bool
  deriving DecidableEq, Repr

/-- An event record (R392). -/
structure Record where
  source : Nat
  clear : Bool
  latched : Bool
  merged : Bool
  prio : Nat
  seq : Nat
  time : Nat
  arg : Nat
  deriving DecidableEq, Repr

/-- The Heddle (R383 to R394). -/
structure Heddle where
  /-- 1 filtered, 0 edge latch (R385). -/
  filtered : Bool
  pend : List Pend
  /-- (source, unit) conditions that stand: a level source is high while any does (R384). -/
  standing : List (Nat × Nat)
  /-- (source, local ns of the latest change of its raw line). -/
  changed : List (Nat × Nat)
  /-- Sources whose filtered level is high. -/
  high : List Nat
  /-- ARG of the latest rise per source. -/
  args : Map Nat
  /-- Sources claimed since their latest rise, per target (for CLEAR records, R386). -/
  claimed : List (Nat × Nat)
  /-- (target, priority, source last claimed) (R388). -/
  last : List (Nat × Nat × Nat)
  bobbin0 : List Record
  bobbin1 : List Record
  bobbin2 : List Record
  bobbin3 : List Record
  seqs : List Nat
  /-- Bobbin sizes in force since the start (R393). -/
  sizes : List Nat
  /-- Field records already sent and unacknowledged: sessions that must still acknowledge the head (R354). -/
  fieldWait : List (Nat × List Nat)
  deriving DecidableEq, Repr

/-- A Hapol session (R358 to R363). -/
structure Session where
  slot : Nat
  id : Nat
  path : Path
  peer : Nat
  rights : Nat
  keyId : Nat
  /-- The session key SK, empty for an untagged session. -/
  key : List Byte
  /-- Whether prove has verified (an untagged session is open at once). -/
  proved : Bool
  hostCounter : Nat
  ownCounter : Nat
  /-- Local ns of the latest accepted message. -/
  lastAt : Nat
  /-- The last 16 REQ_ID values with their replies: REQ_ID, TYPE nibble, STATUS and body (R348). -/
  replies : List (Nat × Nat × Nat × List Byte)
  deriving DecidableEq, Repr

/-- A subscription (R352 to R354); `key` is 0 for events. -/
structure Sub where
  id : Nat
  session : Nat
  events : Bool
  key : Nat
  minMs : Nat
  periodMs : Nat
  last : List Byte
  lastAt : Nat
  /-- Whether a notification has been sent. -/
  noted : Bool
  deriving DecidableEq, Repr

/-- An event NOTIFY that awaits acknowledgement (R354). -/
structure Notify where
  session : Nat
  req : Nat
  records : List Record
  sentAt : Nat
  tries : Nat
  deriving DecidableEq, Repr

/-- A block transfer (R355). -/
structure Xfer where
  id : Nat
  session : Nat
  key : Nat
  write : Bool
  total : Nat
  crc : Nat
  /-- Received or copied segments: offset and octets. -/
  parts : List (Nat × List Byte)
  lastAt : Nat
  writer : Writer
  deriving DecidableEq, Repr

/-- A claim of an index range (R365). -/
structure Claim where
  session : Nat
  first : Nat
  last : Nat
  deriving DecidableEq, Repr

/-- The Hapol agent (R344 to R366) with its queue while core A restarts (R368). -/
structure Agent where
  sessions : List Session
  nextSession : Nat
  claims : List Claim
  subs : List Sub
  nextSub : Nat
  notifies : List Notify
  nextNotify : Nat
  xfers : List Xfer
  nextXfer : Nat
  /-- Messages that wait in the agent's queue, with the engine time of their receipt in ns (R150, R368), and the receipt of the one that is
  being served. -/
  queue : List (Nat × Envelope)
  received : Option Nat
  /-- Mailbox replies (R381): the first 7 stand in the reply queue, later ones are held by the agent. -/
  mailbox : List (List Byte)
  /-- The timed-action queue (R140 to R148) in insertion order, and the direct writes of R18. -/
  actions : List Action
  nextAction : Nat
  /-- Whether IDs have wrapped since the latest start. -/
  wrapped : Bool
  /-- Swiska message being joined per port: (port, message number, parts so far) (R346). -/
  joining : List (Nat × Nat × List Byte)
  deriving DecidableEq, Repr

/-- The host port (R377 to R382) and the creel (R369 to R376). -/
structure Creel where
  /-- Creel memory: addresses 0 to 2^32 - 1 as seen by core A outside the LPDDR5 window, LPDDR5 from 2^32 on. -/
  mem : List Host.Cell
  remap : Bool
  lock : Bool
  segs : List Nat
  /-- Locked sequences: (target, master, transactions so far, local ns of its opening) (R371). -/
  locks : List (Nat × Master × Nat × Nat)
  /-- Masters whose broken sequence must see one error response. -/
  broken : List (Nat × Master)
  /-- The master last granted each target (R370). -/
  granted : List (Nat × Master)
  width : Bool
  evtMbx : Bool
  overrun : Bool
  err : Bool
  errCode : Nat
  /-- Whether the mailbox request buffer is occupied (R381). -/
  busy : Bool
  /-- Requests that wait behind a locked sequence (R371). -/
  waiting : List (Master × CreelOp)
  deriving DecidableEq, Repr

/-- A leave request or grant of the let-off governor (R395, R396). `owner` names the requester within its kind: an
instance, a harness, a Swiska port or the new set point of a voltage step. -/
structure Request where
  id : Nat
  kind : Nat
  units : Nat
  owner : Nat
  /-- Local ns of arrival, and of the grant once granted. -/
  asked : Nat
  grantedAt : Nat
  /-- Whether the overrun of this grant has been counted (R398). -/
  overrun : Bool
  deriving DecidableEq, Repr

/-- The let-off governor, core voltage and PMBus (R395 to R405). -/
structure Governor where
  waiting : List Request
  grants : List Request
  nextId : Nat
  /-- READ_IOUT readings (mA) with no grant outstanding, newest first, at most 64 picks (R397). -/
  iout : List Nat
  lastIout : Nat
  vout : Nat
  /-- P_base of the latest batten in mW. -/
  pBase : Int
  /-- Battens at which the latest step was released (pick number), 0 for none. -/
  stepPick : Nat
  /-- The set point being settled and the local ns of its VOUT_COMMAND. -/
  settling : Option (Nat × Nat)
  atMaxRaised : Bool
  /-- Failed PMBus transactions in a row. -/
  fails : Nat
  retryAt : Nat
  /-- Fault moves running, counted at 40 units each (R395). -/
  faultMoves : Nat
  /-- Pending STATUS_WORD read because PMB_ALERT_N fell (R400). -/
  alert : Bool
  /-- Stress hours (in 2^-16 h) and whole service hours are in the dictionary; fraction of stress here (R412). -/
  stressFrac : Nat
  scrubWords : Nat
  /-- Earliest local ns of the next pass of the scrubber, and local ns at which the running powered hour began (R412, R417). -/
  scrubNext : Nat
  agedAt : Nat
  deriving DecidableEq, Repr

/-- Debug access (R447 to R456) and the lockable fuses. -/
structure Debug where
  scope : Nat
  session : Nat
  expiry : Nat
  nonce : List Byte
  asked : Nat
  replyAt : Nat
  lockoutUntil : Nat
  /-- OEM_PW_HASH, empty while unset (R453). -/
  oemHash : List Byte
  /-- The instruction of the TAP: 0 BYPASS, 1 IDCODE, else granted ones by number (R447, R448). -/
  tap : Nat
  deriving DecidableEq, Repr

/-- Power, reset, start and Doff (R422 to R443), cores (R368) and the flash (R427, R431). -/
structure Power where
  /-- Whether the always-on rails are valid (R423). -/
  rails : Bool
  /-- Levels of PORST_N, RESET_N, CORE_EN and CORE_PG. -/
  porst : Bool
  resetN : Bool
  coreEn : Bool
  corePg : Bool
  thermtrip : Bool
  /-- BOOT_STAGE (R375). -/
  stage : Nat
  /-- Local ns of the latest reset release and of the latest CORE_EN rise. -/
  releasedAt : Nat
  coreEnAt : Nat
  /-- Cause of the next start (START_CAUSE codes). -/
  cause : Nat
  /-- START_REQUEST 2, CORE_FAILED and DICT_RESTORE_DEFAULTS ask for a cold start (R429). -/
  wantCold : Bool
  coreFailed : Bool
  restoreDefaults : Bool
  /-- The single cold attempt of R437. -/
  attempt : Bool
  /-- BOOT_IMAGE_LEN (R428): the length of the host's image, 0 until written. -/
  hostLen : Nat
  /-- The length has been written and its image is still to be verified. -/
  hostAsked : Bool
  /-- Kind and stage of the latest failure since the latest success, for START_RETRIED. -/
  failed : Option (Nat × Nat)
  /-- 0 none, 1 requested, 2 entry, 3 in Doff (R439 to R443). -/
  doff : Nat
  doffAt : Nat
  /-- First sample of the fade-out of a START_REQUEST or of Doff entry (R434, R440 step 3); 0 before it. -/
  doffFade : Nat
  wakeArmed : Bool
  wakeLatch : Bool
  /-- The pick whose opening batten takes an accepted DOFF_REQUEST (R439). -/
  doffPick : Nat
  /-- A START_REQUEST under way (R434): whether it asks for a cold start, and the local ns of its write. -/
  leaving : Option (Bool × Nat)
  /-- Restarting cores: local ns of the restart, 0 while running. -/
  restarting : List Nat
  /-- Local ns of recent restarts per core (R368). -/
  restarts : List (Nat × Nat)
  halted : List Bool
  /-- Whether a CORE_FAILED core holds the engine (R368). -/
  held : Bool
  /-- The saved image: RWS values (R343), and the local ns of the oldest unsaved write. -/
  saved : Map Val
  dirtySince : Nat
  /-- Retained record (R431): the identity of the image that wrote it, whether it is valid, and the local ns of its latest write;
  its other items stand in their objects. -/
  retainedImage : List Byte
  retainedValid : Bool
  recordAt : Nat
  /-- Firmware images in flash slots 0 and 1, and the slot being programmed with its image. -/
  slot0 : List Byte
  slot1 : List Byte
  programming : Option (Nat × List Byte)
  /-- The identity (first 8 signature octets) of the running image. -/
  running : List Byte
  /-- KEY_ID of the running image; 4 while none runs. -/
  runKey : Nat
  deriving DecidableEq, Repr

/-- A reference candidate beyond what its objects show (R157 to R162). -/
structure Cand where
  /-- Latest offset against the local oscillator in ppb. -/
  measured : Int
  /-- REF_CAND_FREQ_PPB of the latest assessments with their numbers, newest first, at most 9 (R157). -/
  offsets : List (Nat × Int)
  /-- Consecutive assessments beyond REF_RATE_PPB (R161). -/
  rateOver : Nat
  /-- Local ns since which state 2 has held without a break. -/
  since : Nat
  /-- Whether REF_REQUAL_S applies (R158). -/
  requal : Bool
  /-- Local ns since which its phase tracker has converged (R162). -/
  tracked : Option Nat
  /-- Hop count and upstream LOOM_ID that a Swiska partner advertises (R154). -/
  hop : Nat
  upstream : Nat
  deriving DecidableEq, Repr

/-- A foreign PTP master on a MAC: the grandmaster that a sender announces (R153, R189). -/
structure Foreign where
  mac : Nat
  domain : Nat
  sender : Nat
  grandmaster : Nat
  clockClass : Nat
  accuracy : Nat
  variance : Nat
  steps : Nat
  priority1 : Nat
  priority2 : Nat
  /-- Local ns of its latest Announce and of the one before. -/
  announceAt : Nat
  before : Option Nat
  /-- Local ns of its latest Sync. -/
  syncAt : Nat
  deriving DecidableEq, Repr

/-- Edges of a timing output (R184, R186): consecutive checks beyond tolerance, whether its first alignment is still to come, an instant
of an edge in engine time in 10^-12 / fs ns, and a running correction with the local ns at which it began. -/
structure Align where
  overs : Nat
  first : Bool
  anchor : Int
  slew : Option (Int × Nat)
  deriving DecidableEq, Repr

/-- Reference selection, SP0 and SP1, auxiliary spindles, timing outputs and PTP (R151 to R192). -/
structure Reference where
  cands : List Cand
  foreign : List Foreign
  /-- The selection decided for the next batten: a slot, 0xFF for holdover or 0xFE for free-run without a slot, and the pick of the
  decision. -/
  decided : Option Nat
  decidedAt : Nat
  /-- Local ns of the loss that leads into holdover (R176). -/
  lostAt : Nat
  /-- The better candidate and the local ns since which it has outranked the selected one (R163). -/
  outrank : Option (Nat × Nat)
  /-- Disagreeing pairs and the local ns since which they differ by half the threshold or less, 0 while beyond (R167). -/
  disagree : List (Nat × Nat × Nat)
  /-- Whether the lack of a successor has been raised (R162). -/
  noSuccessor : Bool
  /-- The build-out offset in ns, from a switching batten until the phase difference is removed (R166, R180). -/
  buildout : Option Int
  /-- SP1 steers: its control value and the local ns at which it began (R166). -/
  steer : Option (Int × Nat)
  /-- Whether TIME_STATE 1 was entered from 3 (R173). -/
  fromHoldover : Bool
  /-- Consecutive assessments within the bounds of locking, and the pick of the eighth (R173). -/
  lockRuns : Nat
  lockPick : Nat
  /-- The number of the latest assessment, plus 1 (R157). -/
  assessed : Nat
  /-- Valid control records: local ns and 0.001 ppb, newest first (R175). -/
  history : List (Nat × Int)
  /-- The control value of the retained record, and the one that the latest warm start found (R176, R432). -/
  retainedControl : Option Int
  warmControl : Option Int
  holdSince : Nat
  /-- clockClass at the entry into holdover, and whether it has degraded (R191). -/
  holdClass : Nat
  degraded : Bool
  /-- Quality of the latest selected slot, and the hop count and upstream LOOM_ID advertised (R154). -/
  lastQuality : Nat
  advHop : Nat
  advUpstream : Nat
  xoAt : Nat
  /-- Auxiliary spindles in holdover: spindle, local ns of its start, timer in s (R178). -/
  auxHold : List (Nat × Nat × Nat)
  /-- Auxiliary spindles that steer: spindle, control value and local ns of its start (R172, R179). -/
  auxSteer : List (Nat × Int × Nat)
  /-- Engine-time stamps of the latest SYNC_IN pulses per input, newest first, at most 8 (R185). -/
  pulses : List (List Nat)
  aligns : List Align
  /-- Local and engine ns up to which edges have been followed, and the second of the latest epoch check plus 1 (R184, R186). -/
  edgesAt : Nat × Nat
  checked : Nat
  /-- Local ns at which the clock of each MAC began to listen (R190). -/
  listen : List Nat
  /-- Local ns of the latest Announce (0), Sync (1) and Delay_Req (3) sent, by 8 times the MAC plus the kind (R257). -/
  ptpSent : Map Nat
  deriving DecidableEq, Repr

/-- An audio port input (R203 to R212). Ports are numbered TDM0 to TDM15, AES3 inputs 16 to 23, MADI inputs 24 to 27. -/
structure Port where
  /-- Local ns of the latest frame start. -/
  frameAt : Nat
  /-- Starts of the frames since the latest fault in local ns, newest first, at most 66 (R205, R207). -/
  starts : List Nat
  /-- Good frames in a row while qualifying (R207), and frames with errors in a row (R209). -/
  run : Nat
  badRun : Nat
  /-- Frames in all, and at the latest assessments their number and the latest start, newest first, at most 9 (R203). -/
  frames : Nat
  rates : List (Nat × Nat)
  /-- Whether direct channels stay muted for the 10 ppm test or a repeated slip (R207). -/
  unsync : Bool
  /-- The first sample of the running 20 ms fade-in. -/
  fadeAt : Nat
  /-- The position at which the latest frame is read, the latest position written or concealed, and whether a frame fell outside its read
  window (R204, R205). -/
  pos : Nat
  written : Nat
  strayed : Bool
  /-- Concealment gain in 1/32 of a port in no warp group (R206). -/
  gain : Nat
  /-- Local ns of the latest slip (R207). -/
  slipAt : Nat
  /-- Local ns of the latest non-audio mark per muted channel (R210, R212), and the latest word per channel. -/
  marks : Map Nat
  words : Map Nat
  /-- First sample of the fade-in after a non-audio mute or of a new TDM slot, per channel (R198, R212). -/
  returns : Map Nat
  /-- Channel status per channel (R199): the bits of the running block, their number and their value with the first bit lowest, and the
  latest whole block. -/
  coming : Map (Nat × Nat)
  blocks : Map (List Byte)
  deriving DecidableEq, Repr

/-- A warp group at its reads (R218 to R221). -/
structure Group where
  /-- How far the common window ends before a sample instant, in ns below one sample period; none before a member has qualified (R219). -/
  phase : Option Nat
  /-- 0 aligned, 1 concealing or muted by an underrun, 2 muted by a fault, and the first position of that mute. -/
  cause : Nat
  muteAt : Nat
  /-- First sample of the fade-in of a strict group; 0 none. -/
  fadeAt : Nat
  /-- Gain per member in 1/32, the members whose run of underruns stands, those that have come near a window edge, and the last sample read
  of each source. -/
  gains : Map Nat
  under : List Nat
  margins : List Nat
  last : Map Int
  deriving DecidableEq, Repr

/-- A sample of a warp-group member that waits for its read (R219): its source, group * 32 + member, the position that reads it, and the
sample with its degraded mark. -/
structure Arrival where
  src : Nat
  member : Nat
  read : Nat
  value : Int
  degraded : Bool
  deriving DecidableEq, Repr

/-- Audio ports, ASRC channels and warp groups (R193 to R222). -/
structure Ports where
  ports : List Port
  /-- The last good sample per SOURCE_ID (R206, R209, R220). -/
  lasts : Map Int
  waiting : List Arrival
  groups : List Group
  /-- Port samples for ASRC instances per SOURCE_ID, newest first, at most 64. -/
  raw : Map (List Int)
  /-- First sample of the fade-in of an ASRC channel after it locks (R207). -/
  asrcFade : Map Nat
  /-- The warp-group objects that have been in force since the latest batten (R218). -/
  grouping : Map Val
  deriving DecidableEq, Repr

/-- A kept media packet (R246 to R250): its sequence number, warp-beam position of its first sample, the legs that carried
it, the DEGRADED mark, its samples per channel, and the flag bits of AM824 subframes per channel (R24). -/
structure Packet where
  seq : Nat
  first : Nat
  legs : Nat
  degraded : Bool
  chans : List (List Int)
  flags : List (List Int)
  deriving DecidableEq, Repr

/-- A receive stream beside its objects (R240 to R251). -/
structure RxStream where
  /-- H and the RTP timestamp of the latest used copy, none before the first. -/
  high : Option (Nat × Nat)
  /-- The record: sequence number, legs seen, degraded, arrival stamp of the latest leg (engine ns). -/
  record : List (Nat × Nat × Bool × Nat)
  kept : List Packet
  /-- Consecutive packets that failed only the timestamp test, and the latest of them (R241). -/
  misfits : Nat
  misfit : Nat × Nat
  /-- Local ns of the latest copy in time, and whether its silence has been raised (R251). -/
  presentAt : Nat
  silent : Bool
  /-- Concealment gain in 1/32, its underrun run, and the first sample of a 20 ms fade-in, 0 none. -/
  gain : Nat
  under : Bool
  fadeAt : Nat
  /-- AM824 channels under a non-audio mute with the local ns of the latest mark, and the latest words (R244). -/
  marks : Map Nat
  words : Map Nat
  /-- The latest copy used: sample number and arrival stamp in engine ns; and the same at the latest assessments, newest first, at most 9
  (R243). -/
  latest : Option (Nat × Nat)
  paces : List (Nat × Nat)
  /-- The last position at which a degraded sample was read (R250). -/
  degradedAt : Nat
  deriving DecidableEq, Repr

/-- A frame that waits to be sent (R234). -/
structure TxFrame where
  /-- 0 timing, 1 media, 2 control, 3 bulk: the order of sending. -/
  cls : Nat
  /-- Local ns from which it may be sent; of a media packet the instant that follows its last sample, and its stream (R238). -/
  ready : Nat
  due : Nat
  stream : Nat
  /-- The frame with its tag, without FCS; of a PTP message only header and length stand. -/
  octets : List Byte
  /-- What the frame carries, where it is a PTP message or a media packet. -/
  note : Option Emit
  deriving DecidableEq, Repr

/-- A MAC beside its objects (R226, R229 to R234). -/
structure Mac where
  /-- Octets in the timing, media, bulk and control buffers. -/
  levels : List Nat
  /-- Whether PAUSE or PFC stands, and the local ns of the latest frame (R231, R232). -/
  pausing : Bool
  pausedAt : Nat
  /-- Transmission held until this local ns, and the us it was held for (R233); 0 none. -/
  holdUntil : Nat
  holdUs : Nat
  /-- Frames that wait to be sent, and the local ps at which the line is free again (R234). -/
  queue : List TxFrame
  lineFree : Nat
  /-- Addresses resolved by ARP: IPv4 to station address. -/
  arp : Map Nat
  /-- Whether an IGMPv2 querier has been heard (R228). -/
  querier2 : Bool
  /-- Groups joined on the MAC (R228). -/
  joined : List Nat
  deriving DecidableEq, Repr

/-- MACs and media streams (R223 to R258). -/
structure Net where
  macs : List Mac
  rx : List RxStream
  /-- Released samples of media destinations per DEST_ID, newest first: sample position, value, degraded (R238). -/
  tx : Map (List (Nat × Int × Bool))
  /-- Live statistics counters by key; octet remainders stand at key + 2^24 (R254, R255). -/
  live : Map Nat
  /-- First sample of the 20 ms fade-in of a restarted transmit stream: media stream n, Swiska stream 256 + m (R244, R287). -/
  restarts : Map Nat
  /-- The number of the next packet of a transmit stream (R237, R238). -/
  packets : Map Nat
  deriving DecidableEq, Repr

/-- One lane of a link in training (R277, R278): own request number, its local ns and unanswered repeats, its codes; the
latest request number received and the status codes that answer it. -/
structure Lane where
  step : Nat
  askedAt : Nat
  repeats : Nat
  req : List Nat
  echo : Nat
  sts : List Nat
  /-- Local ns since which EQF has stayed below SW_EQF_WARN, 0 otherwise (R283). -/
  lowAt : Nat
  deriving DecidableEq, Repr

/-- A Swiska port beside its objects (R259 to R294). -/
structure Link where
  /-- Local ns of the grant of leave for training; 0 while none. -/
  grantAt : Nat
  /-- A step of R279 has failed. -/
  failed : Bool
  locked : List Nat
  /-- Local ns of the first training block since the grant, and of both ends having set RX_READY; 0 while none (R279, R280). -/
  heardAt : Nat
  agreedAt : Nat
  partnerReady : Bool
  lanes : List Lane
  /-- Precoding of the transmit lanes, as the partner asks (R263). -/
  txPrecode : Nat
  failedAt : Nat
  downAt : Nat
  /-- Local ns at which leave is asked again after a refusal; 0 none (R280). -/
  askAt : Nat
  /-- Own MARKER_COUNT and the latest departures: count and local ns (R269, R270). -/
  count : Nat
  departed : List (Nat × Nat)
  /-- The latest marker received: its count and local ns. -/
  arrived : Nat × Nat
  hops : Nat
  /-- Partner engine time minus own at the latest marker, and whether battens coincide (R271). -/
  timeDiff : Int
  coincide : Bool
  /-- Whether the pick assignment is decided, and markers in a row at which its condition failed. -/
  decided : Bool
  failRun : Nat
  /-- Partner ENGINE_RATE_RUNNING from its markers, and its guest budget (R267, R287). -/
  rate : Nat
  guest : Nat
  /-- Whether SW_NOT_SYNCHRONOUS stands. -/
  async : Bool
  /-- Stored taps per lane (R281). -/
  stored : List (List Nat)
  /-- PRBS31 states of the lanes heard in loopback (R292). -/
  prbs : List Nat
  /-- PRBS31 states of the lanes that this engine sends in loopback (R292). -/
  prbsOut : List Nat
  /-- The pick in which the pick assignment came to be decided or changed: it is done at a later batten (R271). -/
  atPick : Nat
  /-- Blocks that wait to be sent: priority, the first block slot open to them, and the block; the next free slot; the next marker period and
  the next group of idle blocks (R261, R266, R269). -/
  queue : List (Nat × Nat × BitVec 1024)
  slot : Nat
  period : Nat
  idleAt : Nat
  deriving DecidableEq, Repr

/-- A kept audio cut (R288): extended sample number, first channel, mark, port, stamp in local ns and samples. -/
structure Cut where
  seq : Nat
  chan : Nat
  degraded : Bool
  port : Nat
  stamp : Nat
  samples : List Int
  deriving DecidableEq, Repr

/-- A Swiska receive stream beside its objects (R287 to R289). -/
structure CutStream where
  high : Option Nat
  kept : List Cut
  /-- Concealment gain in 1/32 per cut, 32 where unlisted, and the cuts that underrun. -/
  gains : Map Nat
  under : List Nat
  fadeAt : Nat
  deriving DecidableEq, Repr


/-- One digest of a batten (R298, R301): `judged` once compared or counted missing; `second` when its sender has the standby's place in R300
at that batten. -/
structure Digest where
  pick : Nat
  cloth : Nat
  selv : Nat
  faults : Nat
  judged : Bool
  second : Bool
  deriving DecidableEq, Repr

/-- The twin and the lease beside their objects (R295 to R315). Instants are engine time in ns. -/
structure Twin where
  /-- Step of a catch-up: 0 none, 1 image, 2 state copy, 3 fill, 4 verify (R303). -/
  step : Nat
  /-- Whether the holder's non-history state has been installed since the latest step 1 or 2. -/
  installed : Bool
  /-- Fault flags of the running pick (FAULTS of R301). -/
  faults : Nat
  diverged : Bool
  divergedFrom : Nat
  own : List Digest
  partner : List Digest
  /-- Digests missing in a row, matching in a row in step 4, and mismatches in step 4 since step 1. -/
  missing : Nat
  matching : Nat
  returns : Nat
  /-- Local ns of the end of the history fill, and of the latest failed catch-up; 0 none. -/
  fillUntil : Nat
  failedAt : Nat
  /-- A TWIN_WRITE_SEQ value is missing. -/
  gap : Bool
  /-- Whether outputs are silent until step 4 completes (R304), and the first sample of the fade-in after it. -/
  silent : Bool
  fadeAt : Nat
  /-- Forwarded writes that wait in the joiner during step 1. -/
  waiting : List Action
  /-- Latest STATE, FAULTS, PREFER and DURATION_MS of the partner, and whether it last sent a renew message. -/
  peerState : Nat
  peerFaults : Nat
  peerPrefer : Bool
  peerMs : Nat
  peerHolds : Bool
  /-- Own renewal number, the send stamps of renewals by number, and the stamp of the latest echoed one (R308). -/
  seq : Nat
  sends : List (Nat × Nat)
  echoed : Option Nat
  /-- Latest lease message, latest with a STATE of 3 to 7, latest renewal of the present epoch, own latest release. -/
  heardAt : Nat
  aliveAt : Nat
  renewAt : Nat
  releasedAt : Nat
  /-- Epoch and number of the latest renewal received (R307). -/
  latest : Nat × Nat
  seenEpoch : Nat
  /-- Latest lease messages for the discard of second copies: message, epoch, number, pick. -/
  seen : List (Nat × Nat × Nat × Nat)
  /-- Highest PICK accepted per MAC with its message (R356). -/
  netPicks : List (Nat × Nat × Nat)
  /-- TAKE_PICK of a handover that this engine sent, and of one that it received with its epoch (R313). -/
  handover : Option Nat
  take : Option (Nat × Nat)
  /-- First pick whose batten drives the singular outputs (R311); the local ns of the latest take (R314), 0 after its readback. -/
  drivesFrom : Nat
  takenAt : Nat
  sentAt : Nat
  /-- The start, for LEASE_START_WAIT_MS (R309). -/
  startAt : Nat
  /-- Selvedge state of the twin: output, pick, limiter gain, ramp position, ramped gain, settings CRC (R301). -/
  selv : List (Nat × Nat × Int × Nat × Int × Nat)
  deriving DecidableEq, Repr

/-- Sums of a synchronous detection (R331, R333): the voltage and the current against sine and cosine, in 2^-24 of d, and the number of
values. -/
structure Sync where
  vs : Int
  vc : Int
  is : Int
  ic : Int
  count : Nat
  deriving DecidableEq, Repr

/-- A Treadle channel beside its objects (R316 to R338). `step`: 0 at rest, 1 stage on at m = 0, 2 relay closed, 3 test voltage
up, 4 test voltage down, 5 gain ramping up, 6 running, 7 gain ramping down, 8 m = 0 before the relay opens, 9 relay open,
10 off after an overcurrent with the relay held, 12 off after a sense fault with the relay held, 13 AC test. -/
structure Channel where
  step : Nat
  /-- Local ns of the entry into the step. -/
  since : Nat
  /-- TD_STATE at the end of the running stop: 0, 5, 6 or 8. -/
  after : Nat
  /-- Whether the next start is the first since the engine start or TD_CLEAR (R324), and whether this one runs the test. -/
  first : Bool
  testing : Bool
  /-- Whether the target of the sequence gain is -20 dB (R335). -/
  retry : Bool
  /-- The ramp of the sequence gain from `sample` on, in S4.31, linear in decibels when `db` is set (R335). -/
  from_ : Int
  to_ : Int
  sample : Nat
  len : Nat
  db : Bool
  /-- Local ns of the latest failure (R335), and since which the gain has been at 0 dB. -/
  failedAt : Nat
  cleanSince : Nat
  /-- Local ns of the latest current of 500 mA or more after an overcurrent (R334), and of the latest invalid bitstream after a sense
  fault (R323). -/
  highAt : Nat
  invalidAt : Nat
  /-- TDn_EN and RLYn. -/
  en : Bool
  relay : Bool
  /-- Node temperatures in 10^-12 degC, the applied thermal reduction in 10^-6 dB, and the sag gain in S4.31 (R328 to R330). -/
  coil : Int
  magnet : Int
  thermal : Int
  sag : Int
  /-- The 254 newest bits of TDn_ISD and TDn_VSD at the latest batten (R322). -/
  heldI : Nat
  heldV : Nat
  /-- The running detection of the pilot, and those of the AC test by tone (R331, R333). -/
  pilot : Sync
  tones : List Sync
  deriving DecidableEq, Repr

/-- A rail's supervision (R327): whether its latest voltage lies outside the limits, since which local ns it lies on that side, and whether its
bitstream is invalid (R323). -/
structure Rail where
  outside : Bool
  since : Nat
  invalid : Bool
  deriving DecidableEq, Repr

/-- Treadle (R316 to R338): channels, and the rails that are faulty. -/
structure Treadle where
  channels : List Channel
  badRails : List Nat
  rails : List Rail
  deriving DecidableEq, Repr

/-- The whole engine, and the queue of commands that wait. -/
structure State where
  pending : List Instr
  sent : List Emit
  /-- The next free value of the model's own (log entry 5). -/
  fresh : Nat
  clock : Clock
  dict : Map Val
  run : Map Val
  graph : Graph
  fabric : Fabric
  heddle : Heddle
  agent : Agent
  creel : Creel
  governor : Governor
  dbg : Debug
  power : Power
  ref : Reference
  io : Ports
  net : Net
  links : List Link
  cuts : List CutStream
  twin : Twin
  treadle : Treadle
  deriving DecidableEq, Repr

/-! ## The machine right after reset -/

/-- A plan of an empty graph. -/
def Plan.reset : Plan :=
  { dict := [], instClass := [], busClass := [], offset := [], due := [], shown := [], place := [], items := [], phase := [], sources := 0,
    dests := 0, pool := 0 }

/-- No graph runs. -/
def Graph.reset : Graph :=
  { plan := Plan.reset, compiling := none, ready := none, live := [], past := [], ramps := [], fades := [], tails := [],
    shifts := [], olds := [], twills := [], waiting := [], works := [], warp := [], kept := [], cloth := [], blocks := [], outs := [],
    louds := [], selvs := [],
    loads := [], reload := [], badCoefs := [] }

/-- Nothing moves and no shuttle has been measured. -/
def Fabric.reset : Fabric :=
  { moves := [], finish := [], warnBelow := 0, warnAbove := 0, alarmAbove := 0, slowest := 54, ampleSince := 0, quietUntil := 0,
    filtered := [], derated := [], mismatch := [], noRetry := [], mendFirst := [], mending := none, oldRatings := [], slowed := List.replicate 54 (0, 1), mendAt := 0, guests := [],
    evictions := [], commitWaits := false }

/-- The Heddle in edge-latch mode with empty bobbins (R385, R393). -/
def Heddle.reset : Heddle :=
  { filtered := false, pend := [], standing := [], changed := [], high := [], args := [], claimed := [], last := [], bobbin0 := [],
    bobbin1 := [], bobbin2 := [], bobbin3 := [], seqs := [0, 0, 0, 0], sizes := [0, 0, 0, 0], fieldWait := [] }

/-- No session, claim, subscription or transfer; action IDs start at 1 (R140). -/
def Agent.reset : Agent :=
  { sessions := [], nextSession := 0, claims := [], subs := [], nextSub := 1, notifies := [], nextNotify := 1, xfers := [],
    nextXfer := 1, queue := [], received := none, mailbox := [], actions := [], nextAction := 1, wrapped := false, joining := [] }

/-- BOOT_REMAP, BOOT_LOCK, the segment registers and HSP_CFG at 0; memory lists nothing (R374, R375, R380). -/
def Creel.reset : Creel :=
  { mem := [], remap := false, lock := false, segs := [0, 0, 0, 0, 0, 0], locks := [], broken := [], granted := [], width := false,
    evtMbx := false, overrun := false, err := false, errCode := 0, busy := false, waiting := [] }

/-- No leave asked or granted. -/
def Governor.reset : Governor :=
  { waiting := [], grants := [], nextId := 1, iout := [], lastIout := 0, vout := 0, pBase := 0, stepPick := 0, settling := none,
    atMaxRaised := false, fails := 0, retryAt := 0, faultMoves := 0, alert := false, stressFrac := 0, scrubWords := 0, scrubNext := 0, agedAt := 0 }

/-- No scope granted by reopening, no nonce outstanding, IDCODE in the TAP. -/
def Debug.reset : Debug :=
  { scope := 0, session := 0, expiry := 0, nonce := [], asked := 0, replyAt := 0, lockoutUntil := 0, oemHash := [], tap := 1 }

/-- The always-on rails are valid and the always-on domain is held in reset (R423 step 0); the flash holds nothing. -/
def Power.reset : Power :=
  { rails := true, porst := false, resetN := true, coreEn := false, corePg := false, thermtrip := false, stage := 0, releasedAt := 0,
    coreEnAt := 0, cause := 0, wantCold := false, coreFailed := false, restoreDefaults := false, attempt := false,
    hostLen := 0, hostAsked := false, failed := none, doff := 0, doffAt := 0, doffFade := 0, wakeArmed := false, wakeLatch := false,
    doffPick := 0, leaving := none,
    restarting := [0, 0], restarts := [], halted := [false, false], held := false, saved := [], dirtySince := 0,
    retainedImage := [], retainedValid := false, recordAt := 0, slot0 := [], slot1 := [], programming := none,
    running := [], runKey := 4 }

/-- No candidate measured, no reference decided. -/
def Reference.reset : Reference :=
  { cands := List.replicate 24 ⟨0, [], 0, 0, false, none, 0, 0⟩, foreign := [], decided := none, decidedAt := 0, lostAt := 0,
    outrank := none, disagree := [], noSuccessor := false, buildout := none, steer := none, fromHoldover := false, lockRuns := 0, lockPick := 0,
    assessed := 0, history := [], retainedControl := none, warmControl := none, holdSince := 0, holdClass := 0, degraded := false, lastQuality := 254, advHop := 0,
    advUpstream := 0, xoAt := 0, auxHold := [], auxSteer := [], pulses := [[], []], aligns := List.replicate 6 ⟨0, true, 0, none⟩,
    edgesAt := (0, 0), checked := 0, listen := [0, 0, 0], ptpSent := [] }

/-- No port has framed. -/
def Ports.reset : Ports :=
  { ports := List.replicate 28 ⟨0, [], 0, 0, 0, [], false, 0, 0, 0, false, 32, 0, [], [], [], [], []⟩, lasts := [], waiting := [],
    groups := List.replicate 32 ⟨none, 0, 0, 0, [], [], [], []⟩, raw := [], asrcFade := [], grouping := [] }

/-- MACs and streams without traffic. -/
def Net.reset : Net :=
  { macs := List.replicate 3 ⟨[0, 0, 0, 0], false, 0, 0, 0, [], 0, [], false, []⟩,
    rx := List.replicate 256 ⟨none, [], [], 0, (0, 0), 0, false, 32, false, 0, [], [], none, [], 0⟩, tx := [], live := [], restarts := [],
    packets := [] }

/-- A Swiska port that has not trained. -/
def Link.reset : Link :=
  { grantAt := 0, failed := false, locked := [], heardAt := 0, agreedAt := 0, partnerReady := false,
    lanes := List.replicate 4 ⟨0, 0, 0, [0, 0, 0], 0, [0, 0, 0], 0⟩, txPrecode := 0, failedAt := 0, downAt := 0, askAt := 0, count := 0,
    departed := [], arrived := (0, 0), hops := 0, timeDiff := 0, coincide := false, decided := false, failRun := 0, rate := 0,
    guest := 0, async := false, stored := [], prbs := [], prbsOut := [], atPick := 0, queue := [], slot := 0, period := 0, idleAt := 0 }

/-- No partner has been heard. -/
def Twin.reset : Twin :=
  { step := 0, installed := true, faults := 0, diverged := false, divergedFrom := 0, own := [], partner := [], missing := 0,
    matching := 0, returns := 0, fillUntil := 0, failedAt := 0, gap := false, silent := false, fadeAt := 0, waiting := [],
    peerState := 0, peerFaults := 0, peerPrefer := false, peerMs := 0, peerHolds := false, seq := 0, sends := [], echoed := none,
    heardAt := 0, aliveAt := 0, renewAt := 0, releasedAt := 0, latest := (0, 0), seenEpoch := 0, seen := [], netPicks := [],
    handover := none, take := none, drivesFrom := 0, takenAt := 0, sentAt := 0, startAt := 0, selv := [] }

/-- A channel at rest before its first start, its nodes at the default of TH_AMBIENT. -/
def Channel.reset : Channel :=
  { step := 0, since := 0, after := 0, first := true, testing := false, retry := false, from_ := 0, to_ := 0, sample := 0, len := 0,
    db := false, failedAt := 0, cleanSince := 0, highAt := 0, invalidAt := 0, en := false, relay := false, coil := 40000000000000, magnet := 40000000000000,
    thermal := 0, sag := 0x80000000, heldI := 0, heldV := 0, pilot := ⟨0, 0, 0, 0, 0⟩, tones := [] }

/-- Treadle at rest. -/
def Treadle.reset : Treadle := { channels := List.replicate 32 Channel.reset, badRails := [], rails := List.replicate 4 ⟨false, 0, false⟩ }

/-- The machine right after reset: always-on rails valid, PORST_N low, every object at its default, every queue empty (R5,
R423). Values that the manual does not give are named in log entry 30. -/
def State.reset : State :=
  { pending := [], sent := [], fresh := 0,
    clock := { now := 0, offset := 0, pick := 0, step := 0, set := none, slewing := 0, slewFrom := 0, stepped := false },
    dict := [], run := [], graph := Graph.reset, fabric := Fabric.reset, heddle := Heddle.reset, agent := Agent.reset,
    creel := Creel.reset, governor := Governor.reset, dbg := Debug.reset, power := Power.reset, ref := Reference.reset,
    io := Ports.reset, net := Net.reset, links := List.replicate 6 Link.reset,
    cuts := List.replicate 64 ⟨none, [], [], [], 0⟩, twin := Twin.reset, treadle := Treadle.reset }

end Machine
end Sys2Proof
end

