-- ==== Sys2Proof/Machine/Operands.lean ====
section
/-! DEFINITION. The number formats of the manual and the conversions between them: samples and coefficients (R20 to R27),
gains (R58), the wire forms of dictionary values (R341), identifiers (R45), digests and message tags. -/

namespace Sys2Proof
namespace Machine

/-! ## Samples, coefficients and the accumulator -/

/-- Full scale of S8.27 (R20). -/
def fullScale : Int := 0x08000000

/-- Unity of S4.31 (R21). -/
def unity : Int := 0x80000000

/-- Saturation to the 36-bit range 0x8_0000_0000 to 0x7_FFFF_FFFF (R26). -/
def sat36 (x : Int) : Int := max (-(2 ^ 35)) (min (2 ^ 35 - 1) x)

/-- Saturation at the limits of the 80-bit accumulator (R25). -/
def sat80 (x : Int) : Int := max (-(2 ^ 79)) (min (2 ^ 79 - 1) x)

/-- One multiply-accumulate: the product is exact and the accumulator saturates (R25). -/
def mac (acc x c : Int) : Int := sat80 (acc + x * c)

/-- A sum of products in the accumulator, in list order (R25). -/
def macAll (xs cs : List Int) : Int := (xs.zip cs).foldl (fun a p => mac a p.1 p.2) 0

/-- Rounding at bit 30 and shift by 31 (R26), before saturation. -/
def roundStore (acc : Int) : Int := (acc + 2 ^ 30) / 2 ^ 31

/-- The store of a sum to S8.27 (R26). -/
def store (acc : Int) : Int := sat36 (roundStore acc)

/-- Whether a store saturates (R26). -/
def storeSaturates (acc : Int) : Bool := decide (store acc ≠ roundStore acc)

/-- A sample times a coefficient, stored (R26). -/
def scale (x c : Int) : Int := store (x * c)

/-- a * n / d to nearest with ties toward plus infinity (the rounding of R26; log entry 7). -/
def roundDiv (a : Int) (d : Nat) : Int := if d = 0 then a else (2 * a + d) / (2 * d)

/-- Nat quotient rounded to nearest, ties up, used for sample counts such as round(ms * fs / 1,000). -/
def roundNat (a d : Nat) : Nat := if d = 0 then 0 else (2 * a + d) / (2 * d)

/-- Two's-complement reading of the low w bits. -/
def signed (w v : Nat) : Int := if v % 2 ^ w < 2 ^ (w - 1) then v % 2 ^ w else (v % 2 ^ w : Int) - 2 ^ w

/-- The w-bit two's-complement pattern of an integer. -/
def pattern (w : Nat) (v : Int) : Nat := (v % (2 ^ w : Int)).toNat

/-! ## Gains (R58) -/

/-- Whether 2c - 1 is at most 2^32 * 10^(g / 20,000): the rounding test of R58, in integers. -/
def gainAtLeast (g : Int) (c : Nat) : Bool :=
  let d := Nat.gcd g.natAbs 20000
  let n := g.natAbs / d
  let k := 20000 / d
  if g < 0 then Nat.ble ((2 * c - 1) ^ k * 10 ^ n) (2 ^ (32 * k)) else Nat.ble ((2 * c - 1) ^ k) (2 ^ (32 * k) * 10 ^ n)

/-- The greatest number that extends `c` by w bits and satisfies a test that holds up to some point and fails from there on. -/
def searchBits (ok : Nat → Bool) : Nat → Nat → Nat
  | 0, c => c
  | w + 1, c => searchBits ok w (if ok (c + 2 ^ w) then c + 2 ^ w else c)

/-- GAIN in 0.001 dB to S4.31 (R58): 10^(G/20) to nearest, ties up; minus infinity converts to 0. -/
def coefOfGain (g : Int) : Int :=
  if g = -2147483648 then 0 else if g = 0 then unity else (searchBits (gainAtLeast g) 36 0 : Nat)

/-- The linear value of a ceiling in S8.27 (R61): its S4.31 coefficient times full scale, to nearest. -/
def ceilingOf (g : Int) : Int := scale fullScale (coefOfGain g)

/-! ## Port conversions (R22, R23) -/

/-- Entry of a port word of w bits (two's complement) into S8.27 (R22). -/
def enter (w v : Nat) : Int :=
  let x := signed w v
  if w = 32 then min (fullScale - 1) ((x + 8) / 16)
  else if w = 20 then x * 256
  else x * 2 ^ (28 - w)

/-- Exit of an S8.27 sample to a port word of w bits, after dither (R23): round, clip, shift. -/
def leave (w : Nat) (x : Int) : Int :=
  if w = 32 then (if fullScale ≤ x then 2 ^ 31 - 1 else max (-(2 ^ 31)) (x * 16))
  else
    let s := 28 - w
    let r := (x + 2 ^ (s - 1)) / 2 ^ s
    max (-(2 ^ (w - 1))) (min (2 ^ (w - 1) - 1) r)

/-! ## Stored words (R27) -/

/-- The number of ones in the low n bits. -/
def ones : Nat → Nat → Nat
  | 0, _ => 0
  | n + 1, v => v % 2 + ones n (v / 2)

/-- A 9-bit byte with its odd-parity bit above it (R27). -/
def withParity (b : Nat) : Nat := b % 512 + (if ones 9 b % 2 = 0 then 512 else 0)

/-- The 40-bit stored word of a 36-bit pattern (R27). -/
def storedWord (v : Nat) : Nat :=
  withParity v + withParity (v / 512) * 2 ^ 10 + withParity (v / 2 ^ 18) * 2 ^ 20 + withParity (v / 2 ^ 27) * 2 ^ 30

/-- Whether each byte of a stored word has odd parity (R27, R28). -/
def storedClean (w : Nat) : Bool :=
  ones 10 w % 2 == 1 && ones 10 (w / 2 ^ 10) % 2 == 1 && ones 10 (w / 2 ^ 20) % 2 == 1 && ones 10 (w / 2 ^ 30) % 2 == 1

/-- The 36 data bits of a stored word. -/
def storedData (w : Nat) : Nat :=
  w % 512 + w / 2 ^ 10 % 512 * 512 + w / 2 ^ 20 % 512 * 2 ^ 18 + w / 2 ^ 30 % 512 * 2 ^ 27

/-- A sample or coefficient as its stored word (R27). -/
def toWord (v : Int) : Nat := storedWord (pattern 36 v)
/-- The sample or coefficient of a stored word. -/
def ofWord (w : Nat) : Int := signed 36 (storedData w)
/-- A stored word after an upset of one bit (R28). A word with an error keeps it. -/
def upsetWord (w : Nat) : Nat := if storedClean w then Nat.xor w 1 else w

/-- A block of samples as it is stored. -/
def blockOf (id pick : Nat) (x : List Int) (degraded : Bool) : Block := ⟨id, pick, x.map toWord, degraded, false⟩
/-- The samples of a block. -/
def Block.x (b : Block) : List Int := b.words.map ofWord

/-! ## Octets, most significant first (R341) -/

/-- The n octets of a number. -/
def beBytes : Nat → Nat → List Byte
  | 0, _ => []
  | n + 1, v => BitVec.ofNat 8 (v / 256 ^ n) :: beBytes n v

/-- The number that octets spell. -/
def beNat (bs : List Byte) : Nat := bs.foldl (fun a b => a * 256 + b.toNat) 0

/-- The number in octets from position p, n of them. -/
def field (bs : List Byte) (p n : Nat) : Nat := beNat ((bs.drop p).take n)

/-- Bits hi down to lo of a number. -/
def bits (v hi lo : Nat) : Nat := v / 2 ^ lo % 2 ^ (hi + 1 - lo)

/-- Bit n of a number. -/
def bit (v n : Nat) : Bool := v / 2 ^ n % 2 == 1

/-- A number with bit n set or cleared. -/
def setBit (v n : Nat) (b : Bool) : Nat := if bit v n == b then v else if b then v + 2 ^ n else v - 2 ^ n

/-! ## Identifiers (R45) -/

/-- KIND of a SOURCE_ID or DEST_ID. -/
def idKind (i : Nat) : Nat := bits i 31 28
/-- UNIT of a SOURCE_ID or DEST_ID. -/
def idUnit (i : Nat) : Nat := bits i 27 12
/-- CHANNEL of a SOURCE_ID or DEST_ID. -/
def idChannel (i : Nat) : Nat := bits i 11 0
/-- An identifier from its fields. -/
def endpoint (kind unit channel : Nat) : Nat := kind * 2 ^ 28 + unit * 2 ^ 12 + channel

/-! ## Digests -/

/-- One octet of a CRC of the given width and polynomial, most significant bit first. -/
def crcBits (width poly : Nat) : Nat → Nat → Nat
  | 0, c => c
  | n + 1, c =>
    let t := c * 2
    crcBits width poly n (if 2 ^ width ≤ t then Nat.xor (t % 2 ^ width) poly else t)

/-- A CRC over octets from an initial value. -/
def crc (width poly : Nat) (init : Nat) (bs : List Byte) : Nat :=
  bs.foldl (fun c b => crcBits width poly 8 (Nat.xor c (b.toNat * 2 ^ (width - 8)))) init

/-- CRC-32 of R265: polynomial 0x04C1_1DB7, initial value all ones, inverted. -/
def crc32 (bs : List Byte) : Nat := Nat.xor (crc 32 0x04C11DB7 0xFFFFFFFF bs) 0xFFFFFFFF

/-- CRC-32 over a bit string, most significant bit first, for layouts that do not end on octets (R265, R298). -/
def crc32Bits (bs : List Bool) : Nat :=
  Nat.xor (bs.foldl (fun c b =>
    let t := Nat.xor c (if b then 2 ^ 31 else 0) * 2
    if 2 ^ 32 ≤ t then Nat.xor (t % 2 ^ 32) 0x04C11DB7 else t) 0xFFFFFFFF) 0xFFFFFFFF

/-- The n low bits of a number as a bit string, most significant first. -/
def bitString : Nat → Nat → List Bool
  | 0, _ => []
  | n + 1, v => bit v n :: bitString n v

/-! ### SHA-256 and HMAC (R3, R359, R360) -/

/-- The first 32 bits behind the point of the k-th root of a number below 512. -/
def rootFraction (k p : Nat) : Nat := searchBits (fun c => Nat.ble (c ^ k) (p * 2 ^ (32 * k))) 37 0 % 2 ^ 32

/-- The first 64 primes, from which FIPS 180-4 takes its constants: all lie below 18 squared. -/
def smallPrimes : List Nat :=
  (List.range 312).filter (fun n => Nat.ble 2 n && [2, 3, 5, 7, 11, 13, 17].all (fun d => n == d || n % d != 0))

/-- A sum of 32-bit words. -/
def sum32 (xs : List Nat) : Nat := xs.sum % 2 ^ 32

/-- Exclusive or of a word turned right by each of the numbers of bits. -/
def turned (x : Nat) (ns : List Nat) : Nat :=
  ns.foldl (fun a n => Nat.xor a ((x + x * 2 ^ 32) / 2 ^ n % 2 ^ 32)) 0

/-- Word t of a block's schedule for each round from the 16 latest words, oldest first: the words of n rounds. -/
def shaWords : Nat → List Nat → List Nat
  | 0, _ => []
  | n + 1, ws =>
    let early := ws.getD 1 0
    let late := ws.getD 14 0
    let next := sum32 [ws.headD 0, Nat.xor (turned early [7, 18]) (early / 8), ws.getD 9 0,
      Nat.xor (turned late [17, 19]) (late / 1024)]
    ws.headD 0 :: shaWords n (ws.drop 1 ++ [next])

/-- The eight working words after a round with the sum of its word and its constant. -/
def shaStep (v : List Nat) (wk : Nat) : List Nat :=
  let x := fun (n : Nat) => v.getD n 0
  let pick := Nat.xor (x 6) (Nat.land (x 4) (Nat.xor (x 5) (x 6)))
  let most := Nat.lor (Nat.land (x 0) (Nat.lor (x 1) (x 2))) (Nat.land (x 1) (x 2))
  let first := x 7 + turned (x 4) [6, 11, 25] + pick + wk
  [sum32 [first, turned (x 0) [2, 13, 22], most], x 0, x 1, x 2, sum32 [x 3, first], x 4, x 5, x 6]

/-- The hash words after one block of 64 octets. -/
def shaOver (constants h : List Nat) (block : List Byte) : List Nat :=
  let ws := shaWords 64 ((List.range 16).map (fun n => field block (4 * n) 4))
  List.zipWith (fun a b => sum32 [a, b]) h ((List.zipWith (fun a b => a + b) ws constants).foldl shaStep h)

/-- The octets cut into n blocks of 64. -/
def inBlocks : Nat → List Byte → List (List Byte)
  | 0, _ => []
  | n + 1, b => b.take 64 :: inBlocks n (b.drop 64)

/-- SHA-256 (FIPS 180-4). -/
def sha256 (m : List Byte) : List Byte :=
  let zeros := 63 - (m.length + 8) % 64
  let blocks := inBlocks ((m.length + 8) / 64 + 1) (m ++ 0x80#8 :: List.replicate zeros 0 ++ beBytes 8 (8 * m.length))
  let start := (smallPrimes.take 8).map (rootFraction 2)
  (blocks.foldl (shaOver (smallPrimes.map (rootFraction 3))) start).flatMap (beBytes 4)

/-- HMAC-SHA-256 (RFC 2104, R3). -/
def hmac (key msg : List Byte) : List Byte :=
  let k0 := if 64 < key.length then sha256 key else key
  let k := k0 ++ List.replicate (64 - k0.length) 0
  sha256 (k.map (fun b => b ^^^ 0x5c#8) ++ sha256 (k.map (fun b => b ^^^ 0x36#8) ++ msg))

/-- The 16-byte message tag of R360. -/
def tag16 (key msg : List Byte) : List Byte := (hmac key msg).take 16

end Machine
end Sys2Proof
end

