-- ==== Sys2Proof/Machine/Fixed.lean ====
section
/-! DEFINITION. Real functions that the manual's formulas use, in integers: fixed-point numbers with 64 bits behind the point.
Where the manual gives a real result and says how it is rounded, the result is rounded so; where it does not, the result is
one of the two neighbours of the real one, left free by `Config.roundUp` (log entry 220). -/

namespace Sys2Proof
namespace Machine

/-- 1 in the fixed-point numbers of this file. -/
def fixOne : Int := 2 ^ 64
/-- Natural logarithm of 2. -/
def fixLn2 : Int := 12786308645202655660
/-- Natural logarithm of 10. -/
def fixLn10 : Int := 42475197399893398429
/-- Half a turn in radians. -/
def fixPi : Int := 57952155664616982739

/-- A product of two fixed-point numbers. -/
def fixMul (a b : Int) : Int := a * b / fixOne
/-- A quotient of two fixed-point numbers. -/
def fixDiv (a b : Int) : Int := if b = 0 then 0 else a * fixOne / b
/-- n / d as a fixed-point number. -/
def fixRatio (n : Int) (d : Nat) : Int := if d = 0 then 0 else n * fixOne / d

/-- 1 + x/m (1 + x/(m + 1) (…)) over n terms. -/
def seriesUp (x : Int) : Nat → Nat → Int
  | 0, _ => fixOne
  | n + 1, m => fixOne + fixMul x (seriesUp x n (m + 1)) / (m : Int)

/-- 1 - z/(m (m + 1)) (1 - z/((m + 2)(m + 3)) (…)) over n terms. -/
def seriesAlt (z : Int) : Nat → Nat → Int
  | 0, _ => fixOne
  | n + 1, m => fixOne - fixMul z (seriesAlt z n (m + 2)) / ((m * (m + 1) : Nat) : Int)

/-- e^x: the power of two of its whole multiples of ln 2, times the series of what remains. -/
def fixExp (x : Int) : Int :=
  let e := x / fixLn2
  let y := seriesUp (x % fixLn2) 24 1
  if 0 ≤ e then y * 2 ^ e.toNat else y / 2 ^ (-e).toNat

/-- 10^x. -/
def fixPow10 (x : Int) : Int := fixExp (fixMul x fixLn10)

/-- sin(pi p / 2 q) for p at most q: a quarter of a turn. -/
def fixQuarter (p q : Nat) : Int :=
  let angle := fun (a : Nat) => fixPi * a / ((2 * q : Nat) : Int)
  let square := fun (a : Nat) => fixMul (angle a) (angle a)
  if q = 0 then 0
  else if 2 * p ≤ q then fixMul (angle p) (seriesAlt (square p) 14 2)
  else seriesAlt (square (q - p)) 14 1

/-- sin(2 pi p / q). -/
def fixSine (p q : Nat) : Int :=
  let r := 4 * (p % q)
  if r < q then fixQuarter r q
  else if r < 2 * q then fixQuarter (2 * q - r) q
  else if r < 3 * q then -(fixQuarter (r - 2 * q) q)
  else -(fixQuarter (4 * q - r) q)

/-- tan(pi f / fs) for a frequency below half the rate: the prewarping of the bilinear transform. -/
def fixTan (f fs : Nat) : Int := fixDiv (fixSine f (2 * fs)) (fixSine (2 * f + fs) (4 * fs))

/-- Further bits of the logarithm to base 2 of a mantissa from 1 to 2, by squaring. -/
def logBits : Nat → Nat → Nat → Nat
  | 0, _, acc => acc
  | n + 1, m, acc =>
    let q := m * m / 2 ^ 64
    if 2 ^ 65 ≤ q then logBits n (q / 2) (2 * acc + 1) else logBits n q (2 * acc)

/-- Logarithm to base 2 of a positive number, with 64 bits behind the point. -/
def fixLog2 (v : Nat) : Int := (Nat.log2 v * 2 ^ 64 + logBits 64 (v * 2 ^ 64 / 2 ^ Nat.log2 v) 0 : Nat)

/-- Natural logarithm of n / d. -/
def fixLog (n d : Nat) : Int := fixMul (fixLog2 n - fixLog2 d) fixLn2

/-- Whole square root. -/
def sqrtNat (v : Nat) : Nat := searchBits (fun c => Nat.ble (c * c) v) (Nat.log2 v / 2 + 1) 0

/-- Square root of a fixed-point number. -/
def fixSqrt (x : Int) : Int := (sqrtNat (x.toNat * 2 ^ 64) : Nat)

/-- x / d rounded to one of its two neighbours, where the manual does not say to which; `operands` are what the result depends
on, so that equal operands round alike (R17). -/
def neighbour (x : Int) (d : Nat) (operands : List Int) : Int :=
  if x % (d : Int) = 0 then x / d else x / d + (if Config.roundUp operands then 1 else 0)

/-- A fixed-point number in S4.31, to one of its neighbours. -/
def coefNear (x : Int) (operands : List Int) : Int := neighbour x (2 ^ 33) operands
/-- A fixed-point number in S8.27, 1.0 being full scale, to one of its neighbours. -/
def sampleNear (x : Int) (operands : List Int) : Int := neighbour x (2 ^ 37) operands

/-- The linear value of a level in 2^-32 of 0.001 dB: 10^(level / 20 dB). -/
def fixOfLevel (level : Int) : Int := fixPow10 (level * 2 ^ 32 / 20000)

/-- 20 log10 of a linear value n / d in 2^-32 of 0.001 dB; minus infinity is the lowest S32. -/
def levelOf (n d : Nat) : Int :=
  if n = 0 ∨ d = 0 then -2147483648 * 2 ^ 32 else fixMul (fixLog2 n - fixLog2 d) (20000 * fixDiv fixLn2 fixLn10) / 2 ^ 32

/-- A level in 2^-32 of 0.001 dB as a reading in 0.001 dB, to one of its neighbours. -/
def readingOf (level : Int) : Int := if level ≤ -2147483648 * 2 ^ 32 then -2147483648 else neighbour level (2 ^ 32) [level]

/-- 20 log10 of a magnitude in S8.27 relative to full scale, in 0.001 dB (R91, R95, R418). -/
def decibel (x : Nat) : Int := readingOf (levelOf x (2 ^ 27))
/-- 10 log10 of a mean square: the sum of n squares of S8.27 samples, relative to full scale, in 0.001 dB (R95). -/
def decibelPower (sum n : Nat) : Int := readingOf (levelOf sum (n * 2 ^ 54) / 2)

/-- The part of the way to its target that a one-pole with a time constant of us goes in n samples of a rate: 1 - exp(-n / (t fs)). -/
def onePoleOver (us n rate : Nat) : Int := fixOne - fixExp (-(fixRatio (1000000 * n : Nat) (max 1 (us * rate))))

/-- That part for one sample (R61, R91). -/
def onePole (us rate : Nat) : Int := onePoleOver us 1 rate

/-- A value that approaches its target for n samples with a time constant in ms (R328, R330). -/
def approach (now target : Int) (ms n rate : Nat) : Int :=
  if now = target then target
  else neighbour (now * fixOne + (target - now) * onePoleOver (ms * 1000) n rate) (2 ^ 64) [now, target, ms, n, rate]

/-- Sample p of a tone of f Hz at full scale in S8.27. -/
def tone (f p rate : Nat) : Int := sampleNear (fixSine (f * p % rate) rate) [f, (f * p % rate : Nat), rate]

end Machine
end Sys2Proof
end

