-- ==== Sys2Proof/Machine/Dictionary.lean ====
section
/-! DEFINITION. The rows of the dictionary tables of all chapters (R339 to R342, R485): index and sub-index range, type,
access, default and range of every object, and the parameter slots of each object type (R72, R76). The defaults that
differ within a row (slot 23, SP0, H8, the CP and the like) stand in `rowDefault`. -/

namespace Sys2Proof
namespace Machine

/-- Value types (R341). -/
inductive Ty where
  | bool | u8 | u16 | u32 | u64 | s8 | s16 | s32 | s64 | smp36 | gain | time80 | pick64 | string | blob | enum16 | freq
  | coef36
  deriving DecidableEq, Repr

/-- Access codes (R342). -/
inductive Access where
  | ro | rw | wo | rws | rwt
  deriving DecidableEq, Repr

/-- The range column of a dictionary table. `betweenOr` admits one further value, `mask` the bits that are not reserved,
`len` the octets of a fixed-size BLOB. -/
inductive Range where
  | any
  | between (lo hi : Int)
  | betweenOr (lo hi v : Int)
  | oneOf (vs : List Int)
  | mask (m : Nat)
  | len (n : Nat)
  deriving DecidableEq, Repr

/-- One row of a dictionary table. -/
structure Row where
  idxLo : Nat
  idxHi : Nat
  subLo : Nat
  subHi : Nat
  ty : Ty
  access : Access
  dflt : Val
  range : Range
  deriving DecidableEq, Repr

/-- The GAIN code 0x8000_0000 for minus infinity (R341). -/
abbrev minusInf : Int := -2147483648

/-- A BLOB of zero octets. -/
def zeros (n : Nat) : Val := .bytes (List.replicate n 0)

namespace Obj

/-- PART_NUMBER, first entry. -/
def PART_NUMBER : Nat := 0x100100
/-- SILICON_REV, first entry. -/
def SILICON_REV : Nat := 0x100200
/-- TEMP_GRADE, first entry. -/
def TEMP_GRADE : Nat := 0x100300
/-- LOOM_ID, first entry. -/
def LOOM_ID : Nat := 0x101000
/-- SHUTTLE_HARNESS, first entry. -/
def SHUTTLE_HARNESS : Nat := 0x480001
/-- RESERVE_HARNESS, first entry. -/
def RESERVE_HARNESS : Nat := 0x480100
/-- HARNESS_STATE, first entry. -/
def HARNESS_STATE : Nat := 0x480201
/-- ENGINE_RATE, first entry. -/
def ENGINE_RATE : Nat := 0x401000
/-- PICK_LENGTH, first entry. -/
def PICK_LENGTH : Nat := 0x401100
/-- ENGINE_RATE_RUNNING, first entry. -/
def ENGINE_RATE_RUNNING : Nat := 0x401200
/-- PICK_SLACK_LAST, first entry. -/
def PICK_SLACK_LAST : Nat := 0x481300
/-- PICK_SLACK_MIN, first entry. -/
def PICK_SLACK_MIN : Nat := 0x481400
/-- SHUTTLE_SLACK_MIN, first entry. -/
def SHUTTLE_SLACK_MIN : Nat := 0x481501
/-- SLACK_CLEAR, first entry. -/
def SLACK_CLEAR : Nat := 0x481600
/-- SLACK_WARN_PERMILLE, first entry. -/
def SLACK_WARN_PERMILLE : Nat := 0x481700
/-- SLACK_ALARM_PERMILLE, first entry. -/
def SLACK_ALARM_PERMILLE : Nat := 0x481800
/-- MISSED_BATTEN_COUNT, first entry. -/
def MISSED_BATTEN_COUNT : Nat := 0x481900
/-- GRAPH_COMMIT, first entry. -/
def GRAPH_COMMIT : Nat := 0x400000
/-- GRAPH_STATUS, first entry. -/
def GRAPH_STATUS : Nat := 0x400100
/-- GRAPH_ERROR, first entry. -/
def GRAPH_ERROR : Nat := 0x400200
/-- GRAPH_GENERATION, first entry. -/
def GRAPH_GENERATION : Nat := 0x400300
/-- REED_SOURCES_USED, first entry. -/
def REED_SOURCES_USED : Nat := 0x400401
/-- REED_DESTS_USED, first entry. -/
def REED_DESTS_USED : Nat := 0x400402
/-- REED_POSITIONS, first entry. -/
def REED_POSITIONS : Nat := 0x400403
/-- MIX_POOL_USED, first entry. -/
def MIX_POOL_USED : Nat := 0x400501
/-- MIX_POOL_SIZE, first entry. -/
def MIX_POOL_SIZE : Nat := 0x400502
/-- TEMPLE_RELEASE_MS, first entry. -/
def TEMPLE_RELEASE_MS : Nat := 0x400600
/-- GRAPH_ERROR_SLOT, first entry. -/
def GRAPH_ERROR_SLOT : Nat := 0x400700
/-- ROUTE_FADE_MS, first entry. -/
def ROUTE_FADE_MS : Nat := 0x400800
/-- ROUTE_FADE_LAW, first entry. -/
def ROUTE_FADE_LAW : Nat := 0x400900
/-- TWILL_DEFAULT_MS, first entry. -/
def TWILL_DEFAULT_MS : Nat := 0x400A00
/-- TWILL_REQUEST, first entry. -/
def TWILL_REQUEST : Nat := 0x402000
/-- TWILL_ACTIVE, first entry. -/
def TWILL_ACTIVE : Nat := 0x402100
/-- OBJ_INSTANCE, first entry. -/
def OBJ_INSTANCE : Nat := 0x440001
/-- OBJ_CLASS, first entry. -/
def OBJ_CLASS : Nat := 0x448001
/-- ROUTE, first entry. -/
def ROUTE : Nat := 0x460001
/-- ROUTE_CLASS, first entry. -/
def ROUTE_CLASS : Nat := 0x462001
/-- ROUTE_LATENCY, first entry. -/
def ROUTE_LATENCY : Nat := 0x464001
/-- TEMPLE_CEILING, first entry. -/
def TEMPLE_CEILING : Nat := 0x466001
/-- OUTPUT_OPTIONS, first entry. -/
def OUTPUT_OPTIONS : Nat := 0x468001
/-- BUS_LEVEL, first entry. -/
def BUS_LEVEL : Nat := 0x470001
/-- BUS_CLASS, first entry. -/
def BUS_CLASS : Nat := 0x471001
/-- BUS_CONTRIB, first entry. -/
def BUS_CONTRIB : Nat := 0x472001
/-- CONTRIB_SET, first entry. -/
def CONTRIB_SET : Nat := 0x473000
/-- OBJ_PLACE, first entry. -/
def OBJ_PLACE : Nat := 0x450001
/-- OBJ_TIER, first entry. -/
def OBJ_TIER : Nat := 0x458001
/-- PLACE_QUIET, first entry. -/
def PLACE_QUIET : Nat := 0x482800
/-- SHUTTLE_RATING, first entry. -/
def SHUTTLE_RATING : Nat := 0x482001
/-- SHUTTLE_LOAD, first entry. -/
def SHUTTLE_LOAD : Nat := 0x482201
/-- SHUTTLE_BUDGET, first entry. -/
def SHUTTLE_BUDGET : Nat := 0x482301
/-- COMMITTED_SHUTTLES, first entry. -/
def COMMITTED_SHUTTLES : Nat := 0x482400
/-- PLACE_CAPACITY, first entry. -/
def PLACE_CAPACITY : Nat := 0x482500
/-- PLACE_LOAD, first entry. -/
def PLACE_LOAD : Nat := 0x482600
/-- CORNER_FACTOR, first entry. -/
def CORNER_FACTOR : Nat := 0x482700
/-- RETIRED_HARNESSES, first entry. -/
def RETIRED_HARNESSES : Nat := 0x482900
/-- WARP_STORE_USED, first entry. -/
def WARP_STORE_USED : Nat := 0x483001
/-- DDR_USED, first entry. -/
def DDR_USED : Nat := 0x483002
/-- DDR_BW_BUDGET, first entry. -/
def DDR_BW_BUDGET : Nat := 0x483003
/-- DDR_BW_USED, first entry. -/
def DDR_BW_USED : Nat := 0x483004
/-- REWEAVE_MOVES_DONE, first entry. -/
def REWEAVE_MOVES_DONE : Nat := 0x490001
/-- REWEAVE_MOVES_ACTIVE, first entry. -/
def REWEAVE_MOVES_ACTIVE : Nat := 0x490002
/-- REWEAVE_MISMATCH, first entry. -/
def REWEAVE_MISMATCH : Nat := 0x490003
/-- REWEAVE_UNVERIFIED, first entry. -/
def REWEAVE_UNVERIFIED : Nat := 0x490004
/-- REWEAVE_ABANDONED, first entry. -/
def REWEAVE_ABANDONED : Nat := 0x490005
/-- STATE_LOST_COUNT, first entry. -/
def STATE_LOST_COUNT : Nat := 0x490006
/-- REWEAVE_MAX_ACTIVE, first entry. -/
def REWEAVE_MAX_ACTIVE : Nat := 0x490100
/-- OVERFLOW_ENABLE, first entry. -/
def OVERFLOW_ENABLE : Nat := 0x4A0000
/-- OVERFLOW_GUEST_PERMILLE, first entry. -/
def OVERFLOW_GUEST_PERMILLE : Nat := 0x4A0100
/-- OVERFLOW_PARTNER, first entry. -/
def OVERFLOW_PARTNER : Nat := 0x4A0201
/-- OVERFLOW_OUT, first entry. -/
def OVERFLOW_OUT : Nat := 0x4A0300
/-- OVERFLOW_GUESTS, first entry. -/
def OVERFLOW_GUESTS : Nat := 0x4A0400
/-- OVERFLOW_GUEST_LOAD, first entry. -/
def OVERFLOW_GUEST_LOAD : Nat := 0x4A0500
/-- SELV_DEST, first entry. -/
def SELV_DEST : Nat := 0x4C0001
/-- SELV_SOURCE, first entry. -/
def SELV_SOURCE : Nat := 0x4C0002
/-- SELV_SRC_GAIN, first entry. -/
def SELV_SRC_GAIN : Nat := 0x4C000A
/-- SELV_GAIN, first entry. -/
def SELV_GAIN : Nat := 0x4C0012
/-- SELV_POLARITY, first entry. -/
def SELV_POLARITY : Nat := 0x4C0013
/-- SELV_MUTE, first entry. -/
def SELV_MUTE : Nat := 0x4C0014
/-- SELV_RAMP_MS, first entry. -/
def SELV_RAMP_MS : Nat := 0x4C0015
/-- SELV_TEMPLE_CEILING, first entry. -/
def SELV_TEMPLE_CEILING : Nat := 0x4C0016
/-- SELV_LIMIT_RELEASE_MS, first entry. -/
def SELV_LIMIT_RELEASE_MS : Nat := 0x4C0017
/-- SELV_OPTIONS, first entry. -/
def SELV_OPTIONS : Nat := 0x4C0018
/-- SELV_LIMIT_COUNT, first entry. -/
def SELV_LIMIT_COUNT : Nat := 0x4C0019
/-- SELV_FAULT_COUNT, first entry. -/
def SELV_FAULT_COUNT : Nat := 0x4C001A
/-- SELV_PARITY_EVENTS, first entry. -/
def SELV_PARITY_EVENTS : Nat := 0x4C4001
/-- SELV_MISMATCH_EVENTS, first entry. -/
def SELV_MISMATCH_EVENTS : Nat := 0x4C4002
/-- ENGINE_TIME, first entry. -/
def ENGINE_TIME : Nat := 0xE00000
/-- PICK_COUNT, first entry. -/
def PICK_COUNT : Nat := 0xE00100
/-- BATTEN_TIME, first entry. -/
def BATTEN_TIME : Nat := 0xE00200
/-- TIME_STATE, first entry. -/
def TIME_STATE : Nat := 0xE00300
/-- TIME_OFFSET, first entry. -/
def TIME_OFFSET : Nat := 0xE00400
/-- TIME_SLEW_PPB, first entry. -/
def TIME_SLEW_PPB : Nat := 0xE00500
/-- TIME_STEP_ENABLE, first entry. -/
def TIME_STEP_ENABLE : Nat := 0xE00600
/-- TIME_SET, first entry. -/
def TIME_SET : Nat := 0xE00700
/-- TIME_STEP_COUNT, first entry. -/
def TIME_STEP_COUNT : Nat := 0xE00800
/-- TIMED_QUEUE_SIZE, first entry. -/
def TIMED_QUEUE_SIZE : Nat := 0xE01000
/-- TIMED_QUEUE_USED, first entry. -/
def TIMED_QUEUE_USED : Nat := 0xE01100
/-- TIMED_LATE_POLICY, first entry. -/
def TIMED_LATE_POLICY : Nat := 0xE01200
/-- TIMED_HORIZON_S, first entry. -/
def TIMED_HORIZON_S : Nat := 0xE01300
/-- TIMED_CANCEL, first entry. -/
def TIMED_CANCEL : Nat := 0xE01400
/-- TIMED_CANCEL_TAG, first entry. -/
def TIMED_CANCEL_TAG : Nat := 0xE01500
/-- TIMED_APPLIED, first entry. -/
def TIMED_APPLIED : Nat := 0xE01601
/-- TIMED_LATE_COUNT, first entry. -/
def TIMED_LATE_COUNT : Nat := 0xE01602
/-- TIMED_DISCARDED, first entry. -/
def TIMED_DISCARDED : Nat := 0xE01603
/-- TIMED_ORPHANED, first entry. -/
def TIMED_ORPHANED : Nat := 0xE01604
/-- REF_CAND_SOURCE, first entry. -/
def REF_CAND_SOURCE : Nat := 0x210001
/-- REF_CAND_DOMAIN, first entry. -/
def REF_CAND_DOMAIN : Nat := 0x210002
/-- REF_CAND_QUALITY, first entry. -/
def REF_CAND_QUALITY : Nat := 0x210003
/-- REF_CAND_QUAL_CFG, first entry. -/
def REF_CAND_QUAL_CFG : Nat := 0x210004
/-- REF_CAND_PRIORITY, first entry. -/
def REF_CAND_PRIORITY : Nat := 0x210005
/-- REF_CAND_STATE, first entry. -/
def REF_CAND_STATE : Nat := 0x210006
/-- REF_CAND_FREQ_PPB, first entry. -/
def REF_CAND_FREQ_PPB : Nat := 0x210007
/-- REF_CAND_RATE_PPB, first entry. -/
def REF_CAND_RATE_PPB : Nat := 0x210008
/-- REF_CAND_NOMINAL, first entry. -/
def REF_CAND_NOMINAL : Nat := 0x210009
/-- REF_CAND_DISQ_COUNT, first entry. -/
def REF_CAND_DISQ_COUNT : Nat := 0x21000A
/-- REF_SELECTED, first entry. -/
def REF_SELECTED : Nat := 0x200000
/-- REF_SUCCESSOR, first entry. -/
def REF_SUCCESSOR : Nat := 0x200100
/-- REF_FORCE, first entry. -/
def REF_FORCE : Nat := 0x200200
/-- REF_SOFT_PPB, first entry. -/
def REF_SOFT_PPB : Nat := 0x200300
/-- REF_HARD_PPB, first entry. -/
def REF_HARD_PPB : Nat := 0x200400
/-- REF_RATE_PPB, first entry. -/
def REF_RATE_PPB : Nat := 0x200500
/-- REF_DISAGREE_PPB, first entry. -/
def REF_DISAGREE_PPB : Nat := 0x200600
/-- REF_QUALIFY_S, first entry. -/
def REF_QUALIFY_S : Nat := 0x200700
/-- REF_REQUAL_S, first entry. -/
def REF_REQUAL_S : Nat := 0x200800
/-- REF_REVERTIVE, first entry. -/
def REF_REVERTIVE : Nat := 0x200900
/-- REF_WTR_S, first entry. -/
def REF_WTR_S : Nat := 0x200A00
/-- REF_YARDSTICK, first entry. -/
def REF_YARDSTICK : Nat := 0x200B00
/-- XO_OFFSET_PPB, first entry. -/
def XO_OFFSET_PPB : Nat := 0x200C00
/-- REF_SWITCH_COUNT, first entry. -/
def REF_SWITCH_COUNT : Nat := 0x200D00
/-- REF_ADVERTISED, first entry. -/
def REF_ADVERTISED : Nat := 0x200E00
/-- REF_STEER_PPB, first entry. -/
def REF_STEER_PPB : Nat := 0x200F00
/-- SP_ROLE, first entry. -/
def SP_ROLE : Nat := 0x220001
/-- SP_SOURCE, first entry. -/
def SP_SOURCE : Nat := 0x220002
/-- SP_RATE, first entry. -/
def SP_RATE : Nat := 0x220003
/-- SP_STATE, first entry. -/
def SP_STATE : Nat := 0x220004
/-- SP_CONTROL, first entry. -/
def SP_CONTROL : Nat := 0x220005
/-- SP_BW_MHZ, first entry. -/
def SP_BW_MHZ : Nat := 0x220006
/-- SP_HOLD_ELAPSED_S, first entry. -/
def SP_HOLD_ELAPSED_S : Nat := 0x220007
/-- SP_HOLD_SOURCE, first entry. -/
def SP_HOLD_SOURCE : Nat := 0x220008
/-- HOLD_AVG_WINDOW_S, first entry. -/
def HOLD_AVG_WINDOW_S : Nat := 0x230000
/-- HOLD_HISTORY_OFFSET_S, first entry. -/
def HOLD_HISTORY_OFFSET_S : Nat := 0x230100
/-- XO_DRIFT, first entry. -/
def XO_DRIFT : Nat := 0x230200
/-- SP_HOLD_SPEC_PPB, first entry. -/
def SP_HOLD_SPEC_PPB : Nat := 0x230300
/-- SP_HOLD_TIMER_S, first entry. -/
def SP_HOLD_TIMER_S : Nat := 0x230400
/-- HOLD_AVG_VALUE, first entry. -/
def HOLD_AVG_VALUE : Nat := 0x230500
/-- REFST_CODE, first entry. -/
def REFST_CODE : Nat := 0x201000
/-- OUT_SPINDLE, first entry. -/
def OUT_SPINDLE : Nat := 0x240001
/-- OUT_KIND, first entry. -/
def OUT_KIND : Nat := 0x240002
/-- OUT_WIDTH_NS, first entry. -/
def OUT_WIDTH_NS : Nat := 0x240003
/-- ALIGN_SOURCE, first entry. -/
def ALIGN_SOURCE : Nat := 0x240004
/-- ALIGN_OFFSET_NS, first entry. -/
def ALIGN_OFFSET_NS : Nat := 0x240005
/-- ALIGN_MODE, first entry. -/
def ALIGN_MODE : Nat := 0x240006
/-- ALIGN_STATE, first entry. -/
def ALIGN_STATE : Nat := 0x240007
/-- ALIGN_ERROR_NS, first entry. -/
def ALIGN_ERROR_NS : Nat := 0x240008
/-- ALIGN_TOL_NS, first entry. -/
def ALIGN_TOL_NS : Nat := 0x241000
/-- ALIGN_SLEW_PPB, first entry. -/
def ALIGN_SLEW_PPB : Nat := 0x241100
/-- PTP_GM_ENABLE, first entry. -/
def PTP_GM_ENABLE : Nat := 0x250001
/-- PTP_GM_DOMAIN, first entry. -/
def PTP_GM_DOMAIN : Nat := 0x250002
/-- PTP_PRIORITY1, first entry. -/
def PTP_PRIORITY1 : Nat := 0x250003
/-- PTP_PRIORITY2, first entry. -/
def PTP_PRIORITY2 : Nat := 0x250004
/-- PTP_PORT_STATE, first entry. -/
def PTP_PORT_STATE : Nat := 0x250005
/-- PTP_CLOCK_CLASS, first entry. -/
def PTP_CLOCK_CLASS : Nat := 0x250006
/-- PTP_CLOCK_ACCURACY, first entry. -/
def PTP_CLOCK_ACCURACY : Nat := 0x250007
/-- PTP_HOLDOVER_CLASS_S, first entry. -/
def PTP_HOLDOVER_CLASS_S : Nat := 0x251000
/-- TDM_MODE, first entry. -/
def TDM_MODE : Nat := 0x300001
/-- TDM_SPINDLE, first entry. -/
def TDM_SPINDLE : Nat := 0x300002
/-- TDM_RATE, first entry. -/
def TDM_RATE : Nat := 0x300003
/-- TDM_SLOTS, first entry. -/
def TDM_SLOTS : Nat := 0x300004
/-- TDM_WORD, first entry. -/
def TDM_WORD : Nat := 0x300005
/-- TDM_FORMAT, first entry. -/
def TDM_FORMAT : Nat := 0x300006
/-- TDM_RX_MASK, first entry. -/
def TDM_RX_MASK : Nat := 0x300007
/-- TDM_TX_MASK, first entry. -/
def TDM_TX_MASK : Nat := 0x300008
/-- AES_IN_ENABLE, first entry. -/
def AES_IN_ENABLE : Nat := 0x310001
/-- AES_IN_CS_A, first entry. -/
def AES_IN_CS_A : Nat := 0x310002
/-- AES_IN_CS_B, first entry. -/
def AES_IN_CS_B : Nat := 0x310003
/-- AES_IN_CRC_ERRORS, first entry. -/
def AES_IN_CRC_ERRORS : Nat := 0x310004
/-- AES_IN_V_COUNT, first entry. -/
def AES_IN_V_COUNT : Nat := 0x310005
/-- AES_IN_NONAUDIO, first entry. -/
def AES_IN_NONAUDIO : Nat := 0x310006
/-- AES_OUT_SPINDLE, first entry. -/
def AES_OUT_SPINDLE : Nat := 0x310801
/-- AES_OUT_WORD, first entry. -/
def AES_OUT_WORD : Nat := 0x310802
/-- AES_OUT_CS_MODE, first entry. -/
def AES_OUT_CS_MODE : Nat := 0x310803
/-- AES_OUT_CS, first entry. -/
def AES_OUT_CS : Nat := 0x310804
/-- MADI_IN_ENABLE, first entry. -/
def MADI_IN_ENABLE : Nat := 0x320001
/-- MADI_IN_MODE, first entry. -/
def MADI_IN_MODE : Nat := 0x320002
/-- MADI_IN_CODE_ERRORS, first entry. -/
def MADI_IN_CODE_ERRORS : Nat := 0x320003
/-- MADI_IN_NONAUDIO, first entry. -/
def MADI_IN_NONAUDIO : Nat := 0x320004
/-- MADI_OUT_MODE, first entry. -/
def MADI_OUT_MODE : Nat := 0x320801
/-- MADI_OUT_SPINDLE, first entry. -/
def MADI_OUT_SPINDLE : Nat := 0x320802
/-- PORT_STATE, sub-index of every input port. -/
def PORT_STATE : Nat := 0x10
/-- PORT_RATE_MEAS, sub-index of every input port. -/
def PORT_RATE_MEAS : Nat := 0x11
/-- PORT_RATE_NOMINAL, sub-index of every input port. -/
def PORT_RATE_NOMINAL : Nat := 0x12
/-- PORT_PHASE_NS, sub-index of every input port. -/
def PORT_PHASE_NS : Nat := 0x13
/-- PORT_FAULT_COUNT, sub-index of every input port. -/
def PORT_FAULT_COUNT : Nat := 0x14
/-- PORT_LAST_FAULT, sub-index of every input port. -/
def PORT_LAST_FAULT : Nat := 0x15
/-- PORT_SLIP_COUNT, sub-index of every input port. -/
def PORT_SLIP_COUNT : Nat := 0x16
/-- PORT_ERROR_COUNT, sub-index of every input port. -/
def PORT_ERROR_COUNT : Nat := 0x17
/-- NONAUDIO_HOLD_MS, first entry. -/
def NONAUDIO_HOLD_MS : Nat := 0x350000
/-- ASRC_CHAN_INSTANCE, first entry. -/
def ASRC_CHAN_INSTANCE : Nat := 0x330001
/-- ASRC_RATIO, first entry. -/
def ASRC_RATIO : Nat := 0x330201
/-- ASRC_STATE, first entry. -/
def ASRC_STATE : Nat := 0x330401
/-- ASRC_USED, first entry. -/
def ASRC_USED : Nat := 0x330600
/-- ASRC_DELAY_NS, first entry. -/
def ASRC_DELAY_NS : Nat := 0x330701
/-- WG_STRICT, first entry. -/
def WG_STRICT : Nat := 0x340001
/-- WG_DELAY_SAMPLES, first entry. -/
def WG_DELAY_SAMPLES : Nat := 0x340002
/-- WG_MEMBER, first entry. -/
def WG_MEMBER : Nat := 0x340003
/-- WG_STATE, first entry. -/
def WG_STATE : Nat := 0x340023
/-- WG_UNDERRUN_COUNT, first entry. -/
def WG_UNDERRUN_COUNT : Nat := 0x340024
/-- GPIO_MODE, first entry. -/
def GPIO_MODE : Nat := 0x360001
/-- GPIO_LEVEL, first entry. -/
def GPIO_LEVEL : Nat := 0x360002
/-- GPIO_IN, first entry. -/
def GPIO_IN : Nat := 0x360003
/-- GPIO_POLARITY, first entry. -/
def GPIO_POLARITY : Nat := 0x360004
/-- MAC_MODE, first entry. -/
def MAC_MODE : Nat := 0xC00001
/-- MAC_ADDRESS, first entry. -/
def MAC_ADDRESS : Nat := 0xC00002
/-- IP_ADDRESS, first entry. -/
def IP_ADDRESS : Nat := 0xC00003
/-- IP_NETMASK, first entry. -/
def IP_NETMASK : Nat := 0xC00004
/-- IP_GATEWAY, first entry. -/
def IP_GATEWAY : Nat := 0xC00005
/-- VLAN_ID, first entry. -/
def VLAN_ID : Nat := 0xC00006
/-- PCP_MEDIA, first entry. -/
def PCP_MEDIA : Nat := 0xC00007
/-- PCP_PTP, first entry. -/
def PCP_PTP : Nat := 0xC00008
/-- PFC_PRIORITY, first entry. -/
def PFC_PRIORITY : Nat := 0xC00009
/-- IGMP_VERSION, first entry. -/
def IGMP_VERSION : Nat := 0xC0000A
/-- LINK_STATE, first entry. -/
def LINK_STATE : Nat := 0xC0000B
/-- LINK_DOWN_COUNT, first entry. -/
def LINK_DOWN_COUNT : Nat := 0xC0000C
/-- MEDIA_BW_USED, first entry. -/
def MEDIA_BW_USED : Nat := 0xC0000D
/-- MEDIA_BW_LIMIT, first entry. -/
def MEDIA_BW_LIMIT : Nat := 0xC0000E
/-- MS_RX_STREAMS_USED, first entry. -/
def MS_RX_STREAMS_USED : Nat := 0xC10001
/-- MS_TX_STREAMS_USED, first entry. -/
def MS_TX_STREAMS_USED : Nat := 0xC10002
/-- MS_RX_CHANNELS_USED, first entry. -/
def MS_RX_CHANNELS_USED : Nat := 0xC10003
/-- MS_TX_CHANNELS_USED, first entry. -/
def MS_TX_CHANNELS_USED : Nat := 0xC10004
/-- MS_TX_ENABLE, first entry. -/
def MS_TX_ENABLE : Nat := 0xC50001
/-- MS_TX_FORMAT, first entry. -/
def MS_TX_FORMAT : Nat := 0xC50002
/-- MS_TX_CHANNELS, first entry. -/
def MS_TX_CHANNELS : Nat := 0xC50003
/-- MS_TX_RATE, first entry. -/
def MS_TX_RATE : Nat := 0xC50004
/-- MS_TX_PTIME, first entry. -/
def MS_TX_PTIME : Nat := 0xC50005
/-- MS_TX_LEGS, first entry. -/
def MS_TX_LEGS : Nat := 0xC50006
/-- MS_TX_DEST_IP0, first entry. -/
def MS_TX_DEST_IP0 : Nat := 0xC50007
/-- MS_TX_DEST_IP1, first entry. -/
def MS_TX_DEST_IP1 : Nat := 0xC50008
/-- MS_TX_UDP_PORT, first entry. -/
def MS_TX_UDP_PORT : Nat := 0xC50009
/-- MS_TX_PT, first entry. -/
def MS_TX_PT : Nat := 0xC5000A
/-- MS_TX_TS_OFFSET, first entry. -/
def MS_TX_TS_OFFSET : Nat := 0xC5000B
/-- MS_TX_SSRC, first entry. -/
def MS_TX_SSRC : Nat := 0xC5000C
/-- MS_TX_DSCP, first entry. -/
def MS_TX_DSCP : Nat := 0xC5000D
/-- MS_TX_TTL, first entry. -/
def MS_TX_TTL : Nat := 0xC5000E
/-- MS_TX_EXT_ENABLE, first entry. -/
def MS_TX_EXT_ENABLE : Nat := 0xC5000F
/-- MS_TX_EXT_ID, first entry. -/
def MS_TX_EXT_ID : Nat := 0xC50010
/-- MS_TX_PACKETS, first entry. -/
def MS_TX_PACKETS : Nat := 0xC50011
/-- MS_TX_STATE, first entry. -/
def MS_TX_STATE : Nat := 0xC50012
/-- MS_RX_ENABLE, first entry. -/
def MS_RX_ENABLE : Nat := 0xC40001
/-- MS_RX_FORMAT, first entry. -/
def MS_RX_FORMAT : Nat := 0xC40002
/-- MS_RX_CHANNELS, first entry. -/
def MS_RX_CHANNELS : Nat := 0xC40003
/-- MS_RX_RATE, first entry. -/
def MS_RX_RATE : Nat := 0xC40004
/-- MS_RX_PTIME, first entry. -/
def MS_RX_PTIME : Nat := 0xC40005
/-- MS_RX_LEGS, first entry. -/
def MS_RX_LEGS : Nat := 0xC40006
/-- MS_RX_DEST_IP0, first entry. -/
def MS_RX_DEST_IP0 : Nat := 0xC40007
/-- MS_RX_DEST_IP1, first entry. -/
def MS_RX_DEST_IP1 : Nat := 0xC40008
/-- MS_RX_UDP_PORT, first entry. -/
def MS_RX_UDP_PORT : Nat := 0xC40009
/-- MS_RX_SRC_IP0, first entry. -/
def MS_RX_SRC_IP0 : Nat := 0xC4000A
/-- MS_RX_SRC_IP1, first entry. -/
def MS_RX_SRC_IP1 : Nat := 0xC4000C
/-- MS_RX_PT, first entry. -/
def MS_RX_PT : Nat := 0xC4000E
/-- MS_RX_TS_OFFSET, first entry. -/
def MS_RX_TS_OFFSET : Nat := 0xC4000F
/-- MS_RX_DELAY, first entry. -/
def MS_RX_DELAY : Nat := 0xC40010
/-- MS_RX_SYNC, first entry. -/
def MS_RX_SYNC : Nat := 0xC40011
/-- MS_RX_STATE, first entry. -/
def MS_RX_STATE : Nat := 0xC40012
/-- MS_RX_PACKETS, first entry. -/
def MS_RX_PACKETS : Nat := 0xC40013
/-- MS_RX_DUP, first entry. -/
def MS_RX_DUP : Nat := 0xC40014
/-- MS_RX_LOST, first entry. -/
def MS_RX_LOST : Nat := 0xC40015
/-- MS_RX_LATE, first entry. -/
def MS_RX_LATE : Nat := 0xC40016
/-- MS_RX_LEG_MISSING, first entry. -/
def MS_RX_LEG_MISSING : Nat := 0xC40017
/-- MS_RX_DEGRADED, first entry. -/
def MS_RX_DEGRADED : Nat := 0xC40019
/-- MS_RX_SKEW_NS, first entry. -/
def MS_RX_SKEW_NS : Nat := 0xC4001A
/-- MS_RX_MALFORMED, first entry. -/
def MS_RX_MALFORMED : Nat := 0xC4001B
/-- MS_RX_SSRC, first entry. -/
def MS_RX_SSRC : Nat := 0xC4001C
/-- MS_RX_EXT_ID, first entry. -/
def MS_RX_EXT_ID : Nat := 0xC4001D
/-- WAKE_ENABLE, first entry. -/
def WAKE_ENABLE : Nat := 0xC03001
/-- WAKE_OFFSET, first entry. -/
def WAKE_OFFSET : Nat := 0xC03002
/-- WAKE_MASK, first entry. -/
def WAKE_MASK : Nat := 0xC03003
/-- WAKE_CRC, first entry. -/
def WAKE_CRC : Nat := 0xC03004
/-- WAKE_MATCH, first entry. -/
def WAKE_MATCH : Nat := 0xC03801
/-- WAKE_FRAME, first entry. -/
def WAKE_FRAME : Nat := 0xC03802
/-- WAKE_ON_LINK, first entry. -/
def WAKE_ON_LINK : Nat := 0xC03803
/-- RX_FRAMES_OK, first entry. -/
def RX_FRAMES_OK : Nat := 0xC01001
/-- RX_OCTETS_64, first entry. -/
def RX_OCTETS_64 : Nat := 0xC01002
/-- RX_MULTICAST, first entry. -/
def RX_MULTICAST : Nat := 0xC01003
/-- RX_BROADCAST, first entry. -/
def RX_BROADCAST : Nat := 0xC01004
/-- RX_SIZE_BIN, first entry. -/
def RX_SIZE_BIN : Nat := 0xC01005
/-- RX_FCS_ERRORS, first entry. -/
def RX_FCS_ERRORS : Nat := 0xC0100D
/-- RX_CODE_ERRORS, first entry. -/
def RX_CODE_ERRORS : Nat := 0xC0100E
/-- RX_UNDERSIZE, first entry. -/
def RX_UNDERSIZE : Nat := 0xC0100F
/-- RX_FRAGMENTS, first entry. -/
def RX_FRAGMENTS : Nat := 0xC01010
/-- RX_OVERSIZE, first entry. -/
def RX_OVERSIZE : Nat := 0xC01011
/-- RX_JABBER, first entry. -/
def RX_JABBER : Nat := 0xC01012
/-- RX_PAUSE, first entry. -/
def RX_PAUSE : Nat := 0xC01013
/-- RX_PFC, first entry. -/
def RX_PFC : Nat := 0xC01014
/-- RX_IP_HDR_ERRORS, first entry. -/
def RX_IP_HDR_ERRORS : Nat := 0xC01015
/-- RX_UDP_CSUM_ERRORS, first entry. -/
def RX_UDP_CSUM_ERRORS : Nat := 0xC01016
/-- RX_IP_FRAGMENTS, first entry. -/
def RX_IP_FRAGMENTS : Nat := 0xC01017
/-- RX_UNMATCHED, first entry. -/
def RX_UNMATCHED : Nat := 0xC01018
/-- RX_DROP_TIMING, first entry. -/
def RX_DROP_TIMING : Nat := 0xC01019
/-- RX_DROP_MEDIA, first entry. -/
def RX_DROP_MEDIA : Nat := 0xC0101A
/-- RX_DROP_BULK, first entry. -/
def RX_DROP_BULK : Nat := 0xC0101B
/-- RX_DROP_CONTROL, first entry. -/
def RX_DROP_CONTROL : Nat := 0xC0101C
/-- RX_VLAN_MISMATCH, first entry. -/
def RX_VLAN_MISMATCH : Nat := 0xC0101D
/-- TX_FRAMES_OK, first entry. -/
def TX_FRAMES_OK : Nat := 0xC01801
/-- TX_OCTETS_64, first entry. -/
def TX_OCTETS_64 : Nat := 0xC01802
/-- TX_MULTICAST, first entry. -/
def TX_MULTICAST : Nat := 0xC01803
/-- TX_BROADCAST, first entry. -/
def TX_BROADCAST : Nat := 0xC01804
/-- TX_SIZE_BIN, first entry. -/
def TX_SIZE_BIN : Nat := 0xC01805
/-- TX_PAUSE, first entry. -/
def TX_PAUSE : Nat := 0xC0180D
/-- TX_PFC, first entry. -/
def TX_PFC : Nat := 0xC0180E
/-- TX_MEDIA_LATE, first entry. -/
def TX_MEDIA_LATE : Nat := 0xC0180F
/-- TX_HELD_US, first entry. -/
def TX_HELD_US : Nat := 0xC01810
/-- TX_BULK_DROPPED, first entry. -/
def TX_BULK_DROPPED : Nat := 0xC01811
/-- NET_STATS_SNAPSHOT, first entry. -/
def NET_STATS_SNAPSHOT : Nat := 0xC01F00
/-- PTP_PROFILE, first entry. -/
def PTP_PROFILE : Nat := 0xC04001
/-- PTP_SYNC_LOG, first entry. -/
def PTP_SYNC_LOG : Nat := 0xC04002
/-- PTP_ANNOUNCE_LOG, first entry. -/
def PTP_ANNOUNCE_LOG : Nat := 0xC04003
/-- PTP_ANNOUNCE_TIMEOUT, first entry. -/
def PTP_ANNOUNCE_TIMEOUT : Nat := 0xC04004
/-- PTP_DELAY_REQ_LOG, first entry. -/
def PTP_DELAY_REQ_LOG : Nat := 0xC04005
/-- PTP_ASYMMETRY_NS, first entry. -/
def PTP_ASYMMETRY_NS : Nat := 0xC04006
/-- PHY_RX_DELAY_NS, first entry. -/
def PHY_RX_DELAY_NS : Nat := 0xC04007
/-- PHY_TX_DELAY_NS, first entry. -/
def PHY_TX_DELAY_NS : Nat := 0xC04008
/-- PTP_RX_STAMPED, first entry. -/
def PTP_RX_STAMPED : Nat := 0xC04009
/-- PTP_TX_STAMPED, first entry. -/
def PTP_TX_STAMPED : Nat := 0xC0400A
/-- SW_ENABLE, first entry. -/
def SW_ENABLE : Nat := 0xB00001
/-- SW_FEC, first entry. -/
def SW_FEC : Nat := 0xB00002
/-- SW_PRECODE, first entry. -/
def SW_PRECODE : Nat := 0xB00003
/-- SW_TX_PRESET, first entry. -/
def SW_TX_PRESET : Nat := 0xB00004
/-- SW_LOOPBACK, first entry. -/
def SW_LOOPBACK : Nat := 0xB00005
/-- SW_FAR_LOOP_ALLOW, first entry. -/
def SW_FAR_LOOP_ALLOW : Nat := 0xB00006
/-- SW_RETRAIN, first entry. -/
def SW_RETRAIN : Nat := 0xB00007
/-- SW_STATE, first entry. -/
def SW_STATE : Nat := 0xB00008
/-- SW_PARTNER_LOOM, first entry. -/
def SW_PARTNER_LOOM : Nat := 0xB00009
/-- SW_HOP_NS, first entry. -/
def SW_HOP_NS : Nat := 0xB0000A
/-- SW_PICK_ADDED, first entry. -/
def SW_PICK_ADDED : Nat := 0xB0000B
/-- SW_FREQ_PPB, first entry. -/
def SW_FREQ_PPB : Nat := 0xB0000C
/-- SW_FEC_ACTIVE, first entry. -/
def SW_FEC_ACTIVE : Nat := 0xB0000D
/-- SW_CRC_ERRORS, first entry. -/
def SW_CRC_ERRORS : Nat := 0xB0000E
/-- SW_FEC_CORRECTED, first entry. -/
def SW_FEC_CORRECTED : Nat := 0xB0000F
/-- SW_FEC_UNCORRECTABLE, first entry. -/
def SW_FEC_UNCORRECTABLE : Nat := 0xB00010
/-- SW_DOWN_COUNT, first entry. -/
def SW_DOWN_COUNT : Nat := 0xB00011
/-- SW_TRAIN_COUNT, first entry. -/
def SW_TRAIN_COUNT : Nat := 0xB00012
/-- SW_AUDIO_LOAD, first entry. -/
def SW_AUDIO_LOAD : Nat := 0xB00013
/-- SW_PRBS_ERRORS, first entry. -/
def SW_PRBS_ERRORS : Nat := 0xB00014
/-- SW_EQ_STORED_LOOM, first entry. -/
def SW_EQ_STORED_LOOM : Nat := 0xB00015
/-- SW_LANE_TX_PRE, first entry. -/
def SW_LANE_TX_PRE : Nat := 0xB01001
/-- SW_LANE_TX_MAIN, first entry. -/
def SW_LANE_TX_MAIN : Nat := 0xB01002
/-- SW_LANE_TX_POST, first entry. -/
def SW_LANE_TX_POST : Nat := 0xB01003
/-- SW_LANE_EQF, first entry. -/
def SW_LANE_EQF : Nat := 0xB01004
/-- SW_LANE_SKEW_UI, first entry. -/
def SW_LANE_SKEW_UI : Nat := 0xB01005
/-- SW_LANE_PHYS, first entry. -/
def SW_LANE_PHYS : Nat := 0xB01006
/-- SW_LANE_EQF_MIN, first entry. -/
def SW_LANE_EQF_MIN : Nat := 0xB01007
/-- SW_EQF_TRAINED, first entry. -/
def SW_EQF_TRAINED : Nat := 0xB03000
/-- SW_EQF_WARN, first entry. -/
def SW_EQF_WARN : Nat := 0xB03100
/-- SW_TRAIN_TIMEOUT_MS, first entry. -/
def SW_TRAIN_TIMEOUT_MS : Nat := 0xB03200
/-- SW_AUDIO_LIMIT_PERMILLE, first entry. -/
def SW_AUDIO_LIMIT_PERMILLE : Nat := 0xB03300
/-- SW_TX_ENABLE, first entry. -/
def SW_TX_ENABLE : Nat := 0xB40001
/-- SW_TX_PORTS, first entry. -/
def SW_TX_PORTS : Nat := 0xB40002
/-- SW_TX_STREAM_ID, first entry. -/
def SW_TX_STREAM_ID : Nat := 0xB40003
/-- SW_TX_CHANNELS, first entry. -/
def SW_TX_CHANNELS : Nat := 0xB40004
/-- SW_TX_CUTS, first entry. -/
def SW_TX_CUTS : Nat := 0xB40005
/-- SW_RX_ENABLE, first entry. -/
def SW_RX_ENABLE : Nat := 0xB50001
/-- SW_RX_PORTS, first entry. -/
def SW_RX_PORTS : Nat := 0xB50002
/-- SW_RX_STREAM_ID, first entry. -/
def SW_RX_STREAM_ID : Nat := 0xB50003
/-- SW_RX_CHANNELS, first entry. -/
def SW_RX_CHANNELS : Nat := 0xB50004
/-- SW_RX_SOURCE, first entry. -/
def SW_RX_SOURCE : Nat := 0xB50005
/-- SW_RX_STATE, first entry. -/
def SW_RX_STATE : Nat := 0xB50007
/-- SW_RX_CUTS, first entry. -/
def SW_RX_CUTS : Nat := 0xB50008
/-- SW_RX_DUP, first entry. -/
def SW_RX_DUP : Nat := 0xB50009
/-- SW_RX_LOST, first entry. -/
def SW_RX_LOST : Nat := 0xB5000A
/-- SW_RX_LATE, first entry. -/
def SW_RX_LATE : Nat := 0xB5000B
/-- SW_RX_DEGRADED, first entry. -/
def SW_RX_DEGRADED : Nat := 0xB5000C
/-- TWIN_ENABLE, first entry. -/
def TWIN_ENABLE : Nat := 0x700000
/-- TWIN_PARTNER, first entry. -/
def TWIN_PARTNER : Nat := 0x700100
/-- TWIN_PORTS, first entry. -/
def TWIN_PORTS : Nat := 0x700200
/-- TWIN_STATE, first entry. -/
def TWIN_STATE : Nat := 0x700300
/-- TWIN_PREFER, first entry. -/
def TWIN_PREFER : Nat := 0x700400
/-- TWIN_WRITE_LEAD_PICKS, first entry. -/
def TWIN_WRITE_LEAD_PICKS : Nat := 0x700500
/-- TWIN_DIGEST_WAIT, first entry. -/
def TWIN_DIGEST_WAIT : Nat := 0x700600
/-- TWIN_FILL_MS, first entry. -/
def TWIN_FILL_MS : Nat := 0x700700
/-- TWIN_WRITE_SEQ, first entry. -/
def TWIN_WRITE_SEQ : Nat := 0x700800
/-- TWIN_DIGEST_MATCH, first entry. -/
def TWIN_DIGEST_MATCH : Nat := 0x701001
/-- TWIN_DIGEST_MISMATCH, first entry. -/
def TWIN_DIGEST_MISMATCH : Nat := 0x701002
/-- TWIN_DIGEST_MISSING, first entry. -/
def TWIN_DIGEST_MISSING : Nat := 0x701003
/-- TWIN_SELF_FLAGGED, first entry. -/
def TWIN_SELF_FLAGGED : Nat := 0x701004
/-- TWIN_UNEXPLAINED, first entry. -/
def TWIN_UNEXPLAINED : Nat := 0x701005
/-- TWIN_CATCHUP_COUNT, first entry. -/
def TWIN_CATCHUP_COUNT : Nat := 0x701006
/-- LEASE_ROLE, first entry. -/
def LEASE_ROLE : Nat := 0x702000
/-- LEASE_DURATION_MS, first entry. -/
def LEASE_DURATION_MS : Nat := 0x702100
/-- LEASE_RENEW_MS, first entry. -/
def LEASE_RENEW_MS : Nat := 0x702200
/-- LEASE_EPOCH, first entry. -/
def LEASE_EPOCH : Nat := 0x702400
/-- LEASE_GUARD_NS, first entry. -/
def LEASE_GUARD_NS : Nat := 0x702500
/-- LEASE_SWAP, first entry. -/
def LEASE_SWAP : Nat := 0x702600
/-- LEASE_DRILL_INTERVAL_H, first entry. -/
def LEASE_DRILL_INTERVAL_H : Nat := 0x702700
/-- LEASE_DRILL_LAST, first entry. -/
def LEASE_DRILL_LAST : Nat := 0x702800
/-- LEASE_MOVES, first entry. -/
def LEASE_MOVES : Nat := 0x702900
/-- LEASE_START_WAIT_MS, first entry. -/
def LEASE_START_WAIT_MS : Nat := 0x702A00
/-- LEASE_PEER_ADDR, first entry. -/
def LEASE_PEER_ADDR : Nat := 0x702C01
/-- TH_ENABLE, first entry. -/
def TH_ENABLE : Nat := 0x610001
/-- TH_RTC, first entry. -/
def TH_RTC : Nat := 0x610002
/-- TH_CTC, first entry. -/
def TH_CTC : Nat := 0x610003
/-- TH_RTM, first entry. -/
def TH_RTM : Nat := 0x610004
/-- TH_CTM, first entry. -/
def TH_CTM : Nat := 0x610005
/-- TH_AMBIENT, first entry. -/
def TH_AMBIENT : Nat := 0x610006
/-- TH_COIL_LIMIT, first entry. -/
def TH_COIL_LIMIT : Nat := 0x610007
/-- TH_ATTEN_MARGIN, first entry. -/
def TH_ATTEN_MARGIN : Nat := 0x610008
/-- TH_MAX_GR, first entry. -/
def TH_MAX_GR : Nat := 0x610009
/-- TH_RE_REF, first entry. -/
def TH_RE_REF : Nat := 0x61000A
/-- TH_T_REF, first entry. -/
def TH_T_REF : Nat := 0x61000B
/-- TH_COIL_T, first entry. -/
def TH_COIL_T : Nat := 0x61000C
/-- TH_MAGNET_T, first entry. -/
def TH_MAGNET_T : Nat := 0x61000D
/-- TH_RE_MEAS, first entry. -/
def TH_RE_MEAS : Nat := 0x61000E
/-- TH_GR, first entry. -/
def TH_GR : Nat := 0x61000F
/-- TH_POWER, first entry. -/
def TH_POWER : Nat := 0x610010
/-- TH_PILOT, first entry. -/
def TH_PILOT : Nat := 0x610011
/-- TD_ENABLE, first entry. -/
def TD_ENABLE : Nat := 0x600001
/-- TD_AUTOSTART, first entry. -/
def TD_AUTOSTART : Nat := 0x600002
/-- TD_PWM_RATE, first entry. -/
def TD_PWM_RATE : Nat := 0x600003
/-- TD_MIN_PULSE_NS, first entry. -/
def TD_MIN_PULSE_NS : Nat := 0x600004
/-- TD_VOLTS_FS, first entry. -/
def TD_VOLTS_FS : Nat := 0x600005
/-- TD_RAIL_SEL, first entry. -/
def TD_RAIL_SEL : Nat := 0x600006
/-- TD_ISENSE_FS_MA, first entry. -/
def TD_ISENSE_FS_MA : Nat := 0x600007
/-- TD_VSENSE_FS_MV, first entry. -/
def TD_VSENSE_FS_MV : Nat := 0x600008
/-- TD_OC_MA, first entry. -/
def TD_OC_MA : Nat := 0x600009
/-- TD_RELAY_SETTLE_MS, first entry. -/
def TD_RELAY_SETTLE_MS : Nat := 0x60000A
/-- TD_RELAY_RELEASE_MS, first entry. -/
def TD_RELAY_RELEASE_MS : Nat := 0x60000B
/-- TD_LOAD_KIND, first entry. -/
def TD_LOAD_KIND : Nat := 0x60000C
/-- TD_DC_OHM_MIN, first entry. -/
def TD_DC_OHM_MIN : Nat := 0x60000D
/-- TD_DC_OHM_MAX, first entry. -/
def TD_DC_OHM_MAX : Nat := 0x60000E
/-- TD_STATE, first entry. -/
def TD_STATE : Nat := 0x60000F
/-- TD_OC_FAILS, first entry. -/
def TD_OC_FAILS : Nat := 0x600010
/-- TD_CLEAR, first entry. -/
def TD_CLEAR : Nat := 0x600011
/-- TD_CLIP_COUNT, first entry. -/
def TD_CLIP_COUNT : Nat := 0x600012
/-- TD_SHORT_COUNT, first entry. -/
def TD_SHORT_COUNT : Nat := 0x600013
/-- TD_DC_OHM, first entry. -/
def TD_DC_OHM : Nat := 0x600014
/-- TD_LOAD_RESULT, first entry. -/
def TD_LOAD_RESULT : Nat := 0x600015
/-- TD_SAG_GR, first entry. -/
def TD_SAG_GR : Nat := 0x600016
/-- TD_SEQ_GAIN, first entry. -/
def TD_SEQ_GAIN : Nat := 0x600017
/-- TD_SAG_POINT, first entry. -/
def TD_SAG_POINT : Nat := 0x600020
/-- RAIL_SENSE_FS_MV, first entry. -/
def RAIL_SENSE_FS_MV : Nat := 0x604001
/-- RAIL_UV_MV, first entry. -/
def RAIL_UV_MV : Nat := 0x604002
/-- RAIL_OV_MV, first entry. -/
def RAIL_OV_MV : Nat := 0x604003
/-- RAIL_V, first entry. -/
def RAIL_V : Nat := 0x604004
/-- TD_DIAG_MODE, first entry. -/
def TD_DIAG_MODE : Nat := 0x605000
/-- TD_SDCLK_DIR, first entry. -/
def TD_SDCLK_DIR : Nat := 0x605100
/-- TD_DC_TEST_MV, first entry. -/
def TD_DC_TEST_MV : Nat := 0x605200
/-- TD_OC_CLEAR_S, first entry. -/
def TD_OC_CLEAR_S : Nat := 0x605300
/-- AC_Z_MIN, first entry. -/
def AC_Z_MIN : Nat := 0x620001
/-- AC_Z_MAX, first entry. -/
def AC_Z_MAX : Nat := 0x620002
/-- AC_Z, first entry. -/
def AC_Z : Nat := 0x620003
/-- AC_RESULT, first entry. -/
def AC_RESULT : Nat := 0x620004
/-- AC_RUN, first entry. -/
def AC_RUN : Nat := 0x620005
/-- DICT_SAVE_PENDING, first entry. -/
def DICT_SAVE_PENDING : Nat := 0x102000
/-- DICT_RESTORE_DEFAULTS, first entry. -/
def DICT_RESTORE_DEFAULTS : Nat := 0x102100
/-- DICT_SAVE_COUNT, first entry. -/
def DICT_SAVE_COUNT : Nat := 0x102200
/-- HAPOL_KEY, first entry. -/
def HAPOL_KEY : Nat := 0xD10001
/-- HAPOL_KEY_RIGHTS, first entry. -/
def HAPOL_KEY_RIGHTS : Nat := 0xD10002
/-- HAPOL_KEY_SET, first entry. -/
def HAPOL_KEY_SET : Nat := 0xD10003
/-- TWIN_LEASE_KEY, first entry. -/
def TWIN_LEASE_KEY : Nat := 0xD10800
/-- TWIN_LEASE_KEY_SET, first entry. -/
def TWIN_LEASE_KEY_SET : Nat := 0xD10900
/-- HAPOL_UDP_PORT, first entry. -/
def HAPOL_UDP_PORT : Nat := 0xC60000
/-- HAPOL_PATHS, first entry. -/
def HAPOL_PATHS : Nat := 0xC60100
/-- HAPOL_AUTH_NET, first entry. -/
def HAPOL_AUTH_NET : Nat := 0xC60200
/-- HAPOL_AUTH_MAILBOX, first entry. -/
def HAPOL_AUTH_MAILBOX : Nat := 0xC60300
/-- HAPOL_SESSION_IDLE_S, first entry. -/
def HAPOL_SESSION_IDLE_S : Nat := 0xC60400
/-- HAPOL_NOTIFY_TIMEOUT_MS, first entry. -/
def HAPOL_NOTIFY_TIMEOUT_MS : Nat := 0xC60500
/-- HAPOL_NOTIFY_RETRIES, first entry. -/
def HAPOL_NOTIFY_RETRIES : Nat := 0xC60600
/-- HAPOL_SESSIONS_USED, first entry. -/
def HAPOL_SESSIONS_USED : Nat := 0xC60700
/-- HAPOL_AUTH_FAILS, first entry. -/
def HAPOL_AUTH_FAILS : Nat := 0xC60801
/-- HAPOL_MALFORMED, first entry. -/
def HAPOL_MALFORMED : Nat := 0xC60802
/-- HAPOL_BUSY_REPLIES, first entry. -/
def HAPOL_BUSY_REPLIES : Nat := 0xC60803
/-- SESSION_ID, first entry. -/
def SESSION_ID : Nat := 0xC61001
/-- SESSION_PATH, first entry. -/
def SESSION_PATH : Nat := 0xC61002
/-- SESSION_PEER, first entry. -/
def SESSION_PEER : Nat := 0xC61003
/-- SESSION_RIGHTS, first entry. -/
def SESSION_RIGHTS : Nat := 0xC61004
/-- SESSION_KEY_ID, first entry. -/
def SESSION_KEY_ID : Nat := 0xC61005
/-- SESSION_CLAIMS, first entry. -/
def SESSION_CLAIMS : Nat := 0xC61006
/-- SESSION_SUBS, first entry. -/
def SESSION_SUBS : Nat := 0xC61007
/-- SESSION_CLOSE, first entry. -/
def SESSION_CLOSE : Nat := 0xC61008
/-- HAPOL_CLAIM, first entry. -/
def HAPOL_CLAIM : Nat := 0xC63000
/-- HAPOL_RELEASE, first entry. -/
def HAPOL_RELEASE : Nat := 0xC63100
/-- HAPOL_CLAIM_BREAK, first entry. -/
def HAPOL_CLAIM_BREAK : Nat := 0xC63200
/-- CLAIM_TABLE, first entry. -/
def CLAIM_TABLE : Nat := 0xC64001
/-- CORE_RESTART_COUNT, first entry. -/
def CORE_RESTART_COUNT : Nat := 0x104101
/-- CREEL_ERROR_COUNT, first entry. -/
def CREEL_ERROR_COUNT : Nat := 0x104200
/-- EVT_SRC_TARGETS, first entry. -/
def EVT_SRC_TARGETS : Nat := 0x900001
/-- EVT_SRC_PRIO, first entry. -/
def EVT_SRC_PRIO : Nat := 0x900002
/-- EVT_SRC_FILTER_N, first entry. -/
def EVT_SRC_FILTER_N : Nat := 0x900003
/-- EVT_SRC_REPORT_CLEAR, first entry. -/
def EVT_SRC_REPORT_CLEAR : Nat := 0x900004
/-- EVT_SRC_CLASS, first entry. -/
def EVT_SRC_CLASS : Nat := 0x900005
/-- EVT_SRC_NAME, first entry. -/
def EVT_SRC_NAME : Nat := 0x900006
/-- EVT_SRC_COUNT, first entry. -/
def EVT_SRC_COUNT : Nat := 0x900007
/-- EVT_SRC_MERGED, first entry. -/
def EVT_SRC_MERGED : Nat := 0x900008
/-- EVT_BOBBIN_SIZE, first entry. -/
def EVT_BOBBIN_SIZE : Nat := 0x940001
/-- EVT_BOBBIN_USED, first entry. -/
def EVT_BOBBIN_USED : Nat := 0x940002
/-- EVT_BOBBIN_PEAK, first entry. -/
def EVT_BOBBIN_PEAK : Nat := 0x940003
/-- EVT_BOBBIN_FULL, first entry. -/
def EVT_BOBBIN_FULL : Nat := 0x940004
/-- EVT_MODE, first entry. -/
def EVT_MODE : Nat := 0x941000
/-- EVT_SPURIOUS, first entry. -/
def EVT_SPURIOUS : Nat := 0x941100
/-- LETOFF_BUDGET_MW, first entry. -/
def LETOFF_BUDGET_MW : Nat := 0xA00000
/-- LETOFF_RAIL_MAX_MA, first entry. -/
def LETOFF_RAIL_MAX_MA : Nat := 0xA00100
/-- LETOFF_OTHER_MW, first entry. -/
def LETOFF_OTHER_MW : Nat := 0xA00200
/-- LETOFF_AVAILABLE, first entry. -/
def LETOFF_AVAILABLE : Nat := 0xA00300
/-- LETOFF_GRANTED_UNITS, first entry. -/
def LETOFF_GRANTED_UNITS : Nat := 0xA00400
/-- LETOFF_MAX_WAIT_MS, first entry. -/
def LETOFF_MAX_WAIT_MS : Nat := 0xA00500
/-- LETOFF_GRANTS, first entry. -/
def LETOFF_GRANTS : Nat := 0xA00601
/-- LETOFF_REFUSALS, first entry. -/
def LETOFF_REFUSALS : Nat := 0xA00602
/-- LETOFF_OVERRUNS, first entry. -/
def LETOFF_OVERRUNS : Nat := 0xA00603
/-- LETOFF_OVER_BUDGET_PICKS, first entry. -/
def LETOFF_OVER_BUDGET_PICKS : Nat := 0xA00604
/-- LETOFF_WAITING, first entry. -/
def LETOFF_WAITING : Nat := 0xA00605
/-- VCORE_SET_MV, first entry. -/
def VCORE_SET_MV : Nat := 0xA01000
/-- VCORE_HOME_MV, first entry. -/
def VCORE_HOME_MV : Nat := 0xA01100
/-- VCORE_MAX_MV, first entry. -/
def VCORE_MAX_MV : Nat := 0xA01200
/-- VCORE_STEP_MV, first entry. -/
def VCORE_STEP_MV : Nat := 0xA01300
/-- VCORE_STEP_COUNT, first entry. -/
def VCORE_STEP_COUNT : Nat := 0xA01400
/-- PMBUS_ADDR, first entry. -/
def PMBUS_ADDR : Nat := 0xA02000
/-- PMBUS_VOUT_EXP, first entry. -/
def PMBUS_VOUT_EXP : Nat := 0xA02100
/-- PMBUS_CLOCK_KHZ, first entry. -/
def PMBUS_CLOCK_KHZ : Nat := 0xA02200
/-- PMBUS_STATUS, first entry. -/
def PMBUS_STATUS : Nat := 0xA02300
/-- PMBUS_ERRORS, first entry. -/
def PMBUS_ERRORS : Nat := 0xA02400
/-- TJ_RATED_MAX, first entry. -/
def TJ_RATED_MAX : Nat := 0xA03000
/-- TJ_WARN, first entry. -/
def TJ_WARN : Nat := 0xA03100
/-- TJ_NOW, first entry. -/
def TJ_NOW : Nat := 0xA03200
/-- TJ_SENSOR, first entry. -/
def TJ_SENSOR : Nat := 0xA03301
/-- MEND_ENABLE, first entry. -/
def MEND_ENABLE : Nat := 0xA04000
/-- MEND_INTERVAL_S, first entry. -/
def MEND_INTERVAL_S : Nat := 0xA04100
/-- MEND_LAST, first entry. -/
def MEND_LAST : Nat := 0xA04201
/-- MEND_RESULT, first entry. -/
def MEND_RESULT : Nat := 0xA04301
/-- AGING_S0, first entry. -/
def AGING_S0 : Nat := 0xA05001
/-- AGING_NOW_PERMILLE, first entry. -/
def AGING_NOW_PERMILLE : Nat := 0xA05101
/-- AGING_EOL_PERMILLE, first entry. -/
def AGING_EOL_PERMILLE : Nat := 0xA05201
/-- AGING_STRESS_H, first entry. -/
def AGING_STRESS_H : Nat := 0xA05300
/-- AGING_SERVICE_H, first entry. -/
def AGING_SERVICE_H : Nat := 0xA05400
/-- AGING_ALLOW_PERMILLE, first entry. -/
def AGING_ALLOW_PERMILLE : Nat := 0xA05500
/-- AGING_LIFE_Y, first entry. -/
def AGING_LIFE_Y : Nat := 0xA05600
/-- SCRUB_PERIOD_S, first entry. -/
def SCRUB_PERIOD_S : Nat := 0xA06000
/-- MON_VALUE, first entry. -/
def MON_VALUE : Nat := 0x800001
/-- MON_MIN, first entry. -/
def MON_MIN : Nat := 0x800002
/-- MON_MAX, first entry. -/
def MON_MAX : Nat := 0x800003
/-- MON_MIN_TIME, first entry. -/
def MON_MIN_TIME : Nat := 0x800004
/-- MON_MAX_TIME, first entry. -/
def MON_MAX_TIME : Nat := 0x800005
/-- MON_HIST, first entry. -/
def MON_HIST : Nat := 0x800006
/-- MON_HIST_BASE, first entry. -/
def MON_HIST_BASE : Nat := 0x800007
/-- MON_HIST_WIDTH, first entry. -/
def MON_HIST_WIDTH : Nat := 0x800008
/-- MON_CLEAR, first entry. -/
def MON_CLEAR : Nat := 0x800009
/-- PARITY_LOCAL, first entry. -/
def PARITY_LOCAL : Nat := 0x810001
/-- PARITY_HARNESS, first entry. -/
def PARITY_HARNESS : Nat := 0x810002
/-- PARITY_WARP, first entry. -/
def PARITY_WARP : Nat := 0x810003
/-- PARITY_DDR, first entry. -/
def PARITY_DDR : Nat := 0x810004
/-- PARITY_BEAMS, first entry. -/
def PARITY_BEAMS : Nat := 0x810005
/-- ECC_COEF_CORR, first entry. -/
def ECC_COEF_CORR : Nat := 0x810006
/-- ECC_COEF_UNCORR, first entry. -/
def ECC_COEF_UNCORR : Nat := 0x810007
/-- ECC_DICT_CORR, first entry. -/
def ECC_DICT_CORR : Nat := 0x810008
/-- ECC_DICT_UNCORR, first entry. -/
def ECC_DICT_UNCORR : Nat := 0x810009
/-- ECC_WRAM_CORR, first entry. -/
def ECC_WRAM_CORR : Nat := 0x81000A
/-- ECC_WRAM_UNCORR, first entry. -/
def ECC_WRAM_UNCORR : Nat := 0x81000B
/-- SCRUB_PASSES, first entry. -/
def SCRUB_PASSES : Nat := 0x81000C
/-- SCRUB_REWRITES, first entry. -/
def SCRUB_REWRITES : Nat := 0x81000D
/-- TEMPLE_ACT_COUNT, first entry. -/
def TEMPLE_ACT_COUNT : Nat := 0x840001
/-- SAT_STORE_INSTANCE, first entry. -/
def SAT_STORE_INSTANCE : Nat := 0x850001
/-- SAT_STORE_BUS, first entry. -/
def SAT_STORE_BUS : Nat := 0x858001
/-- OUTPUT_COUNT_CLEAR, first entry. -/
def OUTPUT_COUNT_CLEAR : Nat := 0x860000
/-- START_KIND, first entry. -/
def START_KIND : Nat := 0x103000
/-- START_CAUSE, first entry. -/
def START_CAUSE : Nat := 0x103100
/-- START_REQUEST, first entry. -/
def START_REQUEST : Nat := 0x103200
/-- START_FAILS_WARM, first entry. -/
def START_FAILS_WARM : Nat := 0x103301
/-- START_FAILS_COLD, first entry. -/
def START_FAILS_COLD : Nat := 0x103302
/-- START_FAIL_STAGE, first entry. -/
def START_FAIL_STAGE : Nat := 0x103303
/-- START_COUNT, first entry. -/
def START_COUNT : Nat := 0x103400
/-- START_TIME_MS, first entry. -/
def START_TIME_MS : Nat := 0x103500
/-- BOOT_STRAPS, first entry. -/
def BOOT_STRAPS : Nat := 0x103600
/-- DOFF_REQUEST, first entry. -/
def DOFF_REQUEST : Nat := 0x103700
/-- DOFF_WAKE_TIME, first entry. -/
def DOFF_WAKE_TIME : Nat := 0x103800
/-- DOFF_WAKE_IN, first entry. -/
def DOFF_WAKE_IN : Nat := 0x103900
/-- WAKE_CAUSE, first entry. -/
def WAKE_CAUSE : Nat := 0x103A00
/-- DDR_FITTED_MIB, first entry. -/
def DDR_FITTED_MIB : Nat := 0x103B00
/-- RETAINED_VALID, first entry. -/
def RETAINED_VALID : Nat := 0x103C00
/-- DOFF_COUNT, first entry. -/
def DOFF_COUNT : Nat := 0x103D00
/-- FAB_LOT, first entry. -/
def FAB_LOT : Nat := 0x100401
/-- WAFER, first entry. -/
def WAFER : Nat := 0x100402
/-- DIE_X, first entry. -/
def DIE_X : Nat := 0x100403
/-- DIE_Y, first entry. -/
def DIE_Y : Nat := 0x100404
/-- TEST_REV, first entry. -/
def TEST_REV : Nat := 0x100405
/-- SPEED_BIN, first entry. -/
def SPEED_BIN : Nat := 0x100406
/-- DATE_CODE, first entry. -/
def DATE_CODE : Nat := 0x100407
/-- DIE_ID, first entry. -/
def DIE_ID : Nat := 0x100500
/-- MAC_BASE, first entry. -/
def MAC_BASE : Nat := 0x100600
/-- JTAG_IDCODE, first entry. -/
def JTAG_IDCODE : Nat := 0x100700
/-- FIELD_LOCKED, first entry. -/
def FIELD_LOCKED : Nat := 0xD00000
/-- FIELD_LOCK_BLOW, first entry. -/
def FIELD_LOCK_BLOW : Nat := 0xD00100
/-- OEM_PW_SET, first entry. -/
def OEM_PW_SET : Nat := 0xD00300
/-- OEM_PW_SCOPE, first entry. -/
def OEM_PW_SCOPE : Nat := 0xD00400
/-- DEBUG_SCOPE, first entry. -/
def DEBUG_SCOPE : Nat := 0xD01000
/-- DEBUG_HOLD_S, first entry. -/
def DEBUG_HOLD_S : Nat := 0xD01100
/-- DEBUG_FAILS, first entry. -/
def DEBUG_FAILS : Nat := 0xD01200
/-- FW_RUNNING_SLOT, first entry. -/
def FW_RUNNING_SLOT : Nat := 0xD20001
/-- FW_RUNNING_VERSION, first entry. -/
def FW_RUNNING_VERSION : Nat := 0xD20002
/-- FW_PREFERRED_SLOT, first entry. -/
def FW_PREFERRED_SLOT : Nat := 0xD20003
/-- FW_MIN_SEC, first entry. -/
def FW_MIN_SEC : Nat := 0xD20004
/-- FW_SEC_COMMIT, first entry. -/
def FW_SEC_COMMIT : Nat := 0xD20005
/-- FW_KEY_REVOKE, first entry. -/
def FW_KEY_REVOKE : Nat := 0xD20006
/-- FW_PROGRESS, first entry. -/
def FW_PROGRESS : Nat := 0xD20007
/-- FW_SLOT_STATE, first entry. -/
def FW_SLOT_STATE : Nat := 0xD20101
/-- FW_SLOT_VERSION, first entry. -/
def FW_SLOT_VERSION : Nat := 0xD20102
/-- FW_SLOT_SEC, first entry. -/
def FW_SLOT_SEC : Nat := 0xD20103
/-- FW_SLOT_KEY, first entry. -/
def FW_SLOT_KEY : Nat := 0xD20104
/-- FW_IMAGE, first entry. -/
def FW_IMAGE : Nat := 0xD20300

end Obj

namespace Par

/-- Slot of TRIM_GAIN (R76). -/
def TRIM_GAIN : Nat := 0x01
/-- Slot of TRIM_POLARITY (R76). -/
def TRIM_POLARITY : Nat := 0x02
/-- Slot of TRIM_MUTE (R76). -/
def TRIM_MUTE : Nat := 0x03
/-- Slot of TRIM_RAMP_MS (R76). -/
def TRIM_RAMP_MS : Nat := 0x04
/-- Slot of EQ_SECTIONS (R76). -/
def EQ_SECTIONS : Nat := 0x01
/-- Slot of EQ_BAND (R76). -/
def EQ_BAND : Nat := 0x02
/-- Slot of EQ_BAND_STAGED (R76). -/
def EQ_BAND_STAGED : Nat := 0x12
/-- Slot of EQ_GAIN (R76). -/
def EQ_GAIN : Nat := 0x22
/-- Slot of XO_WAYS (R76). -/
def XO_WAYS : Nat := 0x01
/-- Slot of XO_SLOPE (R76). -/
def XO_SLOPE : Nat := 0x02
/-- Slot of XO_FREQ (R76). -/
def XO_FREQ : Nat := 0x03
/-- Slot of XO_FREQ_STAGED (R76). -/
def XO_FREQ_STAGED : Nat := 0x07
/-- Slot of XO_WAY_GAIN (R76). -/
def XO_WAY_GAIN : Nat := 0x0B
/-- Slot of XO_WAY_POLARITY (R76). -/
def XO_WAY_POLARITY : Nat := 0x10
/-- Slot of FIRD_TAPS (R76). -/
def FIRD_TAPS : Nat := 0x01
/-- Slot of FIRD_COEFS (R76). -/
def FIRD_COEFS : Nat := 0x02
/-- Slot of FIRD_COEFS_STAGED (R76). -/
def FIRD_COEFS_STAGED : Nat := 0x03
/-- Slot of FIRP_TAPS (R76). -/
def FIRP_TAPS : Nat := 0x01
/-- Slot of FIRP_COEFS_STAGED (R76). -/
def FIRP_COEFS_STAGED : Nat := 0x02
/-- Slot of FIRP_PARTITION (R76). -/
def FIRP_PARTITION : Nat := 0x03
/-- Slot of FIRP_LOAD_STATE (R76). -/
def FIRP_LOAD_STATE : Nat := 0x04
/-- Slot of DELAY_MAX (R76). -/
def DELAY_MAX : Nat := 0x01
/-- Slot of DELAY_TIME (R76). -/
def DELAY_TIME : Nat := 0x02
/-- Slot of DELAY_FADE_MS (R76). -/
def DELAY_FADE_MS : Nat := 0x03
/-- Slot of GATE_ON (R76). -/
def GATE_ON : Nat := 0x01
/-- Slot of GATE_THRESH (R76). -/
def GATE_THRESH : Nat := 0x02
/-- Slot of GATE_RANGE (R76). -/
def GATE_RANGE : Nat := 0x03
/-- Slot of GATE_ATTACK_US (R76). -/
def GATE_ATTACK_US : Nat := 0x04
/-- Slot of GATE_HOLD_MS (R76). -/
def GATE_HOLD_MS : Nat := 0x05
/-- Slot of GATE_RELEASE_MS (R76). -/
def GATE_RELEASE_MS : Nat := 0x06
/-- Slot of GATE_HYST (R76). -/
def GATE_HYST : Nat := 0x07
/-- Slot of COMP_ON (R76). -/
def COMP_ON : Nat := 0x10
/-- Slot of COMP_THRESH (R76). -/
def COMP_THRESH : Nat := 0x11
/-- Slot of COMP_RATIO (R76). -/
def COMP_RATIO : Nat := 0x12
/-- Slot of COMP_KNEE (R76). -/
def COMP_KNEE : Nat := 0x13
/-- Slot of COMP_ATTACK_US (R76). -/
def COMP_ATTACK_US : Nat := 0x14
/-- Slot of COMP_RELEASE_MS (R76). -/
def COMP_RELEASE_MS : Nat := 0x15
/-- Slot of COMP_MAKEUP (R76). -/
def COMP_MAKEUP : Nat := 0x16
/-- Slot of COMP_DETECT (R76). -/
def COMP_DETECT : Nat := 0x17
/-- Slot of KEY_SOURCE (R76). -/
def KEY_SOURCE : Nat := 0x18
/-- Slot of DYN_GR (R76). -/
def DYN_GR : Nat := 0x20
/-- Slot of LIM_CEILING (R76). -/
def LIM_CEILING : Nat := 0x01
/-- Slot of LIM_RELEASE_MS (R76). -/
def LIM_RELEASE_MS : Nat := 0x02
/-- Slot of LIM_TRUE_PEAK (R76). -/
def LIM_TRUE_PEAK : Nat := 0x03
/-- Slot of LIM_GR (R76). -/
def LIM_GR : Nat := 0x04
/-- Slot of MTX_IN (R76). -/
def MTX_IN : Nat := 0x01
/-- Slot of MTX_OUT (R76). -/
def MTX_OUT : Nat := 0x02
/-- Slot of MTX_GAINS (R76). -/
def MTX_GAINS : Nat := 0x03
/-- Slot of MTX_GAINS_STAGED (R76). -/
def MTX_GAINS_STAGED : Nat := 0x04
/-- Slot of MTX_SET (R76). -/
def MTX_SET : Nat := 0x05
/-- Slot of MTR_PEAK (R76). -/
def MTR_PEAK : Nat := 0x01
/-- Slot of MTR_PEAK_HOLD (R76). -/
def MTR_PEAK_HOLD : Nat := 0x02
/-- Slot of MTR_RMS (R76). -/
def MTR_RMS : Nat := 0x03
/-- Slot of MTR_WINDOW_MS (R76). -/
def MTR_WINDOW_MS : Nat := 0x04
/-- Slot of MTR_CLEAR (R76). -/
def MTR_CLEAR : Nat := 0x05
/-- Slot of MTR_OVER_COUNT (R76). -/
def MTR_OVER_COUNT : Nat := 0x06
/-- Slot of LD_INPUTS (R76). -/
def LD_INPUTS : Nat := 0x01
/-- Slot of LD_WEIGHT (R76). -/
def LD_WEIGHT : Nat := 0x02
/-- Slot of LD_MOMENTARY (R76). -/
def LD_MOMENTARY : Nat := 0x0A
/-- Slot of LD_SHORT_TERM (R76). -/
def LD_SHORT_TERM : Nat := 0x0B
/-- Slot of LD_INTEGRATED (R76). -/
def LD_INTEGRATED : Nat := 0x0C
/-- Slot of LD_TRUE_PEAK (R76). -/
def LD_TRUE_PEAK : Nat := 0x0D
/-- Slot of LD_RUN (R76). -/
def LD_RUN : Nat := 0x0E
/-- Slot of GEN_WAVE (R76). -/
def GEN_WAVE : Nat := 0x01
/-- Slot of GEN_LEVEL (R76). -/
def GEN_LEVEL : Nat := 0x02
/-- Slot of GEN_FREQ (R76). -/
def GEN_FREQ : Nat := 0x03
/-- Slot of GEN_SWEEP_END (R76). -/
def GEN_SWEEP_END : Nat := 0x04
/-- Slot of GEN_SWEEP_MS (R76). -/
def GEN_SWEEP_MS : Nat := 0x05
/-- Slot of ASRC_DIR (R76). -/
def ASRC_DIR : Nat := 0x01
/-- Slot of ASRC_PORT (R76). -/
def ASRC_PORT : Nat := 0x02
/-- Slot of ASRC_LOCKED (R76). -/
def ASRC_LOCKED : Nat := 0x03

end Par

/-- Rows of indices 0x1000 to 0x1FFF, part 0. -/
def rows1_0 : List Row := [
  ⟨0x1001, 0x1001, 0x00, 0x00, .string, .ro, (.bytes Config.partNumber), .any⟩,
  ⟨0x1002, 0x1002, 0x00, 0x00, .string, .ro, (.bytes (ascii "B0")), .any⟩,
  ⟨0x1003, 0x1003, 0x00, 0x00, .enum16, .ro, (.num Config.grade), .any⟩,
  ⟨0x1004, 0x1004, 0x00, 0x00, .u8, .ro, (.num 7), .any⟩,
  ⟨0x1004, 0x1004, 0x01, 0x01, .string, .ro, (.bytes Config.fabLot), .any⟩,
  ⟨0x1004, 0x1004, 0x02, 0x02, .u8, .ro, (.num Config.wafer), .any⟩,
  ⟨0x1004, 0x1004, 0x03, 0x03, .u8, .ro, (.num Config.dieX), .any⟩,
  ⟨0x1004, 0x1004, 0x04, 0x04, .u8, .ro, (.num Config.dieY), .any⟩,
  ⟨0x1004, 0x1004, 0x05, 0x05, .u16, .ro, (.num Config.testRev), .any⟩,
  ⟨0x1004, 0x1004, 0x06, 0x06, .u16, .ro, (.num Config.speedBin), .any⟩,
  ⟨0x1004, 0x1004, 0x07, 0x07, .u16, .ro, (.num Config.dateCode), .any⟩,
  ⟨0x1005, 0x1005, 0x00, 0x00, .blob, .ro, (.bytes Config.dieId), .any⟩,
  ⟨0x1006, 0x1006, 0x00, 0x00, .u64, .ro, (.num Config.macBase), .any⟩,
  ⟨0x1007, 0x1007, 0x00, 0x00, .u32, .ro, (.num 344155499), .any⟩,
  ⟨0x1010, 0x1010, 0x00, 0x00, .u16, .rws, (.num 0), .betweenOr 1 65534 0⟩,
  ⟨0x1020, 0x1020, 0x00, 0x00, .u16, .ro, (.num 0), .any⟩,
  ⟨0x1021, 0x1021, 0x00, 0x00, .bool, .wo, (.num 0), .any⟩,
  ⟨0x1022, 0x1022, 0x00, 0x00, .u32, .ro, (.num 0), .any⟩,
  ⟨0x1030, 0x1030, 0x00, 0x00, .enum16, .ro, (.num 0), .any⟩,
  ⟨0x1031, 0x1031, 0x00, 0x00, .enum16, .ro, (.num 0), .any⟩,
  ⟨0x1032, 0x1032, 0x00, 0x00, .u8, .wo, (.num 0), .between 1 2⟩,
  ⟨0x1033, 0x1033, 0x00, 0x00, .u8, .ro, (.num 3), .any⟩,
  ⟨0x1033, 0x1033, 0x01, 0x01, .u8, .ro, (.num 0), .any⟩,
  ⟨0x1033, 0x1033, 0x02, 0x02, .u8, .ro, (.num 0), .any⟩,
  ⟨0x1033, 0x1033, 0x03, 0x03, .u8, .ro, (.num 0), .any⟩,
  ⟨0x1034, 0x1034, 0x00, 0x00, .u32, .ro, (.num 0), .any⟩,
  ⟨0x1035, 0x1035, 0x00, 0x00, .u32, .ro, (.num 0), .any⟩,
  ⟨0x1036, 0x1036, 0x00, 0x00, .u8, .ro, (.num 0), .any⟩,
  ⟨0x1037, 0x1037, 0x00, 0x00, .bool, .wo, (.num 0), .any⟩,
  ⟨0x1038, 0x1038, 0x00, 0x00, .time80, .rw, (.num 0), .any⟩,
  ⟨0x1039, 0x1039, 0x00, 0x00, .u8, .rws, (.num 0), .mask 0xF⟩,
  ⟨0x103A, 0x103A, 0x00, 0x00, .u16, .ro, (.num 65535), .any⟩,
  ⟨0x103B, 0x103B, 0x00, 0x00, .u32, .ro, (.num 0), .any⟩,
  ⟨0x103C, 0x103C, 0x00, 0x00, .bool, .ro, (.num 0), .any⟩,
  ⟨0x103D, 0x103D, 0x00, 0x00, .u32, .ro, (.num 0), .any⟩,
  ⟨0x1041, 0x1041, 0x00, 0x00, .u8, .ro, (.num 2), .any⟩,
  ⟨0x1041, 0x1041, 0x01, 0x02, .u32, .ro, (.num 0), .any⟩,
  ⟨0x1042, 0x1042, 0x00, 0x00, .u32, .ro, (.num 0), .any⟩]
/-- Rows of indices 0x1000 to 0x1FFF. -/
def rows1 : List Row := rows1_0
/-- Rows of indices 0x2000 to 0x2FFF, part 0. -/
def rows2_0 : List Row := [
  ⟨0x2000, 0x2000, 0x00, 0x00, .u8, .ro, (.num 23), .any⟩,
  ⟨0x2001, 0x2001, 0x00, 0x00, .u8, .ro, (.num 255), .any⟩,
  ⟨0x2002, 0x2002, 0x00, 0x00, .u8, .rw, (.num 255), .betweenOr 0 23 255⟩,
  ⟨0x2003, 0x2003, 0x00, 0x00, .u32, .rws, (.num 5000), .between 1000 50000⟩,
  ⟨0x2004, 0x2004, 0x00, 0x00, .u32, .rws, (.num 10000), .between 2000 100000⟩,
  ⟨0x2005, 0x2005, 0x00, 0x00, .u32, .rws, (.num 500), .between 100 10000⟩,
  ⟨0x2006, 0x2006, 0x00, 0x00, .u32, .rws, (.num 1000), .between 200 10000⟩,
  ⟨0x2007, 0x2007, 0x00, 0x00, .u16, .rws, (.num 10), .between 2 600⟩,
  ⟨0x2008, 0x2008, 0x00, 0x00, .u16, .rws, (.num 60), .between 2 3600⟩,
  ⟨0x2009, 0x2009, 0x00, 0x00, .bool, .rws, (.num 1), .any⟩,
  ⟨0x200A, 0x200A, 0x00, 0x00, .u16, .rws, (.num 60), .between 0 3600⟩,
  ⟨0x200B, 0x200B, 0x00, 0x00, .enum16, .ro, (.num 0), .any⟩,
  ⟨0x200C, 0x200C, 0x00, 0x00, .s32, .rws, (.num 0), .between (-100000) 100000⟩,
  ⟨0x200D, 0x200D, 0x00, 0x00, .u32, .ro, (.num 0), .any⟩,
  ⟨0x200E, 0x200E, 0x00, 0x00, .u8, .ro, (.num 201), .any⟩,
  ⟨0x200F, 0x200F, 0x00, 0x00, .u32, .rws, (.num 2000), .between 100 20000⟩,
  ⟨0x2010, 0x2010, 0x00, 0x00, .u8, .ro, (.num 7), .any⟩,
  ⟨0x2100, 0x2117, 0x00, 0x00, .u8, .ro, (.num 10), .any⟩,
  ⟨0x2100, 0x2117, 0x01, 0x01, .u16, .rws, (.num 0), .any⟩,
  ⟨0x2100, 0x2117, 0x02, 0x02, .u8, .rws, (.num 127), .between 0 127⟩,
  ⟨0x2100, 0x2117, 0x03, 0x03, .u8, .ro, (.num 255), .any⟩,
  ⟨0x2100, 0x2117, 0x04, 0x04, .u8, .rws, (.num 128), .between 0 255⟩,
  ⟨0x2100, 0x2117, 0x05, 0x05, .u8, .rws, (.num 15), .between 0 15⟩,
  ⟨0x2100, 0x2117, 0x06, 0x06, .enum16, .ro, (.num 0), .any⟩,
  ⟨0x2100, 0x2117, 0x07, 0x07, .s32, .ro, (.num 0), .any⟩,
  ⟨0x2100, 0x2117, 0x08, 0x08, .s32, .ro, (.num 0), .any⟩,
  ⟨0x2100, 0x2117, 0x09, 0x09, .freq, .rws, (.num 48000000), .between 1000 192000000⟩,
  ⟨0x2100, 0x2117, 0x0A, 0x0A, .u32, .ro, (.num 0), .any⟩,
  ⟨0x2200, 0x2207, 0x00, 0x00, .u8, .ro, (.num 8), .any⟩,
  ⟨0x2200, 0x2207, 0x01, 0x01, .enum16, .ro, (.num 2), .any⟩,
  ⟨0x2200, 0x2207, 0x02, 0x02, .u8, .rws, (.num 0), .between 0 24⟩,
  ⟨0x2200, 0x2207, 0x03, 0x03, .freq, .rws, (.num 48000000), .between 1000 200000000⟩,
  ⟨0x2200, 0x2207, 0x04, 0x04, .enum16, .ro, (.num 1), .any⟩,
  ⟨0x2200, 0x2207, 0x05, 0x05, .s32, .ro, (.num 0), .any⟩,
  ⟨0x2200, 0x2207, 0x06, 0x06, .u16, .rws, (.num 1000), .between 10 10000⟩,
  ⟨0x2200, 0x2207, 0x07, 0x07, .u32, .ro, (.num 0), .any⟩,
  ⟨0x2200, 0x2207, 0x08, 0x08, .enum16, .ro, (.num 0), .any⟩,
  ⟨0x2300, 0x2300, 0x00, 0x00, .u16, .rws, (.num 60), .between 10 600⟩,
  ⟨0x2301, 0x2301, 0x00, 0x00, .u16, .rws, (.num 10), .between 0 120⟩,
  ⟨0x2302, 0x2302, 0x00, 0x00, .u32, .rws, (.num 5000), .between 1 100000⟩]
/-- Rows of indices 0x2000 to 0x2FFF, part 1. -/
def rows2_1 : List Row := [
  ⟨0x2303, 0x2303, 0x00, 0x00, .u32, .rws, (.num 1500), .between 100 100000⟩,
  ⟨0x2304, 0x2304, 0x00, 0x00, .u32, .ro, (.num 300), .any⟩,
  ⟨0x2305, 0x2305, 0x00, 0x00, .s32, .ro, (.num 0), .any⟩,
  ⟨0x2400, 0x2405, 0x00, 0x00, .u8, .ro, (.num 8), .any⟩,
  ⟨0x2400, 0x2405, 0x01, 0x01, .u8, .rws, (.num 255), .oneOf [0, 2, 3, 4, 5, 6, 7, 255]⟩,
  ⟨0x2400, 0x2405, 0x02, 0x02, .enum16, .rws, (.num 0), .oneOf [0, 1]⟩,
  ⟨0x2400, 0x2405, 0x03, 0x03, .u32, .rws, (.num 10000), .between 20 10000000⟩,
  ⟨0x2400, 0x2405, 0x04, 0x04, .enum16, .rws, (.num 3), .oneOf [0, 1, 2, 3]⟩,
  ⟨0x2400, 0x2405, 0x05, 0x05, .s32, .rws, (.num 0), .between (-500000000) 500000000⟩,
  ⟨0x2400, 0x2405, 0x06, 0x06, .enum16, .rws, (.num 0), .oneOf [0, 1]⟩,
  ⟨0x2400, 0x2405, 0x07, 0x07, .enum16, .ro, (.num 0), .any⟩,
  ⟨0x2400, 0x2405, 0x08, 0x08, .s32, .ro, (.num 0), .any⟩,
  ⟨0x2410, 0x2410, 0x00, 0x00, .u32, .rws, (.num 100), .between 10 1000000⟩,
  ⟨0x2411, 0x2411, 0x00, 0x00, .u32, .rws, (.num 10000), .between 1000 100000⟩,
  ⟨0x2500, 0x2502, 0x00, 0x00, .u8, .ro, (.num 7), .any⟩,
  ⟨0x2500, 0x2502, 0x01, 0x01, .bool, .rws, (.num 0), .any⟩,
  ⟨0x2500, 0x2502, 0x02, 0x02, .u8, .rws, (.num 127), .between 0 127⟩,
  ⟨0x2500, 0x2502, 0x03, 0x03, .u8, .rws, (.num 128), .between 0 255⟩,
  ⟨0x2500, 0x2502, 0x04, 0x04, .u8, .rws, (.num 128), .between 0 255⟩,
  ⟨0x2500, 0x2502, 0x05, 0x05, .enum16, .ro, (.num 1), .any⟩,
  ⟨0x2500, 0x2502, 0x06, 0x06, .u8, .ro, (.num 248), .any⟩,
  ⟨0x2500, 0x2502, 0x07, 0x07, .u8, .ro, (.num 254), .any⟩,
  ⟨0x2510, 0x2510, 0x00, 0x00, .u32, .rws, (.num 300), .between 0 86400⟩]
/-- Rows of indices 0x2000 to 0x2FFF. -/
def rows2 : List Row := rows2_0 ++ rows2_1
/-- Rows of indices 0x3000 to 0x3FFF, part 0. -/
def rows3_0 : List Row := [
  ⟨0x3000, 0x300F, 0x00, 0x00, .u8, .ro, (.num 23), .any⟩,
  ⟨0x3000, 0x300F, 0x01, 0x01, .enum16, .rws, (.num 0), .oneOf [0, 1, 2]⟩,
  ⟨0x3000, 0x300F, 0x02, 0x02, .u8, .rws, (.num 0), .oneOf [0, 2, 3, 4, 5, 6, 7]⟩,
  ⟨0x3000, 0x300F, 0x03, 0x03, .freq, .rws, (.num 48000000), .between 32000000 192000000⟩,
  ⟨0x3000, 0x300F, 0x04, 0x04, .u8, .rws, (.num 8), .oneOf [2, 4, 8, 16]⟩,
  ⟨0x3000, 0x300F, 0x05, 0x05, .u8, .rws, (.num 24), .oneOf [16, 24, 32]⟩,
  ⟨0x3000, 0x300F, 0x06, 0x06, .u16, .rws, (.num 0), .any⟩,
  ⟨0x3000, 0x300F, 0x07, 0x07, .u16, .rws, (.num 0), .any⟩,
  ⟨0x3000, 0x300F, 0x08, 0x08, .u16, .rws, (.num 0), .any⟩,
  ⟨0x3000, 0x300F, 0x10, 0x10, .enum16, .ro, (.num 0), .any⟩,
  ⟨0x3000, 0x300F, 0x11, 0x11, .freq, .ro, (.num 0), .any⟩,
  ⟨0x3000, 0x300F, 0x12, 0x12, .enum16, .ro, (.num 0), .any⟩,
  ⟨0x3000, 0x300F, 0x13, 0x13, .u32, .ro, (.num 0), .any⟩,
  ⟨0x3000, 0x300F, 0x14, 0x14, .u32, .ro, (.num 0), .any⟩,
  ⟨0x3000, 0x300F, 0x15, 0x15, .enum16, .ro, (.num 0), .any⟩,
  ⟨0x3000, 0x300F, 0x16, 0x16, .u32, .ro, (.num 0), .any⟩,
  ⟨0x3000, 0x300F, 0x17, 0x17, .u32, .ro, (.num 0), .any⟩,
  ⟨0x3100, 0x3107, 0x00, 0x00, .u8, .ro, (.num 23), .any⟩,
  ⟨0x3100, 0x3107, 0x01, 0x01, .bool, .rws, (.num 0), .any⟩,
  ⟨0x3100, 0x3107, 0x02, 0x02, .blob, .ro, (zeros 24), .any⟩,
  ⟨0x3100, 0x3107, 0x03, 0x03, .blob, .ro, (zeros 24), .any⟩,
  ⟨0x3100, 0x3107, 0x04, 0x04, .u32, .ro, (.num 0), .any⟩,
  ⟨0x3100, 0x3107, 0x05, 0x05, .u32, .ro, (.num 0), .any⟩,
  ⟨0x3100, 0x3107, 0x06, 0x06, .u8, .ro, (.num 0), .any⟩,
  ⟨0x3100, 0x3107, 0x10, 0x10, .enum16, .ro, (.num 0), .any⟩,
  ⟨0x3100, 0x3107, 0x11, 0x11, .freq, .ro, (.num 0), .any⟩,
  ⟨0x3100, 0x3107, 0x12, 0x12, .enum16, .ro, (.num 0), .any⟩,
  ⟨0x3100, 0x3107, 0x13, 0x13, .u32, .ro, (.num 0), .any⟩,
  ⟨0x3100, 0x3107, 0x14, 0x14, .u32, .ro, (.num 0), .any⟩,
  ⟨0x3100, 0x3107, 0x15, 0x15, .enum16, .ro, (.num 0), .any⟩,
  ⟨0x3100, 0x3107, 0x16, 0x16, .u32, .ro, (.num 0), .any⟩,
  ⟨0x3100, 0x3107, 0x17, 0x17, .u32, .ro, (.num 0), .any⟩,
  ⟨0x3108, 0x310F, 0x00, 0x00, .u8, .ro, (.num 4), .any⟩,
  ⟨0x3108, 0x310F, 0x01, 0x01, .u8, .rws, (.num 255), .oneOf [0, 2, 3, 4, 5, 6, 7, 255]⟩,
  ⟨0x3108, 0x310F, 0x02, 0x02, .u8, .rws, (.num 24), .oneOf [16, 20, 24]⟩,
  ⟨0x3108, 0x310F, 0x03, 0x03, .enum16, .rws, (.num 0), .oneOf [0, 1]⟩,
  ⟨0x3108, 0x310F, 0x04, 0x04, .blob, .rws, (zeros 24), .len 24⟩,
  ⟨0x3200, 0x3203, 0x00, 0x00, .u8, .ro, (.num 23), .any⟩,
  ⟨0x3200, 0x3203, 0x01, 0x01, .bool, .rws, (.num 0), .any⟩,
  ⟨0x3200, 0x3203, 0x02, 0x02, .enum16, .ro, (.num 0), .any⟩]
/-- Rows of indices 0x3000 to 0x3FFF, part 1. -/
def rows3_1 : List Row := [
  ⟨0x3200, 0x3203, 0x03, 0x03, .u32, .ro, (.num 0), .any⟩,
  ⟨0x3200, 0x3203, 0x04, 0x04, .u64, .ro, (.num 0), .any⟩,
  ⟨0x3200, 0x3203, 0x10, 0x10, .enum16, .ro, (.num 0), .any⟩,
  ⟨0x3200, 0x3203, 0x11, 0x11, .freq, .ro, (.num 0), .any⟩,
  ⟨0x3200, 0x3203, 0x12, 0x12, .enum16, .ro, (.num 0), .any⟩,
  ⟨0x3200, 0x3203, 0x13, 0x13, .u32, .ro, (.num 0), .any⟩,
  ⟨0x3200, 0x3203, 0x14, 0x14, .u32, .ro, (.num 0), .any⟩,
  ⟨0x3200, 0x3203, 0x15, 0x15, .enum16, .ro, (.num 0), .any⟩,
  ⟨0x3200, 0x3203, 0x16, 0x16, .u32, .ro, (.num 0), .any⟩,
  ⟨0x3200, 0x3203, 0x17, 0x17, .u32, .ro, (.num 0), .any⟩,
  ⟨0x3208, 0x320B, 0x00, 0x00, .u8, .ro, (.num 2), .any⟩,
  ⟨0x3208, 0x320B, 0x01, 0x01, .enum16, .rws, (.num 0), .oneOf [0, 1, 2, 3]⟩,
  ⟨0x3208, 0x320B, 0x02, 0x02, .u8, .rws, (.num 0), .oneOf [0, 2, 3, 4, 5, 6, 7]⟩,
  ⟨0x3300, 0x3301, 0x00, 0x00, .u8, .ro, (.num 128), .any⟩,
  ⟨0x3300, 0x3301, 0x01, 0x80, .u16, .ro, (.num 65535), .any⟩,
  ⟨0x3302, 0x3303, 0x00, 0x00, .u8, .ro, (.num 128), .any⟩,
  ⟨0x3302, 0x3303, 0x01, 0x80, .u32, .ro, (.num 0), .any⟩,
  ⟨0x3304, 0x3305, 0x00, 0x00, .u8, .ro, (.num 128), .any⟩,
  ⟨0x3304, 0x3305, 0x01, 0x80, .enum16, .ro, (.num 0), .any⟩,
  ⟨0x3306, 0x3306, 0x00, 0x00, .u16, .ro, (.num 0), .any⟩,
  ⟨0x3307, 0x3308, 0x00, 0x00, .u8, .ro, (.num 128), .any⟩,
  ⟨0x3307, 0x3308, 0x01, 0x80, .u32, .ro, (.num 0), .any⟩,
  ⟨0x3400, 0x341F, 0x00, 0x00, .u8, .ro, (.num 36), .any⟩,
  ⟨0x3400, 0x341F, 0x01, 0x01, .bool, .rws, (.num 0), .any⟩,
  ⟨0x3400, 0x341F, 0x02, 0x02, .u16, .rws, (.num 4), .between 1 4096⟩,
  ⟨0x3400, 0x341F, 0x03, 0x22, .u32, .rws, (.num 0), .any⟩,
  ⟨0x3400, 0x341F, 0x23, 0x23, .enum16, .ro, (.num 0), .any⟩,
  ⟨0x3400, 0x341F, 0x24, 0x24, .u32, .ro, (.num 0), .any⟩,
  ⟨0x3500, 0x3500, 0x00, 0x00, .u16, .rws, (.num 500), .between 50 5000⟩,
  ⟨0x3600, 0x3605, 0x00, 0x00, .u8, .ro, (.num 4), .any⟩,
  ⟨0x3600, 0x3605, 0x01, 0x01, .enum16, .rws, (.num 0), .oneOf [0, 1]⟩,
  ⟨0x3600, 0x3605, 0x02, 0x02, .bool, .rwt, (.num 0), .any⟩,
  ⟨0x3600, 0x3605, 0x03, 0x03, .bool, .ro, (.num 0), .any⟩,
  ⟨0x3600, 0x3605, 0x04, 0x04, .bool, .rws, (.num 0), .any⟩]
/-- Rows of indices 0x3000 to 0x3FFF. -/
def rows3 : List Row := rows3_0 ++ rows3_1
/-- Rows of indices 0x4000 to 0x4FFF, part 0. -/
def rows4_0 : List Row := [
  ⟨0x4000, 0x4000, 0x00, 0x00, .u8, .wo, (.num 0), .between 1 2⟩,
  ⟨0x4001, 0x4001, 0x00, 0x00, .enum16, .ro, (.num 0), .any⟩,
  ⟨0x4002, 0x4002, 0x00, 0x00, .u32, .ro, (.num 0), .any⟩,
  ⟨0x4003, 0x4003, 0x00, 0x00, .u32, .ro, (.num 0), .any⟩,
  ⟨0x4004, 0x4004, 0x00, 0x00, .u8, .ro, (.num 3), .any⟩,
  ⟨0x4004, 0x4004, 0x01, 0x01, .u16, .ro, (.num 0), .any⟩,
  ⟨0x4004, 0x4004, 0x02, 0x02, .u16, .ro, (.num 0), .any⟩,
  ⟨0x4004, 0x4004, 0x03, 0x03, .u16, .ro, (.num 4096), .any⟩,
  ⟨0x4005, 0x4005, 0x00, 0x00, .u8, .ro, (.num 2), .any⟩,
  ⟨0x4005, 0x4005, 0x01, 0x01, .u32, .ro, (.num 0), .any⟩,
  ⟨0x4005, 0x4005, 0x02, 0x02, .u32, .ro, (.num 262144), .any⟩,
  ⟨0x4006, 0x4006, 0x00, 0x00, .u16, .rws, (.num 50), .between 5 1000⟩,
  ⟨0x4007, 0x4007, 0x00, 0x00, .u16, .ro, (.num 65535), .any⟩,
  ⟨0x4008, 0x4008, 0x00, 0x00, .u8, .rwt, (.num 10), .between 0 64⟩,
  ⟨0x4009, 0x4009, 0x00, 0x00, .enum16, .rwt, (.num 0), .oneOf [0, 1]⟩,
  ⟨0x400A, 0x400A, 0x00, 0x00, .u8, .rws, (.num 20), .between 1 200⟩,
  ⟨0x4010, 0x4010, 0x00, 0x00, .enum16, .rws, (.num 1), .oneOf [0, 1, 2, 3, 4, 5]⟩,
  ⟨0x4011, 0x4011, 0x00, 0x00, .u8, .ro, (.num 8), .any⟩,
  ⟨0x4012, 0x4012, 0x00, 0x00, .enum16, .ro, (.num 1), .any⟩,
  ⟨0x4020, 0x4020, 0x00, 0x00, .u32, .rwt, (.num 0), .any⟩,
  ⟨0x4021, 0x4021, 0x00, 0x00, .u16, .ro, (.num 0), .any⟩,
  ⟨0x4400, 0x447F, 0x00, 0x00, .u8, .ro, (.num 128), .any⟩,
  ⟨0x4400, 0x447F, 0x01, 0x80, .u32, .rw, (.num 0), .mask 0xFFFF0000⟩,
  ⟨0x4480, 0x44FF, 0x00, 0x00, .u8, .ro, (.num 128), .any⟩,
  ⟨0x4480, 0x44FF, 0x01, 0x80, .enum16, .ro, (.num 0), .any⟩,
  ⟨0x4500, 0x457F, 0x00, 0x00, .u8, .ro, (.num 128), .any⟩,
  ⟨0x4500, 0x457F, 0x01, 0x80, .u16, .ro, (.num 65535), .any⟩,
  ⟨0x4580, 0x45FF, 0x00, 0x00, .u8, .ro, (.num 128), .any⟩,
  ⟨0x4580, 0x45FF, 0x01, 0x80, .enum16, .ro, (.num 0), .any⟩,
  ⟨0x4600, 0x461F, 0x00, 0x00, .u8, .ro, (.num 128), .any⟩,
  ⟨0x4600, 0x461F, 0x01, 0x80, .u64, .rwt, (.num 0), .any⟩,
  ⟨0x4620, 0x463F, 0x00, 0x00, .u8, .ro, (.num 128), .any⟩,
  ⟨0x4620, 0x463F, 0x01, 0x80, .enum16, .rw, (.num 2), .oneOf [1, 2, 3, 4]⟩,
  ⟨0x4640, 0x465F, 0x00, 0x00, .u8, .ro, (.num 128), .any⟩,
  ⟨0x4640, 0x465F, 0x01, 0x80, .u8, .ro, (.num 0), .any⟩,
  ⟨0x4660, 0x467F, 0x00, 0x00, .u8, .ro, (.num 128), .any⟩,
  ⟨0x4660, 0x467F, 0x01, 0x80, .gain, .rwt, (.num (-100)), .between (-20000) 0⟩,
  ⟨0x4680, 0x469F, 0x00, 0x00, .u8, .ro, (.num 128), .any⟩,
  ⟨0x4680, 0x469F, 0x01, 0x80, .u16, .rw, (.num 0), .mask 0x1⟩,
  ⟨0x4700, 0x470F, 0x00, 0x00, .u8, .ro, (.num 128), .any⟩]
/-- Rows of indices 0x4000 to 0x4FFF, part 1. -/
def rows4_1 : List Row := [
  ⟨0x4700, 0x470F, 0x01, 0x80, .gain, .rwt, (.num 0), .betweenOr (-144000) 24000 minusInf⟩,
  ⟨0x4710, 0x471F, 0x00, 0x00, .u8, .ro, (.num 128), .any⟩,
  ⟨0x4710, 0x471F, 0x01, 0x80, .enum16, .ro, (.num 0), .any⟩,
  ⟨0x4720, 0x472F, 0x00, 0x00, .u8, .ro, (.num 128), .any⟩,
  ⟨0x4720, 0x472F, 0x01, 0x80, .blob, .rw, (.bytes []), .any⟩,
  ⟨0x4730, 0x4730, 0x00, 0x00, .u64, .rwt, (.num 0), .any⟩,
  ⟨0x4800, 0x4800, 0x00, 0x00, .u8, .ro, (.num 54), .any⟩,
  ⟨0x4800, 0x4800, 0x01, 0x36, .u8, .ro, (.num 0), .any⟩,
  ⟨0x4801, 0x4801, 0x00, 0x00, .u8, .ro, (.num 8), .any⟩,
  ⟨0x4802, 0x4802, 0x00, 0x00, .u8, .ro, (.num 9), .any⟩,
  ⟨0x4802, 0x4802, 0x01, 0x09, .enum16, .ro, (.num 0), .any⟩,
  ⟨0x4813, 0x4813, 0x00, 0x00, .u32, .ro, (.num 0), .any⟩,
  ⟨0x4814, 0x4814, 0x00, 0x00, .u32, .ro, (.num 4294967295), .any⟩,
  ⟨0x4815, 0x4815, 0x00, 0x00, .u8, .ro, (.num 54), .any⟩,
  ⟨0x4815, 0x4815, 0x01, 0x36, .u32, .ro, (.num 4294967295), .any⟩,
  ⟨0x4816, 0x4816, 0x00, 0x00, .bool, .wo, (.num 0), .any⟩,
  ⟨0x4817, 0x4817, 0x00, 0x00, .u16, .rws, (.num 80), .between 30 100⟩,
  ⟨0x4818, 0x4818, 0x00, 0x00, .u16, .rws, (.num 50), .between 20 90⟩,
  ⟨0x4819, 0x4819, 0x00, 0x00, .u32, .ro, (.num 0), .any⟩,
  ⟨0x4820, 0x4820, 0x00, 0x00, .u8, .ro, (.num 54), .any⟩,
  ⟨0x4820, 0x4820, 0x01, 0x36, .u16, .ro, (.num 720), .any⟩,
  ⟨0x4822, 0x4822, 0x00, 0x00, .u8, .ro, (.num 54), .any⟩,
  ⟨0x4822, 0x4822, 0x01, 0x36, .u32, .ro, (.num 0), .any⟩,
  ⟨0x4823, 0x4823, 0x00, 0x00, .u8, .ro, (.num 54), .any⟩,
  ⟨0x4823, 0x4823, 0x01, 0x36, .u32, .ro, (.num 864000), .any⟩,
  ⟨0x4824, 0x4824, 0x00, 0x00, .u8, .ro, (.num 48), .any⟩,
  ⟨0x4825, 0x4825, 0x00, 0x00, .u32, .ro, (.num 41472000), .any⟩,
  ⟨0x4826, 0x4826, 0x00, 0x00, .u32, .ro, (.num 0), .any⟩,
  ⟨0x4827, 0x4827, 0x00, 0x00, .u16, .ro, (.num 1000), .any⟩,
  ⟨0x4828, 0x4828, 0x00, 0x00, .u16, .rw, (.num 0), .between 0 3600⟩,
  ⟨0x4829, 0x4829, 0x00, 0x00, .u16, .ro, (.num 0), .any⟩,
  ⟨0x4830, 0x4830, 0x00, 0x00, .u8, .ro, (.num 4), .any⟩,
  ⟨0x4830, 0x4830, 0x01, 0x01, .u32, .ro, (.num 0), .any⟩,
  ⟨0x4830, 0x4830, 0x02, 0x02, .u64, .ro, (.num 0), .any⟩,
  ⟨0x4830, 0x4830, 0x03, 0x03, .u32, .ro, (.num 0), .any⟩,
  ⟨0x4830, 0x4830, 0x04, 0x04, .u32, .ro, (.num 0), .any⟩,
  ⟨0x4900, 0x4900, 0x00, 0x00, .u8, .ro, (.num 6), .any⟩,
  ⟨0x4900, 0x4900, 0x01, 0x01, .u32, .ro, (.num 0), .any⟩,
  ⟨0x4900, 0x4900, 0x02, 0x02, .u16, .ro, (.num 0), .any⟩,
  ⟨0x4900, 0x4900, 0x03, 0x03, .u32, .ro, (.num 0), .any⟩]
/-- Rows of indices 0x4000 to 0x4FFF, part 2. -/
def rows4_2 : List Row := [
  ⟨0x4900, 0x4900, 0x04, 0x04, .u32, .ro, (.num 0), .any⟩,
  ⟨0x4900, 0x4900, 0x05, 0x05, .u32, .ro, (.num 0), .any⟩,
  ⟨0x4900, 0x4900, 0x06, 0x06, .u32, .ro, (.num 0), .any⟩,
  ⟨0x4901, 0x4901, 0x00, 0x00, .u16, .rws, (.num 64), .between 1 256⟩,
  ⟨0x4A00, 0x4A00, 0x00, 0x00, .bool, .rws, (.num 0), .any⟩,
  ⟨0x4A01, 0x4A01, 0x00, 0x00, .u16, .rws, (.num 0), .between 0 500⟩,
  ⟨0x4A02, 0x4A02, 0x00, 0x00, .u8, .ro, (.num 6), .any⟩,
  ⟨0x4A02, 0x4A02, 0x01, 0x06, .u16, .rws, (.num 0), .between 0 65534⟩,
  ⟨0x4A03, 0x4A03, 0x00, 0x00, .u16, .ro, (.num 0), .any⟩,
  ⟨0x4A04, 0x4A04, 0x00, 0x00, .u16, .ro, (.num 0), .any⟩,
  ⟨0x4A05, 0x4A05, 0x00, 0x00, .u32, .ro, (.num 0), .any⟩,
  ⟨0x4C00, 0x4C3F, 0x00, 0x00, .u8, .ro, (.num 26), .any⟩,
  ⟨0x4C00, 0x4C3F, 0x01, 0x01, .u32, .rw, (.num 0), .any⟩,
  ⟨0x4C00, 0x4C3F, 0x02, 0x09, .u32, .rw, (.num 0), .any⟩,
  ⟨0x4C00, 0x4C3F, 0x0A, 0x11, .gain, .rwt, (.num 0), .betweenOr (-144000) 24000 minusInf⟩,
  ⟨0x4C00, 0x4C3F, 0x12, 0x12, .gain, .rwt, (.num 0), .betweenOr (-144000) 24000 minusInf⟩,
  ⟨0x4C00, 0x4C3F, 0x13, 0x13, .bool, .rwt, (.num 0), .any⟩,
  ⟨0x4C00, 0x4C3F, 0x14, 0x14, .bool, .rwt, (.num 0), .any⟩,
  ⟨0x4C00, 0x4C3F, 0x15, 0x15, .u8, .rwt, (.num 5), .between 0 50⟩,
  ⟨0x4C00, 0x4C3F, 0x16, 0x16, .gain, .rwt, (.num (-100)), .between (-20000) 0⟩,
  ⟨0x4C00, 0x4C3F, 0x17, 0x17, .u16, .rwt, (.num 50), .between 5 1000⟩,
  ⟨0x4C00, 0x4C3F, 0x18, 0x18, .u16, .rw, (.num 0), .mask 0x1⟩,
  ⟨0x4C00, 0x4C3F, 0x19, 0x19, .u32, .ro, (.num 0), .any⟩,
  ⟨0x4C00, 0x4C3F, 0x1A, 0x1A, .u32, .ro, (.num 0), .any⟩,
  ⟨0x4C40, 0x4C40, 0x00, 0x00, .u8, .ro, (.num 2), .any⟩,
  ⟨0x4C40, 0x4C40, 0x01, 0x01, .u32, .ro, (.num 0), .any⟩,
  ⟨0x4C40, 0x4C40, 0x02, 0x02, .u32, .ro, (.num 0), .any⟩]
/-- Rows of indices 0x4000 to 0x4FFF. -/
def rows4 : List Row := rows4_0 ++ rows4_1 ++ rows4_2
/-- Rows of indices 0x6000 to 0x6FFF, part 0. -/
def rows6_0 : List Row := [
  ⟨0x6000, 0x601F, 0x00, 0x00, .u8, .ro, (.num 39), .any⟩,
  ⟨0x6000, 0x601F, 0x01, 0x01, .bool, .rwt, (.num 0), .any⟩,
  ⟨0x6000, 0x601F, 0x02, 0x02, .bool, .rws, (.num 0), .any⟩,
  ⟨0x6000, 0x601F, 0x03, 0x03, .enum16, .rws, (.num 0), .between 0 1⟩,
  ⟨0x6000, 0x601F, 0x04, 0x04, .u16, .rws, (.num 40), .between 20 200⟩,
  ⟨0x6000, 0x601F, 0x05, 0x05, .u32, .rws, (.num 100000), .between 1000 400000⟩,
  ⟨0x6000, 0x601F, 0x06, 0x06, .u8, .rws, (.num 0), .between 0 3⟩,
  ⟨0x6000, 0x601F, 0x07, 0x07, .u32, .rws, (.num 50000), .between 100 500000⟩,
  ⟨0x6000, 0x601F, 0x08, 0x08, .u32, .rws, (.num 200000), .between 1000 800000⟩,
  ⟨0x6000, 0x601F, 0x09, 0x09, .u32, .rws, (.num 30000), .between 100 500000⟩,
  ⟨0x6000, 0x601F, 0x0A, 0x0A, .u8, .rws, (.num 10), .between 2 50⟩,
  ⟨0x6000, 0x601F, 0x0B, 0x0B, .u8, .rws, (.num 8), .between 2 50⟩,
  ⟨0x6000, 0x601F, 0x0C, 0x0C, .enum16, .rws, (.num 0), .oneOf [0, 1]⟩,
  ⟨0x6000, 0x601F, 0x0D, 0x0D, .u32, .rws, (.num 2000), .between 100 100000⟩,
  ⟨0x6000, 0x601F, 0x0E, 0x0E, .u32, .rws, (.num 40000), .between 1000 1000000⟩,
  ⟨0x6000, 0x601F, 0x0F, 0x0F, .enum16, .ro, (.num 0), .any⟩,
  ⟨0x6000, 0x601F, 0x10, 0x10, .u8, .ro, (.num 0), .any⟩,
  ⟨0x6000, 0x601F, 0x11, 0x11, .bool, .wo, (.num 0), .any⟩,
  ⟨0x6000, 0x601F, 0x12, 0x12, .u32, .ro, (.num 0), .any⟩,
  ⟨0x6000, 0x601F, 0x13, 0x13, .u32, .ro, (.num 0), .any⟩,
  ⟨0x6000, 0x601F, 0x14, 0x14, .u32, .ro, (.num 0), .any⟩,
  ⟨0x6000, 0x601F, 0x15, 0x15, .enum16, .ro, (.num 0), .any⟩,
  ⟨0x6000, 0x601F, 0x16, 0x16, .gain, .ro, (.num 0), .any⟩,
  ⟨0x6000, 0x601F, 0x17, 0x17, .gain, .ro, (.num (-2147483648)), .any⟩,
  ⟨0x6000, 0x601F, 0x20, 0x27, .u32, .rws, (.num 0), .any⟩,
  ⟨0x6040, 0x6043, 0x00, 0x00, .u8, .ro, (.num 4), .any⟩,
  ⟨0x6040, 0x6043, 0x01, 0x01, .u32, .rws, (.num 200000), .between 1000 800000⟩,
  ⟨0x6040, 0x6043, 0x02, 0x02, .u32, .rws, (.num 20000), .between 0 800000⟩,
  ⟨0x6040, 0x6043, 0x03, 0x03, .u32, .rws, (.num 180000), .between 1000 800000⟩,
  ⟨0x6040, 0x6043, 0x04, 0x04, .u32, .ro, (.num 0), .any⟩,
  ⟨0x6050, 0x6050, 0x00, 0x00, .bool, .rw, (.num 0), .any⟩,
  ⟨0x6051, 0x6051, 0x00, 0x00, .bool, .rws, (.num 0), .any⟩,
  ⟨0x6052, 0x6052, 0x00, 0x00, .u16, .rws, (.num 500), .between 100 5000⟩,
  ⟨0x6053, 0x6053, 0x00, 0x00, .u16, .rws, (.num 60), .between 10 3600⟩,
  ⟨0x6100, 0x611F, 0x00, 0x00, .u8, .ro, (.num 17), .any⟩,
  ⟨0x6100, 0x611F, 0x01, 0x01, .bool, .rws, (.num 0), .any⟩,
  ⟨0x6100, 0x611F, 0x02, 0x02, .u32, .rws, (.num 3000), .between 10 100000⟩,
  ⟨0x6100, 0x611F, 0x03, 0x03, .u32, .rws, (.num 5000), .between 100 1000000⟩,
  ⟨0x6100, 0x611F, 0x04, 0x04, .u32, .rws, (.num 1500), .between 10 100000⟩,
  ⟨0x6100, 0x611F, 0x05, 0x05, .u32, .rws, (.num 300000), .between 1000 10000000⟩]
/-- Rows of indices 0x6000 to 0x6FFF, part 1. -/
def rows6_1 : List Row := [
  ⟨0x6100, 0x611F, 0x06, 0x06, .s16, .rwt, (.num 4000), .between (-4000) 8000⟩,
  ⟨0x6100, 0x611F, 0x07, 0x07, .s16, .rws, (.num 20000), .between 5000 30000⟩,
  ⟨0x6100, 0x611F, 0x08, 0x08, .u16, .rws, (.num 2000), .between 500 10000⟩,
  ⟨0x6100, 0x611F, 0x09, 0x09, .gain, .rws, (.num (-20000)), .between (-60000) (-3000)⟩,
  ⟨0x6100, 0x611F, 0x0A, 0x0A, .u32, .rws, (.num 6000), .between 500 100000⟩,
  ⟨0x6100, 0x611F, 0x0B, 0x0B, .s16, .rws, (.num 2500), .between (-4000) 8000⟩,
  ⟨0x6100, 0x611F, 0x0C, 0x0C, .s16, .ro, (.num 4000), .any⟩,
  ⟨0x6100, 0x611F, 0x0D, 0x0D, .s16, .ro, (.num 4000), .any⟩,
  ⟨0x6100, 0x611F, 0x0E, 0x0E, .u32, .ro, (.num 0), .any⟩,
  ⟨0x6100, 0x611F, 0x0F, 0x0F, .gain, .ro, (.num 0), .any⟩,
  ⟨0x6100, 0x611F, 0x10, 0x10, .u32, .ro, (.num 0), .any⟩,
  ⟨0x6100, 0x611F, 0x11, 0x11, .bool, .rws, (.num 0), .any⟩,
  ⟨0x6200, 0x621F, 0x00, 0x00, .u8, .ro, (.num 5), .any⟩,
  ⟨0x6200, 0x621F, 0x01, 0x01, .u32, .rws, (.num 3000), .between 100 100000⟩,
  ⟨0x6200, 0x621F, 0x02, 0x02, .u32, .rws, (.num 16000), .between 1000 1000000⟩,
  ⟨0x6200, 0x621F, 0x03, 0x03, .blob, .ro, (zeros 28), .any⟩,
  ⟨0x6200, 0x621F, 0x04, 0x04, .enum16, .ro, (.num 0), .any⟩,
  ⟨0x6200, 0x621F, 0x05, 0x05, .bool, .wo, (.num 0), .any⟩]
/-- Rows of indices 0x6000 to 0x6FFF. -/
def rows6 : List Row := rows6_0 ++ rows6_1
/-- Rows of indices 0x7000 to 0x7FFF, part 0. -/
def rows7_0 : List Row := [
  ⟨0x7000, 0x7000, 0x00, 0x00, .bool, .rws, (.num 0), .any⟩,
  ⟨0x7001, 0x7001, 0x00, 0x00, .u16, .rws, (.num 0), .between 0 65534⟩,
  ⟨0x7002, 0x7002, 0x00, 0x00, .u8, .rws, (.num 0), .mask 0x3F⟩,
  ⟨0x7003, 0x7003, 0x00, 0x00, .enum16, .ro, (.num 0), .any⟩,
  ⟨0x7004, 0x7004, 0x00, 0x00, .bool, .rws, (.num 0), .any⟩,
  ⟨0x7005, 0x7005, 0x00, 0x00, .u8, .rws, (.num 6), .between 2 60⟩,
  ⟨0x7006, 0x7006, 0x00, 0x00, .u8, .rws, (.num 4), .between 1 16⟩,
  ⟨0x7007, 0x7007, 0x00, 0x00, .u32, .ro, (.num 0), .any⟩,
  ⟨0x7008, 0x7008, 0x00, 0x00, .u32, .ro, (.num 0), .any⟩,
  ⟨0x7010, 0x7010, 0x00, 0x00, .u8, .ro, (.num 6), .any⟩,
  ⟨0x7010, 0x7010, 0x01, 0x01, .u32, .ro, (.num 0), .any⟩,
  ⟨0x7010, 0x7010, 0x02, 0x02, .u32, .ro, (.num 0), .any⟩,
  ⟨0x7010, 0x7010, 0x03, 0x03, .u32, .ro, (.num 0), .any⟩,
  ⟨0x7010, 0x7010, 0x04, 0x04, .u32, .ro, (.num 0), .any⟩,
  ⟨0x7010, 0x7010, 0x05, 0x05, .u32, .ro, (.num 0), .any⟩,
  ⟨0x7010, 0x7010, 0x06, 0x06, .u32, .ro, (.num 0), .any⟩,
  ⟨0x7020, 0x7020, 0x00, 0x00, .enum16, .ro, (.num 1), .any⟩,
  ⟨0x7021, 0x7021, 0x00, 0x00, .u16, .rws, (.num 200), .between 50 2000⟩,
  ⟨0x7022, 0x7022, 0x00, 0x00, .u16, .rws, (.num 50), .between 10 500⟩,
  ⟨0x7024, 0x7024, 0x00, 0x00, .u32, .ro, (.num 0), .any⟩,
  ⟨0x7025, 0x7025, 0x00, 0x00, .u32, .ro, (.num 1040000), .any⟩,
  ⟨0x7026, 0x7026, 0x00, 0x00, .bool, .wo, (.num 0), .any⟩,
  ⟨0x7027, 0x7027, 0x00, 0x00, .u16, .rws, (.num 0), .between 0 720⟩,
  ⟨0x7028, 0x7028, 0x00, 0x00, .time80, .ro, (.num 0), .any⟩,
  ⟨0x7029, 0x7029, 0x00, 0x00, .u32, .ro, (.num 0), .any⟩,
  ⟨0x702A, 0x702A, 0x00, 0x00, .u16, .rws, (.num 2000), .between 200 30000⟩,
  ⟨0x702C, 0x702C, 0x00, 0x00, .u8, .ro, (.num 3), .any⟩,
  ⟨0x702C, 0x702C, 0x01, 0x03, .u64, .rws, (.num 0), .mask 0xFFFFFFFFFFFF⟩]
/-- Rows of indices 0x7000 to 0x7FFF. -/
def rows7 : List Row := rows7_0
/-- Rows of indices 0x8000 to 0x8FFF, part 0. -/
def rows8_0 : List Row := [
  ⟨0x8000, 0x8006, 0x00, 0x00, .u8, .ro, (.num 9), .any⟩,
  ⟨0x8000, 0x8006, 0x01, 0x01, .s32, .ro, (.num 0), .any⟩,
  ⟨0x8000, 0x8006, 0x02, 0x02, .s32, .ro, (.num 2147483647), .any⟩,
  ⟨0x8000, 0x8006, 0x03, 0x03, .s32, .ro, (.num (-2147483648)), .any⟩,
  ⟨0x8000, 0x8006, 0x04, 0x04, .time80, .ro, (.num 0), .any⟩,
  ⟨0x8000, 0x8006, 0x05, 0x05, .time80, .ro, (.num 0), .any⟩,
  ⟨0x8000, 0x8006, 0x06, 0x06, .blob, .ro, (zeros 128), .any⟩,
  ⟨0x8000, 0x8006, 0x07, 0x07, .s32, .rws, (.num 0), .any⟩,
  ⟨0x8000, 0x8006, 0x08, 0x08, .u32, .rws, (.num 1), .between 1 16777216⟩,
  ⟨0x8000, 0x8006, 0x09, 0x09, .bool, .wo, (.num 0), .any⟩,
  ⟨0x8100, 0x8100, 0x00, 0x00, .u8, .ro, (.num 13), .any⟩,
  ⟨0x8100, 0x8100, 0x01, 0x01, .u32, .ro, (.num 0), .any⟩,
  ⟨0x8100, 0x8100, 0x02, 0x02, .u32, .ro, (.num 0), .any⟩,
  ⟨0x8100, 0x8100, 0x03, 0x03, .u32, .ro, (.num 0), .any⟩,
  ⟨0x8100, 0x8100, 0x04, 0x04, .u32, .ro, (.num 0), .any⟩,
  ⟨0x8100, 0x8100, 0x05, 0x05, .u32, .ro, (.num 0), .any⟩,
  ⟨0x8100, 0x8100, 0x06, 0x06, .u32, .ro, (.num 0), .any⟩,
  ⟨0x8100, 0x8100, 0x07, 0x07, .u32, .ro, (.num 0), .any⟩,
  ⟨0x8100, 0x8100, 0x08, 0x08, .u32, .ro, (.num 0), .any⟩,
  ⟨0x8100, 0x8100, 0x09, 0x09, .u32, .ro, (.num 0), .any⟩,
  ⟨0x8100, 0x8100, 0x0A, 0x0A, .u32, .ro, (.num 0), .any⟩,
  ⟨0x8100, 0x8100, 0x0B, 0x0B, .u32, .ro, (.num 0), .any⟩,
  ⟨0x8100, 0x8100, 0x0C, 0x0C, .u32, .ro, (.num 0), .any⟩,
  ⟨0x8100, 0x8100, 0x0D, 0x0D, .u32, .ro, (.num 0), .any⟩,
  ⟨0x8400, 0x841F, 0x00, 0x00, .u8, .ro, (.num 128), .any⟩,
  ⟨0x8400, 0x841F, 0x01, 0x80, .u32, .ro, (.num 0), .any⟩,
  ⟨0x8500, 0x857F, 0x00, 0x00, .u8, .ro, (.num 128), .any⟩,
  ⟨0x8500, 0x857F, 0x01, 0x80, .u32, .ro, (.num 0), .any⟩,
  ⟨0x8580, 0x858F, 0x00, 0x00, .u8, .ro, (.num 128), .any⟩,
  ⟨0x8580, 0x858F, 0x01, 0x80, .u32, .ro, (.num 0), .any⟩,
  ⟨0x8600, 0x8600, 0x00, 0x00, .bool, .wo, (.num 0), .any⟩]
/-- Rows of indices 0x8000 to 0x8FFF. -/
def rows8 : List Row := rows8_0
/-- Rows of indices 0x9000 to 0x9FFF, part 0. -/
def rows9_0 : List Row := [
  ⟨0x9000, 0x91FF, 0x00, 0x00, .u8, .ro, (.num 8), .any⟩,
  ⟨0x9000, 0x91FF, 0x01, 0x01, .u8, .rws, (.num 15), .mask 0xF⟩,
  ⟨0x9000, 0x91FF, 0x02, 0x02, .u8, .rws, (.num 4), .between 0 7⟩,
  ⟨0x9000, 0x91FF, 0x03, 0x03, .u8, .rws, (.num 5), .between 1 255⟩,
  ⟨0x9000, 0x91FF, 0x04, 0x04, .bool, .rws, (.num 0), .any⟩,
  ⟨0x9000, 0x91FF, 0x05, 0x05, .enum16, .ro, (.num 0), .any⟩,
  ⟨0x9000, 0x91FF, 0x06, 0x06, .string, .ro, (.bytes []), .any⟩,
  ⟨0x9000, 0x91FF, 0x07, 0x07, .u32, .ro, (.num 0), .any⟩,
  ⟨0x9000, 0x91FF, 0x08, 0x08, .u32, .ro, (.num 0), .any⟩,
  ⟨0x9400, 0x9403, 0x00, 0x00, .u8, .ro, (.num 4), .any⟩,
  ⟨0x9400, 0x9403, 0x01, 0x01, .u16, .rws, (.num 256), .oneOf [64, 128, 256, 512, 1024, 2048, 4096]⟩,
  ⟨0x9400, 0x9403, 0x02, 0x02, .u16, .ro, (.num 0), .any⟩,
  ⟨0x9400, 0x9403, 0x03, 0x03, .u16, .ro, (.num 0), .any⟩,
  ⟨0x9400, 0x9403, 0x04, 0x04, .u32, .ro, (.num 0), .any⟩,
  ⟨0x9410, 0x9410, 0x00, 0x00, .enum16, .ro, (.num 0), .any⟩,
  ⟨0x9411, 0x9411, 0x00, 0x00, .u32, .ro, (.num 0), .any⟩]
/-- Rows of indices 0x9000 to 0x9FFF. -/
def rows9 : List Row := rows9_0
/-- Rows of indices 0xA000 to 0xAFFF, part 0. -/
def rowsA_0 : List Row := [
  ⟨0xA000, 0xA000, 0x00, 0x00, .u32, .rws, (.num 60000), .between 20000 68000⟩,
  ⟨0xA001, 0xA001, 0x00, 0x00, .u32, .rws, (.num 60000), .between 10000 100000⟩,
  ⟨0xA002, 0xA002, 0x00, 0x00, .u32, .rws, (.num 10800), .between 0 30000⟩,
  ⟨0xA003, 0xA003, 0x00, 0x00, .u16, .ro, (.num 0), .any⟩,
  ⟨0xA004, 0xA004, 0x00, 0x00, .u16, .ro, (.num 0), .any⟩,
  ⟨0xA005, 0xA005, 0x00, 0x00, .u16, .rws, (.num 5000), .between 100 60000⟩,
  ⟨0xA006, 0xA006, 0x00, 0x00, .u8, .ro, (.num 5), .any⟩,
  ⟨0xA006, 0xA006, 0x01, 0x01, .u32, .ro, (.num 0), .any⟩,
  ⟨0xA006, 0xA006, 0x02, 0x02, .u32, .ro, (.num 0), .any⟩,
  ⟨0xA006, 0xA006, 0x03, 0x03, .u32, .ro, (.num 0), .any⟩,
  ⟨0xA006, 0xA006, 0x04, 0x04, .u32, .ro, (.num 0), .any⟩,
  ⟨0xA006, 0xA006, 0x05, 0x05, .u32, .ro, (.num 0), .any⟩,
  ⟨0xA010, 0xA010, 0x00, 0x00, .u16, .ro, (.num 750), .any⟩,
  ⟨0xA011, 0xA011, 0x00, 0x00, .u16, .rws, (.num 750), .between 680 850⟩,
  ⟨0xA012, 0xA012, 0x00, 0x00, .u16, .rws, (.num 850), .between 680 850⟩,
  ⟨0xA013, 0xA013, 0x00, 0x00, .u8, .rws, (.num 10), .between 5 25⟩,
  ⟨0xA014, 0xA014, 0x00, 0x00, .u32, .ro, (.num 0), .any⟩,
  ⟨0xA020, 0xA020, 0x00, 0x00, .u8, .rws, (.num 64), .between 8 119⟩,
  ⟨0xA021, 0xA021, 0x00, 0x00, .s8, .rws, (.num (-12)), .between (-16) (-8)⟩,
  ⟨0xA022, 0xA022, 0x00, 0x00, .u16, .rws, (.num 400), .oneOf [100, 400, 1000]⟩,
  ⟨0xA023, 0xA023, 0x00, 0x00, .u16, .ro, (.num 0), .any⟩,
  ⟨0xA024, 0xA024, 0x00, 0x00, .u32, .ro, (.num 0), .any⟩,
  ⟨0xA030, 0xA030, 0x00, 0x00, .s16, .ro, (.num Config.tjRatedMax), .any⟩,
  ⟨0xA031, 0xA031, 0x00, 0x00, .s16, .rws, (.num (Config.tjRatedMax - 500)), .between 5000 Config.tjRatedMax⟩,
  ⟨0xA032, 0xA032, 0x00, 0x00, .s16, .ro, (.num 0), .any⟩,
  ⟨0xA033, 0xA033, 0x00, 0x00, .u8, .ro, (.num 16), .any⟩,
  ⟨0xA033, 0xA033, 0x01, 0x10, .s16, .ro, (.num 0), .any⟩,
  ⟨0xA040, 0xA040, 0x00, 0x00, .bool, .rws, (.num 1), .any⟩,
  ⟨0xA041, 0xA041, 0x00, 0x00, .u32, .rws, (.num 10800), .between 3600 604800⟩,
  ⟨0xA042, 0xA042, 0x00, 0x00, .u8, .ro, (.num 9), .any⟩,
  ⟨0xA042, 0xA042, 0x01, 0x09, .time80, .ro, (.num 0), .any⟩,
  ⟨0xA043, 0xA043, 0x00, 0x00, .u8, .ro, (.num 9), .any⟩,
  ⟨0xA043, 0xA043, 0x01, 0x09, .enum16, .ro, (.num 0), .any⟩,
  ⟨0xA050, 0xA050, 0x00, 0x00, .u8, .ro, (.num 54), .any⟩,
  ⟨0xA050, 0xA050, 0x01, 0x36, .u16, .ro, (.num Config.speedBin), .any⟩,
  ⟨0xA051, 0xA051, 0x00, 0x00, .u8, .ro, (.num 54), .any⟩,
  ⟨0xA051, 0xA051, 0x01, 0x36, .u16, .ro, (.num 0), .any⟩,
  ⟨0xA052, 0xA052, 0x00, 0x00, .u8, .ro, (.num 54), .any⟩,
  ⟨0xA052, 0xA052, 0x01, 0x36, .u16, .ro, (.num 80), .any⟩,
  ⟨0xA053, 0xA053, 0x00, 0x00, .u32, .ro, (.num 0), .any⟩]
/-- Rows of indices 0xA000 to 0xAFFF, part 1. -/
def rowsA_1 : List Row := [
  ⟨0xA054, 0xA054, 0x00, 0x00, .u32, .ro, (.num 0), .any⟩,
  ⟨0xA055, 0xA055, 0x00, 0x00, .u16, .ro, (.num 80), .any⟩,
  ⟨0xA056, 0xA056, 0x00, 0x00, .u16, .ro, (.num 400), .any⟩,
  ⟨0xA060, 0xA060, 0x00, 0x00, .u32, .rws, (.num 3600), .between 600 86400⟩]
/-- Rows of indices 0xA000 to 0xAFFF. -/
def rowsA : List Row := rowsA_0 ++ rowsA_1
/-- Rows of indices 0xB000 to 0xBFFF, part 0. -/
def rowsB_0 : List Row := [
  ⟨0xB000, 0xB005, 0x00, 0x00, .u8, .ro, (.num 21), .any⟩,
  ⟨0xB000, 0xB005, 0x01, 0x01, .bool, .rws, (.num 0), .any⟩,
  ⟨0xB000, 0xB005, 0x02, 0x02, .bool, .rws, (.num 0), .any⟩,
  ⟨0xB000, 0xB005, 0x03, 0x03, .u8, .rws, (.num 0), .mask 0xF⟩,
  ⟨0xB000, 0xB005, 0x04, 0x04, .u8, .rws, (.num 2), .between 1 4⟩,
  ⟨0xB000, 0xB005, 0x05, 0x05, .enum16, .rw, (.num 0), .between 0 3⟩,
  ⟨0xB000, 0xB005, 0x06, 0x06, .bool, .rws, (.num 0), .any⟩,
  ⟨0xB000, 0xB005, 0x07, 0x07, .bool, .wo, (.num 0), .any⟩,
  ⟨0xB000, 0xB005, 0x08, 0x08, .enum16, .ro, (.num 0), .any⟩,
  ⟨0xB000, 0xB005, 0x09, 0x09, .u16, .ro, (.num 0), .any⟩,
  ⟨0xB000, 0xB005, 0x0A, 0x0A, .u32, .ro, (.num 0), .any⟩,
  ⟨0xB000, 0xB005, 0x0B, 0x0B, .bool, .ro, (.num 0), .any⟩,
  ⟨0xB000, 0xB005, 0x0C, 0x0C, .s32, .ro, (.num 0), .any⟩,
  ⟨0xB000, 0xB005, 0x0D, 0x0D, .bool, .ro, (.num 0), .any⟩,
  ⟨0xB000, 0xB005, 0x0E, 0x0E, .u32, .ro, (.num 0), .any⟩,
  ⟨0xB000, 0xB005, 0x0F, 0x0F, .u32, .ro, (.num 0), .any⟩,
  ⟨0xB000, 0xB005, 0x10, 0x10, .u32, .ro, (.num 0), .any⟩,
  ⟨0xB000, 0xB005, 0x11, 0x11, .u32, .ro, (.num 0), .any⟩,
  ⟨0xB000, 0xB005, 0x12, 0x12, .u32, .ro, (.num 0), .any⟩,
  ⟨0xB000, 0xB005, 0x13, 0x13, .u16, .ro, (.num 0), .any⟩,
  ⟨0xB000, 0xB005, 0x14, 0x14, .u32, .ro, (.num 0), .any⟩,
  ⟨0xB000, 0xB005, 0x15, 0x15, .u16, .ro, (.num 0), .any⟩,
  ⟨0xB010, 0xB027, 0x00, 0x00, .u8, .ro, (.num 7), .any⟩,
  ⟨0xB010, 0xB027, 0x01, 0x01, .u8, .ro, (.num 4), .any⟩,
  ⟨0xB010, 0xB027, 0x02, 0x02, .u8, .ro, (.num 51), .any⟩,
  ⟨0xB010, 0xB027, 0x03, 0x03, .u8, .ro, (.num 8), .any⟩,
  ⟨0xB010, 0xB027, 0x04, 0x04, .u8, .ro, (.num 0), .any⟩,
  ⟨0xB010, 0xB027, 0x05, 0x05, .s16, .ro, (.num 0), .any⟩,
  ⟨0xB010, 0xB027, 0x06, 0x06, .u8, .ro, (.num 0), .any⟩,
  ⟨0xB010, 0xB027, 0x07, 0x07, .u8, .ro, (.num 255), .any⟩,
  ⟨0xB030, 0xB030, 0x00, 0x00, .u8, .rws, (.num 96), .between 32 200⟩,
  ⟨0xB031, 0xB031, 0x00, 0x00, .u8, .rws, (.num 128), .between 33 255⟩,
  ⟨0xB032, 0xB032, 0x00, 0x00, .u16, .rws, (.num 500), .between 50 5000⟩,
  ⟨0xB033, 0xB033, 0x00, 0x00, .u16, .rws, (.num 750), .between 100 900⟩,
  ⟨0xB400, 0xB43F, 0x00, 0x00, .u8, .ro, (.num 5), .any⟩,
  ⟨0xB400, 0xB43F, 0x01, 0x01, .bool, .rws, (.num 0), .any⟩,
  ⟨0xB400, 0xB43F, 0x02, 0x02, .u8, .rws, (.num 0), .mask 0x3F⟩,
  ⟨0xB400, 0xB43F, 0x03, 0x03, .u8, .rws, (.num 0), .between 0 255⟩,
  ⟨0xB400, 0xB43F, 0x04, 0x04, .u16, .rws, (.num 24), .between 1 4096⟩,
  ⟨0xB400, 0xB43F, 0x05, 0x05, .u32, .ro, (.num 0), .any⟩]
/-- Rows of indices 0xB000 to 0xBFFF, part 1. -/
def rowsB_1 : List Row := [
  ⟨0xB500, 0xB53F, 0x00, 0x00, .u8, .ro, (.num 12), .any⟩,
  ⟨0xB500, 0xB53F, 0x01, 0x01, .bool, .rws, (.num 0), .any⟩,
  ⟨0xB500, 0xB53F, 0x02, 0x02, .u8, .rws, (.num 0), .mask 0x3F⟩,
  ⟨0xB500, 0xB53F, 0x03, 0x03, .u8, .rws, (.num 0), .between 0 255⟩,
  ⟨0xB500, 0xB53F, 0x04, 0x04, .u16, .rws, (.num 24), .between 1 4096⟩,
  ⟨0xB500, 0xB53F, 0x05, 0x06, .u16, .rws, (.num 0), .between 0 65534⟩,
  ⟨0xB500, 0xB53F, 0x07, 0x07, .enum16, .ro, (.num 0), .any⟩,
  ⟨0xB500, 0xB53F, 0x08, 0x08, .u32, .ro, (.num 0), .any⟩,
  ⟨0xB500, 0xB53F, 0x09, 0x09, .u32, .ro, (.num 0), .any⟩,
  ⟨0xB500, 0xB53F, 0x0A, 0x0A, .u32, .ro, (.num 0), .any⟩,
  ⟨0xB500, 0xB53F, 0x0B, 0x0B, .u32, .ro, (.num 0), .any⟩,
  ⟨0xB500, 0xB53F, 0x0C, 0x0C, .u32, .ro, (.num 0), .any⟩]
/-- Rows of indices 0xB000 to 0xBFFF. -/
def rowsB : List Row := rowsB_0 ++ rowsB_1
/-- Rows of indices 0xC000 to 0xCFFF, part 0. -/
def rowsC_0 : List Row := [
  ⟨0xC000, 0xC002, 0x00, 0x00, .u8, .ro, (.num 14), .any⟩,
  ⟨0xC000, 0xC002, 0x01, 0x01, .enum16, .rws, (.num 1), .oneOf [0, 1, 2, 3, 4]⟩,
  ⟨0xC000, 0xC002, 0x02, 0x02, .u64, .rws, (.num Config.macBase), .mask 0xFFFFFFFFFFFF⟩,
  ⟨0xC000, 0xC002, 0x03, 0x03, .u32, .rws, (.num 0), .any⟩,
  ⟨0xC000, 0xC002, 0x04, 0x04, .u32, .rws, (.num 4294967040), .any⟩,
  ⟨0xC000, 0xC002, 0x05, 0x05, .u32, .rws, (.num 0), .any⟩,
  ⟨0xC000, 0xC002, 0x06, 0x06, .u16, .rws, (.num 0), .between 0 4094⟩,
  ⟨0xC000, 0xC002, 0x07, 0x07, .u8, .rws, (.num 5), .between 0 7⟩,
  ⟨0xC000, 0xC002, 0x08, 0x08, .u8, .rws, (.num 6), .between 0 7⟩,
  ⟨0xC000, 0xC002, 0x09, 0x09, .u8, .rws, (.num 3), .between 0 7⟩,
  ⟨0xC000, 0xC002, 0x0A, 0x0A, .enum16, .rws, (.num 0), .oneOf [0, 2, 3]⟩,
  ⟨0xC000, 0xC002, 0x0B, 0x0B, .enum16, .ro, (.num 0), .any⟩,
  ⟨0xC000, 0xC002, 0x0C, 0x0C, .u32, .ro, (.num 0), .any⟩,
  ⟨0xC000, 0xC002, 0x0D, 0x0D, .u32, .ro, (.num 0), .any⟩,
  ⟨0xC000, 0xC002, 0x0E, 0x0E, .u32, .ro, (.num 18750000), .any⟩,
  ⟨0xC010, 0xC012, 0x00, 0x00, .u8, .ro, (.num 29), .any⟩,
  ⟨0xC010, 0xC012, 0x01, 0x01, .u32, .ro, (.num 0), .any⟩,
  ⟨0xC010, 0xC012, 0x02, 0x02, .u32, .ro, (.num 0), .any⟩,
  ⟨0xC010, 0xC012, 0x03, 0x03, .u32, .ro, (.num 0), .any⟩,
  ⟨0xC010, 0xC012, 0x04, 0x04, .u32, .ro, (.num 0), .any⟩,
  ⟨0xC010, 0xC012, 0x05, 0x0C, .u32, .ro, (.num 0), .any⟩,
  ⟨0xC010, 0xC012, 0x0D, 0x0D, .u32, .ro, (.num 0), .any⟩,
  ⟨0xC010, 0xC012, 0x0E, 0x0E, .u32, .ro, (.num 0), .any⟩,
  ⟨0xC010, 0xC012, 0x0F, 0x0F, .u32, .ro, (.num 0), .any⟩,
  ⟨0xC010, 0xC012, 0x10, 0x10, .u32, .ro, (.num 0), .any⟩,
  ⟨0xC010, 0xC012, 0x11, 0x11, .u32, .ro, (.num 0), .any⟩,
  ⟨0xC010, 0xC012, 0x12, 0x12, .u32, .ro, (.num 0), .any⟩,
  ⟨0xC010, 0xC012, 0x13, 0x13, .u32, .ro, (.num 0), .any⟩,
  ⟨0xC010, 0xC012, 0x14, 0x14, .u32, .ro, (.num 0), .any⟩,
  ⟨0xC010, 0xC012, 0x15, 0x15, .u32, .ro, (.num 0), .any⟩,
  ⟨0xC010, 0xC012, 0x16, 0x16, .u32, .ro, (.num 0), .any⟩,
  ⟨0xC010, 0xC012, 0x17, 0x17, .u32, .ro, (.num 0), .any⟩,
  ⟨0xC010, 0xC012, 0x18, 0x18, .u32, .ro, (.num 0), .any⟩,
  ⟨0xC010, 0xC012, 0x19, 0x19, .u32, .ro, (.num 0), .any⟩,
  ⟨0xC010, 0xC012, 0x1A, 0x1A, .u32, .ro, (.num 0), .any⟩,
  ⟨0xC010, 0xC012, 0x1B, 0x1B, .u32, .ro, (.num 0), .any⟩,
  ⟨0xC010, 0xC012, 0x1C, 0x1C, .u32, .ro, (.num 0), .any⟩,
  ⟨0xC010, 0xC012, 0x1D, 0x1D, .u32, .ro, (.num 0), .any⟩,
  ⟨0xC018, 0xC01A, 0x00, 0x00, .u8, .ro, (.num 17), .any⟩,
  ⟨0xC018, 0xC01A, 0x01, 0x01, .u32, .ro, (.num 0), .any⟩]
/-- Rows of indices 0xC000 to 0xCFFF, part 1. -/
def rowsC_1 : List Row := [
  ⟨0xC018, 0xC01A, 0x02, 0x02, .u32, .ro, (.num 0), .any⟩,
  ⟨0xC018, 0xC01A, 0x03, 0x03, .u32, .ro, (.num 0), .any⟩,
  ⟨0xC018, 0xC01A, 0x04, 0x04, .u32, .ro, (.num 0), .any⟩,
  ⟨0xC018, 0xC01A, 0x05, 0x0C, .u32, .ro, (.num 0), .any⟩,
  ⟨0xC018, 0xC01A, 0x0D, 0x0D, .u32, .ro, (.num 0), .any⟩,
  ⟨0xC018, 0xC01A, 0x0E, 0x0E, .u32, .ro, (.num 0), .any⟩,
  ⟨0xC018, 0xC01A, 0x0F, 0x0F, .u32, .ro, (.num 0), .any⟩,
  ⟨0xC018, 0xC01A, 0x10, 0x10, .u32, .ro, (.num 0), .any⟩,
  ⟨0xC018, 0xC01A, 0x11, 0x11, .u32, .ro, (.num 0), .any⟩,
  ⟨0xC01F, 0xC01F, 0x00, 0x00, .bool, .rw, (.num 0), .any⟩,
  ⟨0xC030, 0xC037, 0x00, 0x00, .u8, .ro, (.num 4), .any⟩,
  ⟨0xC030, 0xC037, 0x01, 0x01, .bool, .rws, (.num 0), .any⟩,
  ⟨0xC030, 0xC037, 0x02, 0x02, .u16, .rws, (.num 0), .between 0 1394⟩,
  ⟨0xC030, 0xC037, 0x03, 0x03, .blob, .rws, (zeros 16), .len 16⟩,
  ⟨0xC030, 0xC037, 0x04, 0x04, .u16, .rws, (.num 0), .any⟩,
  ⟨0xC038, 0xC038, 0x00, 0x00, .u8, .ro, (.num 3), .any⟩,
  ⟨0xC038, 0xC038, 0x01, 0x01, .u16, .ro, (.num 0), .any⟩,
  ⟨0xC038, 0xC038, 0x02, 0x02, .blob, .ro, (.bytes []), .any⟩,
  ⟨0xC038, 0xC038, 0x03, 0x03, .bool, .rws, (.num 0), .any⟩,
  ⟨0xC040, 0xC042, 0x00, 0x00, .u8, .ro, (.num 10), .any⟩,
  ⟨0xC040, 0xC042, 0x01, 0x01, .enum16, .rws, (.num 0), .oneOf [0, 1]⟩,
  ⟨0xC040, 0xC042, 0x02, 0x02, .s8, .rws, (.num (-3)), .between (-7) 1⟩,
  ⟨0xC040, 0xC042, 0x03, 0x03, .s8, .rws, (.num (-2)), .between (-3) 2⟩,
  ⟨0xC040, 0xC042, 0x04, 0x04, .u8, .rws, (.num 3), .between 2 10⟩,
  ⟨0xC040, 0xC042, 0x05, 0x05, .s8, .rws, (.num (-3)), .between (-7) 5⟩,
  ⟨0xC040, 0xC042, 0x06, 0x06, .s32, .rws, (.num 0), .between (-100000) 100000⟩,
  ⟨0xC040, 0xC042, 0x07, 0x07, .u16, .rws, (.num 0), .between 0 2000⟩,
  ⟨0xC040, 0xC042, 0x08, 0x08, .u16, .rws, (.num 0), .between 0 2000⟩,
  ⟨0xC040, 0xC042, 0x09, 0x09, .u32, .ro, (.num 0), .any⟩,
  ⟨0xC040, 0xC042, 0x0A, 0x0A, .u32, .ro, (.num 0), .any⟩,
  ⟨0xC100, 0xC100, 0x00, 0x00, .u8, .ro, (.num 4), .any⟩,
  ⟨0xC100, 0xC100, 0x01, 0x01, .u16, .ro, (.num 0), .any⟩,
  ⟨0xC100, 0xC100, 0x02, 0x02, .u16, .ro, (.num 0), .any⟩,
  ⟨0xC100, 0xC100, 0x03, 0x03, .u16, .ro, (.num 0), .any⟩,
  ⟨0xC100, 0xC100, 0x04, 0x04, .u16, .ro, (.num 0), .any⟩,
  ⟨0xC400, 0xC4FF, 0x00, 0x00, .u8, .ro, (.num 29), .any⟩,
  ⟨0xC400, 0xC4FF, 0x01, 0x01, .bool, .rws, (.num 0), .any⟩,
  ⟨0xC400, 0xC4FF, 0x02, 0x02, .enum16, .rws, (.num 1), .oneOf [0, 1, 2]⟩,
  ⟨0xC400, 0xC4FF, 0x03, 0x03, .u8, .rws, (.num 8), .between 1 64⟩,
  ⟨0xC400, 0xC4FF, 0x04, 0x04, .enum16, .rws, (.num 1), .between 0 5⟩]
/-- Rows of indices 0xC000 to 0xCFFF, part 2. -/
def rowsC_2 : List Row := [
  ⟨0xC400, 0xC4FF, 0x05, 0x05, .enum16, .rws, (.num 0), .oneOf [0, 1, 2]⟩,
  ⟨0xC400, 0xC4FF, 0x06, 0x06, .u8, .rws, (.num 1), .mask 0x3⟩,
  ⟨0xC400, 0xC4FF, 0x07, 0x07, .u32, .rws, (.num 0), .any⟩,
  ⟨0xC400, 0xC4FF, 0x08, 0x08, .u32, .rws, (.num 0), .any⟩,
  ⟨0xC400, 0xC4FF, 0x09, 0x09, .u16, .rws, (.num 5004), .between 1024 65534⟩,
  ⟨0xC400, 0xC4FF, 0x0A, 0x0B, .u32, .rws, (.num 0), .any⟩,
  ⟨0xC400, 0xC4FF, 0x0C, 0x0D, .u32, .rws, (.num 0), .any⟩,
  ⟨0xC400, 0xC4FF, 0x0E, 0x0E, .u8, .rws, (.num 255), .betweenOr 96 127 255⟩,
  ⟨0xC400, 0xC4FF, 0x0F, 0x0F, .u32, .rws, (.num 0), .any⟩,
  ⟨0xC400, 0xC4FF, 0x10, 0x10, .u16, .rws, (.num 24), .between 1 4096⟩,
  ⟨0xC400, 0xC4FF, 0x11, 0x11, .bool, .rws, (.num 1), .any⟩,
  ⟨0xC400, 0xC4FF, 0x12, 0x12, .enum16, .ro, (.num 0), .any⟩,
  ⟨0xC400, 0xC4FF, 0x13, 0x13, .u32, .ro, (.num 0), .any⟩,
  ⟨0xC400, 0xC4FF, 0x14, 0x14, .u32, .ro, (.num 0), .any⟩,
  ⟨0xC400, 0xC4FF, 0x15, 0x15, .u32, .ro, (.num 0), .any⟩,
  ⟨0xC400, 0xC4FF, 0x16, 0x16, .u32, .ro, (.num 0), .any⟩,
  ⟨0xC400, 0xC4FF, 0x17, 0x18, .u32, .ro, (.num 0), .any⟩,
  ⟨0xC400, 0xC4FF, 0x19, 0x19, .u32, .ro, (.num 0), .any⟩,
  ⟨0xC400, 0xC4FF, 0x1A, 0x1A, .s32, .ro, (.num 0), .any⟩,
  ⟨0xC400, 0xC4FF, 0x1B, 0x1B, .u32, .ro, (.num 0), .any⟩,
  ⟨0xC400, 0xC4FF, 0x1C, 0x1C, .u32, .ro, (.num 0), .any⟩,
  ⟨0xC400, 0xC4FF, 0x1D, 0x1D, .u8, .rws, (.num 0), .between 0 14⟩,
  ⟨0xC500, 0xC5FF, 0x00, 0x00, .u8, .ro, (.num 18), .any⟩,
  ⟨0xC500, 0xC5FF, 0x01, 0x01, .bool, .rws, (.num 0), .any⟩,
  ⟨0xC500, 0xC5FF, 0x02, 0x02, .enum16, .rws, (.num 1), .oneOf [0, 1, 2]⟩,
  ⟨0xC500, 0xC5FF, 0x03, 0x03, .u8, .rws, (.num 8), .between 1 64⟩,
  ⟨0xC500, 0xC5FF, 0x04, 0x04, .enum16, .rws, (.num 1), .between 0 5⟩,
  ⟨0xC500, 0xC5FF, 0x05, 0x05, .enum16, .rws, (.num 0), .oneOf [0, 1, 2]⟩,
  ⟨0xC500, 0xC5FF, 0x06, 0x06, .u8, .rws, (.num 1), .mask 0x3⟩,
  ⟨0xC500, 0xC5FF, 0x07, 0x07, .u32, .rws, (.num 0), .any⟩,
  ⟨0xC500, 0xC5FF, 0x08, 0x08, .u32, .rws, (.num 0), .any⟩,
  ⟨0xC500, 0xC5FF, 0x09, 0x09, .u16, .rws, (.num 5004), .between 1024 65534⟩,
  ⟨0xC500, 0xC5FF, 0x0A, 0x0A, .u8, .rws, (.num 97), .between 96 127⟩,
  ⟨0xC500, 0xC5FF, 0x0B, 0x0B, .u32, .rws, (.num 0), .any⟩,
  ⟨0xC500, 0xC5FF, 0x0C, 0x0C, .u32, .rws, (.num 0), .any⟩,
  ⟨0xC500, 0xC5FF, 0x0D, 0x0D, .u8, .rws, (.num 34), .between 0 63⟩,
  ⟨0xC500, 0xC5FF, 0x0E, 0x0E, .u8, .rws, (.num 32), .between 1 255⟩,
  ⟨0xC500, 0xC5FF, 0x0F, 0x0F, .bool, .rws, (.num 0), .any⟩,
  ⟨0xC500, 0xC5FF, 0x10, 0x10, .u8, .rws, (.num 7), .between 1 14⟩,
  ⟨0xC500, 0xC5FF, 0x11, 0x11, .u32, .ro, (.num 0), .any⟩]
/-- Rows of indices 0xC000 to 0xCFFF, part 3. -/
def rowsC_3 : List Row := [
  ⟨0xC500, 0xC5FF, 0x12, 0x12, .enum16, .ro, (.num 0), .any⟩,
  ⟨0xC600, 0xC600, 0x00, 0x00, .u16, .rws, (.num 48620), .between 1024 65535⟩,
  ⟨0xC601, 0xC601, 0x00, 0x00, .u8, .rws, (.num 15), .mask 0xF⟩,
  ⟨0xC602, 0xC602, 0x00, 0x00, .bool, .rws, (.num 0), .any⟩,
  ⟨0xC603, 0xC603, 0x00, 0x00, .bool, .rws, (.num 0), .any⟩,
  ⟨0xC604, 0xC604, 0x00, 0x00, .u16, .rws, (.num 60), .between 5 3600⟩,
  ⟨0xC605, 0xC605, 0x00, 0x00, .u16, .rws, (.num 100), .between 10 5000⟩,
  ⟨0xC606, 0xC606, 0x00, 0x00, .u8, .rws, (.num 3), .between 0 10⟩,
  ⟨0xC607, 0xC607, 0x00, 0x00, .u8, .ro, (.num 0), .any⟩,
  ⟨0xC608, 0xC608, 0x00, 0x00, .u8, .ro, (.num 3), .any⟩,
  ⟨0xC608, 0xC608, 0x01, 0x01, .u32, .ro, (.num 0), .any⟩,
  ⟨0xC608, 0xC608, 0x02, 0x02, .u32, .ro, (.num 0), .any⟩,
  ⟨0xC608, 0xC608, 0x03, 0x03, .u32, .ro, (.num 0), .any⟩,
  ⟨0xC610, 0xC62F, 0x00, 0x00, .u8, .ro, (.num 8), .any⟩,
  ⟨0xC610, 0xC62F, 0x01, 0x01, .u32, .ro, (.num 0), .any⟩,
  ⟨0xC610, 0xC62F, 0x02, 0x02, .enum16, .ro, (.num 0), .any⟩,
  ⟨0xC610, 0xC62F, 0x03, 0x03, .u64, .ro, (.num 0), .any⟩,
  ⟨0xC610, 0xC62F, 0x04, 0x04, .u8, .ro, (.num 0), .any⟩,
  ⟨0xC610, 0xC62F, 0x05, 0x05, .u8, .ro, (.num 255), .any⟩,
  ⟨0xC610, 0xC62F, 0x06, 0x06, .u8, .ro, (.num 0), .any⟩,
  ⟨0xC610, 0xC62F, 0x07, 0x07, .u16, .ro, (.num 0), .any⟩,
  ⟨0xC610, 0xC62F, 0x08, 0x08, .bool, .wo, (.num 0), .any⟩,
  ⟨0xC630, 0xC630, 0x00, 0x00, .u32, .wo, (.num 0), .any⟩,
  ⟨0xC631, 0xC631, 0x00, 0x00, .u32, .wo, (.num 0), .any⟩,
  ⟨0xC632, 0xC632, 0x00, 0x00, .u32, .wo, (.num 0), .any⟩,
  ⟨0xC640, 0xC640, 0x00, 0x00, .u8, .ro, (.num 128), .any⟩,
  ⟨0xC640, 0xC640, 0x01, 0x80, .u64, .ro, (.num 0), .any⟩]
/-- Rows of indices 0xC000 to 0xCFFF. -/
def rowsC : List Row := rowsC_0 ++ rowsC_1 ++ rowsC_2 ++ rowsC_3
/-- Rows of indices 0xD000 to 0xDFFF, part 0. -/
def rowsD_0 : List Row := [
  ⟨0xD000, 0xD000, 0x00, 0x00, .bool, .ro, (.num 0), .any⟩,
  ⟨0xD001, 0xD001, 0x00, 0x00, .u32, .wo, (.num 0), .oneOf [0x4C4F434B]⟩,
  ⟨0xD003, 0xD003, 0x00, 0x00, .blob, .wo, (.bytes []), .len 34⟩,
  ⟨0xD004, 0xD004, 0x00, 0x00, .u16, .ro, (.num 0), .any⟩,
  ⟨0xD010, 0xD010, 0x00, 0x00, .u16, .ro, (.num 15), .any⟩,
  ⟨0xD011, 0xD011, 0x00, 0x00, .u16, .rws, (.num 3600), .between 60 28800⟩,
  ⟨0xD012, 0xD012, 0x00, 0x00, .u8, .ro, (.num 0), .any⟩,
  ⟨0xD100, 0xD107, 0x00, 0x00, .u8, .ro, (.num 3), .any⟩,
  ⟨0xD100, 0xD107, 0x01, 0x01, .blob, .wo, (.bytes []), .len 32⟩,
  ⟨0xD100, 0xD107, 0x02, 0x02, .u8, .rws, (.num 0), .between 0 3⟩,
  ⟨0xD100, 0xD107, 0x03, 0x03, .bool, .ro, (.num 0), .any⟩,
  ⟨0xD108, 0xD108, 0x00, 0x00, .blob, .wo, (.bytes []), .len 32⟩,
  ⟨0xD109, 0xD109, 0x00, 0x00, .bool, .ro, (.num 0), .any⟩,
  ⟨0xD200, 0xD200, 0x00, 0x00, .u8, .ro, (.num 7), .any⟩,
  ⟨0xD200, 0xD200, 0x01, 0x01, .enum16, .ro, (.num 0), .any⟩,
  ⟨0xD200, 0xD200, 0x02, 0x02, .u32, .ro, (.num 0), .any⟩,
  ⟨0xD200, 0xD200, 0x03, 0x03, .u8, .rws, (.num 0), .between 0 1⟩,
  ⟨0xD200, 0xD200, 0x04, 0x04, .u8, .ro, (.num 0), .any⟩,
  ⟨0xD200, 0xD200, 0x05, 0x05, .bool, .wo, (.num 0), .any⟩,
  ⟨0xD200, 0xD200, 0x06, 0x06, .u8, .rw, (.num 0), .mask 0xF⟩,
  ⟨0xD200, 0xD200, 0x07, 0x07, .u8, .ro, (.num 0), .any⟩,
  ⟨0xD201, 0xD202, 0x00, 0x00, .u8, .ro, (.num 4), .any⟩,
  ⟨0xD201, 0xD202, 0x01, 0x01, .enum16, .ro, (.num 0), .any⟩,
  ⟨0xD201, 0xD202, 0x02, 0x02, .u32, .ro, (.num 0), .any⟩,
  ⟨0xD201, 0xD202, 0x03, 0x03, .u16, .ro, (.num 0), .any⟩,
  ⟨0xD201, 0xD202, 0x04, 0x04, .u8, .ro, (.num 0), .any⟩,
  ⟨0xD203, 0xD203, 0x00, 0x00, .blob, .wo, (.bytes []), .any⟩]
/-- Rows of indices 0xD000 to 0xDFFF. -/
def rowsD : List Row := rowsD_0
/-- Rows of indices 0xE000 to 0xEFFF, part 0. -/
def rowsE_0 : List Row := [
  ⟨0xE000, 0xE000, 0x00, 0x00, .time80, .ro, (.num 0), .any⟩,
  ⟨0xE001, 0xE001, 0x00, 0x00, .pick64, .ro, (.num 0), .any⟩,
  ⟨0xE002, 0xE002, 0x00, 0x00, .time80, .ro, (.num 0), .any⟩,
  ⟨0xE003, 0xE003, 0x00, 0x00, .enum16, .ro, (.num 0), .any⟩,
  ⟨0xE004, 0xE004, 0x00, 0x00, .s64, .ro, (.num 0), .any⟩,
  ⟨0xE005, 0xE005, 0x00, 0x00, .u32, .rws, (.num 10000), .between 1000 50000⟩,
  ⟨0xE006, 0xE006, 0x00, 0x00, .bool, .rws, (.num 1), .any⟩,
  ⟨0xE007, 0xE007, 0x00, 0x00, .time80, .wo, (.num 0), .any⟩,
  ⟨0xE008, 0xE008, 0x00, 0x00, .u32, .ro, (.num 0), .any⟩,
  ⟨0xE010, 0xE010, 0x00, 0x00, .u16, .ro, (.num 8192), .any⟩,
  ⟨0xE011, 0xE011, 0x00, 0x00, .u16, .ro, (.num 0), .any⟩,
  ⟨0xE012, 0xE012, 0x00, 0x00, .enum16, .rws, (.num 0), .oneOf [0, 1]⟩,
  ⟨0xE013, 0xE013, 0x00, 0x00, .u32, .rws, (.num 86400), .between 1 604800⟩,
  ⟨0xE014, 0xE014, 0x00, 0x00, .u32, .wo, (.num 0), .any⟩,
  ⟨0xE015, 0xE015, 0x00, 0x00, .u16, .wo, (.num 0), .between 1 65535⟩,
  ⟨0xE016, 0xE016, 0x00, 0x00, .u8, .ro, (.num 4), .any⟩,
  ⟨0xE016, 0xE016, 0x01, 0x01, .u32, .ro, (.num 0), .any⟩,
  ⟨0xE016, 0xE016, 0x02, 0x02, .u32, .ro, (.num 0), .any⟩,
  ⟨0xE016, 0xE016, 0x03, 0x03, .u32, .ro, (.num 0), .any⟩,
  ⟨0xE016, 0xE016, 0x04, 0x04, .u32, .ro, (.num 0), .any⟩]
/-- Rows of indices 0xE000 to 0xEFFF. -/
def rowsE : List Row := rowsE_0
/-- The rows of the area that holds index i (R340). -/
def rowsOf (i : Nat) : List Row :=
  match i / 0x1000 with
  | 0x1 => rows1
  | 0x2 => rows2
  | 0x3 => rows3
  | 0x4 => rows4
  | 0x6 => rows6
  | 0x7 => rows7
  | 0x8 => rows8
  | 0x9 => rows9
  | 0xA => rowsA
  | 0xB => rowsB
  | 0xC => rowsC
  | 0xD => rowsD
  | 0xE => rowsE
  | _ => []

/-- Parameter slots of object type 0x0001. -/
def slots0001 : List Row := [
  ⟨0, 0, 0x01, 0x01, .gain, .rwt, (.num 0), .betweenOr (-144000) 24000 minusInf⟩,
  ⟨0, 0, 0x02, 0x02, .bool, .rwt, (.num 0), .any⟩,
  ⟨0, 0, 0x03, 0x03, .bool, .rwt, (.num 0), .any⟩,
  ⟨0, 0, 0x04, 0x04, .u16, .rwt, (.num 0), .between 0 5000⟩]
/-- Parameter slots of object type 0x0010. -/
def slots0010 : List Row := [
  ⟨0, 0, 0x01, 0x01, .u8, .rw, (.num 1), .between 1 16⟩,
  ⟨0, 0, 0x02, 0x11, .u64, .rwt, (.num 0), .any⟩,
  ⟨0, 0, 0x12, 0x21, .u64, .rw, (.num 0), .any⟩,
  ⟨0, 0, 0x22, 0x22, .gain, .rwt, (.num 0), .betweenOr (-144000) 24000 minusInf⟩]
/-- Parameter slots of object type 0x0011. -/
def slots0011 : List Row := [
  ⟨0, 0, 0x01, 0x01, .u8, .rw, (.num 2), .between 2 5⟩,
  ⟨0, 0, 0x02, 0x02, .enum16, .rw, (.num 1), .oneOf [0, 1, 2]⟩,
  ⟨0, 0, 0x03, 0x03, .freq, .rwt, (.num 200000), .between 20000 86400000⟩,
  ⟨0, 0, 0x04, 0x04, .freq, .rwt, (.num 1000000), .between 20000 86400000⟩,
  ⟨0, 0, 0x05, 0x05, .freq, .rwt, (.num 4000000), .between 20000 86400000⟩,
  ⟨0, 0, 0x06, 0x06, .freq, .rwt, (.num 12000000), .between 20000 86400000⟩,
  ⟨0, 0, 0x07, 0x07, .freq, .rw, (.num 200000), .between 20000 86400000⟩,
  ⟨0, 0, 0x08, 0x08, .freq, .rw, (.num 1000000), .between 20000 86400000⟩,
  ⟨0, 0, 0x09, 0x09, .freq, .rw, (.num 4000000), .between 20000 86400000⟩,
  ⟨0, 0, 0x0A, 0x0A, .freq, .rw, (.num 12000000), .between 20000 86400000⟩,
  ⟨0, 0, 0x0B, 0x0F, .gain, .rwt, (.num 0), .betweenOr (-144000) 24000 minusInf⟩,
  ⟨0, 0, 0x10, 0x10, .u8, .rwt, (.num 0), .mask 0x1F⟩]
/-- Parameter slots of object type 0x0020. -/
def slots0020 : List Row := [
  ⟨0, 0, 0x01, 0x01, .u16, .rw, (.num 64), .between 1 1024⟩,
  ⟨0, 0, 0x02, 0x02, .blob, .rwt, (.bytes []), .any⟩,
  ⟨0, 0, 0x03, 0x03, .blob, .rw, (.bytes []), .any⟩]
/-- Parameter slots of object type 0x0021. -/
def slots0021 : List Row := [
  ⟨0, 0, 0x01, 0x01, .u32, .rw, (.num 4096), .between 65 65536⟩,
  ⟨0, 0, 0x02, 0x02, .blob, .rw, (.bytes []), .any⟩,
  ⟨0, 0, 0x03, 0x03, .u16, .ro, (.num 64), .any⟩,
  ⟨0, 0, 0x04, 0x04, .enum16, .ro, (.num 0), .any⟩]
/-- Parameter slots of object type 0x0030. -/
def slots0030 : List Row := [
  ⟨0, 0, 0x01, 0x01, .u32, .rw, (.num 0), .between 0 1920000⟩,
  ⟨0, 0, 0x02, 0x02, .u32, .rwt, (.num 0), .any⟩,
  ⟨0, 0, 0x03, 0x03, .u8, .rwt, (.num 10), .between 0 64⟩]
/-- Parameter slots of object type 0x0040. -/
def slots0040 : List Row := [
  ⟨0, 0, 0x01, 0x01, .bool, .rwt, (.num 0), .any⟩,
  ⟨0, 0, 0x02, 0x02, .gain, .rwt, (.num (-60000)), .between (-80000) 0⟩,
  ⟨0, 0, 0x03, 0x03, .gain, .rwt, (.num (-80000)), .between (-80000) 0⟩,
  ⟨0, 0, 0x04, 0x04, .u32, .rwt, (.num 100), .between 10 100000⟩,
  ⟨0, 0, 0x05, 0x05, .u16, .rwt, (.num 50), .between 0 5000⟩,
  ⟨0, 0, 0x06, 0x06, .u16, .rwt, (.num 200), .between 5 5000⟩,
  ⟨0, 0, 0x07, 0x07, .gain, .rwt, (.num 3000), .between 0 20000⟩,
  ⟨0, 0, 0x10, 0x10, .bool, .rwt, (.num 0), .any⟩,
  ⟨0, 0, 0x11, 0x11, .gain, .rwt, (.num (-20000)), .between (-60000) 0⟩,
  ⟨0, 0, 0x12, 0x12, .u16, .rwt, (.num 4000), .between 1000 60000⟩,
  ⟨0, 0, 0x13, 0x13, .gain, .rwt, (.num 0), .between 0 24000⟩,
  ⟨0, 0, 0x14, 0x14, .u32, .rwt, (.num 5000), .between 50 500000⟩,
  ⟨0, 0, 0x15, 0x15, .u16, .rwt, (.num 100), .between 5 5000⟩,
  ⟨0, 0, 0x16, 0x16, .gain, .rwt, (.num 0), .between 0 24000⟩,
  ⟨0, 0, 0x17, 0x17, .enum16, .rwt, (.num 0), .oneOf [0, 1]⟩,
  ⟨0, 0, 0x18, 0x18, .enum16, .rwt, (.num 0), .oneOf [0, 1]⟩,
  ⟨0, 0, 0x20, 0x20, .gain, .ro, (.num 0), .any⟩]
/-- Parameter slots of object type 0x0041. -/
def slots0041 : List Row := [
  ⟨0, 0, 0x01, 0x01, .gain, .rwt, (.num (-1000)), .between (-40000) 24000⟩,
  ⟨0, 0, 0x02, 0x02, .u16, .rwt, (.num 50), .between 1 5000⟩,
  ⟨0, 0, 0x03, 0x03, .bool, .rw, (.num 0), .any⟩,
  ⟨0, 0, 0x04, 0x04, .gain, .ro, (.num 0), .any⟩]
/-- Parameter slots of object type 0x0050. -/
def slots0050 : List Row := [
  ⟨0, 0, 0x01, 0x01, .u8, .rw, (.num 8), .between 1 64⟩,
  ⟨0, 0, 0x02, 0x02, .u8, .rw, (.num 8), .between 1 64⟩,
  ⟨0, 0, 0x03, 0x03, .blob, .rwt, (.bytes []), .any⟩,
  ⟨0, 0, 0x04, 0x04, .blob, .rw, (.bytes []), .any⟩,
  ⟨0, 0, 0x05, 0x05, .u64, .rwt, (.num 0), .any⟩]
/-- Parameter slots of object type 0x0060. -/
def slots0060 : List Row := [
  ⟨0, 0, 0x01, 0x01, .gain, .ro, (.num (-2147483648)), .any⟩,
  ⟨0, 0, 0x02, 0x02, .gain, .ro, (.num (-2147483648)), .any⟩,
  ⟨0, 0, 0x03, 0x03, .gain, .ro, (.num (-2147483648)), .any⟩,
  ⟨0, 0, 0x04, 0x04, .u16, .rwt, (.num 300), .between 10 3000⟩,
  ⟨0, 0, 0x05, 0x05, .bool, .wo, (.num 0), .any⟩,
  ⟨0, 0, 0x06, 0x06, .u32, .ro, (.num 0), .any⟩]
/-- Parameter slots of object type 0x0061. -/
def slots0061 : List Row := [
  ⟨0, 0, 0x01, 0x01, .u8, .rw, (.num 2), .between 1 8⟩,
  ⟨0, 0, 0x02, 0x09, .gain, .rwt, (.num 0), .betweenOr (-20000) 6000 minusInf⟩,
  ⟨0, 0, 0x0A, 0x0A, .s32, .ro, (.num (-2147483648)), .any⟩,
  ⟨0, 0, 0x0B, 0x0B, .s32, .ro, (.num (-2147483648)), .any⟩,
  ⟨0, 0, 0x0C, 0x0C, .s32, .ro, (.num (-2147483648)), .any⟩,
  ⟨0, 0, 0x0D, 0x0D, .gain, .ro, (.num (-2147483648)), .any⟩,
  ⟨0, 0, 0x0E, 0x0E, .bool, .rwt, (.num 0), .any⟩]
/-- Parameter slots of object type 0x0070. -/
def slots0070 : List Row := [
  ⟨0, 0, 0x01, 0x01, .enum16, .rwt, (.num 0), .oneOf [0, 1, 2, 3, 4]⟩,
  ⟨0, 0, 0x02, 0x02, .gain, .rwt, (.num (-20000)), .betweenOr (-144000) 0 minusInf⟩,
  ⟨0, 0, 0x03, 0x03, .freq, .rwt, (.num 1000000), .between 1000 86400000⟩,
  ⟨0, 0, 0x04, 0x04, .freq, .rwt, (.num 20000000), .between 1000 86400000⟩,
  ⟨0, 0, 0x05, 0x05, .u32, .rwt, (.num 10000), .between 10 600000⟩]
/-- Parameter slots of object type 0x0080. -/
def slots0080 : List Row := [
  ⟨0, 0, 0x01, 0x01, .enum16, .rw, (.num 0), .oneOf [0, 1]⟩,
  ⟨0, 0, 0x02, 0x02, .u32, .rw, (.num 0), .any⟩,
  ⟨0, 0, 0x03, 0x03, .bool, .ro, (.num 0), .any⟩]
/-- The slots that an object type defines (R76); none for a code that R72 does not list. -/
def slotsOf (type : Nat) : List Row :=
  match type with
  | 0x0001 => slots0001
  | 0x0010 => slots0010
  | 0x0011 => slots0011
  | 0x0020 => slots0020
  | 0x0021 => slots0021
  | 0x0030 => slots0030
  | 0x0040 => slots0040
  | 0x0041 => slots0041
  | 0x0050 => slots0050
  | 0x0060 => slots0060
  | 0x0061 => slots0061
  | 0x0070 => slots0070
  | 0x0080 => slots0080
  | _ => []

end Machine
end Sys2Proof
end

