-- ==== Sys2Proof/Machine/Flags.lean ====
section
/-! DEFINITION. The status codes of R366 and the event sources of the Heddle (R383, R384): their numbers, names and classes.
The numbers 0x000 to 0x004, 0x1C0 to 0x1CF (R421), 0x1E8 to 0x1EC and 0x1F0 to 0x1FD are the manual's; the others are given
in order inside the range that R383 gives their area (log entry 6, DESIGN CHOICE). -/

namespace Sys2Proof
namespace Machine

/-! ## Status codes (R366) -/

namespace Status
def OK : Nat := 0
def UNKNOWN_INDEX : Nat := 1
def UNKNOWN_SUB : Nat := 2
def TYPE_MISMATCH : Nat := 3
def RANGE : Nat := 4
def READ_ONLY : Nat := 5
def WRITE_ONLY : Nat := 6
def CONFLICT : Nat := 7
def STATE : Nat := 8
def NOT_OWNER : Nat := 9
def NOT_AUTHORITY : Nat := 10
def NOT_TIMED : Nat := 11
def QUEUE_FULL : Nat := 12
def PICK_FULL : Nat := 13
def HORIZON : Nat := 14
def TOO_LATE : Nat := 15
def TWILL_REFUSED : Nat := 16
def LEASE_SWAP_REFUSED : Nat := 17
def CLAIMED : Nat := 18
def RIGHTS : Nat := 19
def AUTH_REQUIRED : Nat := 20
def SESSION_UNKNOWN : Nat := 21
def BUSY : Nat := 22
def TOO_LARGE : Nat := 23
def BLOCK_ERROR : Nat := 24
def MALFORMED : Nat := 25
def UNSUPPORTED : Nat := 26
def ATOMIC : Nat := 27

end Status

/-! ## Event sources -/

namespace Ev
def START_DONE : Nat := 0x000
def START_RETRIED : Nat := 0x001
def FALLBACK_ENTERED : Nat := 0x002
def DDR_TRAIN_FAILED : Nat := 0x003
def SLEEP_ABORTED_WAKE : Nat := 0x004
def CORE_RESTARTED : Nat := 0x005
def CORE_FAILED : Nat := 0x006
def SLACK_WARN : Nat := 0x020
def SLACK_ALARM : Nat := 0x021
def MISSED_BATTEN : Nat := 0x022
def SHUTTLE_DERATED : Nat := 0x023
def RESERVE_EXHAUSTED : Nat := 0x024
def OVERCOMMITTED : Nat := 0x025
def REWEAVE_MISMATCH : Nat := 0x026
def OVERFLOW_LOST : Nat := 0x027
def OVERFLOW_EVICT_FAILED : Nat := 0x028
def COEF_UNCORRECTABLE : Nat := 0x040
def STATE_LOST : Nat := 0x041
def SELVEDGE_PARITY : Nat := 0x042
def SELVEDGE_MISMATCH : Nat := 0x043
def TWILL_DONE : Nat := 0x060
def TWILL_REFUSED : Nat := 0x061
def ROUTE_CHANGE_DEFERRED : Nat := 0x062
def TIMED_LATE : Nat := 0x063
def TIMED_ORPHANED : Nat := 0x064
def TIME_STEPPED : Nat := 0x065
def TIMED_NOT_LIVE : Nat := 0x066
def REF_SWITCHED : Nat := 0x080
def REF_DISAGREE : Nat := 0x081
def REF_SOFT : Nat := 0x082
def REF_HARD : Nat := 0x083
def REF_RATE : Nat := 0x084
def REF_NO_SUCCESSOR : Nat := 0x085
def REF_SLOT_DUPLICATE : Nat := 0x086
def SP_HOLDOVER_OOS : Nat := 0x087
def ALIGN_LOST : Nat := 0x088
def ALIGN_INCOMMENSURATE : Nat := 0x089
def PORT_CLOCK_FAULT : Nat := 0x0C0
def PORT_RELOCKED : Nat := 0x0C1
def PORT_NOT_SYNCHRONOUS : Nat := 0x0C2
def PORT_RATE_CHANGED : Nat := 0x0C3
def NONAUDIO_MUTE : Nat := 0x0C4
def NONAUDIO_CLEAR : Nat := 0x0C5
def ASRC_RANGE : Nat := 0x0C6
def WG_UNDERRUN : Nat := 0x0C7
def WG_MARGIN : Nat := 0x0C8
def MAC_LINK_DOWN : Nat := 0x100
def MAC_LINK_UP : Nat := 0x101
def NET_STAT_HALF : Nat := 0x102
def MS_RX_SILENT : Nat := 0x103
def MS_RX_PRESENT : Nat := 0x104
def MS_TX_UNRESOLVED : Nat := 0x105
def MS_NOT_SYNCHRONOUS : Nat := 0x106
def SW_LINK_DOWN : Nat := 0x140
def SW_EQF_LOW : Nat := 0x141
def LINK_PICK_ADDED : Nat := 0x142
def LOOM_ID_CONFLICT : Nat := 0x143
def SW_PICK_CHANGED : Nat := 0x144
def SW_DESKEW_FAIL : Nat := 0x145
def SW_LOOP_REFUSED : Nat := 0x146
def SW_NOT_SYNCHRONOUS : Nat := 0x147
def SW_RATE_MISMATCH : Nat := 0x148
def SW_TRAIN_FAILED : Nat := 0x149
def SW_LINK_UP : Nat := 0x14A
def TWIN_DIVERGED : Nat := 0x180
def LEASE_TAKEN : Nat := 0x181
def SINGULAR_READBACK : Nat := 0x182
def TWIN_NOT_ALIGNED : Nat := 0x183
def TWIN_EXCHANGE_LOST : Nat := 0x184
def TWIN_CATCHUP_FAILED : Nat := 0x185
def LEASE_CONTENDED : Nat := 0x186
def LEASE_PARAM_MISMATCH : Nat := 0x187
def TD_SHORT : Nat := 0x1A0
def TD_LATCHED : Nat := 0x1A1
def TD_THERMAL_LIMIT : Nat := 0x1A2
def TD_RAIL_FAULT : Nat := 0x1A3
def TD_THERMAL_WARN : Nat := 0x1A4
def TD_SENSE_FAULT : Nat := 0x1A5
def TD_RELAY_HOT : Nat := 0x1A6
def TD_LOAD_OPEN : Nat := 0x1A7
def TD_LOAD_DC_PATH : Nat := 0x1A8
def LETOFF_REFUSED : Nat := 0x1C0
def LETOFF_OVER_BUDGET : Nat := 0x1C1
def LETOFF_OVERRUN : Nat := 0x1C2
def VCORE_STEP : Nat := 0x1C3
def VCORE_AT_MAX : Nat := 0x1C4
def VCORE_NOT_SETTLED : Nat := 0x1C5
def PMBUS_FAULT : Nat := 0x1C6
def RAIL_STATUS : Nat := 0x1C7
def TJ_WARN : Nat := 0x1C8
def TJ_HIGH : Nat := 0x1C9
def MEND_PASSED : Nat := 0x1CA
def MEND_FAILED : Nat := 0x1CB
def MEND_SKIPPED : Nat := 0x1CC
def AGING_AHEAD : Nat := 0x1CD
def DICT_UNCORRECTABLE : Nat := 0x1CE
def SCRUB_UNCORRECTABLE : Nat := 0x1CF
def HAPOL_AUTH_FAIL : Nat := 0x1E0
def HAPOL_SUBSCRIBER_LOST : Nat := 0x1E1
def HAPOL_CLAIM_DROPPED : Nat := 0x1E2
def CREEL_LOCK_BROKEN : Nat := 0x1E3
def DEBUG_OPENED : Nat := 0x1E8
def DEBUG_CLOSED : Nat := 0x1E9
def DEBUG_AUTH_FAIL : Nat := 0x1EA
def FW_SLOT_FALLBACK : Nat := 0x1EB
def FW_PROGRAMMED : Nat := 0x1EC
def WAKE_FILTER0 : Nat := 0x1F0
def WAKE_FILTER1 : Nat := 0x1F1
def WAKE_FILTER2 : Nat := 0x1F2
def WAKE_FILTER3 : Nat := 0x1F3
def WAKE_FILTER4 : Nat := 0x1F4
def WAKE_FILTER5 : Nat := 0x1F5
def WAKE_FILTER6 : Nat := 0x1F6
def WAKE_FILTER7 : Nat := 0x1F7
def WAKE_CP_LINK : Nat := 0x1F8
def WAKE_TIMER : Nat := 0x1F9
def WAKE_IN0 : Nat := 0x1FA
def WAKE_IN1 : Nat := 0x1FB
def WAKE_IN2 : Nat := 0x1FC
def WAKE_IN3 : Nat := 0x1FD

end Ev

/-- Sources with their names and whether they are level sources (R384). -/
def events : List (Nat × String × Bool) := [
  (0x000, "START_DONE", false),
  (0x001, "START_RETRIED", false),
  (0x002, "FALLBACK_ENTERED", false),
  (0x003, "DDR_TRAIN_FAILED", false),
  (0x004, "SLEEP_ABORTED_WAKE", false),
  (0x005, "CORE_RESTARTED", false),
  (0x006, "CORE_FAILED", false),
  (0x020, "SLACK_WARN", true),
  (0x021, "SLACK_ALARM", true),
  (0x022, "MISSED_BATTEN", false),
  (0x023, "SHUTTLE_DERATED", false),
  (0x024, "RESERVE_EXHAUSTED", true),
  (0x025, "OVERCOMMITTED", true),
  (0x026, "REWEAVE_MISMATCH", false),
  (0x027, "OVERFLOW_LOST", false),
  (0x028, "OVERFLOW_EVICT_FAILED", false),
  (0x040, "COEF_UNCORRECTABLE", false),
  (0x041, "STATE_LOST", false),
  (0x042, "SELVEDGE_PARITY", false),
  (0x043, "SELVEDGE_MISMATCH", false),
  (0x060, "TWILL_DONE", false),
  (0x061, "TWILL_REFUSED", false),
  (0x062, "ROUTE_CHANGE_DEFERRED", false),
  (0x063, "TIMED_LATE", false),
  (0x064, "TIMED_ORPHANED", false),
  (0x065, "TIME_STEPPED", false),
  (0x066, "TIMED_NOT_LIVE", false),
  (0x080, "REF_SWITCHED", false),
  (0x081, "REF_DISAGREE", true),
  (0x082, "REF_SOFT", false),
  (0x083, "REF_HARD", false),
  (0x084, "REF_RATE", false),
  (0x085, "REF_NO_SUCCESSOR", false),
  (0x086, "REF_SLOT_DUPLICATE", false),
  (0x087, "SP_HOLDOVER_OOS", false),
  (0x088, "ALIGN_LOST", false),
  (0x089, "ALIGN_INCOMMENSURATE", false),
  (0x0C0, "PORT_CLOCK_FAULT", false),
  (0x0C1, "PORT_RELOCKED", false),
  (0x0C2, "PORT_NOT_SYNCHRONOUS", false),
  (0x0C3, "PORT_RATE_CHANGED", false),
  (0x0C4, "NONAUDIO_MUTE", false),
  (0x0C5, "NONAUDIO_CLEAR", false),
  (0x0C6, "ASRC_RANGE", false),
  (0x0C7, "WG_UNDERRUN", false),
  (0x0C8, "WG_MARGIN", false),
  (0x100, "MAC_LINK_DOWN", false),
  (0x101, "MAC_LINK_UP", false),
  (0x102, "NET_STAT_HALF", false),
  (0x103, "MS_RX_SILENT", false),
  (0x104, "MS_RX_PRESENT", false),
  (0x105, "MS_TX_UNRESOLVED", false),
  (0x106, "MS_NOT_SYNCHRONOUS", false),
  (0x140, "SW_LINK_DOWN", false),
  (0x141, "SW_EQF_LOW", false),
  (0x142, "LINK_PICK_ADDED", false),
  (0x143, "LOOM_ID_CONFLICT", true),
  (0x144, "SW_PICK_CHANGED", false),
  (0x145, "SW_DESKEW_FAIL", false),
  (0x146, "SW_LOOP_REFUSED", false)] ++ [
  (0x147, "SW_NOT_SYNCHRONOUS", false),
  (0x148, "SW_RATE_MISMATCH", false),
  (0x149, "SW_TRAIN_FAILED", false),
  (0x14A, "SW_LINK_UP", false),
  (0x180, "TWIN_DIVERGED", false),
  (0x181, "LEASE_TAKEN", false),
  (0x182, "SINGULAR_READBACK", false),
  (0x183, "TWIN_NOT_ALIGNED", false),
  (0x184, "TWIN_EXCHANGE_LOST", false),
  (0x185, "TWIN_CATCHUP_FAILED", false),
  (0x186, "LEASE_CONTENDED", false),
  (0x187, "LEASE_PARAM_MISMATCH", false),
  (0x1A0, "TD_SHORT", false),
  (0x1A1, "TD_LATCHED", false),
  (0x1A2, "TD_THERMAL_LIMIT", true),
  (0x1A3, "TD_RAIL_FAULT", false),
  (0x1A4, "TD_THERMAL_WARN", true),
  (0x1A5, "TD_SENSE_FAULT", false),
  (0x1A6, "TD_RELAY_HOT", false),
  (0x1A7, "TD_LOAD_OPEN", false),
  (0x1A8, "TD_LOAD_DC_PATH", false),
  (0x1C0, "LETOFF_REFUSED", false),
  (0x1C1, "LETOFF_OVER_BUDGET", true),
  (0x1C2, "LETOFF_OVERRUN", false),
  (0x1C3, "VCORE_STEP", false),
  (0x1C4, "VCORE_AT_MAX", false),
  (0x1C5, "VCORE_NOT_SETTLED", false),
  (0x1C6, "PMBUS_FAULT", true),
  (0x1C7, "RAIL_STATUS", false),
  (0x1C8, "TJ_WARN", true),
  (0x1C9, "TJ_HIGH", true),
  (0x1CA, "MEND_PASSED", false),
  (0x1CB, "MEND_FAILED", false),
  (0x1CC, "MEND_SKIPPED", false),
  (0x1CD, "AGING_AHEAD", false),
  (0x1CE, "DICT_UNCORRECTABLE", false),
  (0x1CF, "SCRUB_UNCORRECTABLE", false),
  (0x1E0, "HAPOL_AUTH_FAIL", false),
  (0x1E1, "HAPOL_SUBSCRIBER_LOST", false),
  (0x1E2, "HAPOL_CLAIM_DROPPED", false),
  (0x1E3, "CREEL_LOCK_BROKEN", false),
  (0x1E8, "DEBUG_OPENED", false),
  (0x1E9, "DEBUG_CLOSED", false),
  (0x1EA, "DEBUG_AUTH_FAIL", false),
  (0x1EB, "FW_SLOT_FALLBACK", false),
  (0x1EC, "FW_PROGRAMMED", false),
  (0x1F0, "WAKE_FILTER0", false),
  (0x1F1, "WAKE_FILTER1", false),
  (0x1F2, "WAKE_FILTER2", false),
  (0x1F3, "WAKE_FILTER3", false),
  (0x1F4, "WAKE_FILTER4", false),
  (0x1F5, "WAKE_FILTER5", false),
  (0x1F6, "WAKE_FILTER6", false),
  (0x1F7, "WAKE_FILTER7", false),
  (0x1F8, "WAKE_CP_LINK", false),
  (0x1F9, "WAKE_TIMER", false),
  (0x1FA, "WAKE_IN0", false),
  (0x1FB, "WAKE_IN1", false),
  (0x1FC, "WAKE_IN2", false),
  (0x1FD, "WAKE_IN3", false)]

/-- Whether a source number carries a source. -/
def isSource (n : Nat) : Bool := events.any (fun e => e.1 == n)

/-- Whether a source is a level source (R384). -/
def isLevel (n : Nat) : Bool := events.any (fun e => e.1 == n && e.2.2)

/-- EVT_SRC_CLASS: 0 none, 1 held, 2 level. -/
def sourceClass (n : Nat) : Nat := if isLevel n then 2 else if isSource n then 1 else 0

/-- EVT_SRC_NAME: the event's name, empty where the number carries no source (R383). -/
def sourceName (n : Nat) : List Byte :=
  match events.find? (fun e => e.1 == n) with
  | some e => ascii e.2.1
  | none => []

/-- ARG of an event with two values (R384): the first in the upper half. -/
def arg2 (a b : Nat) : Nat := (a % 65536) * 65536 + b % 65536

end Machine
end Sys2Proof
end

