-- ==== Sys2Proof/Machine/Ops.lean ====
section
/-! DEFINITION. The named operations that every meaning is built from: tables in canonical form, the dictionary and its
defaults (R5, R339), time and picks (R134, R135), what the engine emits, raising events (R384, R391), leave (R396), and the
timed-action queue (R140 to R144). -/

namespace Sys2Proof
namespace Machine

/-! ## Tables in canonical form -/

/-- The entry of a table under a key. -/
def mapGet {α : Type} : Map α → Nat → Option α
  | [], _ => none
  | (a, x) :: r, k => if a = k then some x else mapGet r k

/-- The entry under a key, or a default. -/
def mapGetD {α : Type} (m : Map α) (k : Nat) (d : α) : α := (mapGet m k).getD d

/-- Sets an entry, keeping keys strictly rising. -/
def mapSet {α : Type} : Map α → Nat → α → Map α
  | [], k, v => [(k, v)]
  | (a, x) :: r, k, v => if k < a then (k, v) :: (a, x) :: r else if k = a then (k, v) :: r else (a, x) :: mapSet r k v

/-- Removes an entry. -/
def mapDel {α : Type} (m : Map α) (k : Nat) : Map α := m.filter (fun e => e.1 ≠ k)

/-- The keys rise strictly. -/
def mapSorted {α : Type} : Map α → Bool
  | [] => true
  | [_] => true
  | a :: b :: r => decide (a.1 < b.1) && mapSorted (b :: r)

/-! ## The dictionary -/

/-- Index of a dictionary key. -/
def keyIndex (k : Nat) : Nat := k / 256
/-- Sub-index of a dictionary key. -/
def keySub (k : Nat) : Nat := k % 256
/-- Key of index and sub-index. -/
def keyOf (i s : Nat) : Nat := i * 256 + s
/-- The same object n indices further on. -/
def ix (k n : Nat) : Nat := k + 256 * n
/-- Entry e of a table of 128 entries per index that starts at key k (sub-index 1 of its first index). -/
def entry (k e : Nat) : Nat := k + 256 * (e / 128) + e % 128

/-- Whether a key lies in the parameter block 0x5000 to 0x5FFF (R76, R486). -/
def isParam (k : Nat) : Bool := k / 0x100000 == 5
/-- The instance a parameter key belongs to (R76). -/
def paramInst (k : Nat) : Nat := (keyIndex k - 0x5000) * 4 + keySub k / 64
/-- The slot of a parameter key (R76). -/
def paramSlot (k : Nat) : Nat := keySub k % 64
/-- Key of slot p of instance i (R76). -/
def paramKey (i p : Nat) : Nat := keyOf (0x5000 + i / 4) (64 * (i % 4) + p)

/-- The table row of an object outside the parameter block, if the manual defines it (R340, R485, R487). -/
def rowOf (k : Nat) : Option Row :=
  (rowsOf (keyIndex k)).find? (fun r =>
    Nat.ble r.idxLo (keyIndex k) && Nat.ble (keyIndex k) r.idxHi && Nat.ble r.subLo (keySub k) && Nat.ble (keySub k) r.subHi)

/-- Whether an index is defined at all (R340). -/
def indexDefined (i : Nat) : Bool :=
  (Nat.ble 0x5000 i && Nat.ble i 0x5FFF) || (rowsOf i).any (fun r => Nat.ble r.idxLo i && Nat.ble i r.idxHi)

/-- Defaults that differ between the entries of one row: slots, spindles, harnesses, speed bins, MACs, monitors and event
sources. -/
def specialDefault (i s : Nat) : Option Val :=
  if i = 0x2117 && s = 1 then some (.num 0x0700)
  else if i = 0x2117 && s = 4 then some (.num 200)
  else if i = 0x2200 && s = 1 then some (.num 0)
  else if i = 0x2201 && s = 1 then some (.num 1)
  else if i = 0x2201 && s = 3 then some (.num 0)
  else if i = 0x2200 && s = 6 then some (.num 0)
  else if i = 0x2201 && s = 6 then some (.num 100)
  else if (i = 0x2404 || i = 0x2405) && s = 2 then some (.num 1)
  else if i = 0x4800 && 0 < s then some (.num ((s - 1) / 6 : Nat))
  else if i = 0x4802 && s = 9 then some (.num 1)
  else if i = 0x4823 && 48 < s then some (.num 0)
  else if 0x8000 ≤ i && i ≤ 0x8006 && s = 7 then some (.num (match i with | 0x8000 => 2000 | 0x8001 => 670 | 0x8005 => 900 | _ => 0))
  else if 0x8000 ≤ i && i ≤ 0x8006 && s = 8 then
    some (.num (match i with | 0x8000 => 300 | 0x8001 => 6 | 0x8002 => 2500 | 0x8003 => 2500 | 0x8004 => 10 | 0x8005 => 25 | _ => 20))
  else if 0x9000 ≤ i && i ≤ 0x91FF && s = 5 then some (.num (sourceClass (i - 0x9000)))
  else if 0x9000 ≤ i && i ≤ 0x91FF && s = 6 then some (.bytes (sourceName (i - 0x9000)))
  else if i = 0xA050 && 0 < s then some (.num (Config.speedBinOf (s - 1) : Nat))
  else if 0xB010 ≤ i && i ≤ 0xB027 && s = 6 then some (.num ((i - 0xB010) % 4 : Nat))
  else if i = 0xC002 && s = 1 then some (.num 4)
  else if (i = 0xC001 || i = 0xC002) && s = 2 then some (.num ((Config.macBase + (i - 0xC000 : Nat)) % 281474976710656))
  else if i = 0xC002 && s = 9 then some (.num 0xFF)
  else if i = 0xC002 && s = 0x0E then some (.num 750000)
  else none

/-- The default of an object outside the parameter block (R5). -/
def defaultOf (k : Nat) : Val :=
  match specialDefault (keyIndex k) (keySub k) with
  | some v => v
  | none => match rowOf k with | some r => r.dflt | none => .num 0

/-- The type code of an instance in a copy of the graph. -/
def typeIn (d : Map Val) (i : Nat) : Nat :=
  match mapGet d (entry Obj.OBJ_INSTANCE i) with | some (Val.num v) => v.toNat / 65536 | _ => 0

/-- The row of a parameter slot of an object type (R76). -/
def slotRow (type p : Nat) : Option Row := (slotsOf type).find? (fun r => Nat.ble r.subLo p && Nat.ble p r.subHi)

/-- A COEF36 or GAIN list as octets of a BLOB (R84, R94). -/
def packInts (w : Nat) (xs : List Int) : List Byte := xs.flatMap (fun x => beBytes w (pattern (8 * w) x))

/-- The integers of a BLOB of w-octet two's-complement entries. -/
def unpackInts (w : Nat) (b : List Byte) : List Int := (List.range (b.length / w)).map (fun i => signed (8 * w) (field b (w * i) w))

/-- Unit impulse of t taps (R84). -/
def impulse (t : Nat) : List Byte := packInts 8 (unity :: List.replicate (t - 1) 0)

/-- Identity matrix of m inputs and n outputs (R94). -/
def identityGains (m n : Nat) : List Byte :=
  packInts 4 ((List.range (m * n)).map (fun e => if m ≠ 0 ∧ e % m = e / m then 0 else minusInf))

/-- A numeric parameter as listed, or its row's default. -/
def paramNum (d : Map Val) (i p : Nat) : Int :=
  match mapGet d (paramKey i p) with
  | some (.num v) => v
  | some (.bytes _) => 0
  | none => match slotRow (typeIn d i) p with | some r => (match r.dflt with | .num v => v | _ => 0) | none => 0

/-- The default of a parameter slot: the row's, PARAM_TYPE, or a BLOB that follows the shape (R489). -/
def paramDefault (d : Map Val) (i p : Nat) : Val :=
  let t := typeIn d i
  if p = 0 then .num t
  else if t = 0x0020 && (p = Par.FIRD_COEFS || p = Par.FIRD_COEFS_STAGED) then .bytes (impulse (paramNum d i Par.FIRD_TAPS).toNat)
  else if t = 0x0021 && p = Par.FIRP_COEFS_STAGED then .bytes (impulse (paramNum d i Par.FIRP_TAPS).toNat)
  else if t = 0x0050 && (p = Par.MTX_GAINS || p = Par.MTX_GAINS_STAGED) then
    .bytes (identityGains (paramNum d i Par.MTX_IN).toNat (paramNum d i Par.MTX_OUT).toNat)
  else match slotRow t p with | some r => r.dflt | none => .num 0

/-- The value of an object in a copy of the dictionary. -/
def getIn (d : Map Val) (k : Nat) : Val :=
  match mapGet d k with
  | some v => v
  | none => if isParam k then paramDefault d (paramInst k) (paramSlot k) else defaultOf k

/-- Sets an object in a copy of the dictionary; a value equal to the default lists nothing. -/
def putIn (d : Map Val) (k : Nat) (v : Val) : Map Val :=
  if isParam k then mapSet d k v else if v = defaultOf k then mapDel d k else mapSet d k v

/-- The number a value holds; octets hold none. -/
def Val.int : Val → Int
  | .num v => v
  | .bytes _ => 0

/-- The octets a value holds. -/
def Val.octets : Val → List Byte
  | .num _ => []
  | .bytes b => b

/-- Reads a number from the dictionary (the edit copy for graph objects, R50). -/
def State.rd (s : State) (k : Nat) : Int := Val.int (getIn s.dict k)
/-- Reads a number as a Nat. -/
def State.rdN (s : State) (k : Nat) : Nat := (s.rd k).toNat
/-- Reads octets. -/
def State.rdB (s : State) (k : Nat) : List Byte := Val.octets (getIn s.dict k)
/-- Whether a BOOL reads 1. -/
def State.on (s : State) (k : Nat) : Bool := decide (s.rd k = 1)
/-- Writes a value. -/
def State.wrV (s : State) (k : Nat) (v : Val) : State := { s with dict := putIn s.dict k v }
/-- Writes a number. -/
def State.wr (s : State) (k : Nat) (v : Int) : State := s.wrV k (.num v)
/-- Adds to a counter that wraps at 32 bits. -/
def State.bump (s : State) (k : Nat) (n : Nat := 1) : State := s.wr k ((s.rd k + n) % 4294967296)
/-- Adds to a counter that saturates at 0xFFFF_FFFF (R416, R420). -/
def State.bumpSat (s : State) (k : Nat) (n : Nat := 1) : State := s.wr k (min (s.rd k + n) 4294967295)
/-- Reads a number of the running plan (R50). -/
def State.runN (s : State) (k : Nat) : Int := Val.int (getIn s.run k)
/-- Writes a value in the running plan. -/
def State.wrRun (s : State) (k : Nat) (v : Val) : State := { s with run := putIn s.run k v }
/-- Applies a function once for each member of a list. -/
def State.each {α : Type} (s : State) (xs : List α) (f : State → α → State) : State := xs.foldl f s

/-! ## Time and picks (R30, R134, R135) -/

/-- Engine rate in Hz of a code of ENGINE_RATE (R30). -/
def rateHz (code : Int) : Nat :=
  match code with | 0 => 44100 | 1 => 48000 | 2 => 88200 | 3 => 96000 | 4 => 176400 | _ => 192000
/-- Pick length of a code of ENGINE_RATE (R30). -/
def pickSamples (code : Int) : Nat := match code with | 0 => 8 | 1 => 8 | 2 => 16 | 3 => 16 | 4 => 32 | _ => 32
/-- The rate multiple 1, 2 or 4 of a code (R56). -/
def rateMultiple (code : Int) : Nat := pickSamples code / 8

/-- The running engine rate in Hz. -/
def State.fs (s : State) : Nat := rateHz (s.rd Obj.ENGINE_RATE_RUNNING)
/-- The running pick length. -/
def State.pl (s : State) : Nat := pickSamples (s.rd Obj.ENGINE_RATE_RUNNING)
/-- The pick period in ns, rounded to nearest. -/
def State.pickNs (s : State) : Nat := roundNat (s.pl * 1000000000) s.fs
/-- Engine time of sample k in ns, rounded to 1 ns (R135). -/
def State.sampleNs (s : State) (k : Nat) : Nat := roundNat (k * 1000000000) s.fs
/-- Engine time of batten n in ns (R135, R139). -/
def State.battenNs (s : State) (n : Nat) : Nat := s.sampleNs (n * s.pl)
/-- What the slew has taken off engine time so far (R136): at most TIME_SLEW_PPB of the local time it has run, and no more than the offset. -/
def State.slewed (s : State) : Int :=
  let c := s.clock
  if c.slewing = 0 then 0
  else
    let run : Int := ((c.now - c.slewFrom) * s.rdN Obj.TIME_SLEW_PPB / 1000000000 : Nat)
    if 0 ≤ c.slewing then min c.slewing run else max c.slewing (-run)
/-- How long the running slew takes in all, in local ns (R136). -/
def State.slewNs (s : State) : Nat :=
  if s.clock.slewing = 0 then 0 else (s.clock.slewing.natAbs * 1000000000 + s.rdN Obj.TIME_SLEW_PPB - 1) / max 1 (s.rdN Obj.TIME_SLEW_PPB)
/-- Engine time in ns (R134, R136). -/
def State.engineNs (s : State) : Nat := ((s.clock.now : Int) + s.clock.offset - s.slewed).toNat
/-- The engine time of another local instant near the present one, in ns. -/
def State.engineOf (s : State) (local_ : Nat) : Nat := ((local_ : Int) - s.clock.now + s.engineNs).toNat
/-- The local instant at which engine time reaches ns while the slew runs on as it does (R135, R136). -/
def State.localOf (s : State) (ns : Nat) : Nat :=
  let c := s.clock
  let d : Int := ns - (c.slewFrom + c.offset)
  if c.slewing = 0 then (ns - c.offset : Int).toNat
  else if (s.slewNs : Int) - c.slewing ≤ d then (c.slewFrom + d + c.slewing).toNat
  else
    let rate : Int := if 0 ≤ c.slewing then 1000000000 - s.rdN Obj.TIME_SLEW_PPB else 1000000000 + s.rdN Obj.TIME_SLEW_PPB
    (c.slewFrom + -((-d * 1000000000) / rate)).toNat
/-- Engine time goes on from here with what is left of the slew (R136). -/
def State.foldSlew (s : State) : State :=
  let off := s.slewed
  { s with clock := { s.clock with offset := s.clock.offset - off, slewing := s.clock.slewing - off, slewFrom := s.clock.now } }
/-- The latest count of a rate whose instant, rounded to 1 ns as that of a batten (R139), engine time has reached. -/
def State.reached (s : State) (rate : Nat) : Nat := ((2 * s.engineNs + 1) * rate - 1) / 2000000000
/-- The sample whose period engine time lies in (R135). -/
def State.sampleNow (s : State) : Nat := s.reached s.fs
/-- First sample at or after an instant of engine time: ceil(t * fs) (R141). -/
def State.sampleAt (s : State) (ns : Nat) : Nat := (ns * s.fs + 999999999) / 1000000000
/-- Number of samples in a time of ms: round(ms * fs / 1,000) (R64, R67). -/
def State.msSamples (s : State) (ms : Nat) : Nat := roundNat (ms * s.fs) 1000
/-- An instant on the 8 ns grid of R150. -/
def grid8 (ns : Nat) : Nat := ns / 8
/-- Whether a deadline has acted before an arrival: the arrival wins a tie on the 8 ns grid (R150). -/
def past (now deadline : Nat) : Bool := decide (grid8 deadline < grid8 now)
/-- Whether a deadline in local ns, compared with the present in engine time, has acted before an arrival of the present (R150). -/
def State.overdue (s : State) (deadline : Nat) : Bool := past s.engineNs (s.engineOf deadline)
/-- Whether a timer that started at local ns `since` and that no arrival answers has run `ns`. -/
def State.ran (s : State) (since ns : Nat) : Bool := decide (since + ns ≤ s.clock.now)

/-- TIME80 as one number: SECONDS in the upper bits, NANOSECONDS in [31:0] (R134). -/
def time80 (ns : Nat) : Nat := ns / 1000000000 * 4294967296 + ns % 1000000000
/-- Nanoseconds of a TIME80. -/
def time80Ns (v : Nat) : Nat := v / 4294967296 * 1000000000 + v % 4294967296
/-- Whether a TIME80 is admitted: NANOSECONDS below 1,000,000,000 (R134). -/
def time80Valid (v : Nat) : Bool := decide (v % 4294967296 < 1000000000)

/-- A command arrives at local instant t: the count never runs backwards, and what the last command emitted is gone. -/
def State.at_ (s : State) (t : Nat) : State := { s with clock := { s.clock with now := max s.clock.now t }, sent := [] }

/-- Whether the engine is in service (BOOT_STAGE 5) with its cores running (R435, R368). -/
def State.inService (s : State) : Bool := decide (s.power.stage = 5) && !s.power.held
/-- Whether core n runs: in stage 4, 5 or fallback, neither restarting nor halted (R368, R436, R456). -/
def State.coreRuns (s : State) (n : Nat) : Bool :=
  decide (s.power.restarting.getD n 0 = 0) && !(s.power.halted.getD n false) && !s.power.held
/-- Runs f when the condition holds; otherwise the step does not come about (log entry 3). -/
def State.whenever (s : State) (c : Bool) (f : State → State) : State := if c then f s else s

/-! ## What the engine puts out -/

/-- Adds one emission. -/
def State.emit (s : State) (e : Emit) : State := { s with sent := s.sent ++ [e] }

/-- Whether EVT_N is driven low (R382). -/
def evtLow (s : State) : Bool :=
  decide (0 < s.heddle.bobbin2.length) || (s.creel.evtMbx && decide (0 < s.agent.mailbox.length))

/-- EVT_N follows the counts (R382): its new level, when it differs from that of the state before. -/
def State.evtFrom (s before : State) : State :=
  if evtLow s = evtLow before then s else s.emit (.pin "EVT_N" 0 (if evtLow s then 0 else 1))

/-- Draws a free value: the manual leaves the result open and nothing constrains it (log entry 5). -/
def State.draw (s : State) : Int × State := (Config.free s.fresh, { s with fresh := s.fresh + 1 })

/-! ## Raising events (R384 to R391) -/

/-- Key of EVT_SRC_TARGETS and its neighbours for a source. -/
def evtKey (k src : Nat) : Nat := ix k src

/-- Whether a source is enabled for a target (0 core A, 1 core B, 2 host, 3 field network): bits 0 and 1 hold the firmware
value, both set (R394 table; log entry 8). -/
def State.enabled (s : State) (src target : Nat) : Bool := target < 2 || bit (s.rdN (evtKey Obj.EVT_SRC_TARGETS src)) target

/-- Whether a source is sensed in edge-latch mode now (R385, R394). -/
def State.latches (s : State) (src : Nat) : Bool := !s.heddle.filtered || (decide (0x1F0 ≤ src) && decide (2 ≤ s.power.doff))

/-- Engine time at which an occurrence raised now becomes pending: on the 20 ns grid, behind the filter when filtered
(R386, R392). -/
def State.pendTime (s : State) (src : Nat) : Nat :=
  s.engineNs / 20 * 20 + (if s.latches src then 0 else 20 * s.rdN (evtKey Obj.EVT_SRC_FILTER_N src))

/-- Whether a pending entry is the plain occurrence of a source for a target. -/
def isPend (target src : Nat) (p : Pend) : Bool := p.target == target && p.source == src && !p.clear && !p.withdrawn

/-- One occurrence of a held source for one target: pending, or merged with the one that is (R384, R391). -/
def State.occur (s : State) (src arg : Nat) (target : Nat) : State :=
  if !s.enabled src target then s
  else if s.heddle.pend.any (isPend target src) then
    let pend := s.heddle.pend.map (fun p => if isPend target src p then { p with merged := true, arg := arg } else p)
    { s with heddle := { s.heddle with pend := pend } }.bump (evtKey Obj.EVT_SRC_MERGED src)
  else
    { s with heddle := { s.heddle with pend := s.heddle.pend ++
        [⟨target, src, s.pendTime src, arg, false, s.latches src, false, false⟩] } }

/-- Raises a held source with its argument, for every target enabled for it (R384). -/
def State.raise (s : State) (src arg : Nat) : State := s.each [0, 1, 2, 3] (fun s t => s.occur src arg t)

/-- Whether the raw line of a level source is high: the condition stands for some unit (R384). -/
def State.lineHigh (s : State) (src : Nat) : Bool := s.heddle.standing.any (fun p => p.1 == src)

/-- The condition of a level source starts to stand for a unit (R384): its line rises, or stays high with a new ARG. -/
def State.rise (s : State) (src unit arg : Nat) : State :=
  if s.heddle.standing.contains (src, unit) then s
  else
    let was := s.lineHigh src
    let s := { s with heddle := { s.heddle with standing := s.heddle.standing ++ [(src, unit)], args := mapSet s.heddle.args src arg } }
    if was then s
    else
      let s := { s with heddle := { s.heddle with
                  changed := (src, s.clock.now) :: s.heddle.changed.filter (fun p => p.1 != src) } }
      if s.latches src then s.raise src arg else s

/-- The condition of a level source ceases to stand for a unit: its line falls when it stood for no other (R384). -/
def State.fall (s : State) (src unit : Nat) : State :=
  if !s.heddle.standing.contains (src, unit) then s
  else
    let s := { s with heddle := { s.heddle with standing := s.heddle.standing.filter (fun p => p != (src, unit)) } }
    if s.lineHigh src then s
    else { s with heddle := { s.heddle with
            changed := (src, s.clock.now) :: s.heddle.changed.filter (fun p => p.1 != src) } }

/-- Level of a source for a unit. -/
def State.level (s : State) (src unit arg : Nat) (on : Bool) : State := if on then s.rise src unit arg else s.fall src unit

/-- Whether a level source stands for a unit. -/
def State.stands (s : State) (src unit : Nat) : Bool := s.heddle.standing.contains (src, unit)

/-! ## Leave (R395, R396) -/

/-- Queues a leave request and counts it as waiting; the governor decides at the next batten. -/
def State.askLeave (s : State) (kind units owner : Nat) : State :=
  let r : Request := ⟨s.governor.nextId, kind, units, owner, s.clock.now, 0, false⟩
  { s with governor := { s.governor with waiting := s.governor.waiting ++ [r], nextId := s.governor.nextId + 1 } }.wr
    Obj.LETOFF_WAITING (s.governor.waiting.length + 1 : Nat)

/-- Whether a request of a kind and owner waits. -/
def State.asking (s : State) (kind owner : Nat) : Bool := s.governor.waiting.any (fun r => r.kind == kind && r.owner == owner)
/-- Whether a grant of a kind and owner is held. -/
def State.granted (s : State) (kind owner : Nat) : Bool := s.governor.grants.any (fun r => r.kind == kind && r.owner == owner)

/-- Units of the grants outstanding, fault moves at 40 units each (R395, R397). -/
def State.unitsOut (s : State) : Nat := (s.governor.grants.map (fun r => r.units)).sum + 40 * s.governor.faultMoves

/-- Releases the grants of a kind and owner and withdraws their requests (R398). -/
def State.release (s : State) (kind owner : Nat) : State :=
  let g := { s.governor with
    grants := s.governor.grants.filter (fun r => !(r.kind == kind && r.owner == owner)),
    waiting := s.governor.waiting.filter (fun r => !(r.kind == kind && r.owner == owner)) }
  let s := { s with governor := g }
  (s.wr Obj.LETOFF_WAITING (g.waiting.length : Nat)).wr Obj.LETOFF_GRANTED_UNITS (s.unitsOut : Nat)

/-! ## Actions (R18, R140 to R147) -/

/-- Marks an accepted RWS write as not yet saved (R343). -/
def State.markSave (s : State) : State :=
  let s := if s.rd Obj.DICT_SAVE_PENDING = 0 then { s with power := { s.power with dirtySince := s.clock.now } } else s
  s.wr Obj.DICT_SAVE_PENDING (min 65535 (s.rd Obj.DICT_SAVE_PENDING + 1))

/-- The sample at offset 0 of the next pick (R18). -/
def State.nextSample (s : State) : Nat := (s.clock.pick + 1) * s.pl

/-- The engine time at which the message that is being served was received, in ns (R150). -/
def State.receipt (s : State) : Nat := s.agent.received.getD s.engineNs

/-- The sample at offset 0 of the pick whose batten comes at or after the present (R18, R150). -/
def State.dueSample (s : State) : Nat := if past s.engineNs (s.battenNs s.clock.pick) then s.nextSample else s.clock.pick * s.pl

/-- Inserts a direct write: an action inserted on arrival, due at offset 0 of the next pick (R18, R63). -/
def State.direct (s : State) (session k : Nat) (v : Val) (edited : Bool := false) : State :=
  { s with agent := { s.agent with actions := s.agent.actions ++
      [⟨0, k, v, s.dueSample, s.receipt, 1, 0, session, true, edited, false⟩] } }

/-- Timed actions (direct writes apart) pending in the queue. -/
def State.timed (s : State) : List Action := s.agent.actions.filter (fun a => !a.direct)

/-- Sets the action list and the count of pending actions. -/
def State.setActions (s : State) (as : List Action) : State :=
  { s with agent := { s.agent with actions := as } }.wr Obj.TIMED_QUEUE_USED ((as.filter (fun (a : Action) => !a.direct)).length : Nat)

/-- The status of inserting an action at a sample (R144): QUEUE_FULL, PICK_FULL, HORIZON or OK. -/
def State.insertStatus (s : State) (sample already : Nat) : Nat :=
  if s.rd Obj.TIMED_QUEUE_SIZE ≤ s.rd Obj.TIMED_QUEUE_USED + already then Status.QUEUE_FULL
  else if 2048 ≤ (s.timed.filter (fun a => a.sample / s.pl == sample / s.pl)).length + already then Status.PICK_FULL
  else if (s.engineNs + s.rdN Obj.TIMED_HORIZON_S * 1000000000) * s.fs < sample * 1000000000 then Status.HORIZON
  else Status.OK

/-- Inserts a timed action with a new ID (R140); the state answers its ID in `nextAction` before. -/
def State.insert (s : State) (k : Nat) (v : Val) (sample late tag session : Nat) : State :=
  let id := s.agent.nextAction
  let s := s.setActions (s.agent.actions ++ [⟨id, k, v, sample, s.receipt, late, tag, session, false, false, false⟩])
  { s with agent := { s.agent with
      nextAction := if id = 4294967295 then 1 else id + 1, wrapped := s.agent.wrapped || id == 4294967295 } }

/-- The next action ID after an ID that was issued here or by the twin (R140, R147). -/
def State.issue (s : State) (id : Nat) : State :=
  if id = 0 then s
  else { s with agent := { s.agent with
      nextAction := max s.agent.nextAction (if id = 4294967295 then 1 else id + 1), wrapped := s.agent.wrapped || id == 4294967295 } }

/-! ## Small list operations -/

/-- Replaces the elements that satisfy p. -/
def change {α : Type} (xs : List α) (p : α → Bool) (f : α → α) : List α := xs.map (fun x => if p x then f x else x)

/-- Sets position n of a list. -/
def setAt {α : Type} (xs : List α) (n : Nat) (v : α) : List α := xs.set n v

/-- Stable insertion sort by a numeric key, lowest first. -/
def insertBy {α : Type} (f : α → Nat) (x : α) : List α → List α
  | [] => [x]
  | y :: r => if f x < f y then x :: y :: r else y :: insertBy f x r
def sortBy {α : Type} (f : α → Nat) (xs : List α) : List α := xs.foldl (fun a x => insertBy f x a) []

/-- Numbers of the set bits of a mask, below n. -/
def bitsOf (m n : Nat) : List Nat := (List.range n).filter (fun i => bit m i)

/-- Position of the first element that satisfies p. -/
def findPos {α : Type} (p : α → Bool) : List α → Option Nat
  | [] => none
  | x :: r => if p x then some 0 else (findPos p r).map (· + 1)

/-- Whether a type holds octets. -/
def Ty.octets : Ty → Bool
  | .string => true | .blob => true | _ => false

/-- Sets fault flag n of the digest of the running pick (R301). -/
def State.flag (s : State) (n : Nat) : State := { s with twin := { s.twin with faults := setBit s.twin.faults n true } }

end Machine
end Sys2Proof
end

