-- ==== Sys2Proof/Machine/Governor.lean ====
section
/-! DEFINITION. Power admission and monitors (chapter 16): the let-off governor's decision at a batten (R396 to R399), core
voltage and PMBus (R400 to R405), temperature (R406, R407), aging hours (R412), scrubbing (R416, R417) and monitors
(R418, R419). -/

namespace Sys2Proof
namespace Machine

/-- The outcome of a command. -/
abbrev Result := Host.Outcome State Fault Refusal

/-! ## Monitors (R418 to R420) -/

/-- Histogram bin of a value (R419). -/
def monBin (base width v : Int) : Nat :=
  if v < base then 0 else if base + 30 * width ≤ v then 31 else if width ≤ 0 then 31 else ((v - base) / width).toNat + 1

/-- A BLOB of U32 with one entry raised by one, saturating. -/
def bumpBin (b : List Byte) (n : Nat) : List Byte :=
  b.take (4 * n) ++ beBytes 4 (min 4294967295 (field b (4 * n) 4 + 1)) ++ b.drop (4 * n + 4)

/-- One sample of monitor m: latest, lowest and highest values with their times, and the histogram (R418, R419). -/
def monSample (m : Nat) (v : Int) (s : State) : State :=
  let t : Int := time80 s.engineNs
  let s := s.wr (ix Obj.MON_VALUE m) v
  let s := if v < s.rd (ix Obj.MON_MIN m) then (s.wr (ix Obj.MON_MIN m) v).wr (ix Obj.MON_MIN_TIME m) t else s
  let s := if s.rd (ix Obj.MON_MAX m) < v then (s.wr (ix Obj.MON_MAX m) v).wr (ix Obj.MON_MAX_TIME m) t else s
  let bin := monBin (s.rd (ix Obj.MON_HIST_BASE m)) (s.rd (ix Obj.MON_HIST_WIDTH m)) v
  s.wrV (ix Obj.MON_HIST m) (.bytes (bumpBin (s.rdB (ix Obj.MON_HIST m)) bin))

/-- Clears the histogram, the minimum and the maximum of monitor m (R419). -/
def monReset (m : Nat) (s : State) : State :=
  ((((s.wrV (ix Obj.MON_HIST m) (zeros 128)).wr (ix Obj.MON_MIN m) 0x7FFFFFFF).wr (ix Obj.MON_MAX m) minusInf).wr
    (ix Obj.MON_MIN_TIME m) 0).wr (ix Obj.MON_MAX_TIME m) 0

/-- Clears temple and saturation counters of every entry, instance and bus (R420). -/
def clearOutputCounts (s : State) : State :=
  { s with dict := s.dict.filter (fun e => !((Nat.ble 0x840000 e.1 && Nat.ble e.1 0x841FFF) ||
      (Nat.ble 0x850000 e.1 && Nat.ble e.1 0x858FFF))) }

/-! ## The draw and the headrooms (R397) -/

/-- The recorded READ_IOUT values as their sum and number; the latest reading before any was recorded. I_base is their quotient (R397). -/
def iSum (s : State) : Nat × Nat :=
  if s.governor.iout.isEmpty then (s.governor.lastIout, 1) else (s.governor.iout.sum, s.governor.iout.length)

/-- P_base times 1,000 and the number of recorded values, in mW (R397). -/
def pSum (s : State) : Int := ((s.governor.vout * (iSum s).1 : Nat) : Int) + s.rd Obj.LETOFF_OTHER_MW * (1000 * (iSum s).2 : Nat)

/-- P_base in whole mW (R397). -/
def pBase (s : State) : Int := pSum s / (1000 * (iSum s).2 : Nat)

/-- Power headroom in units of 50 mA (R397). -/
def powerHeadroom (s : State) : Int :=
  (s.rd Obj.LETOFF_BUDGET_MW * (1000 * (iSum s).2 : Nat) - pSum s) / (50 * s.governor.vout * (iSum s).2 : Nat)

/-- Rail headroom in units of 50 mA (R397). -/
def railHeadroom (s : State) : Int := (s.rd Obj.LETOFF_RAIL_MAX_MA * ((iSum s).2 : Nat) - ((iSum s).1 : Nat)) / (50 * (iSum s).2 : Nat)

/-- LETOFF_AVAILABLE (R397). -/
def available (s : State) : Int := max 0 (min (powerHeadroom s) (railHeadroom s) - s.unitsOut)

/-- Whether PMBus is in fault (R405). -/
def pmbusFault (s : State) : Bool := s.stands Ev.PMBUS_FAULT 0

/-- Whether a waiting request is refused at this batten (R399). -/
def refusedNow (s : State) (r : Request) : Bool :=
  decide (railHeadroom s < r.units) || pmbusFault s || (s.stands Ev.TJ_HIGH 0 && decide (2 < r.kind))

/-- The counters and the event of a refusal (R399). -/
def refuse (s : State) (r : Request) : State := (s.bump Obj.LETOFF_REFUSALS).raise Ev.LETOFF_REFUSED r.kind

/-- Grants one request. -/
def grant (s : State) (r : Request) : State :=
  let r' := { r with grantedAt := s.clock.now }
  { s with governor := { s.governor with
      grants := s.governor.grants ++ [r'],
      waiting := s.governor.waiting.filter (fun q => q.id != r.id) } }.bump Obj.LETOFF_GRANTS

/-- Grants requests in order until the first that does not fit (R396). While LETOFF_OVER_BUDGET stands only core-voltage
steps are granted (R397); while a fault move runs nothing is (R108). -/
def grantInOrder (s : State) : List Request → State
  | [] => s
  | r :: rest =>
    if s.governor.faultMoves ≠ 0 then s
    else if s.stands Ev.LETOFF_OVER_BUDGET 0 && r.kind != 1 then grantInOrder s rest
    else if r.kind == 1 then
      if (r.units : Int) ≤ railHeadroom s - s.unitsOut then grantInOrder (grant s r) rest else s
    else if (r.units : Int) ≤ available s then grantInOrder (grant s r) rest
    else s

/-- The linear16 word of a voltage in mV with exponent e (R400): mV / 1,000 * 2^(-e), to nearest. -/
def linear16 (mv : Nat) (e : Int) : Nat := roundNat (mv * 2 ^ (-e).toNat) 1000

/-- The voltage in mV of a linear16 word with exponent e, to nearest (R400). -/
def voltsOf (w : BitVec 16) (e : Int) : Nat := roundNat (w.toNat * 1000) (2 ^ (-e).toNat)

/-- The current in mA of a linear11 word (R400): an 11-bit mantissa and a 5-bit exponent, both signed. The format is PMBus's own, which the
manual names only (log entry 236). -/
def ampsOf (w : BitVec 16) : Nat :=
  let e := signed 5 (bits w.toNat 15 11)
  let y := signed 11 (bits w.toNat 10 0) * 1000
  (if 0 ≤ e then y * 2 ^ e.toNat else roundDiv y (2 ^ (-e).toNat)).toNat

/-- Writes VOUT_COMMAND with a set point (R400, R403). -/
def commandVout (s : State) (mv : Nat) : State :=
  (s.emit (.pmbus 0x21 (linear16 mv (s.rd Obj.PMBUS_VOUT_EXP)))).wr Obj.VCORE_SET_MV mv

/-- A granted core-voltage step writes its set point and settles (R403); one that would now pass VCORE_MAX_MV is not written (R401). -/
def startSteps (s : State) : State :=
  match s.governor.grants.find? (fun r => r.kind == 1) with
  | some r =>
    if s.governor.settling.isSome then s
    else if s.rdN Obj.VCORE_MAX_MV < r.owner then s.release 1 r.owner
    else
      let s := commandVout s r.owner
      { s with governor := { s.governor with settling := some (r.owner, s.clock.now) } }
  | none => s

/-- The draw recorded in a pick without a grant (R397). -/
def recordDraw (s : State) : State :=
  if s.unitsOut = 0 then
    { s with governor := { s.governor with iout := (s.governor.lastIout :: s.governor.iout).take 64 } }
  else s

/-- P_base and LETOFF_OVER_BUDGET at a batten (R397). -/
def judgeDraw (s : State) : State :=
  let s := { s with governor := { s.governor with pBase := pBase s } }
  let budget := s.rd Obj.LETOFF_BUDGET_MW * (1000 * (iSum s).2 : Nat)
  if budget < pSum s then (s.rise Ev.LETOFF_OVER_BUDGET 0 (pBase s / 10).toNat).bump Obj.LETOFF_OVER_BUDGET_PICKS
  else
    let s := if pSum s < budget then s.fall Ev.LETOFF_OVER_BUDGET 0 else s
    if s.stands Ev.LETOFF_OVER_BUDGET 0 then s.bump Obj.LETOFF_OVER_BUDGET_PICKS else s

/-- The waiting requests that R399 refuses leave the queue. -/
def refuseWaiting (s : State) : State :=
  let s := s.each (s.governor.waiting.filter (refusedNow s)) refuse
  { s with governor := { s.governor with waiting := s.governor.waiting.filter (fun r => !refusedNow s r) } }

/-- LETOFF_AVAILABLE, LETOFF_GRANTED_UNITS and LETOFF_WAITING. -/
def showLeave (s : State) : State :=
  ((s.wr Obj.LETOFF_AVAILABLE (available s)).wr Obj.LETOFF_GRANTED_UNITS (s.unitsOut : Nat)).wr Obj.LETOFF_WAITING
    (s.governor.waiting.length : Nat)

/-- The governor at a batten (R396 to R399): the draw, the refusals, the grants. Answers the state and the requests it
refused, which their requesters' rules treat. Core B must run (R368, R456). -/
def governorBatten (s : State) : State × List Request :=
  let s := judgeDraw (recordDraw s)
  if !s.coreRuns 1 then (s, [])
  else
    let out := s.governor.waiting.filter (refusedNow s)
    let s := refuseWaiting s
    let s := startSteps (grantInOrder s (sortBy (fun (r : Request) => r.kind) s.governor.waiting))
    (monSample 6 (available s) (showLeave s), out)

/-- Units of a core-voltage step: ceil(I_base * step / set / 50 mA) (R403). -/
def stepUnits (s : State) : Nat :=
  let d := s.rdN Obj.VCORE_SET_MV * 50 * (iSum s).2
  if d = 0 then 0 else ((iSum s).1 * s.rdN Obj.VCORE_STEP_MV + d - 1) / d

/-- A slack alarm asks for one step above the set point (R402). In the pick after the step's release 64 battens have passed only at
the 65th batten (log entry 215). -/
def askStep (s : State) : State :=
  let target := s.rdN Obj.VCORE_SET_MV + s.rdN Obj.VCORE_STEP_MV
  if s.governor.settling.isSome || s.governor.waiting.any (fun r => r.kind == 1) || s.governor.grants.any (fun r => r.kind == 1)
  then s
  else if s.governor.stepPick ≠ 0 ∧ s.clock.pick ≤ s.governor.stepPick + 64 then s
  else if s.rdN Obj.VCORE_MAX_MV < target then
    if s.governor.atMaxRaised then s
    else { s with governor := { s.governor with atMaxRaised := true } }.raise Ev.VCORE_AT_MAX (s.rdN Obj.VCORE_SET_MV)
  else s.askLeave 1 (stepUnits s) target

/-! ## Overruns and waits -/

/-- Longest hold of a request in ns (R395); owners from 16 on of kind 2 are adaptation bursts. -/
def longestHold (s : State) (r : Request) : Nat :=
  match r.kind with
  | 1 => 5000000
  | 2 => if 16 ≤ r.owner then 20000000 else s.rdN Obj.SW_TRAIN_TIMEOUT_MS * 1000000 + 5000000
  | 3 => 1000000000
  | 4 => 50000000
  | 5 => 200000000
  | 6 => 5000000000
  | 7 => 1000000000
  | _ => 10000000

/-- LETOFF_OVERRUN (R398): a grant held beyond its longest hold stays counted; the overrun is counted and raised. -/
def execLetoffOverrun (t id : Nat) (s : State) : Result :=
  let s := s.at_ t
  match s.governor.grants.find? (fun r => r.id == id && !r.overrun) with
  | some r =>
    .next (s.whenever (s.overdue (r.grantedAt + longestHold s r)) (fun s =>
      let s := { s with governor := { s.governor with
        grants := change s.governor.grants (fun q => q.id == id) (fun q => { q with overrun := true }) } }
      (s.bump Obj.LETOFF_OVERRUNS).raise Ev.LETOFF_OVERRUN r.kind))
  | none => .next s

/-! ## PMBus (R400, R403, R405) -/

/-- A failed transaction: counted, and the third in a row puts PMBus in fault (R405). -/
def pmbusFailed (s : State) : State :=
  let s := s.bump Obj.PMBUS_ERRORS
  let s := { s with governor := { s.governor with fails := s.governor.fails + 1 } }
  if 3 ≤ s.governor.fails ∧ !pmbusFault s then
    { s with governor := { s.governor with retryAt := s.clock.now + 100000000 } }.rise Ev.PMBUS_FAULT 0 0
  else s

/-- A good transaction ends a run of failures and clears the fault (R405). -/
def pmbusGood (s : State) : State :=
  { s with governor := { s.governor with fails := 0 } }.fall Ev.PMBUS_FAULT 0

/-- The end of a voltage step: its grant is released and the battens since are counted from here (R402, R403). -/
def stepEnds (s : State) (mv : Nat) : State :=
  let s := s.release 1 mv
  { s with governor := { s.governor with settling := none, stepPick := s.clock.pick } }

/-- READ_VOUT (R400, R403): the rail voltage; within 5 mV of the new set point it ends the step. -/
def execReadVout (t : Nat) (word : Option (BitVec 16)) (s : State) : Result :=
  let s := (s.at_ t).emit (.pmbus 0x8B 0)
  match word with
  | none => .next (pmbusFailed s)
  | some w =>
    let e := s.rd Obj.PMBUS_VOUT_EXP
    let s := pmbusGood s
    let s := { s with governor := { s.governor with vout := voltsOf w e } }
    let unit := 2 ^ (-e).toNat
    match s.governor.settling with
    | some (sp, _) =>
      .next (s.whenever (decide (w.toNat * 1000 ≤ (sp + 5) * unit) && decide (sp * unit ≤ w.toNat * 1000 + 5 * unit)) (fun s =>
        ((stepEnds s sp).bump Obj.VCORE_STEP_COUNT).raise Ev.VCORE_STEP sp))
    | none => .next s

/-- READ_IOUT (R400, R405): the rail current. -/
def execReadIout (t : Nat) (word : Option (BitVec 16)) (s : State) : Result :=
  let s := (s.at_ t).emit (.pmbus 0x8C 0)
  match word with
  | none => .next (pmbusFailed s)
  | some w =>
    let s := pmbusGood s
    .next { s with governor := { s.governor with lastIout := ampsOf w } }

/-- The fault bits of STATUS_WORD that raise RAIL_STATUS (R405). -/
def railFaultBits (w : Nat) : Bool := [15, 14, 13, 11, 6, 5, 4, 2].any (fun n => bit w n)

/-- STATUS_WORD (R405): the word is kept, and its fault bits raise RAIL_STATUS with it. -/
def execStatusWord (t : Nat) (word : Option (BitVec 16)) (s : State) : Result :=
  let s := (s.at_ t).emit (.pmbus 0x79 0)
  match word with
  | none => .next (pmbusFailed s)
  | some w =>
    let s := pmbusGood s
    let s := { s with governor := { s.governor with alert := false } }
    let s := s.wr Obj.PMBUS_STATUS (w.toNat : Nat)
    .next (if railFaultBits w.toNat then s.raise Ev.RAIL_STATUS w.toNat else s)

/-- PMB_ALERT_N falls: a STATUS_WORD read starts at once (R400). -/
def execPmbAlertN (t : Nat) (s : State) : Result :=
  let s := (s.at_ t).emit (.pmbus 0x79 0)
  .next { s with governor := { s.governor with alert := true } }

/-- VCORE_NOT_SETTLED (R403): 5 ms without a reading within 5 mV release the grant; the set point keeps the new value. -/
def execVcoreNotSettled (t : Nat) (s : State) : Result :=
  let s := s.at_ t
  match s.governor.settling with
  | some (sp, since) =>
    .next (s.whenever (s.overdue (since + 5000000)) (fun s => (stepEnds s sp).raise Ev.VCORE_NOT_SETTLED s.governor.vout))
  | none => .next s

/-- VCORE_STEP_DOWN (R404, R405): after 600 s of ample slack one step down, never below VCORE_HOME_MV, without leave; in a PMBus
fault the set point is held. -/
def execVcoreStepDown (t : Nat) (s : State) : Result :=
  let s := s.at_ t
  let set := s.rdN Obj.VCORE_SET_MV
  let home := s.rdN Obj.VCORE_HOME_MV
  .next (s.whenever (decide (home < set) && s.ran s.fabric.ampleSince 600000000000 && s.governor.settling.isNone &&
      !s.governor.waiting.any (fun r => r.kind == 1) && !pmbusFault s) (fun s =>
    commandVout s (max home (set - s.rdN Obj.VCORE_STEP_MV))))

/-- PMBUS_RETRY (R405): every 100 ms in fault; the first good transaction clears the fault. -/
def execPmbusRetry (t : Nat) (good : Bool) (s : State) : Result :=
  let s := s.at_ t
  .next (s.whenever (pmbusFault s && decide (s.governor.retryAt ≤ s.clock.now)) (fun s =>
    if good then pmbusGood s
    else { s with governor := { s.governor with retryAt := s.clock.now + 100000000 } }.bump Obj.PMBUS_ERRORS))

/-! ## Temperature at an assessment (R406, R407) -/

/-- The hottest sensor: its number and reading. -/
def hottest (xs : List Int) : Nat × Int :=
  ((List.range xs.length).zip xs).foldl (fun m p => if m.2 < p.2 then p else m) (0, xs.headD 0)

/-- Sixteen sensors are read; TJ_NOW is the highest; TJ_WARN and TJ_HIGH rise at their limits and clear 3 degC below. -/
def readSensors (xs : List Int) (s : State) : State :=
  if xs.isEmpty then s
  else
    let s := s.each ((List.range 16).zip xs) (fun s p => s.wr (Obj.TJ_SENSOR + p.1) p.2)
    let h := hottest (xs.take 16)
    let s := s.wr Obj.TJ_NOW h.2
    let arg := arg2 h.1 (pattern 16 h.2)
    let warn := s.rd Obj.TJ_WARN
    let high := s.rd Obj.TJ_RATED_MAX
    let s := if warn ≤ h.2 then s.rise Ev.TJ_WARN 0 arg else if h.2 ≤ warn - 300 then s.fall Ev.TJ_WARN 0 else s
    if high ≤ h.2 then s.rise Ev.TJ_HIGH 0 arg else if h.2 ≤ high - 300 then s.fall Ev.TJ_HIGH 0 else s

/-- The equivalent of one hour at a TJ in 0.01 degC in 2^-64 h at +95 degC: exp(5,802.6 K (1 / 368.15 K - 1 / T)) (R412). -/
def stressHour (tj : Int) : Nat := (fixExp (fixRatio (580260 * (tj - 9500)) (36815 * (tj + 27315).toNat))).toNat

/-- AGING_HOUR (R412): one powered hour adds its equivalent stress at TJ_NOW and one service hour. -/
def execAgingHour (t : Nat) (s : State) : Result :=
  let s := s.at_ t
  .next (s.whenever (s.power.corePg && s.ran s.governor.agedAt 3600000000000) (fun s =>
    let f := s.governor.stressFrac + stressHour (s.rd Obj.TJ_NOW)
    let s := { s with governor := { s.governor with stressFrac := f % 2 ^ 64, agedAt := s.governor.agedAt + 3600000000000 } }
    (s.bumpSat Obj.AGING_STRESS_H (f / 2 ^ 64)).bumpSat Obj.AGING_SERVICE_H))

/-! ## Scrubbing (R416, R417) -/

/-- Counter of a parity tier 1 to 5 (R416). -/
def parityKey (tier : Nat) : Nat := Obj.PARITY_LOCAL + (tier - 1) % 5

/-- 32-bit words of the LPDDR5 that is fitted. -/
def scrubbedWords (s : State) : Nat := s.rdN Obj.DDR_FITTED_MIB * 262144

/-- Whether a scrub burst is due: within a pass, or SCRUB_PERIOD_S after the latest pass began (R417). -/
def scrubDue (s : State) : Bool := decide (s.governor.scrubWords ≠ 0) || decide (s.governor.scrubNext ≤ s.clock.now)

/-- SCRUB_BURST (R417): an LPDDR5 burst of up to 64 MiB runs under leave of kind 8, asked for when none is held; its end releases the grant, and
the burst that reaches the last word of what is fitted ends a pass. -/
def execScrubBurst (t words : Nat) (s : State) : Result :=
  let s := s.at_ t
  .next (s.whenever (scrubDue s) (fun s =>
    if s.granted 8 0 then
      let s := s.release 8 0
      let g := s.governor
      let done := g.scrubWords + min words 16777216
      let next := if g.scrubWords = 0 then s.clock.now + s.rdN Obj.SCRUB_PERIOD_S * 1000000000 else g.scrubNext
      let ends := decide (scrubbedWords s ≤ done)
      let s := { s with governor := { s.governor with scrubWords := if ends then 0 else done, scrubNext := next } }
      if ends then s.bumpSat Obj.SCRUB_PASSES else s
    else if s.asking 8 0 then s else s.askLeave 8 4 0))

end Machine
end Sys2Proof
end

