-- ==== Sys2Proof/Machine/Heddle.lean ====
section
/-! DEFINITION. The Heddle (R383 to R394): filtered levels, selection, claims into bobbins, and the change of sensing
mode. -/

namespace Sys2Proof
namespace Machine

/-! ## Bobbins -/

/-- The bobbin of a target (R393). -/
def bobbin (h : Heddle) : Nat → List Record
  | 0 => h.bobbin0
  | 1 => h.bobbin1
  | 2 => h.bobbin2
  | _ => h.bobbin3

/-- Replaces the bobbin of a target. -/
def setBobbin (h : Heddle) (target : Nat) (b : List Record) : Heddle :=
  match target with
  | 0 => { h with bobbin0 := b }
  | 1 => { h with bobbin1 := b }
  | 2 => { h with bobbin2 := b }
  | _ => { h with bobbin3 := b }

/-- Sets the records of a bobbin and the counts that show them. -/
def State.putBobbin (s : State) (target : Nat) (b : List Record) : State :=
  let s := { s with heddle := setBobbin s.heddle target b }.evtFrom s
  let s := s.wr (ix Obj.EVT_BOBBIN_USED target) (b.length : Nat)
  if s.rdN (ix Obj.EVT_BOBBIN_PEAK target) < b.length then s.wr (ix Obj.EVT_BOBBIN_PEAK target) (b.length : Nat) else s

/-- Whether a bobbin has no free record (R391). -/
def State.bobbinFull (s : State) (target : Nat) : Bool :=
  decide (s.heddle.sizes.getD target 256 ≤ (bobbin s.heddle target).length)

/-- The 128 bits of a record (R392). -/
def recordBits (r : Record) : Nat :=
  r.source * 2 ^ 118 + (if r.clear then 2 ^ 117 else 0) + (if r.latched then 2 ^ 116 else 0) +
  (if r.merged then 2 ^ 115 else 0) + r.prio % 8 * 2 ^ 112 + r.seq % 65536 * 2 ^ 96 +
  r.time / 1000000000 % 4294967296 * 2 ^ 64 + r.time % 1000000000 * 2 ^ 32 + r.arg % 4294967296

/-- The 16 octets of a record, most significant first (R392). -/
def recordBytes (r : Record) : List Byte := beBytes 16 (recordBits r)

/-! ## Selection (R388) -/

/-- Priority of a source. -/
def State.prioOf (s : State) (src : Nat) : Nat := s.rdN (evtKey Obj.EVT_SRC_PRIO src)

/-- The source last claimed for a target at a priority; 0x1FF before any, so that the search starts at 0x000. -/
def lastClaimed (h : Heddle) (target prio : Nat) : Nat :=
  match h.last.find? (fun e => e.1 == target && e.2.1 == prio) with | some e => e.2.2 | none => 0x1FF

/-- Rank of a pending entry for its target: priority first, then distance after the source last claimed at that
priority; a CLEAR record goes before the new rise of its source (R386, R388). -/
def rank (s : State) (p : Pend) : Nat :=
  let prio := s.prioOf p.source
  let d := (p.source + 512 - (lastClaimed s.heddle p.target prio + 1) % 512) % 512
  prio * 2048 + d * 2 + (if p.clear then 0 else 1)

/-- The entry that wins a target's arbitration among those whose source is enabled for it, with its position in the pending list
(log entry 198). -/
def winner (s : State) (target : Nat) : Option (Nat × Pend) :=
  let xs := ((List.range s.heddle.pend.length).zip s.heddle.pend).filter
    (fun e => e.2.target == target && s.enabled e.2.source target)
  (sortBy (fun (e : Nat × Pend) => rank s e.2) xs).head?

/-! ## Claims (R389 to R391) -/

/-- The record that a claim of an entry yields: its own, or a spurious one when the source has withdrawn (R390). -/
def claimRecord (s : State) (target : Nat) (p : Pend) : Record :=
  let seq := s.heddle.seqs.getD target 0
  if p.withdrawn then ⟨0x3FF, false, false, false, s.prioOf p.source, seq, s.engineNs / 20 * 20, p.source⟩
  else ⟨p.source, p.clear, p.latched, p.merged, s.prioOf p.source, seq, p.time, p.arg⟩

/-- One claim for a target with room: the record enters the bobbin, the pending state clears for this target only, and the
counts follow. Answers the record's slot in the ring. -/
def claim (s : State) (target : Nat) : Option (State × Nat) :=
  match winner s target with
  | none => none
  | some (pos, p) =>
    let r := claimRecord s target p
    let seq := s.heddle.seqs.getD target 0
    let h := { s.heddle with
      pend := s.heddle.pend.eraseIdx pos,
      seqs := setAt s.heddle.seqs target ((seq + 1) % 65536),
      last := (target, s.prioOf p.source, p.source) ::
        s.heddle.last.filter (fun e => !(e.1 == target && e.2.1 == s.prioOf p.source)),
      claimed := if isLevel p.source && !p.clear && !p.withdrawn then (target, p.source) :: s.heddle.claimed
                 else s.heddle.claimed }
    let b := bobbin s.heddle target
    let s := { s with heddle := h }.putBobbin target (b ++ [r])
    let s := if p.withdrawn then s.bump Obj.EVT_SPURIOUS else s.bump (evtKey Obj.EVT_SRC_COUNT p.source)
    some (s, seq % (s.heddle.sizes.getD target 256))

/-- A claim that is due while the bobbin is full is counted (EVT_BOBBIN_FULL). -/
def claimOrCount (s : State) (target : Nat) : Option (State × Nat) :=
  if s.bobbinFull target then
    if (winner s target).isSome then some (s.bump (ix Obj.EVT_BOBBIN_FULL target), 0) else none
  else claim s target

/-- HED_CLAIM (R389): a core reads HED_CLAIM_A or HED_CLAIM_B, claims its winner and reads the record's slot number. A core
that claims again has advanced its read index past its earlier records (R393; log entry 9). With nothing pending the
read claims nothing. -/
def execHedClaim (t : Nat) (core : Fin 2) (s : State) : Result :=
  let s := s.at_ t
  .next (s.whenever (s.coreRuns core.val) (fun s =>
    match claim (s.putBobbin core.val []) core.val with
    | none => s
    | some (s, slot) => s.emit (.creel (if core.val = 0 then .coreA else .coreB) (BitVec.ofNat 32 slot) false)))

/-! ## Filtered levels (R386, R390) -/

/-- Marks or removes the entries of a level source that fell: selected entries of the host and the field network stay and
yield a spurious record, latched ones stay, others withdraw (R387, R390). -/
def withdraw (s : State) (src : Nat) : State :=
  let sel := [2, 3].filterMap (fun t => match winner s t with | some (n, _) => some n | none => none)
  let xs := (List.range s.heddle.pend.length).zip s.heddle.pend
  let keep := xs.filterMap (fun e =>
    if e.2.source == src && !e.2.clear && !e.2.latched then
      (if sel.contains e.1 then some { e.2 with withdrawn := true } else none)
    else some e.2)
  { s with heddle := { s.heddle with pend := keep } }

/-- A rise of the filtered level: the source becomes pending for each target enabled for it; a selected entry that had
withdrawn reads high again (R390). -/
def riseFor (src arg : Nat) (s : State) (target : Nat) : State :=
  if !s.enabled src target then s
  else
    let now := s.engineNs / 20 * 20
    if s.heddle.pend.any (fun p => p.target == target && p.source == src && !p.clear) then
      { s with heddle := { s.heddle with
          pend := change s.heddle.pend (fun p => p.target == target && p.source == src && !p.clear)
            (fun p => { p with withdrawn := false, time := if p.withdrawn then now else p.time, arg := arg }) } }
    else { s with heddle := { s.heddle with pend := s.heddle.pend ++ [⟨target, src, now, arg, false, false, false, false⟩] } }

/-- A fall after a claim yields a CLEAR record when EVT_SRC_REPORT_CLEAR is 1 (R386). -/
def clearFor (src arg : Nat) (s : State) (target : Nat) : State :=
  if s.heddle.claimed.contains (target, src) && s.on (evtKey Obj.EVT_SRC_REPORT_CLEAR src) && s.enabled src target then
    { s with heddle := { s.heddle with
        pend := s.heddle.pend ++ [⟨target, src, s.engineNs / 20 * 20, arg, false, false, true, false⟩] } }
  else s

/-- FILTERED_LEVEL_CHANGE (R386): the raw line has held its new level for N Heddle cycles of 20 ns. -/
def execFilteredLevelChange (t source : Nat) (s : State) : Result :=
  let s := s.at_ t
  let raw := s.lineHigh source
  let high := s.heddle.high.contains source
  let since := match s.heddle.changed.find? (fun e => e.1 == source) with | some e => e.2 | none => 0
  let arg := mapGetD s.heddle.args source 0
  .next (s.whenever (isLevel source && s.heddle.filtered && raw != high &&
      s.ran since (20 * s.rdN (evtKey Obj.EVT_SRC_FILTER_N source))) (fun s =>
    if raw then
      let s := { s with heddle := { s.heddle with
        high := source :: s.heddle.high, claimed := s.heddle.claimed.filter (fun e => e.2 != source) } }
      s.each [0, 1, 2, 3] (riseFor source arg)
    else
      let s := { s with heddle := { s.heddle with high := s.heddle.high.filter (fun n => n != source) } }
      let s := withdraw s source
      let s := s.each [0, 1, 2, 3] (clearFor source arg)
      { s with heddle := { s.heddle with claimed := s.heddle.claimed.filter (fun e => e.2 != source) } }))

/-! ## Sensing modes (R385, R387) and starts (R393) -/

/-- Enters filtered mode: pending bits stay, and the filter of every source starts at its raw level (R387). -/
def enterFiltered (s : State) : State :=
  { s with heddle := { s.heddle with
      filtered := true,
      high := (s.heddle.standing.map (fun (p : Nat × Nat) => p.1)).eraseDups } }.wr Obj.EVT_MODE 1

/-- Enters edge-latch mode: what is pending stays pending as if its bit were set (R387). -/
def enterLatch (s : State) : State :=
  { s with heddle := { s.heddle with
      filtered := false,
      pend := s.heddle.pend.map (fun (p : Pend) => { p with latched := true }) } }.wr Obj.EVT_MODE 0

/-- Every start empties the bobbins, with SEQ 0 and the sizes that EVT_BOBBIN_SIZE then holds (R393). -/
def resetBobbins (s : State) : State :=
  let before := s
  let s := { s with heddle := { s.heddle with
    bobbin0 := [], bobbin1 := [], bobbin2 := [], bobbin3 := [], seqs := [0, 0, 0, 0],
    sizes := [0, 1, 2, 3].map (fun n => s.rdN (ix Obj.EVT_BOBBIN_SIZE n)), fieldWait := [], last := [] } }
  (s.evtFrom before).each [0, 1, 2, 3] (fun s n => ((s.wr (ix Obj.EVT_BOBBIN_USED n) 0).wr (ix Obj.EVT_BOBBIN_PEAK n) 0))

end Machine
end Sys2Proof
end

