-- ==== Sys2Proof/Machine/Creel.lean ====
section
/-! DEFINITION. The creel (R369 to R376) and the host port (R377 to R382). -/

namespace Sys2Proof
namespace Machine

/-! ## Creel memory -/

/-- Byte offset at which LPDDR5 stands in the model's creel memory, above the 32-bit creel space. -/
def ddrBase : Nat := 0x100000000

/-- Whether an address lies in a window whose contents the manual does not lay out: the dictionary store and the fuse, identity
and security target (R373). -/
def inWindow (a : Nat) : Bool := (Nat.ble 0x30000000 a && Nat.ble a 0x301FFFFF) || (Nat.ble 0x40000000 a && Nat.ble a 0x4000FFFF)

/-- What a byte that nothing has written reads as (log entry 10). -/
def memDefault (a : Nat) : Byte := if inWindow a then Config.window a else 0

/-- Reads one byte. -/
def memRead (m : List Host.Cell) (a : Nat) : Byte := (mapGet m a).getD (memDefault a)

/-- Writes one byte and keeps the canonical form: a byte at its default lists nothing. -/
def memWrite (m : List Host.Cell) (a : Nat) (b : Byte) : List Host.Cell :=
  if b = memDefault a then mapDel m a else mapSet m a b

/-- The canonical form: addresses strictly rising, no entry at its default. -/
def Memory.wf (m : List Host.Cell) : Bool := mapSorted m && m.all (fun c => decide (c.2 ≠ memDefault c.1))

/-- Reads the word at an aligned address, most significant byte first (log entry 11). -/
def memWord (m : List Host.Cell) (a : Nat) : Nat := beNat ((List.range 4).map (fun i => memRead m (a + i)))

/-- Writes a word at an aligned address. -/
def memSetWord (m : List Host.Cell) (a v : Nat) : List Host.Cell :=
  memWrite (memWrite (memWrite (memWrite m a (BitVec.ofNat 8 (v / 2 ^ 24))) (a + 1) (BitVec.ofNat 8 (v / 2 ^ 16)))
    (a + 2) (BitVec.ofNat 8 (v / 2 ^ 8))) (a + 3) (BitVec.ofNat 8 v)

/-! ## Targets, paths and priorities (R369, R370, R373) -/

/-- Target of an address: 0 boot window, 1 work RAM, 2 dictionary store, 3 fuse, 4 port configuration, 5 loom
configuration, 6 LPDDR5 controller. -/
def targetOf (a : Nat) : Option Nat :=
  if a ≤ 0x0001FFFF then some 0
  else if 0x10000000 ≤ a ∧ a ≤ 0x1001FFFF then some 0
  else if 0x20000000 ≤ a ∧ a ≤ 0x2040FFFF then some 1
  else if 0x30000000 ≤ a ∧ a ≤ 0x301FFFFF then some 2
  else if 0x40000000 ≤ a ∧ a ≤ 0x4000FFFF then some 3
  else if 0x50000000 ≤ a ∧ a ≤ 0x50FFFFFF then some 4
  else if 0x60000000 ≤ a ∧ a ≤ 0x63FFFFFF then some 5
  else if 0xC0000000 ≤ a ∧ a ≤ 0xFFFFFFFF then some 6
  else none

/-- Number of a master in the order of R369. -/
def masterNo : Master → Nat
  | .coreA => 0
  | .coreB => 1
  | .bridge => 2
  | .agent => 3
  | .mover => 4
  | .debug => 5

/-- QoS of a master (R370). -/
def qos : Master → Nat
  | .coreA => 8
  | .coreB => 10
  | .bridge => 4
  | .agent => 6
  | .mover => 12
  | .debug => 2

/-- Whether a master may open locked sequences (R370). -/
def mayLock : Master → Bool
  | .coreA => true
  | .coreB => true
  | .mover => true
  | .bridge => false
  | .agent => false
  | .debug => false

/-- Whether the matrix of R369 shows a path for a read or a write; for the debug port the scope granted decides (R451). -/
def pathOpen (s : State) (m : Master) (target : Nat) (write : Bool) : Bool :=
  match m with
  | .coreA => true
  | .coreB => !(write && (target == 0 || target == 3))
  | .bridge => target == 0 || target == 1 || target == 5 || (!write && (target == 3 || target == 4))
  | .agent => target == 1 || target == 2
  | .mover => target == 1 || target == 5 || target == 6
  | .debug =>
    let scope := s.rdN Obj.DEBUG_SCOPE
    if write then bit scope 3 && (target == 1 || target == 4 || target == 5 || target == 6) else bit scope 2

/-! ## Control registers -/

/-- BOOT_CTRL (R375), at offset 0x0000 of the BOOT_ registers (log entry 12). -/
def bootCtrl (s : State) : Nat :=
  s.power.stage * 16 + (if s.creel.lock then 2 else 0) + (if s.creel.remap then 1 else 0)

/-- A write of BOOT_CTRL: from core A alone, and without effect once BOOT_LOCK is set (R375). Answers whether it ends with an
error response. -/
def writeBootCtrl (m : Master) (v : Nat) (s : State) : State × Bool :=
  if m ≠ .coreA then (s, true)
  else if s.creel.lock then (s, false)
  else ({ s with creel := { s.creel with remap := bit v 0, lock := bit v 1 } }, false)

/-- A write of CRL_DDR_SEG of a master: its own register, or any register by core A (R374). Bits [31:4] are reserved. -/
def writeSeg (m reg : Master) (v : Nat) (s : State) : State × Bool :=
  if m = reg ∨ m = .coreA then
    ({ s with creel := { s.creel with segs := setAt s.creel.segs (masterNo reg) (v % 16) } }, false)
  else (s.bump Obj.CREEL_ERROR_COUNT, true)

/-- The master of a register number 0 to 5. -/
def masterAt : Nat → Master
  | 0 => .coreA
  | 1 => .coreB
  | 2 => .bridge
  | 3 => .agent
  | 4 => .mover
  | _ => .debug

/-- An error response under R369: counted, nothing written. Those of R374's bound, R375 and R376 are not counted (log entry
214). -/
def creelError (s : State) : State × Nat × Bool := (s.bump Obj.CREEL_ERROR_COUNT, 0, true)

/-- The byte address in the model's memory that a creel address reaches for a master, or none where no memory stands: boot
ROM words, and LPDDR5 beyond what is fitted. -/
def cellOf (s : State) (m : Master) (a : Nat) : Option Nat :=
  if a ≤ 0x0001FFFF then (if s.creel.remap then some (a + 0x20000000) else none)
  else if a ≤ 0x1FFFFFFF then none
  else if 0xC0000000 ≤ a then
    let d := s.creel.segs.getD (masterNo m) 0 * 1073741824 + (a - 0xC0000000)
    if d + 4 ≤ s.rdN Obj.DDR_FITTED_MIB * 1048576 then some (ddrBase + d) else none
  else some a

/-- A write of BOOT_IMAGE_LEN while BOOT_STAGE reads 2 (R428): the image's verification is due. -/
def writeImageLen (v : Nat) (s : State) : State :=
  if s.power.stage = 2 then { s with power := { s.power with hostLen := v, hostAsked := true } } else s

/-- Carries out one transaction whose turn has come: the matrix, the control registers, the boot window, LPDDR5 bounds and the
memories. Answers the state, the word read and whether it ends with an error response. -/
def creelAccess (m : Master) (addr : Nat) (write : Bool) (data : Nat) (s : State) : State × Nat × Bool :=
  let a := addr / 4 * 4
  match targetOf a with
  | none => creelError s
  | some target =>
    if !pathOpen s m target write then creelError s
    else if m = .bridge ∧ target = 5 ∧ write ∧ s.power.stage = 5 then (s, 0, true)
    else if 0x20400010 ≤ a ∧ a < 0x20400028 then
      let reg := (a - 0x20400010) / 4
      if write then (let (s, e) := writeSeg m (masterAt reg) data s; (s, 0, e)) else (s, s.creel.segs.getD reg 0, false)
    else if a = 0x2040C000 then
      if write then
        (let (s, e) := writeBootCtrl m data s; (s, 0, e))
      else (s, bootCtrl s, false)
    else if a = 0x2040C004 then
      if write then (writeImageLen data s, 0, false) else (let (f, s) := s.draw; (s, pattern 32 f, false))
    else
      match cellOf s m a with
      | some c =>
        if write then ({ s with creel := { s.creel with mem := memSetWord s.creel.mem c data } }, 0, false)
        else (s, memWord s.creel.mem c, false)
      | none =>
        if target = 6 then (s, 0, true)
        else if write then (s, 0, false)
        else (s, beNat ((List.range 4).map (fun i => Config.bootRom (a % 0x10000000 + i))), false)

/-! ## Arbitration and locks (R370, R371) -/

/-- The lock on a target, if one is open. -/
def lockOn (s : State) (target : Nat) : Option (Nat × Master × Nat × Nat) := s.creel.locks.find? (fun l => l.1 == target)

/-- Whether another master's locked sequence keeps this one off its target. -/
def lockedOut (s : State) (m : Master) (op : CreelOp) : Bool :=
  match targetOf op.addr with
  | none => false
  | some t => match lockOn s t with | some l => l.2.1 != m | none => false

/-- Ends the lock of a master on a target; a broken one makes its next transaction end with an error (R371). -/
def breakLock (s : State) (target : Nat) (m : Master) : State :=
  { s with creel := { s.creel with
      locks := s.creel.locks.filter (fun l => l.1 != target), broken := (target, m) :: s.creel.broken } }.raise
    Ev.CREEL_LOCK_BROKEN (arg2 (masterNo m) target)

/-- Follows the locked sequence of a served transaction: opening, counting, closing, and breaking at 16. -/
def followLock (s : State) (m : Master) (target : Nat) (op : CreelOp) : State :=
  match lockOn s target with
  | some (_, _, n, since) =>
    if op.close then { s with creel := { s.creel with locks := s.creel.locks.filter (fun l => l.1 != target) } }
    else if 16 ≤ n + 1 then breakLock s target m
    else { s with creel := { s.creel with
            locks := change s.creel.locks (fun l => l.1 == target) (fun _ => (target, m, n + 1, since)) } }
  | none =>
    if op.lock && !op.close && mayLock m then
      { s with creel := { s.creel with locks := s.creel.locks ++ [(target, m, 1, s.clock.now)] } }
    else s

/-- Serves one transaction of a master. -/
def serveCreel (s : State) (m : Master) (op : CreelOp) : State :=
  match targetOf op.addr with
  | none => (let (s, _, _) := creelError s; s.emit (.creel m 0 true))
  | some t =>
    let s := { s with creel := { s.creel with granted := (t, m) :: s.creel.granted.filter (fun g => g.1 != t) } }
    if s.creel.broken.contains (t, m) then
      let s := { s with creel := { s.creel with broken := s.creel.broken.filter (fun b => b != (t, m)) } }
      (s.bump Obj.CREEL_ERROR_COUNT).emit (.creel m 0 true)
    else
      let (s, v, e) := creelAccess m op.addr op.write op.data.toNat s
      (followLock s m t op).emit (.creel m (BitVec.ofNat 32 v) e)

/-- Order of two requests: higher QoS first; equal ones rotate from the master last granted their target (R370). -/
def creelRank (s : State) (r : Master × CreelOp) : Nat :=
  let t := (targetOf r.2.addr).getD 7
  let last := match s.creel.granted.find? (fun g => g.1 == t) with | some g => masterNo g.2 | none => 5
  (15 - qos r.1) * 8 + (masterNo r.1 + 5 - last) % 6

/-- Serves requests in arbitration order; those that a lock keeps off their target wait. -/
def serveAll (s : State) : List (Master × CreelOp) → State
  | [] => s
  | r :: rest =>
    if lockedOut s r.1 r.2 then
      serveAll { s with creel := { s.creel with waiting := s.creel.waiting ++ [r] } } rest
    else serveAll (serveCreel s r.1 r.2) rest

/-- At most one transaction of each master is outstanding (R370): the first of each stands. -/
def onePerMaster (rs : List (Master × CreelOp)) : List (Master × CreelOp) :=
  rs.foldl (fun a r => if a.any (fun q => q.1 == r.1) then a else a ++ [r]) []

/-- Whether the core behind a master can issue transactions: core B waits in reset until BOOT_REMAP is 1 (R375). -/
def masterRuns (s : State) (m : Master) : Bool := match m with | .coreB => s.creel.remap | _ => true

/-- Arbitrates the waiting requests, again for each of the six masters: a sequence that ends lets those on that waited for its target (R370,
R371). -/
def arbitrateWaiting : Nat → State → State
  | 0, s => s
  | n + 1, s =>
    arbitrateWaiting n (serveAll { s with creel := { s.creel with waiting := [] } } (sortBy (creelRank s) s.creel.waiting))

/-- Arbitrates the waiting requests together with new ones (R370, R371). -/
def arbitrate (s : State) (rs : List (Master × CreelOp)) : State :=
  let all := onePerMaster (s.creel.waiting ++ rs.filter (fun r => masterRuns s r.1))
  arbitrateWaiting 6 { s with creel := { s.creel with waiting := all } }

/-- CREEL_LOCK_BROKEN (R371): a locked sequence has run 2 us (or 16 transactions); waiting requests are arbitrated. -/
def execCreelLockBroken (t : Nat) (m : Master) (s : State) : Result :=
  let s := s.at_ t
  match s.creel.locks.find? (fun l => l.2.1 == m && (s.ran l.2.2.2 2000 || decide (16 ≤ l.2.2.1))) with
  | some l => .next (arbitrate (breakLock s l.1 m) [])
  | none => .next s

/-- BOOT_CTRL_WRITE (R375): sets BOOT_REMAP and BOOT_LOCK; from any master but core A it ends with an error response. -/
def execBootCtrlWrite (t : Nat) (m : Master) (v : BitVec 32) (s : State) : Result :=
  let s := s.at_ t
  let (s, e) := writeBootCtrl m v.toNat s
  .next (s.emit (.creel m 0 e))

/-- CRL_DDR_SEG_WRITE (R374): selects the LPDDR5 segment of a master's window. -/
def execCrlDdrSegWrite (t : Nat) (m reg : Master) (v : BitVec 32) (s : State) : Result :=
  let (s, e) := writeSeg m reg v.toNat (s.at_ t)
  .next (s.emit (.creel m 0 e))

/-! ## The host port (R377 to R382) -/

/-- Whether the host port answers: the core rail is good and neither reset input is low (log entry 13). -/
def hostPortUp (s : State) : Bool := s.power.corePg && s.power.porst && s.power.resetN

/-- What the host clocks in: the engine's bytes, then 0x00 (R378). -/
def driven (bs : List Byte) (clocked : Nat) : List Byte := (bs ++ List.replicate clocked 0).take clocked

/-- The status word of R379. -/
def statusWord (s : State) : Nat :=
  (min 4096 (s.heddle.bobbin2.length)) * 2 ^ 19 + min 7 s.agent.mailbox.length * 2 ^ 16 +
  (if s.creel.busy then 0 else 2 ^ 15) + (if s.creel.overrun then 2 ^ 14 else 0) + (if s.creel.err then 2 ^ 13 else 0) +
  s.creel.errCode % 32 * 2 ^ 8 + s.power.stage * 16 + (if s.creel.width then 8 else 0) + (if s.creel.evtMbx then 4 else 0)

/-- WRITE_CFG (R378): WIDTH and EVT_MBX. -/
def execWriteCfg (t : Nat) (b : Byte) (s : State) : Result :=
  let s := s.at_ t
  .next (s.whenever (hostPortUp s) (fun s =>
    { s with creel := { s.creel with width := bit b.toNat 0, evtMbx := bit b.toNat 1 } }.evtFrom s))

/-- READ_STATUS (R379): returns the status word, then clears MBX_OVERRUN, CREEL_ERR and CREEL_ERR_CODE. -/
def execReadStatus (t clocked : Nat) (s : State) : Result :=
  let s := s.at_ t
  .next (s.whenever (hostPortUp s) (fun s =>
    { s with creel := { s.creel with overrun := false, err := false, errCode := 0 } }.emit
      (.hostPort (driven (beBytes 4 (statusWord s)) clocked))))

/-- READ_ID (R378): 0x41 0x58 0x48 0x36 and the silicon code 0x0000_00B0. -/
def execReadId (t clocked : Nat) (s : State) : Result :=
  let s := s.at_ t
  .next (s.whenever (hostPortUp s) (fun s =>
    s.emit (.hostPort (driven [0x41, 0x58, 0x48, 0x36, 0x00, 0x00, 0x00, 0xB0] clocked))))

/-- Records a bridge error with its code (R379). -/
def bridgeErr (code : Nat) (s : State) : State := { s with creel := { s.creel with err := true, errCode := code } }

/-- Error code of a bridge access that ended with an error: 2 when R376 refused it, 1 otherwise. -/
def bridgeCode (s : State) (a : Nat) (write : Bool) : Nat :=
  if targetOf a = some 5 ∧ write ∧ s.power.stage = 5 then 2 else 1

/-- Writes whole words through the bridge, addresses rising by 4 (R380). -/
def bridgeWrites (a : Nat) : List Byte → State → State
  | b0 :: b1 :: b2 :: b3 :: rest, s =>
    let (s', _, e) := creelAccess .bridge a true (beNat [b0, b1, b2, b3]) s
    bridgeWrites (a + 4) rest (if e then bridgeErr (bridgeCode s a true) s' else s')
  | [], s => s
  | _, s => bridgeErr 4 s

/-- Reads n words through the bridge in order; the data of a read that ended with an error are a free value. -/
def bridgeReads (a : Nat) : Nat → State → State × List Byte
  | 0, s => (s, [])
  | n + 1, s =>
    let (s', v, e) := creelAccess .bridge a false 0 s
    let (x, s'') := if e then (let (f, s'') := (bridgeErr (bridgeCode s a false) s').draw; (pattern 32 f, s'')) else (v, s')
    let (s3, rest) := bridgeReads (a + 4) n s''
    (s3, beBytes 4 x ++ rest)

/-- CREEL_READ (R380): 0x00 fillers until the read is complete, the marker 0xA5, the words; with more than 255 fillers 0xEE
in place of the marker, no data, and CREEL_ERR with code 3. -/
def execCreelRead (t addr words fillers : Nat) (s : State) : Result :=
  let s := s.at_ t
  .next (s.whenever (hostPortUp s) (fun s =>
    if 255 < fillers then (bridgeErr 3 s).emit (.hostPort (List.replicate 255 0 ++ [0xEE#8]))
    else
      let (s, bs) := bridgeReads addr words s
      s.emit (.hostPort (List.replicate fillers 0 ++ [0xA5#8] ++ bs))))

/-- MBX_READ (R381): the head reply with its length; it leaves the queue only when all of it was clocked. -/
def execMbxRead (t clocked : Nat) (s : State) : Result :=
  let s := s.at_ t
  .next (s.whenever (hostPortUp s) (fun s =>
    match s.agent.mailbox with
    | [] => s.emit (.hostPort (driven [0, 0] clocked))
    | m :: rest =>
      let s := s.emit (.hostPort (driven (beBytes 2 m.length ++ m) clocked))
      if 2 + m.length ≤ clocked then { s with agent := { s.agent with mailbox := rest } }.evtFrom s else s))

/-- EVT_READ (R378, R382): the count and the records; those clocked whole leave the host bobbin. -/
def execEvtRead (t max_ clocked : Nat) (s : State) : Result :=
  let s := s.at_ t
  .next (s.whenever (hostPortUp s) (fun s =>
    let n := min (min max_ 64) s.heddle.bobbin2.length
    let bs := BitVec.ofNat 8 n :: (s.heddle.bobbin2.take n).flatMap recordBytes
    let s := s.emit (.hostPort (driven bs clocked))
    s.putBobbin 2 (s.heddle.bobbin2.drop (min n ((clocked - 1) / 16)))))

end Machine
end Sys2Proof
end

