-- ==== Sys2Proof/Machine/Filters.lean ====
section
/-! DEFINITION. Filter design and gain computers (R61, R62, R82, R83, R91 to R93, R95): coefficients of sections, the crossover, the
limiter, the gate and compressor, true peak and dither, each from its own operands alone. -/

namespace Sys2Proof
namespace Machine

/-! ## Sections by the bilinear transform (R82) -/

/-- An analog section (b2 s^2 + b1 s + b0) / (a2 s^2 + a1 s + a0) with its frequency at 1, in fixed point. -/
structure Analog where
  b2 : Int
  b1 : Int
  b0 : Int
  a2 : Int
  a1 : Int
  a0 : Int
  deriving DecidableEq, Repr

/-- Coefficient n (b0, b1, b2, -a1, -a2) of the bilinear transform of a section prewarped to tangent t: the numerator or denominator
over the leading denominator, to S4.31 under the rounding of R58. -/
def bilinear (h : Analog) (t : Int) (n : Nat) : Int :=
  let tt := fixMul t t
  let lead := h.a2 + fixMul h.a1 t + fixMul h.a0 tt
  let v := match n with
    | 0 => h.b2 + fixMul h.b1 t + fixMul h.b0 tt
    | 1 => 2 * (fixMul h.b0 tt - h.b2)
    | 2 => h.b2 - fixMul h.b1 t + fixMul h.b0 tt
    | 3 => -(2 * (fixMul h.a0 tt - h.a2))
    | _ => -(h.a2 - fixMul h.a1 t + fixMul h.a0 tt)
  if lead ≤ 0 then 0 else (2 * v * 2 ^ 31 + lead) / (2 * lead)

/-- The analog section of a shape (R82): gain in 0.01 dB and Q in 0.001. The low-passes, high-passes, band-pass, notch and all-pass
follow from their names; of a peak or a shelf the manual fixes the gain at its frequency, at zero or at infinity, and leaves the
rest of the prototype free (log entry 221). -/
def analogOf (shape : Nat) (gain : Int) (q : Nat) : Analog :=
  let d := fixRatio 1000 q
  let g := fixPow10 (fixRatio gain 2000)
  let free := fun (n : Nat) => Config.prototype shape gain q n
  match shape with
  | 1 => ⟨fixOne, fixMul g (free 0), fixOne, fixOne, free 0, fixOne⟩
  | 2 => ⟨fixOne, free 0, fixMul g (free 1), fixOne, free 2, free 1⟩
  | 3 => ⟨fixMul g (free 1), free 0, fixOne, free 1, free 2, fixOne⟩
  | 4 => ⟨0, 0, fixOne, fixOne, d, fixOne⟩
  | 5 => ⟨fixOne, 0, 0, fixOne, d, fixOne⟩
  | 6 => ⟨0, d, 0, fixOne, d, fixOne⟩
  | 7 => ⟨fixOne, 0, fixOne, fixOne, d, fixOne⟩
  | 8 => ⟨fixOne, -d, fixOne, fixOne, d, fixOne⟩
  | 9 => ⟨0, 0, fixOne, 0, fixOne, fixOne⟩
  | _ => ⟨0, fixOne, 0, 0, fixOne, fixOne⟩

/-- The five coefficients of a section prewarped to tangent t. -/
def sectionOf (h : Analog) (t : Int) : List Int := (List.range 5).map (bilinear h t)

/-- The coefficients of an EQ section at a rate, from the fields that its shape uses (R82); a bypass section passes its input. -/
def eqSection (record rate : Nat) : List Int :=
  let shape := bits record 63 60
  if shape = 0 then [unity, 0, 0, 0, 0]
  else
    let gain := if shape ≤ 3 then signed 16 (bits record 31 16) else 0
    let q := if shape ≤ 8 then bits record 15 0 else 0
    sectionOf (analogOf shape gain q) (fixTan (bits record 55 32) (rate * 100))

/-! ## The crossover (R83) -/

/-- Low-pass or high-pass sections of a point (R83): 1, 2 or 4 for 12, 24 or 48 dB/oct. -/
def slopeSections (slope : Nat) : Nat := match slope with | 0 => 1 | 1 => 2 | _ => 4
/-- Phase-alignment sections of a pair of points (R83). -/
def alignSections (slope : Nat) : Nat := match slope with | 2 => 2 | _ => 1

/-- 1/Q of section n of a Linkwitz-Riley filter, the square of a Butterworth filter: 2 for 12 dB/oct, 2 sin(pi/4) for 24 dB/oct,
2 sin(pi/8) and 2 sin(3 pi/8) in turn for 48 dB/oct. -/
def linkwitzDamping (slope n : Nat) : Int :=
  match slope with
  | 0 => 2 * fixOne
  | 1 => 2 * fixQuarter 1 2
  | _ => 2 * fixQuarter (1 + 2 * (n % 2)) 4

/-- What a section of a crossover does. -/
inductive Band where
  | low | high | align
  deriving DecidableEq, Repr

/-- Section n of a band at a slope. At 12 dB/oct the high-pass is inverted and the alignment has first order, so that low-pass and
high-pass sum to an all-pass response (R83, log entry 222). -/
def crossoverAnalog (slope : Nat) (band : Band) (n : Nat) : Analog :=
  let d := linkwitzDamping slope n
  match band with
  | .low => ⟨0, 0, fixOne, fixOne, d, fixOne⟩
  | .high => ⟨if slope = 0 then -fixOne else fixOne, 0, 0, fixOne, d, fixOne⟩
  | .align => if slope = 0 then ⟨0, -fixOne, fixOne, 0, fixOne, fixOne⟩ else ⟨fixOne, -d, fixOne, fixOne, d, fixOne⟩

/-- The sections of a band at a point in mHz and a rate. -/
def bandSections (slope rate : Nat) (band : Band) (point : Nat) : List (List Int) :=
  let n := match band with | .align => alignSections slope | _ => slopeSections slope
  let t := fixTan point (rate * 1000)
  (List.range n).map (fun k => sectionOf (crossoverAnalog slope band k) t)

/-! ## K-weighting (R95) -/

/-- The two sections of the K-weighting of ITU-R BS.1770-4 at a rate: the shelf of about 4 dB and the high-pass, from the analog
prototypes that give the coefficients which that standard prints for 48 kHz (log entry 224). -/
def kWeighting (rate : Nat) : List (List Int) :=
  let gain := fixPow10 (fixRatio 3999843853973347 20000000000000000)
  let half := fixExp (fixMul (fixMul (fixRatio 3999843853973347 20000000000000000) fixLn10) (fixRatio 4996667741545416 10000000000000000))
  let d := fixRatio 10000000000000000 7071752369554196
  let shelf := sectionOf ⟨gain, fixMul half d, fixOne, fixOne, d, fixOne⟩ (fixTan 1681974450955533 (rate * 1000000000000))
  let d2 := fixRatio 10000000000000000 5003270373238773
  let pass := sectionOf ⟨fixOne, 0, 0, fixOne, d2, fixOne⟩ (fixTan 38135470876024 (rate * 1000000000000))
  [shelf, [unity, -2 * unity, unity, pass.getD 3 0, pass.getD 4 0]]

/-! ## Transform rounding (R88) -/

/-- The transform rounding of a partitioned convolution for one sample in LSB of S8.27: below -140 dB of full scale, 13.4 LSB (R88). -/
def transformError (taps xs : List Int) : Int := max (-13) (min 13 (Config.transformError taps xs))

/-! ## The limiter of R61 -/

/-- The algorithm of R61 for one sample: ceiling c in S8.27, gain g in S4.31, the peak that drives it. Answers the output,
the gain and whether the first branch acted. The gain is held as an S4.31 coefficient, to one of its neighbours. -/
def limit (c g x peak : Int) (releaseMs rate : Nat) : Int × Int × Bool :=
  let size := peak.natAbs
  let above := decide (c * unity < (size : Int) * g)
  let step := onePole (releaseMs * 1000) rate
  let g' := if above then neighbour (c * unity) size [c, size]
    else if g = unity then unity
    else min unity (neighbour (g * fixOne + (unity - g) * step) (2 ^ 64) [g, releaseMs, rate])
  let y := if above && x.natAbs == size then (if x < 0 then -c else c) else scale x g'
  (max (-c) (min c y), g', above)

/-- The highest magnitude of the input oversampled four times by a causal interpolator of 12 taps a phase, from the latest
inputs, newest first (R93, R95). The manual gives no taps. -/
def truePeak (xs : List Int) : Int :=
  (List.range 4).foldl (fun (a : Int) phase =>
    let y := store (macAll (xs.take 12) ((List.range 12).map (Config.interpolator phase)))
    max a (y.natAbs : Int)) 0

/-! ## The gate and the compressor (R91, R92) -/

/-- What a CHANNEL_DYNAMICS holds: the gate gain and the compressor gain in 2^-32 of 0.001 dB, whether the gate is open, and for how
many samples the detector has stayed below the closing level. -/
structure Dynamics where
  gate : Int
  comp : Int
  isOpen : Bool
  below : Nat
  deriving DecidableEq, Repr

/-- The registers of a CHANNEL_DYNAMICS; none before its first sample: the gate closed, no gain reduction (R80). -/
def dynamicsOf (range : Int) (regs : List Int) : Dynamics :=
  match regs with
  | _ :: gate :: comp :: isOpen :: below :: _ => ⟨gate, comp, isOpen == 1, below.toNat⟩
  | _ => ⟨range, 0, false, 0⟩

/-- The gate over one sample of its detector (R91): it opens at the threshold, closes once the detector has stayed below threshold
minus hysteresis for the hold, and its gain moves linearly in decibels between 0 dB and the range. Levels in 2^-32 of 0.001 dB. -/
def gateStep (level thresh range hyst : Int) (attackUs hold releaseMs rate : Nat) (d : Dynamics) : Dynamics :=
  let below := if level < thresh - hyst then d.below + 1 else 0
  let isOpen := if thresh ≤ level then true else if 0 < below ∧ hold ≤ below then false else d.isOpen
  let span := fun (us : Nat) => -range * 1000000 / ((max 1 (us * rate) : Nat) : Int)
  let gate := if isOpen then min 0 (d.gate + span attackUs) else max range (d.gate - span (releaseMs * 1000))
  { d with gate := gate, isOpen := isOpen, below := below }

/-- The static gain of the compressor for a detector level (R91): output = threshold + (input - threshold) / ratio above the
threshold, with a quadratic knee centred on it. Levels in 2^-32 of 0.001 dB, ratio in 0.001. -/
def compCurve (level thresh knee : Int) (ratio : Nat) : Int :=
  let excess := level - thresh
  let slope := fun (x : Int) => -(x * (ratio - 1000 : Nat)) / ((max 1 ratio : Nat) : Int)
  if 2 * excess ≤ -knee then 0
  else if knee ≤ 2 * excess then slope excess
  else slope ((excess + knee / 2) * (excess + knee / 2) / (2 * knee))

/-- One-pole smoothing of the compressor gain in decibels with attack and release (R91). -/
def compStep (target : Int) (attackUs releaseMs rate : Nat) (comp : Int) : Int :=
  let step := onePole (if target < comp then attackUs else releaseMs * 1000) rate
  comp + fixMul (target - comp) step

/-- A mix between bypass and a processed gain at a weight in S4.31 (R92). -/
def bypassMix (weight processed : Int) : Int := fixOne + (processed - fixOne) * weight / unity

/-! ## Dither (R62) -/

/-- TPDF dither of an output sample for a word length, in S8.27: two independent values, each uniform over one LSB of the port word
and centred on zero. It depends on the DEST_ID and the pick counter alone. -/
def dither (dest pick offset w : Nat) : Int :=
  let lsb := 2 ^ (28 - w)
  let part := fun (n : Nat) => ((Config.uniform dest pick offset n % lsb : Nat) : Int) - (lsb / 2 : Nat)
  part 0 + part 1

end Machine
end Sys2Proof
end

