-- ==== Sys2Proof/Machine/Line.lean ====
section
/-! DEFINITION. The line coding of Swiska (R262 to R264, R273): PAM4 mapping, precoding, the self-synchronous scrambler and the
Reed-Solomon code, as functions over symbols, bits and octets; and the block layout of R265. -/

namespace Sys2Proof
namespace Machine

/-! ## PAM4 (R262) and precoding (R263) -/

/-- The level index of a Gray pair: earlier bit first (R262). -/
def grayIndex (a b : Bool) : Nat := match a, b with | false, false => 0 | false, true => 1 | true, true => 2 | true, false => 3

/-- The Gray pair of a level index. -/
def grayPair (g : Nat) : Bool × Bool :=
  match g with | 0 => (false, false) | 1 => (false, true) | 2 => (true, true) | _ => (true, false)

/-- The line level of a level index (R262). -/
def pamLevel (g : Nat) : Int := match g with | 0 => -3 | 1 => -1 | 2 => 1 | _ => 3

/-- Precoding from a previous symbol: P(j) = (G(j) - P(j - 1)) mod 4 (R263). -/
def precode (p : Nat) : List Nat → List Nat
  | [] => []
  | g :: r => let q := (g + 4 - p % 4) % 4; q :: precode q r

/-- Recovery: G(j) = (P(j) + P(j - 1)) mod 4 (R263). -/
def unprecode (p : Nat) : List Nat → List Nat
  | [] => []
  | q :: r => (q + p) % 4 :: unprecode q r

/-! ## Scrambler (R264) -/

/-- One scrambled bit from a history with the newest bit first: s(n) = d(n) + s(n - 39) + s(n - 58). -/
def scrambleBit (h : List Bool) (d : Bool) : Bool := xor d (xor (h.getD 38 false) (h.getD 57 false))

/-- Scrambles bits in send order. -/
def scramble (h : List Bool) : List Bool → List Bool
  | [] => []
  | d :: r => let s := scrambleBit h d; s :: scramble ((s :: h).take 58) r

/-- Descrambles bits in send order: d(n) = s(n) + s(n - 39) + s(n - 58). -/
def descramble (h : List Bool) : List Bool → List Bool
  | [] => []
  | s :: r => scrambleBit h s :: descramble ((s :: h).take 58) r

/-! ## Reed-Solomon (255, 239) (R273) -/

/-- Product in GF(2^8) with x^8 + x^4 + x^3 + x^2 + 1, over the n low bits of b. -/
def gfMulBits : Nat → Nat → Nat → Nat
  | 0, _, _ => 0
  | n + 1, a, b =>
    Nat.xor (if b % 2 = 1 then a else 0) (gfMulBits n (if 128 ≤ a then Nat.xor (2 * a) 0x11D else 2 * a) (b / 2))

/-- Product in GF(2^8). -/
def gfMul (a b : Nat) : Nat := gfMulBits 8 (a % 256) (b % 256)

/-- Powers of the primitive element. -/
def gfPow : Nat → Nat
  | 0 => 1
  | n + 1 => gfMul 2 (gfPow n)

/-- Coefficients of the generator with roots alpha^0 to alpha^(n-1), highest power first. -/
def rsGenerator : Nat → List Nat
  | 0 => [1]
  | n + 1 =>
    let g := rsGenerator n
    ((g ++ [0]).zip (0 :: g)).map (fun (p : Nat × Nat) => Nat.xor p.1 (gfMul (gfPow n) p.2))

/-- One step of the division by the generator. -/
def rsStep (gen rem : List Nat) (b : Nat) : List Nat :=
  let f := Nat.xor b (rem.headD 0)
  ((rem.drop 1 ++ [0]).zip (gen.drop 1)).map (fun (p : Nat × Nat) => Nat.xor p.1 (gfMul f p.2))

/-- The 16 parity bytes of up to 239 message bytes; missing leading bytes count as zero (R273). -/
def rsParity (bytes : List Nat) : List Nat := bytes.foldl (rsStep (rsGenerator 16)) (List.replicate 16 0)

/-- Inverse in GF(2^8): the 254th power. -/
def gfInv (a : Nat) : Nat := (List.range 254).foldl (fun x _ => gfMul x a) 1

/-- Value of a polynomial, lowest power first. -/
def gfEval (c : List Nat) (x : Nat) : Nat := c.foldr (fun a y => Nat.xor a (gfMul y x)) 0

/-- The 16 syndromes of a codeword, first byte first: its values at alpha^0 to alpha^15. -/
def syndromes (word : List Nat) : List Nat := (List.range 16).map (fun i => gfEval word.reverse (gfPow i))

/-- Sum of two polynomials. -/
def gfAdd : List Nat → List Nat → List Nat
  | [], b => b
  | a, [] => a
  | x :: a, y :: b => Nat.xor x y :: gfAdd a b

/-- What the search for the error locator holds: the locator and its length, and the one before the latest change of length with its
discrepancy and age. -/
structure Locator where
  c : List Nat
  len : Nat
  b : List Nat
  d : Nat
  age : Nat

/-- One syndrome more in the search for the shortest locator. -/
def locatorStep (syn : List Nat) (x : Locator) (n : Nat) : Locator :=
  let d := (List.range (x.len + 1)).foldl (fun a i => Nat.xor a (gfMul (x.c.getD i 0) (syn.getD (n - i) 0))) 0
  if d = 0 then { x with age := x.age + 1 }
  else
    let f := gfMul d (gfInv x.d)
    let c := gfAdd x.c (List.replicate x.age 0 ++ x.b.map (gfMul f))
    if 2 * x.len ≤ n then ⟨c, n + 1 - x.len, x.c, d, 1⟩ else { x with c := c, age := x.age + 1 }

/-- Corrects a codeword of 255 bytes, first byte first (R273, R274): the word and the number of corrected bytes, up to 8; none when it cannot
be corrected. -/
def rsCorrect (word : List Nat) : Option (List Nat × Nat) :=
  let syn := syndromes word
  if syn.all (fun v => v == 0) then some (word, 0)
  else
    let l := (List.range 16).foldl (locatorStep syn) ⟨[1], 0, [1], 1, 1⟩
    let at_ := (List.range 255).filter (fun j => gfEval l.c (gfInv (gfPow j)) == 0)
    let omega := (List.range 16).map (fun i =>
      (List.range (i + 1)).foldl (fun a j => Nat.xor a (gfMul (syn.getD j 0) (l.c.getD (i - j) 0))) 0)
    let slope := (List.range l.c.length).map (fun i => if i % 2 = 0 then l.c.getD (i + 1) 0 else 0)
    let value := fun (j : Nat) =>
      let x := gfInv (gfPow j)
      gfMul (gfPow j) (gfMul (gfEval omega x) (gfInv (gfEval slope x)))
    if 8 < l.len || at_.length ≠ l.len then none
    else some (((List.range 255).zip word).map (fun (p : Nat × Nat) =>
      if at_.contains (254 - p.1) then Nat.xor p.2 (value (254 - p.1)) else p.2), at_.length)

/-! ## What a lane carries (R262 to R264, R273) -/

/-- A lane's transmitter or receiver between blocks: the scrambler history with the newest bit first, and the latest symbol on the line. -/
structure LaneState where
  history : List Bool
  last : Nat

/-- The bits of a number, most significant first. -/
def blockString (b : BitVec 1024) : List Bool := bitString 1024 b.toNat

/-- A block as it is sent before FEC: the sync header and an alignment marker stay, other bits are scrambled (R264). -/
def scrambleBlock (x : LaneState) (b : BitVec 1024) : List Bool × LaneState :=
  let bs := blockString b
  if b.toNat / 2 ^ 1014 % 256 = 0x7E then (bs, x)
  else
    let r := scramble x.history (bs.drop 2)
    (bs.take 2 ++ r, { x with history := (r.reverse ++ x.history).take 58 })

/-- A received block before its descrambler, as its receiver gives it (R264). -/
def descrambleBlock (x : LaneState) (marker : Bool) (bs : List Bool) : List Bool × LaneState :=
  if marker then (bs, x)
  else (bs.take 2 ++ descramble x.history (bs.drop 2), { x with history := ((bs.drop 2).reverse ++ x.history).take 58 })

/-- The level indexes of a bit string, two bits each (R262). -/
def grayString : List Bool → List Nat
  | a :: b :: r => grayIndex a b :: grayString r
  | _ => []

/-- The bits of level indexes. -/
def bitsOfGray (gs : List Nat) : List Bool := gs.flatMap (fun g => [(grayPair g).1, (grayPair g).2])

/-- The symbols of bits on a line, precoded or not (R263), and the latest of them. -/
def symbolsOut (precoding : Bool) (x : LaneState) (bs : List Bool) : List Nat × LaneState :=
  let g := grayString bs
  let p := if precoding then precode x.last g else g
  (p, { x with last := p.getLastD x.last })

/-- The bits of received symbols (R263). -/
def symbolsIn (precoding : Bool) (x : LaneState) (ps : List Nat) : List Bool × LaneState :=
  (bitsOfGray (if precoding then unprecode x.last ps else ps), { x with last := ps.getLastD x.last })

/-- Bytes of a stream in codewords of 239 and their parity (R273): one marker period, whose last codeword may be short. -/
def fecEncode : Nat → List Nat → List Nat
  | 0, _ => []
  | _, [] => []
  | n + 1, bytes => bytes.take 239 ++ rsParity (bytes.take 239) ++ fecEncode n (bytes.drop 239)

/-- The bytes of one marker period without their parity, with the corrected bytes and the codewords that could not be corrected, whose bytes
pass on as they came (R274). -/
def fecDecode : Nat → List Nat → List Nat × Nat × Nat
  | 0, _ => ([], 0, 0)
  | _, [] => ([], 0, 0)
  | n + 1, bytes =>
    let w := bytes.take 255
    let pad := 255 - w.length
    let rest := fecDecode n (bytes.drop 255)
    match rsCorrect (List.replicate pad 0 ++ w) with
    | some (v, k) => ((v.drop pad).take (w.length - 16) ++ rest.1, rest.2.1 + k, rest.2.2)
    | none => (w.take (w.length - 16) ++ rest.1, rest.2.1, rest.2.2 + 1)

/-! ## Blocks (R265, R266) -/

/-- A block from its sync header, type and body, with the CRC over bits [1021:32]. -/
def makeBlock (sync type body : Nat) : BitVec 1024 :=
  let v := sync * 2 ^ 1022 + type * 2 ^ 1014 + body % 2 ^ 982 * 2 ^ 32
  BitVec.ofNat 1024 (v + crc32Bits (bitString 990 (v / 2 ^ 32 % 2 ^ 990)))

/-- Whether the CRC of a block is right (R265). -/
def blockClean (b : BitVec 1024) : Bool :=
  crc32Bits (bitString 990 (b.toNat / 2 ^ 32 % 2 ^ 990)) == b.toNat % 2 ^ 32

/-- A field of a block. -/
def blockBits (b : BitVec 1024) (hi lo : Nat) : Nat := bits b.toNat hi lo
/-- TYPE of a block. -/
def blockType (b : BitVec 1024) : Nat := blockBits b 1021 1014
/-- Whether the sync header is the one that R266 gives the type. -/
def syncRight (b : BitVec 1024) : Bool :=
  let t := blockType b
  let s := blockBits b 1023 1022
  if t = 0x7E || t = 0x04 || t = 0x00 then s == 2 else s == 1
/-- Whether a block is one of a type, whole. -/
def isBlock (type : Nat) (b : BitVec 1024) : Bool := blockClean b && blockType b == type && syncRight b

end Machine
end Sys2Proof
end

