-- ==== Sys2Proof/Machine/Elements.lean ====
section
/-! DEFINITION. The elements of a copy of the graph objects (R45, R46): route entries, instances, buses and contributions, and what
connects them. -/

namespace Sys2Proof
namespace Machine

/-! ## Elements of a copy of the graph -/

/-- Entries of a table of `count` entries, 128 per index, that a copy lists. -/
def tableOf (d : Map Val) (base count : Nat) : List (Nat × Val) :=
  d.filterMap (fun (p : Nat × Val) =>
    if keyIndex base ≤ keyIndex p.1 ∧ keyIndex p.1 < keyIndex base + count / 128 ∧ 0 < keySub p.1 ∧ keySub p.1 ≤ 128 then
      some ((keyIndex p.1 - keyIndex base) * 128 + keySub p.1 - 1, p.2) else none)

/-- A route entry that is used (R46): its number, DEST_ID, SOURCE_ID and ROUTE_CLASS. -/
structure Edge where
  entry : Nat
  dest : Nat
  src : Nat
  cls : Nat
  deriving DecidableEq, Repr

/-- Instances of a copy with their type codes. -/
def instsOf (d : Map Val) : List (Nat × Nat) :=
  (tableOf d Obj.OBJ_INSTANCE 16384).filterMap (fun (p : Nat × Val) =>
    if (Val.int p.2).toNat / 65536 = 0 then none else some (p.1, (Val.int p.2).toNat / 65536))

/-- The used route entries of a copy: those whose DEST_ID is not 0 (R46). -/
def edgesOf (d : Map Val) : List Edge :=
  (tableOf d Obj.ROUTE 4096).filterMap (fun (p : Nat × Val) =>
    let v := (Val.int p.2).toNat
    if v / 2 ^ 32 = 0 then none
    else some ⟨p.1, v / 2 ^ 32, v % 2 ^ 32, (Val.int (getIn d (entry Obj.ROUTE_CLASS p.1))).toNat⟩)

/-- Whether dither is on for a route entry of a copy (R62). -/
def ditheredEntry (d : Map Val) (n : Nat) : Bool := bit ((Val.int (getIn d (entry Obj.OUTPUT_OPTIONS n))).toNat) 0

/-- The records of a BUS_CONTRIB BLOB: SOURCE_ID and GAIN (R58). -/
def contribsIn (b : List Byte) : List (Nat × Int) :=
  (List.range (b.length / 8)).map (fun n => (field b (8 * n) 4, signed 32 (field b (8 * n + 4) 4)))

/-- The contributions of a bus. -/
def contribsOf (d : Map Val) (b : Nat) : List (Nat × Int) := contribsIn (Val.octets (getIn d (entry Obj.BUS_CONTRIB b)))

/-- The octets of a contribution list. -/
def packContribs (cs : List (Nat × Int)) : List Byte := cs.flatMap (fun c => beBytes 4 c.1 ++ beBytes 4 (pattern 32 c.2))

/-- Buses with contributions. -/
def mixedBuses (d : Map Val) : List Nat :=
  (tableOf d Obj.BUS_CONTRIB 2048).filterMap (fun (p : Nat × Val) => if (Val.octets p.2).isEmpty then none else some p.1)

/-- SOURCE_IDs that a route entry or a contribution names, each once (R55). -/
def sourcesOf (d : Map Val) : List Nat :=
  (((edgesOf d).map (fun (e : Edge) => e.src) ++
    (mixedBuses d).flatMap (fun b => (contribsOf d b).map (fun (c : Nat × Int) => c.1))).filter (fun i => i != 0)).eraseDups

/-- Selvedge sources of a copy. -/
def selvSources (d : Map Val) : List Nat :=
  (List.range 64).flatMap (fun o => (List.range 8).map (fun k => (Val.int (getIn d (ix Obj.SELV_SOURCE o + k))).toNat))

/-- Buses that exist in a copy: those with contributions and those that are named as a source (R53). -/
def busesOf (d : Map Val) : List Nat :=
  (mixedBuses d ++ ((sourcesOf d).filter (fun i => idKind i == 7)).map idUnit).eraseDups

/-- The number of an element in the tables of a compile: an instance, or 65,536 plus a bus. -/
def elemNo : Elem → Nat
  | .inst i => i
  | .bus b => 65536 + b

/-- The element of a number. -/
def elemOf (n : Nat) : Elem := if n < 65536 then .inst n else .bus (n - 65536)

/-- The element whose output a SOURCE_ID names. -/
def sourceElem (i : Nat) : Option Nat :=
  if idKind i = 6 then some (idUnit i) else if idKind i = 7 then some (65536 + idUnit i) else none

/-- The element that a destination feeds: only object input pins are elements' inputs. -/
def destElem (i : Nat) : Option Nat := if idKind i = 6 then some (idUnit i) else none

/-- Connections between elements: feeding and fed. -/
def linksOf (d : Map Val) : List (Nat × Nat) :=
  (edgesOf d).filterMap (fun (e : Edge) => match sourceElem e.src, destElem e.dest with
    | some a, some b => some (a, b)
    | _, _ => none) ++
  (mixedBuses d).flatMap (fun b => (contribsOf d b).filterMap (fun (c : Nat × Int) =>
    (sourceElem c.1).map (fun a => (a, 65536 + b))))

/-- Whether a KIND is an output (R47). -/
def outputKind (k : Nat) : Bool := (decide (1 ≤ k) && decide (k ≤ 5)) || k == 8

end Machine
end Sys2Proof
end

