-- ==== Sys2Proof/Machine/Reference.lean ====
section
/-! DEFINITION. Reference candidates and selection (chapter 7), the states of SP0 and SP1 with averaged holdover and REFST
(R173 to R181), and the split of a time offset (R136). -/

namespace Sys2Proof
namespace Machine

/-! ## Candidate slots (R151) -/

/-- The state beside its objects of a slot that has none yet. -/
def noCand : Cand := ⟨0, [], 0, 0, false, none, 0, 0⟩

/-- The state of slot k beside its objects. -/
def State.cand (s : State) (k : Nat) : Cand := s.ref.cands.getD k noCand

/-- Changes the state of slot k beside its objects. -/
def State.setCand (s : State) (k : Nat) (f : Cand → Cand) : State :=
  { s with ref := { s.ref with cands := setAt s.ref.cands k (f (s.cand k)) } }

/-- TYPE of slot k. -/
def State.candType (s : State) (k : Nat) : Nat := s.rdN (ix Obj.REF_CAND_SOURCE k) / 256
/-- UNIT of slot k. -/
def State.candUnit (s : State) (k : Nat) : Nat := s.rdN (ix Obj.REF_CAND_SOURCE k) % 256
/-- State of slot k; the local oscillator is always in state 3 (R158). -/
def State.candState (s : State) (k : Nat) : Nat := if s.candType k = 7 then 3 else s.rdN (ix Obj.REF_CAND_STATE k)
/-- Sets the state of slot k. -/
def State.setCandState (s : State) (k st : Nat) : State := s.wr (ix Obj.REF_CAND_STATE k) st

/-- All slots in slot order. -/
def slots : List Nat := List.range 24

/-- The quality in force: as configured for TYPE 3 to 7 (R156), as received for PTP and Swiska (R153, R155). -/
def State.candQuality (s : State) (k : Nat) : Nat :=
  let t := s.candType k
  if t = 0 ∨ 7 < t then 255 else if 3 ≤ t then s.rdN (ix Obj.REF_CAND_QUAL_CFG k) else s.rdN (ix Obj.REF_CAND_QUALITY k)

/-- The first local-oscillator slot, if one is configured. -/
def State.oscillator (s : State) : Option Nat := slots.find? (fun k => s.candType k == 7)

/-- The selected slot, 0xFF in holdover. -/
def State.selected (s : State) : Nat := s.rdN Obj.REF_SELECTED

/-- Whether a slot is eligible for selection (R158, R163): state 3, or state 4 while it stays selected. -/
def State.eligible (s : State) (k : Nat) : Bool :=
  decide (s.candState k = 3) && decide (s.candQuality k ≠ 255) || (decide (s.candState k = 4) && decide (s.selected = k))

/-- The rank of a slot: quality, then priority, then slot number, lower first (R163). -/
def State.candRank (s : State) (k : Nat) : Nat := s.candQuality k * 65536 + s.rdN (ix Obj.REF_CAND_PRIORITY k) * 256 + k

/-- The best of a list of slots by rank. -/
def State.best (s : State) (ks : List Nat) : Option Nat := (sortBy s.candRank ks).head?

/-! ## Quality of a PTP master (R153) and of a Swiska partner (R154, R155) -/

/-- Base of a clockClass (R153). -/
def classBase (c : Nat) : Option Nat :=
  if c = 255 then none
  else some (if c = 6 then 0 else if c = 7 then 16 else if c = 13 then 32 else if c = 14 then 48
    else if c = 52 || c = 58 then 96 else if c = 187 || c = 193 then 128 else if c = 248 then 192 else 160)

/-- Accuracy term of a clockAccuracy (R153). -/
def accuracyTerm (a : Nat) : Nat :=
  if a = 0x20 || a = 0x21 then 0 else if a = 0x22 then 4 else if a = 0x23 then 8
  else if 0x24 ≤ a && a ≤ 0x27 then 16 else 24

/-- Quality of a PTP candidate (R153). -/
def ptpQuality (class_ accuracy steps : Nat) : Nat :=
  match classBase class_ with
  | none => 255
  | some b => min 254 (b + accuracyTerm accuracy + min steps 15)

/-- Quality of a Swiska candidate (R155): ineligible on a loop, at 16 hops, or when the partner says 255. -/
def swiskaQuality (loomId advertised hop upstream : Nat) : Nat :=
  if upstream = loomId || 16 ≤ hop || advertised = 255 then 255 else advertised

/-! ## What the engine shows of its own state -/

/-- REFST (R180): the highest code of the table that applies. -/
def refst (s : State) : Nat :=
  let ts := s.rdN Obj.TIME_STATE
  if s.power.stage < 5 || s.power.stage = 15 || s.power.doff = 3 then 7
  else if ts = 3 then 5
  else if ts = 2 then
    if s.ref.buildout.isSome then 4
    else if s.selected ≠ 0xFF && s.candState s.selected = 4 then 3
    else if s.lineHigh Ev.REF_DISAGREE then 6
    else 2
  else if ts = 1 then 1
  else 0

/-- clockClass and clockAccuracy that the engine would advertise (R191). -/
def ptpDataset (s : State) : Nat × Nat :=
  let adv := s.rdN Obj.REF_ADVERTISED
  match s.rdN Obj.TIME_STATE with
  | 2 => if adv ≤ 15 then (6, 0x21) else if adv ≤ 31 then (6, 0x22) else (13, 0xFE)
  | 3 =>
    if s.ref.holdClass = 6 then (if s.ref.degraded then (52, 0xFE) else (7, 0x23))
    else (if s.ref.degraded then (58, 0xFE) else (14, 0xFE))
  | _ => (248, 0xFE)

/-- Quality, hop count and upstream LOOM_ID under R154. -/
def ownAdvert (s : State) : Nat × Nat × Nat :=
  let k := s.selected
  if k = 0xFF then (min 254 (s.ref.lastQuality + 64), s.ref.advHop, s.ref.advUpstream)
  else if s.candType k = 2 then
    (min 254 (s.candQuality k + 1), (s.cand k).hop + 1, s.rdN (ix Obj.SW_PARTNER_LOOM (s.candUnit k)))
  else (min 254 (s.candQuality k + 1), 1, 0)

/-- What the engine advertises: a standby adds 32 to its quality (R154, R305). -/
def advertised (s : State) : Nat × Nat × Nat :=
  let a := ownAdvert s
  if s.on Obj.TWIN_ENABLE && decide (s.rd Obj.LEASE_ROLE = 0) then (min 254 (a.1 + 32), a.2) else a

/-- Shows the state of SP0 and SP1 and what follows from it: SP_STATE (R171, R173), REF_ADVERTISED (R154) and the PTP dataset
(R191). The quality of a selected slot is kept while it is eligible. -/
def showStates (s : State) : State :=
  let st : Int := s.rd Obj.TIME_STATE + 1
  let s := (s.wr Obj.SP_STATE st).wr (ix Obj.SP_STATE 1) st
  let s := s.each [2, 3, 4, 5, 6, 7] (fun s n =>
    if s.rd (ix Obj.SP_SOURCE n) = 0 then s.wr (ix Obj.SP_STATE n) st else s)
  let k := s.selected
  let s := if k ≠ 0xFF && s.eligible k then { s with ref := { s.ref with lastQuality := s.candQuality k } } else s
  let a := advertised s
  let s := { s with ref := { s.ref with advHop := a.2.1, advUpstream := a.2.2 } }.wr Obj.REF_ADVERTISED a.1
  let d := ptpDataset s
  s.each [0, 1, 2] (fun s m =>
    (s.wr (ix Obj.PTP_CLOCK_CLASS m) d.1).wr (ix Obj.PTP_CLOCK_ACCURACY m) d.2)

/-- What showStates shows, and REFST, which changes at a batten only (R180, R181). -/
def showReference (s : State) : State :=
  let s := showStates s
  let code := refst s
  if s.rdN Obj.REFST_CODE = code then s else (s.wr Obj.REFST_CODE code).emit (.pin "REFST" 0 code)

/-! ## Auxiliary spindles on a slot (R171, R178, R179) -/

/-- The spindles that follow slot k. -/
def followers (s : State) (k : Nat) : List Nat := [2, 3, 4, 5, 6, 7].filter (fun n => s.rdN (ix Obj.SP_SOURCE n) == k + 1)

/-- An auxiliary spindle leaves its holdover and its steering. -/
def auxClear (s : State) (n : Nat) : State :=
  { s with ref := { s.ref with
      auxHold := s.ref.auxHold.filter (fun h => h.1 != n), auxSteer := s.ref.auxSteer.filter (fun h => h.1 != n) } }.wr
    (ix Obj.SP_HOLD_ELAPSED_S n) 0

/-- An auxiliary spindle acquires from the control value it has (R172, R179). -/
def auxAcquire (s : State) (n : Nat) : State :=
  let s := auxClear s n
  { s with ref := { s.ref with auxSteer := (n, s.rd (ix Obj.SP_CONTROL n), s.clock.now) :: s.ref.auxSteer } }.wr (ix Obj.SP_STATE n) 2

/-- An auxiliary spindle that follows slot k loses its reference: its control value freezes and its timer starts. -/
def auxLost (s : State) (k : Nat) : State :=
  s.each (followers s k) (fun s n =>
    if s.rd (ix Obj.SP_STATE n) = 2 || s.rd (ix Obj.SP_STATE n) = 3 then
      let s := auxClear s n
      { s with ref := { s.ref with auxHold := (n, s.clock.now, s.rdN Obj.SP_HOLD_TIMER_S) :: s.ref.auxHold } }.wr (ix Obj.SP_STATE n) 4
    else s)

/-- The source slot of an auxiliary spindle enters state 3: a spindle that waits for it, or is in holdover, acquires (R171, R179). -/
def auxReturns (s : State) (k : Nat) : State :=
  s.each (followers s k) (fun s n =>
    let st := s.rd (ix Obj.SP_STATE n)
    if st = 4 || st = 5 || (st = 2 && !s.ref.auxSteer.any (fun h => h.1 == n)) then auxAcquire s n else s)

/-- The spindles on a slot whose source has been written: in free-run on a local oscillator, else they wait for it (R171). -/
def auxSource (s : State) (k : Nat) : State :=
  s.each (followers s k) (fun s n =>
    if s.candType k = 7 then (auxClear s n).wr (ix Obj.SP_STATE n) 1
    else if s.rd (ix Obj.SP_STATE n) = 1 then s.wr (ix Obj.SP_STATE n) 2
    else s)

/-- A slot enters a state; entering 1, 5, 6 or 7 loses it for the spindles on it, entering 3 returns it (R171, R179). -/
def enterCand (s : State) (k st : Nat) : State :=
  let s := s.setCandState k st
  if st = 3 then auxReturns s k
  else if st = 1 || st = 5 || st = 6 || st = 7 || st = 0 then
    auxLost (s.setCand k (fun c => { c with tracked := none, rateOver := 0 })) k
  else s

/-! ## Selection (R162 to R165) -/

/-- Whether the successor is pre-qualified: its phase tracker has converged for 2 s (R162). -/
def prequalified (s : State) : Bool :=
  let k := s.rdN Obj.REF_SUCCESSOR
  decide (k ≠ 0xFF) && decide (s.candState k = 3) &&
    (match (s.cand k).tracked with | some since => s.ran since 2000000000 | none => false)

/-- The successor of R162: held while the selected candidate is in state 4 or has just been lost, and it stays eligible; else the first
eligible candidate other than the selected one and the local oscillator (log entry 20), in holdover a forced one before it (R163). -/
def updateSuccessor (s : State) : State :=
  let old := s.rdN Obj.REF_SUCCESSOR
  let sel := s.selected
  let soft := decide (sel ≠ 0xFF) && decide (s.candState sel = 4)
  let leaving := soft || (decide (sel ≠ 0xFF) && !s.eligible sel)
  let pool := slots.filter (fun k => s.eligible k && k != sel && s.candType k != 7)
  let keep := leaving && pool.contains old
  let new := if keep then old
    else if sel = 0xFF && pool.contains (s.rdN Obj.REF_FORCE) then s.rdN Obj.REF_FORCE
    else (s.best pool).getD 0xFF
  let s := if new = old then s else s.wr Obj.REF_SUCCESSOR new
  let lacking := soft && decide (new = 0xFF)
  let s := if lacking && !s.ref.noSuccessor then s.raise Ev.REF_NO_SUCCESSOR 0 else s
  { s with ref := { s.ref with noSuccessor := lacking } }

/-- The pair of equal rank that disagrees and in which no third candidate decides (R167). -/
def openPair (s : State) : Option (Nat × Nat) :=
  match s.ref.disagree.find? (fun d => s.eligible d.1 && s.eligible d.2.1) with
  | some d => some (d.1, d.2.1)
  | none => none

/-- The outcome of losing the selected candidate (R163, R164): the pre-qualified successor; in free-run and while acquiring from it the
local oscillator, 0xFE where no slot names one; else holdover. -/
def lossOutcome (s : State) : Nat :=
  if prequalified s then s.rdN Obj.REF_SUCCESSOR
  else if s.rd Obj.TIME_STATE = 0 || (s.rd Obj.TIME_STATE = 1 && !s.ref.fromHoldover) then s.oscillator.getD 0xFE
  else 0xFF

/-- The selection of R163, from the states as they stand: the slot to change to, or 0xFF for holdover. -/
def choose (s : State) : Option Nat :=
  let elig := slots.filter s.eligible
  let force := s.rdN Obj.REF_FORCE
  let sel := s.selected
  if sel = 0xFF then
    if s.rd Obj.TIME_STATE = 3 then (if prequalified s then some (s.rdN Obj.REF_SUCCESSOR) else none)
    else if elig.contains force then some force else s.best elig
  else if !s.eligible sel then some (lossOutcome s)
  else if elig.contains force then (if force = sel then none else some force)
  else match openPair s with
    | some (a, b) =>
      if a = sel || b = sel then none
      else if s.candRank (min a b) < s.candRank sel then some (min a b) else none
    | none => none

/-- The candidate that outranks the selected one when selection is automatic and revertive (R163). -/
def better (s : State) : Option Nat :=
  let elig := slots.filter s.eligible
  let sel := s.selected
  if sel = 0xFF || !s.eligible sel || elig.contains (s.rdN Obj.REF_FORCE) || (openPair s).isSome || !s.on Obj.REF_REVERTIVE
  then none
  else match s.best elig with
    | some b => if s.candRank b < s.candRank sel then some b else none
    | none => none

/-- Decides a change of selection for the next batten (R165); one that is decided already stands with its stamp (R176). -/
def decideOn (s : State) (k : Nat) : State :=
  if s.ref.decided = some k then s
  else { s with ref := { s.ref with decided := some k, decidedAt := s.clock.pick, lostAt := s.clock.now } }

/-- Makes the selection: a change at once, or the timing of a better candidate (R163). -/
def select (s : State) : State :=
  let s := updateSuccessor s
  match choose s with
  | some k => decideOn s k
  | none =>
    let timing := match better s with
      | none => none
      | some b => match s.ref.outrank with
        | some (b', since) => if b' = b then some (b', since) else some (b, s.clock.now)
        | none => some (b, s.clock.now)
    { s with ref := { s.ref with outrank := timing } }

/-! ## Assessment of the candidates (R157, R161, R167) -/

/-- Candidates other than the local oscillator that are qualified: states 3 and 4 (log entry 21). -/
def qualified (s : State) : List Nat :=
  slots.filter (fun k => s.candType k != 7 && s.candType k != 0 && (s.candState k == 3 || s.candState k == 4))

/-- Order of a signed number among Nats. -/
def intRank (x : Int) : Nat := (x + 2 ^ 40).toNat

/-- Median; with an even number, the mean of the two middle values (R157). -/
def median (xs : List Int) : Int :=
  let ys := sortBy intRank xs
  let n := ys.length
  if n % 2 = 1 then ys.getD (n / 2) 0 else roundDiv (ys.getD (n / 2 - 1) 0 + ys.getD (n / 2) 0) 2

/-- The yardstick and its offset from the local oscillator (R157). -/
def yardstick (s : State) : Bool × Int :=
  let q := qualified s
  if 3 ≤ q.length then (true, median (q.map (fun k => (s.cand k).measured))) else (false, s.rd Obj.XO_OFFSET_PPB)

/-- The number of the assessment that is due: that of the latest multiple of 125 ms whose first batten engine time has reached
(R157). -/
def assessmentNo (s : State) : Nat :=
  let m := s.engineNs / 125000000
  let n := (m * s.fs + 8 * s.pl - 1) / (8 * s.pl)
  if s.battenNs n ≤ s.engineNs then m else m - 1

/-- Records the new measurement of one slot against the yardstick: REF_CAND_RATE_PPB is the offset less that of 1 s, eight assessments,
earlier (R157). -/
def measureSlot (yard : Int) (s : State) (k : Nat) : State :=
  let c := s.cand k
  let f := c.measured - yard
  let m := assessmentNo s
  let rate := match c.offsets.find? (fun o => o.1 + 8 == m) with | some o => f - o.2 | none => 0
  let s := s.setCand k (fun c => { c with offsets := ((m, f) :: c.offsets).take 9 })
  (s.wr (ix Obj.REF_CAND_FREQ_PPB k) f).wr (ix Obj.REF_CAND_RATE_PPB k) rate

/-- Whether the latest offset of a slot lies inside a window; equal to the window is inside (R161). -/
def inside (s : State) (k : Nat) (w : Nat) : Bool := decide ((s.rd (ix Obj.REF_CAND_FREQ_PPB k)).natAbs ≤ s.rdN w)
/-- Whether the latest rate of a slot lies within REF_RATE_PPB. -/
def rateInside (s : State) (k : Nat) : Bool := decide ((s.rd (ix Obj.REF_CAND_RATE_PPB k)).natAbs ≤ s.rdN Obj.REF_RATE_PPB)

/-- Begins qualification (R158). -/
def qualify (s : State) (k : Nat) (requal : Bool) : State :=
  (enterCand s k 2).setCand k (fun c => { c with since := s.clock.now, requal := requal })

/-- Disqualifies a slot (R161). -/
def disqualify (s : State) (k ev : Nat) : State :=
  ((enterCand s k 5).bump (ix Obj.REF_CAND_DISQ_COUNT k)).raise ev k

/-- Judges one present slot at an assessment (R158, R161). A slot in state 1 or 7 with its source present and its quality
below 255 qualifies inside the soft window, over REF_QUALIFY_S also when it was disqualified before it was lost: the model's choice
(log entry 257). -/
def judge (s : State) (k : Nat) : State :=
  let st := s.candState k
  let t := s.candType k
  if t = 0 || t = 7 then s
  else if s.candQuality k = 255 then (if st = 7 then s else enterCand s k 7)
  else if st = 1 || st = 7 || st = 0 then
    (if inside s k Obj.REF_SOFT_PPB && rateInside s k then qualify s k false else s)
  else if st = 6 then s
  else
    let s := s.setCand k (fun c => { c with rateOver := if rateInside s k then 0 else c.rateOver + 1 })
    if !inside s k Obj.REF_HARD_PPB then (if st = 5 then s else disqualify s k Ev.REF_HARD)
    else if !inside s k Obj.REF_SOFT_PPB then
      (if st = 3 then (enterCand s k 4).raise Ev.REF_SOFT k
       else if st = 2 then s.setCand k (fun c => { c with since := s.clock.now })
       else s)
    else if st = 4 then enterCand s k 3
    else if st = 5 then (if rateInside s k then qualify s k true else s)
    else s

/-- All pairs of a list, lower slot first. -/
def pairs : List Nat → List (Nat × Nat)
  | [] => []
  | a :: r => r.map (fun b => (a, b)) ++ pairs r

/-- Whether two slots have equal quality and priority (R167). -/
def equalRank (s : State) (a b : Nat) : Bool :=
  s.candQuality a == s.candQuality b && s.rdN (ix Obj.REF_CAND_PRIORITY a) == s.rdN (ix Obj.REF_CAND_PRIORITY b)

/-- Difference of the offsets of two slots. -/
def difference (s : State) (a b : Nat) : Nat :=
  (s.rd (ix Obj.REF_CAND_FREQ_PPB a) - s.rd (ix Obj.REF_CAND_FREQ_PPB b)).natAbs

/-- The third qualified candidate in rank order, if any (R167). -/
def third (s : State) (a b : Nat) : Option Nat := s.best ((qualified s).filter (fun k => k != a && k != b))

/-- Judges one disagreement: raised with both slots when it is new; a third candidate outvotes the one farther from the median
(R167). -/
def disagree (s : State) (a b : Nat) : State :=
  let s := if s.ref.disagree.any (fun d => d.1 == a && d.2.1 == b) then s
    else { s with ref := { s.ref with disagree := s.ref.disagree ++ [(a, b, 0)] } }.rise Ev.REF_DISAGREE (a * 32 + b) (arg2 a b)
  match third s a b with
  | none => s
  | some c =>
    let f := fun k => s.rd (ix Obj.REF_CAND_FREQ_PPB k)
    let m := median [f a, f b, f c]
    enterCand s (if (f b - m).natAbs < (f a - m).natAbs then a else b) 6

/-- Follows a standing disagreement: the time since which the difference is at or below half the threshold (R167). -/
def followDisagree (s : State) : State :=
  let follow := fun (d : Nat × Nat × Nat) =>
    if difference s d.1 d.2.1 * 2 ≤ s.rdN Obj.REF_DISAGREE_PPB then (d.1, d.2.1, if d.2.2 = 0 then s.clock.now else d.2.2)
    else (d.1, d.2.1, 0)
  { s with ref := { s.ref with disagree := s.ref.disagree.map follow } }

/-- Equal-rank judgement (R167). -/
def judgePairs (s : State) : State :=
  let s := followDisagree s
  s.each (pairs (slots.filter (fun k => s.eligible k && s.candType k != 7))) (fun s p =>
    if s.eligible p.1 && s.eligible p.2 && equalRank s p.1 p.2 && decide (s.rdN Obj.REF_DISAGREE_PPB < difference s p.1 p.2)
    then disagree s p.1 p.2 else s)

/-- Slots that REF_RATE has yet to disqualify at this assessment (R161). -/
def rateDue (s : State) : List Nat :=
  slots.filter (fun k => decide (4 ≤ (s.cand k).rateOver) && decide (2 ≤ s.candState k) && decide (s.candState k ≤ 4) && s.candType k != 7)

/-- Steps 3 and 4 of R168: equal rank, then the selection. They wait for the slots that REF_RATE disqualifies in step 2. -/
def concludeAssessment (s : State) : State := if (rateDue s).isEmpty then select (judgePairs s) else s

/-- One assessment of the candidates in the order of R168: measurements, states slot by slot, equal rank, selection. -/
def assessReference (freq : List (Nat × Int)) (tracked : List Nat) (s : State) : State :=
  let s := { s with ref := { s.ref with assessed := assessmentNo s + 1 } }
  let present := slots.filter (fun k => freq.any (fun f => f.1 == k))
  let s := s.each freq (fun s f => s.setCand f.1 (fun c => { c with measured := f.2 }))
  let y := yardstick s
  let s := s.wr Obj.REF_YARDSTICK (if y.1 then 1 else 0)
  let s := s.each present (measureSlot y.2)
  let s := s.each slots (fun s k => if s.candType k = 0 then s else s.wr (ix Obj.REF_CAND_QUALITY k) (s.candQuality k))
  let s := s.each slots (fun s k => s.setCand k (fun c =>
    { c with tracked := if tracked.contains k then (match c.tracked with | some t => some t | none => some s.clock.now) else none }))
  let s := s.each present judge
  concludeAssessment s

/-! ## Time offset (R136, R166) -/

/-- Splits an offset in ns into a whole number of periods of num / den ns and a remainder in (-1/2, +1/2] period (R136). -/
def splitBy (num den : Nat) (off : Int) : Int × Int :=
  let n : Int := -(((num : Int) - 2 * off * den) / (2 * num))
  (n, off - roundDiv (n * num) den)

/-- The part of an offset that the reference of slot k asks to be removed, in whole picks and a remainder (R136, R166): all of it for PTP
and Swiska, what is left modulo the pulse period for a sync pulse, and modulo one sample, in no whole picks, for the others. -/
def asked (s : State) (k : Nat) (off : Int) : Int × Int :=
  let picks := splitBy (s.pl * 1000000000) s.fs
  match s.candType k with
  | 1 => picks off
  | 2 => picks off
  | 4 => picks (splitBy 1000000000000 (max 1 (s.rdN (ix Obj.REF_CAND_NOMINAL k))) off).2
  | _ => (0, (splitBy 1000000000 s.fs off).2)

/-- The offset of engine time from the reference of slot k: as measured at the slot, or, of a Swiska slot, as its markers deliver it (R166,
R270). -/
def offsetFrom (s : State) (k : Nat) (measured : Int) : Int :=
  if s.candType k = 2 then (match s.links[s.candUnit k]? with
    | some x => if x.hops = 0 then measured else -x.timeDiff
    | none => measured)
  else measured

/-- Slews an offset out from now on (R136). -/
def slewOut (s : State) (off : Int) : State :=
  let s := s.foldSlew
  { s with clock := { s.clock with slewing := off, slewFrom := s.clock.now } }

/-- Removes a measured offset from the selected reference: whole picks by a step at the next batten where TIME_STEP_ENABLE allows, the
rest, or all of it, by slewing (R136). -/
def removeOffset (s : State) (off : Int) : State :=
  let a := asked s s.selected off
  let s := s.wr Obj.TIME_OFFSET off
  if a.1 = 0 then slewOut s a.2
  else if s.on Obj.TIME_STEP_ENABLE then slewOut { s with clock := { s.clock with step := -a.1 } } a.2
  else slewOut s (a.2 + roundDiv (a.1 * s.pl * 1000000000) s.fs)

/-! ## Control of SP1 and lock (R166, R173, R175) -/

/-- A control value in 0.001 ppb that steers from one value toward another at REF_STEER_PPB since a local instant (R166, R172). -/
def steered (s : State) (from_ : Int) (since : Nat) (target : Int) : Int :=
  let span : Int := (s.rdN Obj.REF_STEER_PPB * (s.clock.now - since) / 1000000 : Nat)
  if from_ ≤ target then min target (from_ + span) else max target (from_ - span)

/-- The control value toward which SP1 steers: that of the selected slot, or the nominal frequency corrected by XO_OFFSET_PPB in
free-run (R138, R166). -/
def steerTarget (s : State) : Int :=
  let k := s.selected
  if k = 0xFF || s.candType k = 7 then s.rd Obj.XO_OFFSET_PPB * 1000 else (s.cand k).measured * 1000

/-- The control value of SP1 now. -/
def controlNow (s : State) : Int :=
  match s.ref.steer with
  | some (c, since) => steered s c since (steerTarget s)
  | none => s.rd (ix Obj.SP_CONTROL 1)

/-- What the running slew adds to the frequency of SP1, in ppb (R136, R175). -/
def slewPpb (s : State) : Int :=
  if s.clock.slewing = 0 || decide (s.clock.slewFrom + s.slewNs ≤ s.clock.now) then 0
  else if 0 < s.clock.slewing then -(s.rd Obj.TIME_SLEW_PPB) else s.rd Obj.TIME_SLEW_PPB

/-- Sets the control value in force of SP0 and SP1. -/
def setControl (s : State) (v : Int) : State := (s.wr (ix Obj.SP_CONTROL 1) v).wr Obj.SP_CONTROL v

/-- A control value is recorded while it is valid (R175): in state 2 outside the build-out steering, for 720 s. -/
def recordControl (s : State) (v : Int) : State :=
  let code := refst s
  if s.rd Obj.TIME_STATE = 2 && (code = 2 || code = 3 || code = 6) then
    let old := s.ref.history.filter (fun h => decide (s.clock.now < h.1 + 720000000000))
    { s with ref := { s.ref with history := (s.clock.now, v) :: old } }
  else s

/-- SP1's control at an assessment: while it steers, its value follows REF_STEER_PPB; then its loop follows the reference, `spError`
being the frequency error of SP1 as measured, from which the slew is taken out. The offset measured is removed, and the consecutive
assessments within 10 ppb and 1,000 ns are counted. -/
def assessControl (measured spError : Int) (s : State) : State :=
  let offset := offsetFrom s s.selected measured
  let ts := s.rdN Obj.TIME_STATE
  let follows := ts == 1 || ts == 2
  let target := steerTarget s
  let v := match s.ref.steer with
    | some _ => controlNow s
    | none => if follows then target + (spError - slewPpb s) * 1000 else s.rd (ix Obj.SP_CONTROL 1)
  let err := if s.ref.steer.isSome then v - target + slewPpb s * 1000 else spError * 1000
  let s := if follows then s.wr Obj.TIME_OFFSET offset else s
  let near := ts == 1 && decide (err.natAbs ≤ 10000) && decide (offset.natAbs ≤ 1000)
  let runs := if near then s.ref.lockRuns + 1 else 0
  let s := { s with ref := { s.ref with lockRuns := runs, lockPick := if runs = 8 then s.clock.pick else s.ref.lockPick } }
  let s := recordControl (setControl s v) v
  if follows && s.ref.steer.isNone && s.clock.step == 0 then removeOffset s offset
  else if !follows && v == target && s.ref.steer.isSome then { s with ref := { s.ref with steer := none } }
  else s

/-- The control value of an auxiliary spindle now: while it steers, toward that of its source (R171, R172). -/
def auxControl (s : State) (n : Nat) : Int :=
  let src := s.rdN (ix Obj.SP_SOURCE n)
  if src = 0 then s.rd (ix Obj.SP_CONTROL 1)
  else match s.ref.auxSteer.find? (fun h => h.1 == n) with
    | some h => steered s h.2.1 h.2.2 ((s.cand (src - 1)).measured * 1000)
    | none => if s.rd (ix Obj.SP_STATE n) = 3 then (s.cand (src - 1)).measured * 1000 else s.rd (ix Obj.SP_CONTROL n)

/-- Auxiliary spindles show their control value; holdover shows its time (R171, R178). -/
def assessSpindles (s : State) : State :=
  s.each [2, 3, 4, 5, 6, 7] (fun s n =>
    let s := s.wr (ix Obj.SP_CONTROL n) (auxControl s n)
    match s.ref.auxHold.find? (fun h => h.1 == n) with
    | some h => s.wr (ix Obj.SP_HOLD_ELAPSED_S n) ((s.clock.now - h.2.1) / 1000000000 : Nat)
    | none => s)

/-! ## Steps of their own -/

/-- REF_RATE (R161): the fourth consecutive assessment beyond REF_RATE_PPB disqualifies the candidate; with the last such slot, the
assessment goes on to equal rank and selection (R168). -/
def execRefRate (t : Nat) (slot : Fin 24) (s : State) : Result :=
  let s := s.at_ t
  .next (s.whenever ((rateDue s).contains slot.val) (fun s => concludeAssessment (disqualify s slot.val Ev.REF_RATE)))

/-- An outvoted candidate returns to state 3 (R167). -/
def returnVoted (s : State) (k : Nat) : State := if s.candState k = 6 then enterCand s k 3 else s

/-- The end of a disagreement (R167). -/
def endDisagree (a b : Nat) (s : State) : State :=
  let ds := s.ref.disagree.filter (fun d => !(d.1 == a && d.2.1 == b))
  let s := { s with ref := { s.ref with disagree := ds } }
  showStates (returnVoted (returnVoted (s.fall Ev.REF_DISAGREE (a * 32 + b)) a) b)

/-- REF_DISAGREE_CLEAR (R167): after 10 s at or below half the threshold; an outvoted candidate returns to state 3. -/
def execRefDisagreeClear (t : Nat) (a b : Fin 24) (s : State) : Result :=
  let s := s.at_ t
  let above := s.ref.disagree.any (fun d =>
    d.1 == a.val && d.2.1 == b.val && d.2.2 != 0 && s.ran d.2.2 10000000000)
  .next (s.whenever above (endDisagree a.val b.val))

/-- REF_CAND_QUALIFIED (R158): state 2 without a break for REF_QUALIFY_S, or REF_REQUAL_S after a disqualification. -/
def execRefCandQualified (t : Nat) (slot : Fin 24) (s : State) : Result :=
  let s := s.at_ t
  let c := s.cand slot.val
  let need := s.rdN (if c.requal then Obj.REF_REQUAL_S else Obj.REF_QUALIFY_S)
  .next (s.whenever (decide (s.candState slot.val = 2) && s.ran c.since (need * 1000000000)) (fun s =>
    select (enterCand s slot.val 3)))

/-- SUCCESSOR_PREQUALIFIED (R162, R164): the tracker has converged for 2 s; from holdover the successor is chosen at once. -/
def execSuccessorPrequalified (t : Nat) (s : State) : Result :=
  let s := updateSuccessor (s.at_ t)
  .next (s.whenever (prequalified s && s.rd Obj.TIME_STATE = 3 && s.selected = 0xFF) (fun s => decideOn s (s.rdN Obj.REF_SUCCESSOR)))

/-- REF_WTR_EXPIRED (R163): the better candidate has outranked the selected one for REF_WTR_S. -/
def execRefWtrExpired (t : Nat) (s : State) : Result :=
  let s := s.at_ t
  match s.ref.outrank with
  | some (b, since) =>
    .next (s.whenever (s.ran since (s.rdN Obj.REF_WTR_S * 1000000000) && decide (better s = some b)) (fun s =>
      { (decideOn s b) with ref := { (decideOn s b).ref with outrank := none } }))
  | none => .next s

/-- A source is lost (R159): the slot becomes absent, and a lost selected slot is left at the next batten (R164, R165). -/
def candLost (s : State) (k : Nat) : State :=
  let s := enterCand s k 1
  let s := s.setCand k (fun c => { c with offsets := [], rateOver := 0, tracked := none })
  select s

/-- The slots of a type and unit that are present lose their source (R159). -/
def sourceLost (s : State) (type unit : Nat) : State :=
  s.each (slots.filter (fun k => s.candType k == type && s.candUnit k == unit && 2 ≤ s.candState k)) candLost

/-- SP1 steers from the control value it has toward the selected reference (R166, R172). -/
def beginSteer (s : State) : State := { s with ref := { s.ref with steer := some (controlNow s, s.clock.now) } }

/-- The change of selection at its batten (R165, R166, R173): SP0 and SP1 keep phase and frequency; the phase difference measured there
is kept as the build-out offset. From free-run, the whole picks of the offset are removed at the next batten whatever TIME_STEP_ENABLE
says (R174). 0xFE is free-run without a slot. -/
def switchTo (s : State) (k : Nat) (offset : Int) : State :=
  let old := s.selected
  let ts := s.rdN Obj.TIME_STATE
  let v := controlNow s
  let s := { s with ref := { s.ref with
    decided := none, outrank := none, noSuccessor := false, lockRuns := 0, steer := some (v, s.clock.now) } }
  let new := if k = 0xFE then 0xFF else k
  let s := (s.wr Obj.REF_SELECTED new).bump Obj.REF_SWITCH_COUNT
  let s := if k = 0xFE ∨ s.candType k = 7 then
      { s with ref := { s.ref with buildout := none, fromHoldover := false } }.wr Obj.TIME_STATE 0
    else
      let s := { s with ref := { s.ref with buildout := some offset } }.wr Obj.TIME_OFFSET offset
      if ts = 2 ∨ ts = 1 then s
      else
        let n := (asked s k offset).1
        let s := if ts = 0 then { s with clock := { s.clock with step := -n } } else s
        ({ s with ref := { s.ref with fromHoldover := ts == 3, degraded := false } }.wr
          Obj.TIME_STATE 1).each [0, 1] (fun s n => s.wr (ix Obj.SP_HOLD_ELAPSED_S n) 0)
  showReference ((updateSuccessor s).raise Ev.REF_SWITCHED (arg2 old new))

/-- REF_SWITCHED (R165): at the first batten after the assessment or the loss that decided it, with the phase difference in ns between SP1
and the new reference as measured there. -/
def execRefSwitched (t : Nat) (offset : Int) (s : State) : Result :=
  let s := s.at_ t
  match s.ref.decided with
  | some k => .next (s.whenever (decide (k ≠ 0xFF) && decide (s.ref.decidedAt < s.clock.pick)) (fun s => switchTo s k (offsetFrom s k offset)))
  | none => .next s

/-- Mean of control values, to nearest. -/
def meanOf (xs : List Int) : Int := roundDiv xs.sum xs.length

/-- The averaged holdover value and its SP_HOLD_SOURCE for a loss at local ns t (R176). -/
def holdoverValue (s : State) (t : Nat) : Int × Nat :=
  let off := s.rdN Obj.HOLD_HISTORY_OFFSET_S * 1000000000
  let win := s.rdN Obj.HOLD_AVG_WINDOW_S * 1000000000
  let before := (s.ref.history.filter (fun h => decide (h.1 + off < t))).map (fun (h : Nat × Int) => h.2)
  let span := (s.ref.history.filter (fun h => decide (h.1 + off ≤ t) && decide (t ≤ h.1 + off + win))).map
    (fun (h : Nat × Int) => h.2)
  if 80 ≤ span.length then (meanOf span, 0)
  else if 8 ≤ before.length then (meanOf (before.take 80), 1)
  else match s.ref.warmControl with
    | some v => (v, 2)
    | none => (s.rd Obj.XO_OFFSET_PPB * 1000, 3)

/-- HOLDOVER (R173, R176): averaged holdover of SP0 and SP1 at the batten after the loss. Back from an acquisition that
holdover led into, the value it held resumes and its time goes on. -/
def execHoldover (t : Nat) (s : State) : Result :=
  let s := s.at_ t
  .next (s.whenever (decide (s.ref.decided = some 0xFF) && decide (s.ref.decidedAt < s.clock.pick)) (fun s =>
    let old := s.selected
    let resumed := decide (s.rd Obj.TIME_STATE = 1) && s.ref.fromHoldover
    let v := if resumed then (s.rd Obj.HOLD_AVG_VALUE, s.rdN (ix Obj.SP_HOLD_SOURCE 0)) else holdoverValue s s.ref.lostAt
    let s := { s with ref := { s.ref with
      decided := none, outrank := none, buildout := none, steer := none, lockRuns := 0, degraded := s.ref.degraded && resumed,
      holdSince := if resumed then s.ref.holdSince else s.ref.lostAt,
      holdClass := if resumed then s.ref.holdClass else (ptpDataset s).1 } }
    let s := (s.wr Obj.HOLD_AVG_VALUE v.1).each [0, 1] (fun s n =>
      (s.wr (ix Obj.SP_CONTROL n) v.1).wr (ix Obj.SP_HOLD_SOURCE n) v.2)
    let s := (s.wr Obj.REF_SELECTED 0xFF).bump Obj.REF_SWITCH_COUNT
    showReference ((updateSuccessor (s.wr Obj.TIME_STATE 3)).raise Ev.REF_SWITCHED (arg2 old 0xFF))))

/-- BUILDOUT_STEER_DONE (R166): within 10 ppb of the new reference its loop takes over, and the remaining phase difference, as measured,
is removed as its type asks. -/
def execBuildoutSteerDone (t : Nat) (offset : Int) (s : State) : Result :=
  let s := s.at_ t
  let ts := s.rd Obj.TIME_STATE
  .next (s.whenever ((ts = 2 || ts = 1) && s.ref.steer.isSome && decide ((controlNow s - steerTarget s).natAbs ≤ 10000)) (fun s =>
    let s := setControl s (controlNow s)
    removeOffset { s with ref := { s.ref with steer := none } } (offsetFrom s s.selected offset)))

/-- SLEW_DONE (R136): SP1 has run off the remainder, and a build-out has ended. -/
def execSlewDone (t : Nat) (s : State) : Result :=
  let s := s.at_ t
  .next (s.whenever (s.clock.step == 0 && s.ref.steer.isNone && (s.clock.slewing != 0 || s.ref.buildout.isSome) &&
      s.ran s.clock.slewFrom s.slewNs) (fun s =>
    let s := s.foldSlew
    let s := { s with clock := { s.clock with slewing := 0 }, ref := { s.ref with buildout := none } }
    showStates (s.wr Obj.TIME_OFFSET 0)))

/-- TIME_LOCKED (R173): 8 consecutive assessments within 10 ppb and 1,000 ns; SP1 changes state at the batten after the eighth. -/
def execTimeLocked (t : Nat) (s : State) : Result :=
  let s := s.at_ t
  .next (s.whenever (s.rd Obj.TIME_STATE = 1 && decide (8 ≤ s.ref.lockRuns) && decide (s.ref.lockPick < s.clock.pick)) (fun s =>
    let s := { s with ref := { s.ref with lockRuns := 0, buildout := none, steer := none, fromHoldover := false } }
    showReference (s.wr Obj.TIME_STATE 2)))

/-- XO_OFFSET_UPDATE (R157): every 10 s under the median yardstick, its offset from the local oscillator is written. -/
def execXoOffsetUpdate (t : Nat) (s : State) : Result :=
  let s := s.at_ t
  .next (s.whenever (s.on Obj.REF_YARDSTICK && decide (3 ≤ (qualified s).length) && s.ran s.ref.xoAt 10000000000) (fun s =>
    { (s.wr Obj.XO_OFFSET_PPB (yardstick s).2).markSave with ref := { s.ref with xoAt := s.clock.now } }))

/-! ## Writes that restart a candidate (R151, R152) -/

/-- A written source, domain or nominal frequency returns the slot to state 1, or to 0 when it is empty; a source named in an
earlier slot empties this slot, and the later of two slots is emptied (R151, R152). -/
def candWritten (s : State) (k : Nat) : State :=
  let src := s.rdN (ix Obj.REF_CAND_SOURCE k)
  let restart := fun (s : State) =>
    let s := s.setCand k (fun _ => noCand)
    let s := enterCand s k (if src / 256 = 0 then 0 else if src / 256 = 7 then 3 else 1)
    let s := s.wr (ix Obj.REF_CAND_QUALITY k) 255
    auxSource (s.wr (ix Obj.REF_CAND_QUALITY k) (s.candQuality k)) k
  let empty := fun (s : State) (j : Nat) =>
    (((enterCand (s.wr (ix Obj.REF_CAND_SOURCE j) 0) j 0).setCand j (fun _ => noCand)).wr (ix Obj.REF_CAND_QUALITY j) 255).raise
      Ev.REF_SLOT_DUPLICATE j
  let s := restart s
  if src / 256 = 0 then s
  else s.each (slots.filter (fun j => j != k && s.rdN (ix Obj.REF_CAND_SOURCE j) == src)) (fun s j => empty s (max j k))

end Machine
end Sys2Proof
end

