-- ==== Sys2Proof/Machine/Transmit.lean ====
section
/-! DEFINITION. What every MAC has: its counters (R254) and its transmit queues, which leave in strict priority (R225, R233, R234). -/

namespace Sys2Proof
namespace Machine

/-! ## MACs -/

/-- The state of a MAC beside its objects when it has none. -/
def noMac : Mac := ⟨[0, 0, 0, 0], false, 0, 0, 0, [], 0, [], false, []⟩
/-- The state of MAC m beside its objects: 0 MP0, 1 MP1, 2 CP. -/
def State.mac (s : State) (m : Nat) : Mac := s.net.macs.getD m noMac
/-- Changes it. -/
def State.setMac (s : State) (m : Nat) (f : Mac → Mac) : State :=
  { s with net := { s.net with macs := setAt s.net.macs m (f (s.mac m)) } }
/-- Whether the link of a MAC is up. -/
def State.linkUp (s : State) (m : Nat) : Bool := s.rdN (ix Obj.LINK_STATE m) == 1

/-! ## Statistics (R254, R255) -/

/-- Counts in a statistics counter: it wraps at 32 bits, and a rise of bit 31 raises NET_STAT_HALF with the MAC and sub-index.
While a snapshot stands the object keeps the copied value. -/
def State.stat (s : State) (k m : Nat) (n : Nat := 1) : State :=
  let key := ix k m
  let old := mapGetD s.net.live key 0
  let new := (old + n) % 4294967296
  let s := { s with net := { s.net with live := mapSet s.net.live key new } }
  let s := if s.on Obj.NET_STATS_SNAPSHOT then s else s.wr key new
  if !bit old 31 && bit new 31 then s.raise Ev.NET_STAT_HALF (arg2 m (keySub k)) else s

/-- Counts octets in units of 64 with the remainder carried inside (R254). -/
def State.statOctets (s : State) (k m octets : Nat) : State :=
  let key := ix k m + 2 ^ 24
  let sum := mapGetD s.net.live key 0 + octets
  { s with net := { s.net with live := mapSet s.net.live key (sum % 64) } }.stat k m (sum / 64)

/-- Size bin 0 to 6 of a frame length with FCS (R254). -/
def sizeBin (l : Nat) : Nat :=
  if l ≤ 64 then 0 else if l ≤ 127 then 1 else if l ≤ 255 then 2 else if l ≤ 511 then 3 else if l ≤ 1023 then 4
  else if l ≤ 1518 then 5 else 6

/-- Counts a good frame in one direction: frames, octets, multicast, broadcast, size bin (R254). -/
def State.countFrame (s : State) (ok octets multi broad bin m : Nat) (frame : List Byte) : State :=
  let l := frame.length + 4
  let dest := field frame 0 6
  let s := (s.stat ok m).statOctets octets m l
  let s := if dest = 0xFFFFFFFFFFFF then s.stat broad m else if bit (frame.headD 0).toNat 0 then s.stat multi m else s
  s.stat (bin + sizeBin l) m

/-- The statistics keys, receive and transmit. -/
def statKeys : List Nat := (List.range 29).map (fun n => Obj.RX_FRAMES_OK + n) ++ (List.range 17).map (fun n => Obj.TX_FRAMES_OK + n)

/-! ## Frames to be sent (R225, R234) -/

/-- Ethernet header: destination, own source, EtherType. -/
def etherHeader (s : State) (m dest etype : Nat) : List Byte :=
  beBytes 6 dest ++ beBytes 6 (s.rdN (ix Obj.MAC_ADDRESS m)) ++ beBytes 2 etype

/-- Priority of a transmit class (R225): PTP, media, none, bulk. -/
def classPcp (s : State) (m cls : Nat) : Nat :=
  match cls with
  | 0 => s.rdN (ix Obj.PCP_PTP m)
  | 1 => s.rdN (ix Obj.PCP_MEDIA m)
  | 3 => s.rdN (ix Obj.PFC_PRIORITY m)
  | _ => 0

/-- A frame with its 802.1Q tag when VLAN_ID is not 0 (R225), padded to 60 octets. -/
def tagged (s : State) (m cls : Nat) (frame : List Byte) : List Byte :=
  let vid := s.rdN (ix Obj.VLAN_ID m)
  let f := if vid = 0 then frame else frame.take 12 ++ [0x81#8, 0x00#8] ++ beBytes 2 (classPcp s m cls * 8192 + vid) ++ frame.drop 12
  f ++ List.replicate (60 - f.length) 0

/-- Line time of an octet in ps at the data rate of a MAC mode (R223, R234). -/
def octetPs (s : State) (m : Nat) : Nat := match s.rdN (ix Obj.MAC_MODE m) with | 1 => 320 | 2 => 800 | _ => 8000

/-- Whether a received PAUSE or PFC holds a class at the present: all classes of CP, bulk alone on a media port (R233). -/
def heldBack (s : State) (m cls : Nat) : Bool := (m == 2 || cls == 3) && decide (s.clock.now < (s.mac m).holdUntil)

/-- Whether a frame goes before another (R234): by class; media packets by the instant they are due, then by stream (R238). Frames of
equal standing keep their order. -/
def goesBefore (a b : TxFrame) : Bool :=
  decide (a.cls < b.cls) ||
    (a.cls == b.cls && a.cls == 1 && (decide (a.due < b.due) || (a.due == b.due && decide (a.stream < b.stream))))

/-- The waiting frame that is sent next. -/
def nextFrame (s : State) (m : Nat) : Option TxFrame :=
  match (s.mac m).queue.filter (fun f => !heldBack s m f.cls) with
  | [] => none
  | f :: r => some (r.foldl (fun best g => if goesBefore g best then g else best) f)

/-- The instant in local ps at which a frame can start: the line is free, the frame is there, and no hold stands. -/
def startPs (s : State) (m : Nat) (f : TxFrame) : Nat :=
  let x := s.mac m
  max x.lineFree (max f.ready (if m = 2 || f.cls = 3 then x.holdUntil else 0) * 1000)

/-- Length of a PTP message with its IPv4 and UDP headers (log entry 233). -/
def ptpLength (k : PtpTx) : Nat := 28 + (match k with | .announce => 64 | .delayResp => 54 | _ => 44)

/-- A PTP message as it waits to be sent, to the PTP group address (R225, R257). -/
def ptpFrame (s : State) (m : Nat) (k : PtpTx) (fields : List Nat) (ready : Nat) : TxFrame :=
  ⟨0, ready, ready, 0, tagged s m 0 (etherHeader s m 0x01005E000181 0x0800 ++ List.replicate (ptpLength k) 0), some (.ptp m k fields)⟩

/-- Engine time of an instant in local ps. -/
def engineOfPs (s : State) (ps : Nat) : Nat := s.engineOf (ps / 1000)

/-- The stamp of a frame that starts at a local ps: its first octet after the preamble at the reference plane, on CP the PHY's medium
interface (R256). -/
def txStamp (s : State) (m start : Nat) : Nat :=
  engineOfPs s (start + 8 * octetPs s m) + (if m = 2 then s.rdN (ix Obj.PHY_TX_DELAY_NS 2) else 0)

/-- A frame starts: the line is taken for its length with preamble, FCS and gap; it is counted, a PTP event message is stamped, and a Sync
is followed by its Follow_Up (R234, R238, R254, R256, R257). -/
def startFrame (m : Nat) (s : State) (f : TxFrame) : State :=
  let start := startPs s m f
  let s := s.setMac m (fun x => { x with queue := x.queue.erase f, lineFree := start + (f.octets.length + 24) * octetPs s m })
  let s := s.countFrame Obj.TX_FRAMES_OK Obj.TX_OCTETS_64 Obj.TX_MULTICAST Obj.TX_BROADCAST Obj.TX_SIZE_BIN m f.octets
  let s := if f.cls = 1 && decide ((f.due + 10000) * 1000 < start) then s.stat Obj.TX_MEDIA_LATE m else s
  match f.note with
  | some (.ptp n k fields) =>
    let s := if k = .sync ∨ k = .delayReq then s.bump (ix Obj.PTP_TX_STAMPED m) else s
    let s := s.emit (.ptp n k fields)
    if k = .sync then s.setMac m (fun x => { x with
      queue := x.queue ++ [ptpFrame s m .followUp [fields.headD 0, txStamp s m start] (start / 1000)] }) else s
  | some e => (s.emit (.frame m f.octets)).emit e
  | none => s.emit (.frame m f.octets)

/-- Sends what the line has come to by now. -/
def serveLine (m : Nat) : Nat → State → State
  | 0, s => s
  | n + 1, s =>
    match nextFrame s m with
    | none => s
    | some f => if startPs s m f ≤ s.clock.now * 1000 then serveLine m n (startFrame m s f) else s

/-- Sends what the line of a MAC has come to by now; a Sync brings one more frame. -/
def State.serveMac (s : State) (m : Nat) : State := serveLine m (2 * (s.mac m).queue.length) s

/-- Octets of bulk frames that wait on a MAC. -/
def bulkWaiting (s : State) (m : Nat) : Nat := (((s.mac m).queue.filter (fun f => f.cls == 3)).map (fun f => f.octets.length)).sum

/-- A frame joins the transmit queue of its class: nothing goes to a link that is down, and a bulk frame for which the queue has no room is
dropped and counted. -/
def State.transmit (s : State) (m : Nat) (f : TxFrame) : State :=
  if !s.linkUp m then s
  else
    let s := s.serveMac m
    if f.cls = 3 && decide (Config.bulkQueue < bulkWaiting s m + f.octets.length) then s.stat Obj.TX_BULK_DROPPED m
    else (s.setMac m (fun x => { x with queue := x.queue ++ [f] })).serveMac m

/-- Sends a frame of a class from now on. -/
def State.send (s : State) (m cls : Nat) (frame : List Byte) : State :=
  s.transmit m ⟨cls, s.clock.now, s.clock.now, 0, tagged s m cls frame, none⟩

/-- Sends a PTP message from now on. -/
def State.sendPtp (s : State) (m : Nat) (k : PtpTx) (fields : List Nat) : State := s.transmit m (ptpFrame s m k fields s.clock.now)

end Machine
end Sys2Proof
end

