-- ==== Sys2Proof/Machine/Spindles.lean ====
section
/-! DEFINITION. Auxiliary spindles (R171, R172, R178, R179), timing outputs and their alignment (R182 to R188), and PTP
roles (R153, R189 to R192, R257). -/

namespace Sys2Proof
namespace Machine

/-! ## Auxiliary spindles -/

/-- SP_ACQUIRED (R172): a spindle in state 2 whose source is there has steered to its frequency. -/
def execSpAcquired (t : Nat) (sp : Fin 8) (s : State) : Result :=
  let s := s.at_ t
  let n := sp.val
  let src := s.rdN (ix Obj.SP_SOURCE n)
  let there := src != 0 && (s.candState (src - 1) == 3 || s.candState (src - 1) == 4)
  .next (s.whenever (decide (2 ≤ n) && s.rdN (ix Obj.SP_STATE n) == 2 && there && auxControl s n == (s.cand (src - 1)).measured * 1000)
    (fun s => (auxClear (s.wr (ix Obj.SP_CONTROL n) (auxControl s n)) n).wr (ix Obj.SP_STATE n) 3))

/-- SP_HOLDOVER_OOS (R179): the holdover timer of an auxiliary spindle runs out. -/
def execSpHoldoverOos (t : Nat) (sp : Fin 8) (s : State) : Result :=
  let s := s.at_ t
  let n := sp.val
  match s.ref.auxHold.find? (fun h => h.1 == n) with
  | some h =>
    .next (s.whenever (s.rdN (ix Obj.SP_STATE n) == 4 && s.overdue (h.2.1 + h.2.2 * 1000000000)) (fun s =>
      ((s.wr (ix Obj.SP_STATE n) 5).wr (ix Obj.SP_HOLD_ELAPSED_S n) ((s.clock.now - h.2.1) / 1000000000 : Nat)).raise
        Ev.SP_HOLDOVER_OOS n))
  | none => .next s

/-- SP_HOLD_TIMER_S from SP_HOLD_SPEC_PPB and XO_DRIFT (R178). -/
def holdTimer (spec drift : Nat) : Nat := min 604800 (spec * 1000 / max 1 drift)

/-- A written source or rate returns an auxiliary spindle to state 2, from which it steers, or to free-run on the local oscillator; on SP1
it repeats SP1's state (R171, R172). -/
def spWritten (s : State) (n : Nat) : State :=
  let src := s.rdN (ix Obj.SP_SOURCE n)
  if src = 0 then (auxClear s n).wr (ix Obj.SP_STATE n) (s.rd (ix Obj.SP_STATE 1))
  else if s.candType (src - 1) = 7 then (auxClear s n).wr (ix Obj.SP_STATE n) 1
  else if s.candState (src - 1) = 3 || s.candState (src - 1) = 4 then auxAcquire s n
  else (auxClear s n).wr (ix Obj.SP_STATE n) 2

/-! ## Timing outputs (R182 to R188) -/

/-- Rate of output k in mHz: the engine rate on SP0, SP_RATE on an auxiliary spindle, 0 when off. -/
def outRate (s : State) (k : Nat) : Nat :=
  match s.rdN (ix Obj.OUT_SPINDLE k) with
  | 0xFF => 0
  | 0 => s.fs * 1000
  | n => s.rdN (ix Obj.SP_RATE n)

/-- Whether a pulse width leaves 20 ns of the period at a rate in mHz (R183). -/
def widthFits (rate width : Nat) : Bool := rate == 0 || decide ((width + 20) * rate ≤ 1000000000000)

/-- The edges of output k. -/
def State.align (s : State) (k : Nat) : Align := s.ref.aligns.getD k ⟨0, true, 0, none⟩

/-- Sets the edges of output k. -/
def State.setAlign (s : State) (k : Nat) (f : Align → Align) : State :=
  { s with ref := { s.ref with aligns := setAt s.ref.aligns k (f (s.align k)) } }

/-- Units of an edge's place in one ns: 10^12 times the engine rate. -/
def edgeUnits (s : State) : Nat := 1000000000000 * s.fs

/-- How far a running correction has moved the edges of an output (R186): at most ALIGN_SLEW_PPB of the time it has run. -/
def slewedEdge (s : State) (a : Align) : Int :=
  match a.slew with
  | none => 0
  | some (e, since) =>
    let run : Int := ((s.clock.now - since) * s.rdN Obj.ALIGN_SLEW_PPB * 1000 * s.fs : Nat)
    if 0 ≤ e then min e run else max e (-run)

/-- An instant of an edge of output k as it runs now. -/
def edgeOf (s : State) (k : Nat) : Int := (s.align k).anchor - slewedEdge s (s.align k)

/-- The edges of outputs whose spindle follows a slot move against engine time, with the frequency of the spindle against that of SP1
and with the slew of SP1; those on SP1 keep their place (R170, R171). -/
def followEdges (s : State) : State :=
  let at_ := s.ref.edgesAt
  let dt := s.clock.now - at_.1
  let de : Int := ((s.engineNs : Int) - at_.2) - dt
  let s := s.each (List.range 6) (fun s k =>
    let n := s.rdN (ix Obj.OUT_SPINDLE k)
    if n = 0xFF ∨ n = 0 ∨ s.rd (ix Obj.SP_SOURCE n) = 0 then s
    else s.setAlign k (fun a => { a with
      anchor := a.anchor + (de * 1000000000000 - (s.rd (ix Obj.SP_CONTROL n) - s.rd (ix Obj.SP_CONTROL 1)) * dt) * s.fs }))
  { s with ref := { s.ref with edgesAt := (s.clock.now, s.engineNs) } }

/-- An ideal edge of output k (R184): at its offset from the epoch, or from the latest qualified pulse of its input. -/
def idealEdge (s : State) (k : Nat) : Int :=
  let src := s.rdN (ix Obj.ALIGN_SOURCE k)
  let zero : Int := if src = 3 then 0 else ((s.ref.pulses.getD (src - 1) []).headD 0 : Nat)
  (zero + s.rd (ix Obj.ALIGN_OFFSET_NS k)) * edgeUnits s

/-- The difference between the nearest actual and the nearest ideal edge (R186), in (-1/2, +1/2] period. -/
def edgeError (s : State) (k : Nat) : Int :=
  let rate := outRate s k
  let period := 1000000000000 * edgeUnits s
  let x := (edgeOf s k - idealEdge s k) * rate
  roundDiv ((splitBy period 1 x).2) rate

/-- The running corrections go on from where the edges are (R186). -/
def foldEdges (s : State) : State :=
  s.each (List.range 6) (fun s k => s.setAlign k (fun a =>
    { a with anchor := edgeOf s k, slew := a.slew.map (fun x => (x.1 - slewedEdge s a, s.clock.now)) }))

/-- Shows the waveform of output k from its next edge on (R182 to R184); an output that is off is low. -/
def showEdges (s : State) (k : Nat) : State :=
  let rate := outRate s k
  if rate = 0 then s.emit (.pin "TIMING_OUT" k 0)
  else
    let period : Int := 1000000000000 * edgeUnits s
    let lag := (s.engineNs : Int) * edgeUnits s - edgeOf s k
    let m := -(-(lag * rate) / period)
    let first := roundDiv (edgeOf s k * rate + m * period) (rate * edgeUnits s)
    s.emit (.edges k (s.rdN (ix Obj.OUT_KIND k)) (s.rdN (ix Obj.OUT_WIDTH_NS k)) rate first.toNat)

/-- Whether the last 8 pulses qualify: 7 intervals within 1,000 ppm of their mean (R185). -/
def pulsesQualify (ps : List Nat) : Bool :=
  let total := ps.headD 0 - ps.getLastD 0
  decide (ps.length = 8) && (ps.zip (ps.drop 1)).all (fun p =>
    decide (((7 * (p.1 - p.2) : Nat) : Int) - total ≤ (total : Int) / 1000) &&
    decide ((total : Int) - ((7 * (p.1 - p.2) : Nat) : Int) ≤ (total : Int) / 1000))

/-- Whether the mean interval of 8 pulses is within 1 ppm of a whole number of periods, 1 or more (R185). -/
def commensurate (rate : Nat) (ps : List Nat) : Bool :=
  let num := (ps.headD 0 - ps.getLastD 0) * rate
  let den := 7 * 1000000000000
  let n := roundNat num den
  decide (1 ≤ n) && decide (((num : Int) - (n * den : Nat)).natAbs * 1000000 ≤ n * den)

/-- A jump: the next edge of the output falls on the ideal instant (R186). -/
def jumpEdge (s : State) (k : Nat) : State :=
  showEdges (s.setAlign k (fun a => { a with anchor := idealEdge s k, slew := none })) k

/-- A first alignment: by a jump, whatever ALIGN_MODE says (R186). -/
def alignJump (s : State) (k : Nat) : State :=
  (jumpEdge (s.setAlign k (fun a => { a with overs := 0, first := false })) k).wr (ix Obj.ALIGN_STATE k) 2

/-- A correction begins (R186): by a jump, or by slewing the edges until the error is 0. -/
def correctEdge (s : State) (k : Nat) : State :=
  let s := s.wr (ix Obj.ALIGN_STATE k) 1
  if s.rd (ix Obj.ALIGN_MODE k) = 1 then jumpEdge s k
  else showEdges (s.setAlign k (fun a => { a with anchor := edgeOf s k, slew := some (edgeError s k, s.clock.now) })) k

/-- One check of an aligned output (R186): the error in ns is stored, and the third in a row beyond tolerance is corrected. -/
def alignCheck (s : State) (k : Nat) : State :=
  let e := roundDiv (edgeError s k) (edgeUnits s)
  let s := s.wr (ix Obj.ALIGN_ERROR_NS k) e
  if (s.align k).first then alignJump s k
  else if s.rdN Obj.ALIGN_TOL_NS < e.natAbs then
    let s := s.setAlign k (fun a => { a with overs := a.overs + 1 })
    if 3 ≤ (s.align k).overs ∧ (s.align k).slew.isNone then correctEdge s k else s
  else
    let s := s.setAlign k (fun a => { a with overs := 0 })
    if s.rdN (ix Obj.ALIGN_STATE k) = 1 ∧ (s.align k).slew.isSome then s else s.wr (ix Obj.ALIGN_STATE k) 2

/-- Outputs that run and are aligned to a source code. -/
def alignedTo (s : State) (code : Nat) : List Nat :=
  (List.range 6).filter (fun k => decide (s.rdN (ix Obj.OUT_SPINDLE k) ≠ 0xFF) && s.rdN (ix Obj.ALIGN_SOURCE k) == code)

/-- SYNC_IN_PULSE (R185, R186): the pulse is stamped; when it qualifies, the outputs aligned to it are checked, or lose
alignment when the interval is no whole multiple of their period. -/
def execSyncInPulse (t : Nat) (p : Fin 2) (s : State) : Result :=
  let s := s.at_ t
  let ps := (s.engineNs :: s.ref.pulses.getD p.val []).take 8
  let s := { s with ref := { s.ref with pulses := setAt s.ref.pulses p.val ps } }
  .next (s.whenever (pulsesQualify ps) (fun s =>
    (followEdges s).each (alignedTo s (p.val + 1)) (fun s k =>
      if commensurate (outRate s k) ps then alignCheck s k
      else (s.wr (ix Obj.ALIGN_STATE k) 0).raise Ev.ALIGN_INCOMMENSURATE k)))

/-- ALIGN_CHECK (R186, R187): at each whole second of engine time, epoch-aligned outputs are checked. -/
def execAlignCheck (t : Nat) (s : State) : Result :=
  let s := s.at_ t
  let second := s.engineNs / 1000000000
  .next (s.whenever (decide (s.ref.checked ≠ second + 1)) (fun s =>
    let s := (followEdges s).each (alignedTo s 3) alignCheck
    { s with ref := { s.ref with checked := second + 1 } }))

/-- ALIGN_SLEW_DONE (R186): the correction brings the edge error to 0. -/
def execAlignSlewDone (t : Nat) (k : Fin 6) (s : State) : Result :=
  let s := s.at_ t
  let a := s.align k.val
  .next (s.whenever (s.rdN (ix Obj.ALIGN_STATE k.val) == 1 && a.slew.isSome && a.slew.map (fun x => x.1) == some (slewedEdge s a)) (fun s =>
    let s := s.setAlign k.val (fun a => { a with anchor := edgeOf s k.val, slew := none, overs := 0 })
    (showEdges s k.val).wr (ix Obj.ALIGN_STATE k.val) 2))

/-- The nominal period of the pulses of SYNC_IN input p in ns (R159, R188): that of the candidate slot that names it, else the mean of the
intervals received (log entry 230). -/
def pulsePeriod (s : State) (p : Nat) : Nat :=
  let ps := s.ref.pulses.getD p []
  match slots.find? (fun k => s.candType k == 4 && s.candUnit k == p) with
  | some k => 1000000000000 / max 1 (s.rdN (ix Obj.REF_CAND_NOMINAL k))
  | none => (ps.headD 0 - ps.getLastD 0) / max 1 (ps.length - 1)

/-- ALIGN_LOST (R188): no pulse within 1.5 nominal periods; no check runs until a pulse qualifies again. The
nominal period of a SYNC_IN that is no candidate is the model's choice (log entry 230). -/
def execAlignLost (t : Nat) (p : Fin 2) (s : State) : Result :=
  let s := s.at_ t
  let ps := s.ref.pulses.getD p.val []
  .next (s.whenever (decide (2 ≤ ps.length) && past s.engineNs (ps.headD 0 + pulsePeriod s p.val * 3 / 2)) (fun s =>
    let s := { s with ref := { s.ref with pulses := setAt s.ref.pulses p.val [] } }
    s.each (alignedTo s (p.val + 1)) (fun s k => (s.wr (ix Obj.ALIGN_STATE k) 3).raise Ev.ALIGN_LOST k)))

/-- A write of ALIGN_OFFSET_NS or ALIGN_SOURCE corrects by a jump at the next edge (R186): at once when the ideal edges are
known, else at the first qualified pulse. An output without a source has no ideal edges. -/
def alignWritten (s : State) (k : Nat) : State :=
  let src := s.rdN (ix Obj.ALIGN_SOURCE k)
  let ps := s.ref.pulses.getD (src - 1) []
  let s := s.setAlign k (fun a => { a with overs := 0, first := true, anchor := edgeOf s k, slew := none })
  if src = 0 || s.rdN (ix Obj.OUT_SPINDLE k) = 0xFF then s.wr (ix Obj.ALIGN_STATE k) 0
  else if src = 3 || (pulsesQualify ps && commensurate (outRate s k) ps) then alignJump s k
  else s.wr (ix Obj.ALIGN_STATE k) 0

/-- An output starts on its spindle (R184): its first edge falls at a batten on SP0, at the present on another (log entry 231); then it
aligns. -/
def outputStarts (s : State) (k : Nat) : State :=
  let first := if s.rdN (ix Obj.OUT_SPINDLE k) = 0 then s.battenNs (s.clock.pick + 1) else s.engineNs
  let s := s.setAlign k (fun a => { a with anchor := (first : Int) * edgeUnits s, slew := none })
  let s := showEdges s k
  alignWritten s k

/-- The outputs that take their rate from a spindle start again when it changes its rate or source. -/
def outputsOn (s : State) (n : Nat) : State :=
  s.each ((List.range 6).filter (fun k => s.rdN (ix Obj.OUT_SPINDLE k) == n)) outputStarts

/-! ## PTP (R153, R189 to R192, R257) -/

/-- Compares two datasets by priority1, class, accuracy, offsetScaledLogVariance, priority2 and identity (the best master clock algorithm,
log entry 22); the lower rank wins. -/
def clockRank (p1 cls acc var p2 identity : Nat) : Nat :=
  ((((p1 * 256 + cls) * 256 + acc) * 65536 + var) * 256 + p2) * 2 ^ 64 + identity % 2 ^ 64

/-- Rank of a foreign master; of two records of one grandmaster the one with fewer steps, then with the lower sender, wins. -/
def foreignRank (f : Foreign) : Nat :=
  (clockRank f.priority1 f.clockClass f.accuracy f.variance f.priority2 f.grandmaster * 65536 + f.steps % 65536) * 2 ^ 64 + f.sender % 2 ^ 64

/-- The announce interval of a MAC in ns (R257). -/
def announceNs (s : State) (n : Nat) : Nat := 1000000000 * 2 ^ (s.rd (ix Obj.PTP_ANNOUNCE_LOG n) + 7).toNat / 128
/-- The sync interval of a MAC in ns (R257). -/
def syncNs (s : State) (n : Nat) : Nat := 1000000000 * 2 ^ (s.rd (ix Obj.PTP_SYNC_LOG n) + 7).toNat / 128
/-- The Delay_Req interval of a MAC in ns (R257). -/
def delayReqNs (s : State) (n : Nat) : Nat := 1000000000 * 2 ^ (s.rd (ix Obj.PTP_DELAY_REQ_LOG n) + 7).toNat / 128
/-- announceReceiptTimeout times the announce interval in ns (R159, R257). -/
def announceLimit (s : State) (n : Nat) : Nat := s.rdN (ix Obj.PTP_ANNOUNCE_TIMEOUT n) * announceNs s n

/-- Whether a foreign master is qualified (log entry 22): a second Announce within four announce intervals, and fewer than 255 steps. -/
def foreignGood (s : State) (f : Foreign) : Bool :=
  decide (f.steps < 255) && (match f.before with
    | some b => decide (f.announceAt ≤ b + 4 * announceNs s f.mac)
    | none => false)

/-- The best qualified foreign master of a MAC in a domain. -/
def bestForeign (s : State) (mac domain : Nat) : Option Foreign :=
  (sortBy foreignRank (s.ref.foreign.filter (fun f => f.mac == mac && f.domain == domain && foreignGood s f))).head?

/-- Slots that run the ordinary clock of a MAC and domain (R153, R189). -/
def ptpSlots (s : State) (mac domain : Nat) : List Nat :=
  slots.filter (fun k => s.candType k == 1 && s.candUnit k == mac && s.rdN (ix Obj.REF_CAND_DOMAIN k) == domain)

/-- Whether the ordinary clock of a MAC may be master (R190): enabled, and the lease held while twin pairing is on. -/
def mayMaster (s : State) (mac : Nat) : Bool :=
  s.on (ix Obj.PTP_GM_ENABLE mac) && (!s.on Obj.TWIN_ENABLE || decide (s.rd Obj.LEASE_ROLE ≠ 0))

/-- Rank of the engine's own dataset on a MAC (R191). -/
def ownRank (s : State) (mac : Nat) : Nat :=
  clockRank (s.rdN (ix Obj.PTP_PRIORITY1 mac)) (ptpDataset s).1 (ptpDataset s).2 0xFFFF (s.rdN (ix Obj.PTP_PRIORITY2 mac))
    (s.rdN (ix Obj.MAC_ADDRESS mac)) * 65536 * 2 ^ 64

/-- PTP_PORT_STATE in PTP_GM_DOMAIN (R189, R190): 6 master when its own dataset wins and may be advertised; 9 slave when a slot follows the
best master, or the own class is 128 or more (log entry 22); 7 passive otherwise; 4 listening without any master; 1 without a clock. A port
becomes master without a master to compare with only when it has listened for the announce timeout. -/
def ptpDecide (s : State) (mac : Nat) (silent : Bool) : State :=
  let d := s.rdN (ix Obj.PTP_GM_DOMAIN mac)
  let may := mayMaster s mac
  let followed := !(ptpSlots s mac d).isEmpty
  let old := s.rdN (ix Obj.PTP_PORT_STATE mac)
  let st :=
    if !followed && !s.on (ix Obj.PTP_GM_ENABLE mac) then 1
    else match bestForeign s mac d with
      | none => if may && (silent || old = 6) then 6 else 4
      | some f => if may && ownRank s mac < foreignRank f then 6 else if followed || 128 ≤ (ptpDataset s).1 then 9 else 7
  let s := if st = 4 && old ≠ 4 then { s with ref := { s.ref with listen := setAt s.ref.listen mac s.clock.now } } else s
  if st = old then s else s.wr (ix Obj.PTP_PORT_STATE mac) st

/-- The port states of every MAC are decided again, as the engine's own dataset or its right to be master has changed (R189, R190). -/
def ptpDecideAll (s : State) : State := s.each [0, 1, 2] (fun s m => ptpDecide s m false)

/-- The qualities of the slots on a MAC and domain follow the chosen master (R153). -/
def ptpQualities (s : State) (mac domain : Nat) : State :=
  s.each (ptpSlots s mac domain) (fun s k =>
    match bestForeign s mac domain with
    | some f => s.wr (ix Obj.REF_CAND_QUALITY k) (ptpQuality f.clockClass f.accuracy f.steps)
    | none => s.wr (ix Obj.REF_CAND_QUALITY k) 255)

/-- A written candidate slot shares the clock of its MAC and domain (R153, R189). -/
def ptpSlotWritten (s : State) (k : Nat) : State :=
  ptpDecideAll (if s.candType k = 1 then ptpQualities s (s.candUnit k) (s.rdN (ix Obj.REF_CAND_DOMAIN k)) else s)

/-- Whether PTP runs at all: none from step 5 of Doff entry on (R252). -/
def ptpAlive (s : State) : Bool := decide (s.power.doff < 3) && decide (4 ≤ s.power.stage)

/-- Whether PTP runs on a MAC: its link is up and it has an address, since PTP runs over IPv4 alone (R224, R257). -/
def ptpRuns (s : State) (n : Nat) : Bool := ptpAlive s && s.linkUp n && decide (s.rdN (ix Obj.IP_ADDRESS n) ≠ 0)

/-- How much earlier than its arrival at the balls a message is stamped: on CP at the PHY's medium interface (R256). -/
def rxEarly (s : State) (n : Nat) : Nat := if n = 2 then s.rdN (ix Obj.PHY_RX_DELAY_NS 2) else 0

/-- Changes the record of a sender. -/
def touchForeign (s : State) (mac domain sender : Nat) (f : Foreign → Foreign) : State :=
  let fs := change s.ref.foreign (fun x => x.mac == mac && x.domain == domain && x.sender == sender) f
  { s with ref := { s.ref with foreign := fs } }

/-- PTP_MESSAGE_RX (R153, R189, R256): the message is stamped; Announce updates the choice of master, Sync its presence, and a
master answers Delay_Req. -/
def execPtpMessageRx (t : Nat) (mac : Fin 3) (m : PtpMsg) (s : State) : Result :=
  let s := s.at_ t
  let n := mac.val
  let at_ := s.clock.now - rxEarly s n
  .next (s.whenever (ptpRuns s n) (fun s =>
    match m with
    | .announce domain cls acc var steps p1 p2 gm sender =>
      let isIt := fun (f : Foreign) => f.mac == n && f.domain == domain && f.sender == sender
      let old := s.ref.foreign.find? isIt
      let f : Foreign := ⟨n, domain, sender, gm, cls, acc, var, steps, p1, p2, at_, old.map (fun f => f.announceAt),
        (old.map (fun f => f.syncAt)).getD at_⟩
      let s := { s with ref := { s.ref with foreign := s.ref.foreign.filter (fun f => !isIt f) ++ [f] } }
      ptpQualities (if domain = s.rdN (ix Obj.PTP_GM_DOMAIN n) then ptpDecide s n false else s) n domain
    | .sync domain sender _ =>
      let s := s.bump (ix Obj.PTP_RX_STAMPED n)
      touchForeign s n domain sender (fun f => { f with syncAt := at_ })
    | .delayReq domain _ =>
      let s := s.bump (ix Obj.PTP_RX_STAMPED n)
      if domain = s.rdN (ix Obj.PTP_GM_DOMAIN n) && s.rdN (ix Obj.PTP_PORT_STATE n) = 6 then
        s.sendPtp n .delayResp [domain, s.engineNs - rxEarly s n]
      else s
    | .followUp _ _ => s
    | .delayResp _ _ => s))

/-- The dataset that a master advertises (R191): domain, clockClass, clockAccuracy, offsetScaledLogVariance, priority1,
priority2, stepsRemoved, timeSource, ptpTimescale, currentUtcOffsetValid. -/
def announceFields (s : State) (n : Nat) : List Nat :=
  let adv := s.rdN Obj.REF_ADVERTISED
  let source := if s.rd Obj.TIME_STATE = 2 then
      (if adv ≤ 31 && s.candType s.selected = 1 then 0x40 else 0x90) else 0xA0
  [s.rdN (ix Obj.PTP_GM_DOMAIN n), (ptpDataset s).1, (ptpDataset s).2, 0xFFFF, s.rdN (ix Obj.PTP_PRIORITY1 n),
    s.rdN (ix Obj.PTP_PRIORITY2 n), 0, source, 1, 0]

/-- PTP_MESSAGE_TX (R234, R257): Announce, and Sync, as master, Delay_Req as slave, each at its interval, go to the timing queue. A
Follow_Up follows its Sync and a Delay_Resp its request, never on their own. -/
def execPtpMessageTx (t : Nat) (mac : Fin 3) (m : PtpTx) (s : State) : Result :=
  let s := s.at_ t
  let n := mac.val
  let st := s.rdN (ix Obj.PTP_PORT_STATE n)
  let d := s.rdN (ix Obj.PTP_GM_DOMAIN n)
  let master := ptpRuns s n && st == 6
  let due := fun (k ns : Nat) => match mapGet s.ref.ptpSent (8 * n + k) with | some at_ => s.ran at_ ns | none => true
  let sent := fun (k : Nat) (s : State) => { s with ref := { s.ref with ptpSent := mapSet s.ref.ptpSent (8 * n + k) s.clock.now } }
  .next (match m with
    | .announce => s.whenever (master && due 0 (announceNs s n)) (fun s => (sent 0 s).sendPtp n .announce (announceFields s n))
    | .sync => s.whenever (master && due 1 (syncNs s n)) (fun s => (sent 1 s).sendPtp n .sync [d])
    | .followUp => s
    | .delayReq => s.whenever (ptpRuns s n && st == 9 && due 3 (delayReqNs s n)) (fun s => (sent 3 s).sendPtp n .delayReq [d])
    | .delayResp => s)

/-- PTP_ANNOUNCE_TIMEOUT (R159): masters that were silent for too long are dropped and the choice of master is made again; the slots that
followed one are lost. A port that has heard none for that time may enter MASTER (R190). An Announce stamped at or before the deadline wins
(R150). -/
def execPtpAnnounceTimeout (t : Nat) (mac : Fin 3) (s : State) : Result :=
  let s := s.at_ t
  let n := mac.val
  let silent := fun (f : Foreign) => f.mac == n && s.overdue (f.announceAt + announceLimit s n)
  let fresh := s.ref.foreign.any (fun f => f.mac == n && f.domain == s.rdN (ix Obj.PTP_GM_DOMAIN n) && !silent f)
  let quiet := !fresh && s.overdue (s.ref.listen.getD n 0 + announceLimit s n)
  .next (s.whenever (ptpAlive s) (fun s =>
    let gone := s.ref.foreign.filter silent
    let chosen := gone.filter (fun f => bestForeign s n f.domain == some f)
    let s := { s with ref := { s.ref with foreign := s.ref.foreign.filter (fun f => !silent f) } }
    let s := s.each gone (fun s f => ptpQualities s n f.domain)
    let s := s.each chosen (fun s f => s.each ((ptpSlots s n f.domain).filter (fun k => 2 ≤ s.candState k)) candLost)
    ptpDecide s n quiet))

/-- PTP_HOLDOVER_CLASS (R191): after PTP_HOLDOVER_CLASS_S in holdover the advertised class degrades. -/
def execPtpHoldoverClass (t : Nat) (s : State) : Result :=
  let s := s.at_ t
  .next (s.whenever (s.rd Obj.TIME_STATE = 3 && !s.ref.degraded &&
      s.ran s.ref.holdSince (s.rdN Obj.PTP_HOLDOVER_CLASS_S * 1000000000)) (fun s =>
    ptpDecideAll (showStates { s with ref := { s.ref with degraded := true } })))

/-- A write of PTP_GM_DOMAIN (R192): the selected reference that the MAC carries in the old domain is lost, and a master or
slave port returns to INITIALIZING. -/
def gmDomainWritten (s : State) (n old : Nat) : State :=
  let st := s.rdN (ix Obj.PTP_PORT_STATE n)
  if st = 6 || st = 9 then
    let s := s.wr (ix Obj.PTP_PORT_STATE n) 1
    let s := if s.selected ≠ 0xFF && (ptpSlots s n old).contains s.selected then candLost s s.selected else s
    { s with ref := { s.ref with listen := setAt s.ref.listen n s.clock.now } }
  else ptpDecide s n false

end Machine
end Sys2Proof
end

