-- ==== Sys2Proof/Machine/Ports.lean ====
section
/-! DEFINITION. Audio ports: frames, clock faults and their return, parity, non-audio payload (R193 to R214), ASRC channels
(R215 to R217) and warp groups (R218 to R221). -/

namespace Sys2Proof
namespace Machine

/-! ## Ports, channels and rates -/

/-- KIND of a port's endpoints (R45, R193): 1 TDM, 2 AES3, 3 MADI. -/
def portKind (p : Nat) : Nat := if p < 16 then 1 else if p < 24 then 2 else 3
/-- UNIT of a port's endpoints. -/
def portUnit (p : Nat) : Nat := if p < 16 then p else if p < 24 then p - 16 else p - 24
/-- Key of a sub-index of a port's objects. -/
def portKey (p sub : Nat) : Nat :=
  keyOf ((if p < 16 then 0x3000 else if p < 24 then 0x3100 else 0x3200) + portUnit p) sub
/-- The port in an event's ARG: KIND and UNIT (log entry 23). -/
def portArg (p : Nat) : Nat := portKind p * 256 + portUnit p

/-- The state of a port beside its objects when it has none. -/
def noPort : Port := ⟨0, [], 0, 0, 0, [], false, 0, 0, 0, false, 32, 0, [], [], [], [], []⟩
/-- The state of port p beside its objects. -/
def State.port (s : State) (p : Nat) : Port := s.io.ports.getD p noPort
/-- Changes the state of port p beside its objects. -/
def State.setPort (s : State) (p : Nat) (f : Port → Port) : State :=
  { s with io := { s.io with ports := setAt s.io.ports p (f (s.port p)) } }
/-- PORT_STATE of port p. -/
def State.portState (s : State) (p : Nat) : Nat := s.rdN (portKey p Obj.PORT_STATE)
/-- The nominal rates of PORT_RATE_NOMINAL in mHz, codes 1 to 7 (R203). -/
def nominalRates : List (Nat × Nat) :=
  [(1, 32000000), (2, 44100000), (3, 48000000), (4, 88200000), (5, 96000000), (6, 176400000), (7, 192000000)]

/-- PORT_RATE_NOMINAL of a measured rate: the nominal rate within 1,000 ppm, else 8 (R203). -/
def nominalOf (mHz : Nat) : Nat :=
  match nominalRates.find? (fun r => decide (((mHz : Int) - r.2).natAbs * 1000 ≤ r.2)) with
  | some r => r.1
  | none => 8

/-- PORT_RATE_NOMINAL takes a code; a change raises PORT_RATE_CHANGED (R203). -/
def showNominal (s : State) (p n : Nat) : State :=
  if s.rdN (portKey p Obj.PORT_RATE_NOMINAL) = n then s
  else (s.wr (portKey p Obj.PORT_RATE_NOMINAL) n).raise Ev.PORT_RATE_CHANGED (arg2 (portArg p) n)

/-- Sets PORT_STATE of port p. PORT_RATE_NOMINAL is 0 while the port is off, searching or fault muted, and names the rate last
measured, if any, once the port is qualified (R203). -/
def State.setPortState (s : State) (p v : Nat) : State :=
  let s := s.wr (portKey p Obj.PORT_STATE) v
  let mHz := s.rdN (portKey p Obj.PORT_RATE_MEAS)
  if v = 0 ∨ v = 1 ∨ v = 4 then showNominal s p 0 else if v = 5 ∧ mHz ≠ 0 then showNominal s p (nominalOf mHz) else s

/-- Whether a port is a TDM master, which cannot fault (R197). -/
def tdmMaster (s : State) (p : Nat) : Bool := decide (p < 16) && s.rdN (portKey p 1) == 1
/-- Whether a port is on at all. -/
def portOn (s : State) (p : Nat) : Bool := decide (s.rdN (portKey p 1) ≠ 0)

/-- Rate in mHz of a spindle as a port clock: the engine rate, or SP_RATE. -/
def spindleRate (s : State) (sp : Nat) : Nat := if sp = 0 then s.fs * 1000 else s.rdN (ix Obj.SP_RATE sp)

/-- Declared or measured frame rate of a port in mHz: that of a TDM port's spindle or settings, the rate last measured of another input, and
until a first assessment its mean since the latest fault, or the engine rate. -/
def portRate (s : State) (p : Nat) : Nat :=
  if p < 16 then (if tdmMaster s p then spindleRate s (s.rdN (portKey p 2)) else s.rdN (portKey p 3))
  else
    let m := s.rdN (portKey p Obj.PORT_RATE_MEAS)
    let x := s.port p
    let span := x.frameAt - x.starts.getLastD x.frameAt
    if m ≠ 0 then m else if span = 0 then s.fs * 1000 else roundNat ((x.starts.length - 1) * 1000000000000) span

/-- Length of a port's fade-in: 20 ms in engine samples (R207). -/
def fade20 (s : State) : Nat := s.msSamples 20

/-- The rate in mHz of n periods in a time in ns. -/
def rateOf (n ns : Nat) : Nat := if ns = 0 then 0 else roundNat (n * 1000000000000) ns

/-- Measures a port at an assessment (R203): its frames since the assessment of 1 s before, or the oldest there is, over the time between
their starts. -/
def measurePort (p : Nat) (s : State) : State :=
  let x := s.port p
  let here := (x.frames, x.frameAt)
  let old := (x.rates.take 8).getLastD here
  let running := s.portState p == 3 || s.portState p == 5
  let mHz := rateOf (here.1 - old.1) (here.2 - old.2)
  let s := s.setPort p (fun x => { x with rates := (here :: x.rates).take 9 })
  if x.frames = 0 then s
  else showNominal (s.wr (portKey p Obj.PORT_RATE_MEAS) mHz) p (if running then nominalOf mHz else 0)

/-- Whether the period of the latest frame differs by more than 0.5 % from the mean of the previous 64 frames (R205). -/
def rateStep (starts : List Nat) : Bool :=
  match starts with
  | a :: b :: r => match r.drop 63 with
    | c :: _ => decide (5 * (b - c) < 1000 * (((a - b) * 64 : Nat) - ((b - c : Nat) : Int)).natAbs)
    | [] => false
  | _ => false

/-- The time of the 63 periods of the latest 64 frames. -/
def span64 (x : Port) : Nat := x.starts.headD 0 - x.starts.getD 63 0

/-- Whether 64 consecutive frames qualify a port (R207): none with a glitch, and every period within 0.5 % of their mean. -/
def qualifies (x : Port) : Bool :=
  let fs := x.starts.take 64
  decide (64 ≤ x.run) && decide (fs.length = 64) && (fs.zip (fs.drop 1)).all (fun p =>
    decide (1000 * (((p.1 - p.2) * 63 : Nat) - (span64 x : Int)).natAbs ≤ 5 * span64 x))

/-- Whether the mean rate of 64 frames lies within 10 ppm of the engine rate (R194, R207). -/
def onRate (s : State) (x : Port) : Bool :=
  decide ((((63 * 1000000000 : Nat) : Int) - s.fs * span64 x).natAbs * 100000 ≤ s.fs * span64 x)

/-! ## Warp groups: membership (R218) -/

/-- A warp-group object in force: as it stood at the latest batten (R218). -/
def groupN (s : State) (k : Nat) : Nat := (Val.int (getIn s.io.grouping k)).toNat

/-- Membership and D take effect at a batten (R218). -/
def takeGrouping (s : State) : State :=
  { s with io := { s.io with grouping := s.dict.filter (fun (e : Nat × Val) => Nat.ble 0x3400 (keyIndex e.1) && Nat.ble (keyIndex e.1) 0x341F) } }

/-- The group and member number of a unit, if it is in one. -/
def memberOf (s : State) (kind unit : Nat) : Option (Nat × Nat) :=
  let e := endpoint kind unit 0xFFF
  (List.range 32).findSome? (fun g => (List.range 32).findSome? (fun m =>
    if groupN s (ix Obj.WG_MEMBER g + m) = e then some (g, m) else none))

/-- The members of a group: member number and unit identifier. -/
def members (s : State) (g : Nat) : List (Nat × Nat) :=
  ((List.range 32).map (fun m => (m, groupN s (ix Obj.WG_MEMBER g + m)))).filter (fun m => m.2 != 0)

/-- The state of a group at its reads. -/
def State.wg (s : State) (g : Nat) : Group := s.io.groups.getD g ⟨none, 0, 0, 0, [], [], [], []⟩
/-- Sets it. -/
def State.setWg (s : State) (g : Nat) (x : Group) : State := { s with io := { s.io with groups := setAt s.io.groups g x } }

/-- How far the window of a group ends before a sample instant, in ns (R219). -/
def groupPhase (s : State) (g : Nat) : Nat := (s.wg g).phase.getD 0

/-- The position at which a group reads a member's sample of an instant in engine ns: the window that holds it ends D sample periods before
(R219). -/
def groupRead (s : State) (g ns : Nat) : Nat := s.sampleAt (ns + groupPhase s g) + groupN s (ix Obj.WG_DELAY_SAMPLES g)

/-- Half a sample period in ns. -/
def halfSample (s : State) : Nat := roundNat 1000000000 (2 * s.fs)

/-- Whether a member is qualified: a port in state 3 or 5, a stream that runs. -/
def memberRuns (s : State) (unit : Nat) : Bool :=
  let u := idUnit unit
  let port := fun (p : Nat) => s.portState p == 3 || s.portState p == 5
  match idKind unit with
  | 1 => port u
  | 2 => port (16 + u)
  | 3 => port (24 + u)
  | 4 => s.rdN (ix Obj.MS_RX_STATE u) == 2 || s.rdN (ix Obj.MS_RX_STATE u) == 3
  | _ => s.rdN (ix Obj.SW_RX_STATE u) == 2 || s.rdN (ix Obj.SW_RX_STATE u) == 3

/-- A member that qualifies while no other is qualified fixes the window's phase: its instants, in engine ns, fall at the centre (R219). -/
def fixPhase (s : State) (kind unit ns : Nat) : State :=
  match memberOf s kind unit with
  | none => s
  | some (g, m) =>
    if (members s g).any (fun n => n.1 != m && memberRuns s n.2) && (s.wg g).phase.isSome then s
    else
      let c := ns + halfSample s
      s.setWg g { s.wg g with phase := some (s.sampleNs (s.sampleAt c) - c) }

/-- A member whose instants have come within an eighth of a sample period of a window edge raises WG_MARGIN, once until they leave that
range (R219). -/
def noteMargin (s : State) (g m ns : Nat) : State :=
  let x := (ns + groupPhase s g) * s.fs % 1000000000
  let near := decide (x * 8 < 1000000000) || decide (7 * 1000000000 < x * 8)
  let w := s.wg g
  if near && !w.margins.contains m then (s.setWg g { w with margins := m :: w.margins }).raise Ev.WG_MARGIN (arg2 g m)
  else if !near && w.margins.contains m then s.setWg g { w with margins := w.margins.filter (fun n => n != m) }
  else s

/-- A sample of a member waits for its read. -/
def State.await (s : State) (a : Arrival) : State := { s with io := { s.io with waiting := s.io.waiting ++ [a] } }

/-! ## Into the warp beam -/

/-- The last good sample of a source. -/
def State.lastOf (s : State) (src : Nat) : Int := mapGetD s.io.lasts src 0
/-- Sets it. -/
def State.setLast (s : State) (src : Nat) (v : Int) : State := { s with io := { s.io with lasts := mapSet s.io.lasts src v } }

/-- Writes one sample of a source at a sample position of the open slot (R11), with its degraded mark. -/
def State.warpPut (s : State) (src sample : Nat) (v : Int) (degraded : Bool := false) : State :=
  let rest := s.graph.warp.filter (fun w => !(w.src == src && w.sample == sample))
  { s with graph := { s.graph with warp := rest ++ [⟨src, sample, toWord v, degraded⟩] } }

/-- Where a bit-transparent route reads a source: its payload without non-audio mute (R213), and the bits beside its audio word
(R24). -/
def bareOf (src : Nat) : Nat := 2 ^ 32 + src
def flagsOf (src : Nat) : Nat := 2 ^ 33 + src

/-- Keeps a sample for the ASRC instances that read its source (R97, R215). -/
def State.rawPut (s : State) (src : Nat) (v : Int) : State :=
  { s with io := { s.io with raw := mapSet s.io.raw src ((v :: mapGetD s.io.raw src []).take 64) } }

/-- Gain of the n-th sample (from 1) of a linear fade over N samples, applied. -/
def fadeGain (n total : Nat) (v : Int) : Int := if total ≤ n then v else roundDiv (v * n) total

/-- Sources of a port that hold samples. -/
def portSources (s : State) (p : Nat) : List Nat :=
  (s.io.lasts.map (fun e => e.1)).filter (fun i => idKind i == portKind p && idUnit i == portUnit p)

/-! ## Clock faults (R205 to R208) -/

/-- The value a concealed source gives at gain g / 32 (R220). -/
def conceal (g : Nat) (v : Int) : Int := if 32 ≤ g then v else roundDiv (v * g) 32

/-- The first position of a port that is missing and has not been read (R206). -/
def firstMissing (s : State) (p : Nat) : Nat :=
  let x := s.port p
  if (memberOf s (portKind p) (portUnit p)).isSome then max (x.pos + 1) (s.sampleNow + 1)
  else max (max (x.pos + 1) (x.written + 1)) (s.clock.pick * s.pl)

/-- The two-step mute (R206): 0.5 times the last good sample, from the present gain of a concealment, at the first missing position, zero after
it. -/
def twoStepMute (s : State) (p : Nat) : State :=
  let k := firstMissing s p
  let group := memberOf s (portKind p) (portUnit p)
  let gain := match group with
    | some (g, m) => mapGetD (s.wg g).gains m 32
    | none => (s.port p).gain
  let s := s.each (portSources s p) (fun s src =>
    let half := scale (conceal gain (s.lastOf src)) (unity / 2)
    let s := match group with
      | some (g, m) => s.await ⟨src, g * 32 + m, k, half, false⟩
      | none => s.warpPut src k half
    s.setLast src 0)
  (s.setPort p (fun x => { x with written := max x.written k })).flag 5

/-- The port channel of an ASRC instance, and whether the instance is an output (R97). -/
def asrcPort (s : State) (i : Nat) : Nat := (Val.int (getIn s.run (paramKey i Par.ASRC_PORT))).toNat
def asrcOut (s : State) (i : Nat) : Bool := getIn s.run (paramKey i Par.ASRC_DIR) == .num 1

/-- ASRC channels that run on the clock of a unit's input: instances that read it, and outputs of a TDM port (R216, R217). -/
def asrcOfUnit (s : State) (kind unit : Nat) : List Nat :=
  (List.range 256).filter (fun c =>
    let i := s.rdN (entry Obj.ASRC_CHAN_INSTANCE c)
    let e := asrcPort s i
    decide (i ≠ 0xFFFF) && idKind e == kind && idUnit e == unit && (kind == 1 || !asrcOut s i))

/-- ASRC channels that run on the clock of a port. -/
def asrcOf (s : State) (p : Nat) : List Nat := asrcOfUnit s (portKind p) (portUnit p)

/-- Whether the clock that an ASRC instance follows is qualified: its port's, its receive stream's, or SP1 and the spindle of an
output, which always are (R216, R217, R239, R243). -/
def asrcReady (s : State) (i : Nat) : Bool :=
  let e := asrcPort s i
  let k := idKind e
  let u := idUnit e
  if asrcOut s i && k != 1 then true
  else if k = 4 then s.rdN (ix Obj.MS_RX_STATE u) == 2
  else
    let p := if k = 1 then u else if k = 2 then 16 + u else 24 + u
    s.portState p == 3 || s.portState p == 5

/-- Sets ASRC_STATE of a channel; ASRC_LOCKED of its instance reads 1 exactly in state 3 (R216). -/
def setAsrc (s : State) (c st : Nat) : State :=
  let i := s.rdN (entry Obj.ASRC_CHAN_INSTANCE c)
  let s := s.wr (entry Obj.ASRC_STATE c) st
  if i = 0xFFFF then s else s.wr (paramKey i Par.ASRC_LOCKED) (if st = 3 then 1 else 0)

/-- Whether a ratio in 0.000001 lies between 1:4.5 and 4.5:1 (R215). -/
def ratioInRange (r : Nat) : Bool := decide (1000000 * 2 ≤ r * 9) && decide (r ≤ 4500000)

/-- An ASRC channel mutes in two steps at the engine rate from the next sample on (R206). -/
def muteAsrc (s : State) (c : Nat) : State :=
  let at_ := if s.rdN (entry Obj.ASRC_STATE c) = 3 then s.sampleNow + 1 else 0
  setAsrc { s with io := { s.io with asrcFade := mapSet s.io.asrcFade c at_ } } c 4

/-- A channel that waits for its clock acquires it once the clock is qualified (R216, R217); a stream's channel does so again after a
mute. -/
def wakeAsrc (s : State) (c : Nat) : State :=
  let i := s.rdN (entry Obj.ASRC_CHAN_INSTANCE c)
  let st := s.rdN (entry Obj.ASRC_STATE c)
  if i ≠ 0xFFFF && (st == 1 || (st == 4 && idKind (asrcPort s i) == 4)) && asrcReady s i then setAsrc s c 2 else s

/-- Departure in ppb of the media clock of a receive stream from its rate: its sample numbers against the arrival stamps, from the latest copy
used back to that at the assessment of 1 s before, or the oldest there is (R243). -/
def streamPace (s : State) (n : Nat) : Int :=
  match s.net.rx[n]? with
  | none => 0
  | some x => match x.latest, (x.paces.take 8).getLast? with
    | some a, some b =>
      let ns : Int := (a.1 : Int) * 1000000000 / (rateHz (s.rdN (ix Obj.MS_RX_RATE n)) : Nat) - (b.1 : Int) * 1000000000 / (rateHz (s.rdN (ix Obj.MS_RX_RATE n)) : Nat)
      let dt : Int := (a.2 : Int) - b.2
      if dt ≤ 0 then 0 else (ns - dt) * 1000000000 / dt
    | _, _ => 0

/-- Rate in mHz of the port channel of an ASRC instance (R216, R217): of an input the mean of its latest 64 frames, or the sender's media
clock; of an output that of its spindle, its TDM port or its stream. -/
def asrcRate (s : State) (i : Nat) : Nat :=
  let e := asrcPort s i
  let u := idUnit e
  let port := fun (p : Nat) =>
    let x := s.port p
    if x.starts.length < 64 then portRate s p else rateOf 63 (span64 x)
  match idKind e with
  | 1 => if tdmMaster s u then portRate s u else port u
  | 2 => if asrcOut s i then spindleRate s (s.rdN (ix Obj.AES_OUT_SPINDLE u)) else port (16 + u)
  | 3 => if asrcOut s i then spindleRate s (s.rdN (ix Obj.MADI_OUT_SPINDLE u)) else port (24 + u)
  | _ => if asrcOut s i then rateHz (s.rdN (ix Obj.MS_TX_RATE u)) * 1000
    else ((rateHz (s.rdN (ix Obj.MS_RX_RATE u)) : Int) * (1000000000 + streamPace s u) / 1000000).toNat

/-- The ratio of a channel's port rate to the engine rate in 0.000001 (R215). -/
def asrcRatio (s : State) (i : Nat) : Nat := roundNat (asrcRate s i * 1000) s.fs

/-- A locked ASRC channel tracks the ratio (R216): beyond the range of R215 the channel holds at zero. -/
def trackAsrc (s : State) (c : Nat) : State :=
  if s.rdN (entry Obj.ASRC_STATE c) ≠ 3 then s
  else
    let ratio := asrcRatio s (s.rdN (entry Obj.ASRC_CHAN_INSTANCE c))
    let s := s.wr (entry Obj.ASRC_RATIO c) ratio
    if ratioInRange ratio then s else (setAsrc s c 5).raise Ev.ASRC_RANGE c

/-- Whether a clock is watched: TDM slaves, AES3 and MADI inputs that are on (R205). -/
def watched (s : State) (p : Nat) : Bool := portOn s p && !tdmMaster s p
/-- Whether a port has a stream that a fault can end: qualifying, running or fading in. -/
def streaming (s : State) (p : Nat) : Bool := s.portState p == 2 || s.portState p == 3 || s.portState p == 5

/-- A clock fault of cause 1 stop, 2 glitch, 3 rate change, 4 slip, 5 lock loss (R205, R206). An AES3 or MADI receiver that loses its
frames loses the candidates on it (R159). -/
def clockFault (s : State) (p cause : Nat) : State :=
  let k := firstMissing s p
  let s := if streaming s p then twoStepMute s p else s
  let s := s.setPort p (fun x => { x with starts := [], run := 0, badRun := 0, fadeAt := 0, pos := 0, strayed := false })
  let s := match memberOf s (portKind p) (portUnit p) with
    | some (g, _) =>
      let x := s.wg g
      if s.on (ix Obj.WG_STRICT g) then
        (s.setWg g { x with cause := 2, muteAt := if x.cause = 2 then min x.muteAt k else k, fadeAt := 0 }).wr (ix Obj.WG_STATE g) 3
      else s
    | none => s
  let s := s.each (asrcOf s p) muteAsrc
  let s := (s.setPortState p 4).bump (portKey p Obj.PORT_FAULT_COUNT)
  let s := (s.wr (portKey p Obj.PORT_LAST_FAULT) cause).raise Ev.PORT_CLOCK_FAULT (arg2 (portArg p) cause)
  if (cause = 1 ∨ cause = 5) ∧ 16 ≤ p then sourceLost s (if p < 24 then 5 else 6) (portUnit p) else s

/-- A slip (R205, R207): counted as a fault of cause 4; the second within 60 s raises PORT_NOT_SYNCHRONOUS. -/
def slip (s : State) (p : Nat) : State :=
  let again := decide ((s.port p).slipAt ≠ 0) && decide (s.clock.now ≤ (s.port p).slipAt + 60000000000)
  let s := (clockFault s p 4).bump (portKey p Obj.PORT_SLIP_COUNT)
  let s := s.setPort p (fun x => { x with slipAt := s.clock.now, unsync := x.unsync || again })
  if again then s.raise Ev.PORT_NOT_SYNCHRONOUS (portArg p) else s

/-- An input that is written anew stops: its channels mute as after a clock fault, those behind ASRC instances too, and its history is
dropped (R198). -/
def stopInput (s : State) (p : Nat) : State :=
  let s := if streaming s p then s.each (asrcOf s p) muteAsrc else s
  let s := if streaming s p then twoStepMute s p else s
  s.setPort p (fun x => { x with starts := [], run := 0, badRun := 0, fadeAt := 0, pos := 0, strayed := false })

/-- Whether what the engine knows of a slot's source agrees with its loss (R159): PTP without a chosen master, or one silent for too long;
a Swiska link that is not trained; no sync pulse for 1.5 periods; a receiver without frames. The edges of a word clock, and a
forwarded-clock lane, are seen by the port alone. -/
def lossStands (s : State) (k : Nat) : Bool :=
  let u := s.candUnit k
  match s.candType k with
  | 1 => match bestForeign s u (s.rdN (ix Obj.REF_CAND_DOMAIN k)) with
    | some f => s.overdue (f.announceAt + announceLimit s u) || s.overdue (f.syncAt + 3 * syncNs s u)
    | none => true
  | 4 => match s.ref.pulses.getD u [] with
    | a :: _ => past s.engineNs (a + 1500000000000 / max 1 (s.rdN (ix Obj.REF_CAND_NOMINAL k)))
    | [] => true
  | 5 => !(s.portState (16 + u) == 3 || s.portState (16 + u) == 5)
  | 6 => !(s.portState (24 + u) == 3 || s.portState (24 + u) == 5)
  | _ => true

/-- REF_CAND_LOST (R159): detection does not wait for an assessment; an arrival at or before the deadline wins (R150). -/
def execRefCandLost (t : Nat) (slot : Fin 24) (s : State) : Result :=
  let s := s.at_ t
  let k := slot.val
  .next (s.whenever (s.candType k != 0 && s.candType k != 7 && decide (2 ≤ s.candState k) && lossStands s k) (fun s => candLost s k))

/-- The slave-clock watchdog in ns: 1.25 nominal frame periods (R205). -/
def watchdogNs (s : State) (p : Nat) : Nat :=
  let named := nominalRates.find? (fun r => r.1 == s.rdN (portKey p Obj.PORT_RATE_NOMINAL))
  1250000000000 / max 1 (match named with | some r => r.2 | none => portRate s p)

/-- CLOCK_STOP (R205, R150): the watchdog expires after the latest frame start. -/
def execClockStop (t : Nat) (port : Fin 28) (s : State) : Result :=
  let s := s.at_ t
  let p := port.val
  .next (s.whenever (watched s p && streaming s p && s.overdue ((s.port p).frameAt + watchdogNs s p)) (fun s => clockFault s p 1))

/-- LOCK_LOSS (R205): AES3 biphase lock, MADI signal detect or the MADI line clock is lost. -/
def execLockLoss (t : Nat) (port : Fin 28) (c : LockCause) (s : State) : Result :=
  let s := s.at_ t
  let p := port.val
  let fits := match c with | .biphase => portKind p == 2 | .signalDetect => portKind p == 3 | .lineClock => portKind p == 3
  .next (s.whenever (fits && watched s p && streaming s p) (fun s => clockFault s p 5))

/-- PORT_ERROR_LOCK_LOSS (R209): errors in 8 consecutive frames count as lock loss. -/
def execPortErrorLockLoss (t : Nat) (port : Fin 28) (s : State) : Result :=
  let s := s.at_ t
  let p := port.val
  .next (s.whenever (watched s p && streaming s p && decide (8 ≤ (s.port p).badRun)) (fun s => clockFault s p 5))

/-! ## Non-audio payload (R210 to R212) -/

/-- Whether two 24-bit words are Pa and Pb of a burst preamble (R210). -/
def preamble (a b : Nat) : Bool :=
  (a / 256 == 0xF872 && b / 256 == 0x4E1F) || (a / 16 == 0x6F872 && b / 16 == 0x54E1F) || (a == 0x96F872 && b == 0xA54E1F)

/-- Whether a channel-status block carries the non-audio bit: byte 0 bit 1 (R210). -/
def nonAudioBit (b : List Byte) : Bool := bit (b.headD 0).toNat 1

/-- The non-audio mask object of a port. -/
def nonAudioKey (p : Nat) : Nat := if p < 24 then portKey p 6 else portKey p 4

/-! ## Channel status (R199, R200) -/

/-- One bit of the CRCC of a channel-status block, first bit first: x^8 + x^4 + x^3 + x^2 + 1, as AES3 has it. -/
def crccBit (c : Nat) (b : Bool) : Nat := if xor (c % 2 == 1) b then Nat.xor (c / 2) 0xB8 else c / 2

/-- The CRCC octet of a channel-status block from its first 23 octets: initial value all ones, the least significant bit of each octet first. -/
def crcc (body : List Byte) : Byte :=
  BitVec.ofNat 8 (body.foldl (fun c b => (List.range 8).foldl (fun c i => crccBit c (bit b.toNat i)) c) 0xFF)

/-- The first 23 octets of a generated channel-status block for a rate in mHz and a word length (R200), as AES3 lays them out (log entry 234):
professional, audio, the sampling frequency in octet 0 or 4, the word length in octet 2. -/
def statusBody (mHz word : Nat) : List Byte :=
  let code := nominalOf mHz
  let low : Nat := match code with | 1 => 0xC0 | 2 => 0x40 | 3 => 0x80 | _ => 0
  let high : Nat := match code with | 4 => 0x50 | 5 => 0x10 | 6 => 0x58 | 7 => 0x18 | _ => 0
  let len : Nat := match word with | 16 => 0x30 | 20 => 0x28 | _ => 0x2C
  [BitVec.ofNat 8 (1 + low), 0, BitVec.ofNat 8 len, 0, BitVec.ofNat 8 high] ++ List.replicate 18 0

/-- A channel-status bit joins the running block of a channel; a block start begins a new one. Answers the whole block it ends, if any. -/
def statusBitIn (x : Port) (c : Nat) (start c1 : Bool) : Port × Option (List Byte) :=
  let old := mapGet x.coming c
  let acc := if start then some (0, 0) else old
  match acc with
  | none => (x, none)
  | some (n, v) =>
    let v := v + if c1 then 2 ^ n else 0
    if n = 191 then ({ x with coming := mapDel x.coming c }, some ((beBytes 24 v).reverse))
    else ({ x with coming := mapSet x.coming c (n + 1, v) }, none)

/-- Whether a whole block is accepted (R199): professional with the right CRCC, consumer when it equals the block before it. -/
def acceptsStatus (x : Port) (c : Nat) (b : List Byte) : Bool :=
  if bit (b.headD 0).toNat 0 then crcc (b.take 23) == b.getD 23 0 else mapGet x.blocks c == some b

/-- Whether a block is refused for its CRCC (R199). -/
def refusesStatus (b : List Byte) : Bool := bit (b.headD 0).toNat 0 && crcc (b.take 23) != b.getD 23 0

/-- The blocks that a frame ends, by channel. -/
def blocksEnded (x : Port) (f : PortFrame) : Port × List (Nat × List Byte) :=
  f.flags.foldl (fun (a : Port × List (Nat × List Byte)) w =>
    let r := statusBitIn a.1 w.1 (bit w.2 5) (bit w.2 2)
    (r.1, match r.2 with | some b => a.2 ++ [(w.1, b)] | none => a.2)) (x, [])

/-- Channels whose parity or coding failed in a frame (R199, R201, R209): an odd number of ones in the audio word and the V, U, C and P bits,
or a code violation. -/
def badChannels (f : PortFrame) : List Nat :=
  ((f.flags.filter (fun w => (ones 24 (mapGetD f.words w.1 0) + ones 4 w.2) % 2 == 1)).map (fun w => w.1) ++ f.codeBad).eraseDups

/-- Channels that a frame marks: by its words, a channel's own or those of the two subframes of a pair, or by an accepted status block
(R210). -/
def markedChannels (x : Port) (f : PortFrame) (accepted : List (Nat × List Byte)) : List Nat :=
  let word := fun c => mapGet f.words c
  let own := f.words.filterMap (fun w => match mapGet x.words w.1 with
    | some a => if preamble a w.2 then some w.1 else none
    | none => none)
  let across := (f.words.filter (fun w => w.1 % 2 == 0)).flatMap (fun w => match word (w.1 + 1) with
    | some b => if preamble w.2 b then [w.1, w.1 + 1] else []
    | none => [])
  let status := (accepted.filter (fun b => nonAudioBit b.2)).map (fun b => b.1)
  (own ++ across ++ status).eraseDups

/-- A mark on a channel: its time is kept, and a channel that was not muted is cut to zero (R210). -/
def mark (p : Nat) (s : State) (c : Nat) : State :=
  let s := s.setPort p (fun x => { x with marks := mapSet x.marks c s.clock.now })
  let m := s.rdN (nonAudioKey p)
  if bit m c then s
  else (s.wr (nonAudioKey p) (setBit m c true)).raise Ev.NONAUDIO_MUTE (arg2 (portArg p) c)

/-- The end of a non-audio mute of a port's channel (R212). -/
def portNonaudioClear (p ch : Nat) (s : State) : State :=
  let last := mapGetD (s.port p).marks ch 0
  s.whenever (decide (16 ≤ p) && bit (s.rdN (nonAudioKey p)) ch && s.overdue (last + s.rdN Obj.NONAUDIO_HOLD_MS * 1000000)) (fun s =>
    let s := s.setPort p (fun x => { x with marks := mapDel x.marks ch, returns := mapSet x.returns ch (s.sampleNow + 1) })
    (s.wr (nonAudioKey p) (setBit (s.rdN (nonAudioKey p)) ch false)).raise Ev.NONAUDIO_CLEAR (arg2 (portArg p) ch))

/-! ## Frames (R196, R199, R201, R205, R207, R209, R211) -/

/-- Word length of a port's channels. -/
def portWord (s : State) (p : Nat) : Nat := if p < 16 then s.rdN (portKey p 5) else 24

/-- Gain of a channel at a sample: muted, fading in after the port, after a non-audio mute or as a new slot, or full. -/
def channelGain (s : State) (p ch sample : Nat) (v : Int) : Int :=
  let x := s.port p
  if decide (16 ≤ p) && bit (s.rdN (nonAudioKey p)) ch then 0
  else
    let v := if s.portState p = 5 then fadeGain (sample + 1 - x.fadeAt) (fade20 s) v else v
    match mapGet x.returns ch with
    | some start => if sample < start then 0 else fadeGain (sample + 1 - start) (fade20 s) v
    | none => v

/-- Whether the running graph reads channels of a port directly (R194). -/
def directUsed (s : State) (p : Nat) : Bool :=
  (sourcesOf s.run ++ selvSources s.run).any (fun i => idKind i == portKind p && idUnit i == portUnit p)

/-- The position of a frame that starts at an instant of engine time (R204, R219): that of its group's read, or the sample instant whose window
of one sample period holds it. -/
def framePos (s : State) (p ns : Nat) : Nat :=
  match memberOf s (portKind p) (portUnit p) with
  | some (g, _) => groupRead s g ns
  | none => roundNat ((ns + s.rdN (portKey p Obj.PORT_PHASE_NS)) * s.fs) 1000000000

/-- One channel of a good frame: converted (R22), concealed when its parity or coding failed (R209), and written to the warp beam, to
its warp group, and to the ASRC instances that read it. -/
def frameChannel (p sample : Nat) (f : PortFrame) (bad : List Nat) (s : State) (w : Nat × Nat) : State :=
  let src := endpoint (portKind p) (portUnit p) w.1
  let good := !bad.contains w.1
  let v := if good then enter (portWord s p) w.2 else s.lastOf src
  let s := if good then s.setLast src v else s.flag 5
  let y := channelGain s p w.1 sample v
  let bare := if s.portState p = 5 then fadeGain (sample + 1 - (s.port p).fadeAt) (fade20 s) v else v
  let flags : Int := ((mapGetD f.flags w.1 0 : Nat) : Int)
  let s := s.rawPut src (if decide (16 ≤ p) && bit (s.rdN (nonAudioKey p)) w.1 then 0 else v)
  let x := s.port p
  if x.unsync || x.strayed then s
  else match memberOf s (portKind p) (portUnit p) with
    | some (g, m) =>
      let s := s.await ⟨src, g * 32 + m, sample, y, false⟩
      if p < 16 then s else (s.await ⟨bareOf src, g * 32 + m, sample, bare, false⟩).await ⟨flagsOf src, g * 32 + m, sample, flags, false⟩
    | none =>
      let s := s.warpPut src sample (conceal x.gain y)
      let s := if bare = y && x.gain = 32 then s else s.warpPut (bareOf src) sample (conceal x.gain bare)
      if flags = 0 then s else s.warpPut (flagsOf src) sample flags

/-- Receive slots of a TDM port that are enabled; all channels of other ports. -/
def enabledWords (s : State) (p : Nat) (ws : List (Nat × Nat)) : List (Nat × Nat) :=
  if p < 16 then ws.filter (fun w => bit (s.rdN (portKey p 7)) w.1) else ws

/-- MADI mode of a frame with a channel count and a period in ns, 0 none (R201): the mode by its channels, at a rate of that mode; no period
is known at the first frame. -/
def madiModeOf (channels period : Nat) : Nat :=
  let mHz := rateOf 1 period
  let named := fun (l : List Nat) => decide (period = 0) || l.contains (nominalOf mHz)
  if channels = 56 then (if period = 0 || (decide (28000000 ≤ mHz) && decide (mHz ≤ 54000000)) then 1 else 0)
  else if channels = 64 then (if named [2, 3] then 2 else 0)
  else if channels = 32 then (if named [4, 5] then 3 else 0)
  else 0

/-- A frame that ends in a glitch (R205): a wrong count of bit clocks, a preamble out of sequence, no channel-0 marker. -/
def glitched (s : State) (p : Nat) (f : PortFrame) : Bool :=
  if p < 16 then decide (f.bclks ≠ 32 * s.rdN (portKey p 4)) else !f.inSequence

/-- What a frame shows whatever the state of its port (R199, R201, R203): its start, the channel-status blocks it ends, its validity bits and
code violations. Answers the accepted blocks. -/
def frameSeen (p : Nat) (f : PortFrame) (s : State) : State × List (Nat × List Byte) :=
  let now := s.clock.now
  let r := blocksEnded (s.port p) f
  let accepted := r.2.filter (fun b => acceptsStatus r.1 b.1 b.2)
  let x := { r.1 with
    frameAt := now, starts := (now :: r.1.starts).take 66, frames := r.1.frames + 1,
    blocks := r.2.foldl (fun m b => mapSet m b.1 b.2) r.1.blocks }
  let s := s.setPort p (fun _ => x)
  let s :=
    if p < 16 then s
    else if p < 24 then
      let s := s.each accepted (fun s b => if b.1 < 2 then s.wrV (portKey p (2 + b.1)) (.bytes b.2) else s)
      let s := s.bump (portKey p 4) (r.2.filter (fun b => refusesStatus b.2)).length
      if f.flags.any (fun w => bit w.2 0) then s.bump (portKey p 5) else s
    else s.bump (portKey p 3) f.codeErrors
  (s, accepted)

/-- A good frame of a port in state 3 or 5: a direct input's frame outside its read window is left out (R204, R205); the others bring their
samples. -/
def goodPortFrame (p : Nat) (f : PortFrame) (accepted : List (Nat × List Byte)) (s : State) : State :=
  let bad := badChannels f
  let s := s.setPort p (fun x => { x with badRun := if bad.isEmpty then 0 else x.badRun + 1 })
  let s := s.bump (portKey p Obj.PORT_ERROR_COUNT) bad.length
  let pos := framePos s p s.engineNs
  let x := s.port p
  let strayed := !tdmMaster s p && !x.unsync && directUsed s p && decide (pos ≠ x.pos + 1)
  let gain := min 32 (x.gain + 1)
  let s := s.setPort p (fun x => { x with pos := pos, strayed := x.strayed || strayed, gain := gain })
  let s := if 16 ≤ p then s.each (markedChannels (s.port p) f accepted) (mark p) else s
  let s := match memberOf s (portKind p) (portUnit p) with
    | some (g, m) => noteMargin s g m s.engineNs
    | none => s
  let s := s.each (enabledWords s p f.words) (frameChannel p pos f bad)
  let s := s.each (asrcOf s p) trackAsrc
  s.setPort p (fun x => { x with
    written := if strayed then x.written else pos,
    words := f.words.foldl (fun m w => mapSet m w.1 w.2) x.words })

/-- PORT_FRAME (R205): an input frame is checked, and its samples enter the warp beam at the sample instant of their window (R204), or wait for
the read of their group (R219). -/
def execPortFrame (t : Nat) (port : Fin 28) (f : PortFrame) (s : State) : Result :=
  let s := s.at_ t
  let p := port.val
  .next (s.whenever (portOn s p) (fun s =>
    let last := if (s.port p).starts.isEmpty then s.clock.now else (s.port p).frameAt
    let r := frameSeen p f s
    let s := r.1
    let mode := madiModeOf f.words.length (s.clock.now - last)
    let modeChanged := decide (24 ≤ p) && decide (mode ≠ s.rdN (portKey p 2))
    let s := if decide (24 ≤ p) then s.wr (portKey p 2) mode else s
    let glitch := !tdmMaster s p && glitched s p f
    let off := !tdmMaster s p && rateStep (s.port p).starts
    let st := s.portState p
    if st = 2 ∨ st = 3 ∨ st = 5 then
      if glitch || off || modeChanged then clockFault s p (if off && !glitch then 3 else 2)
      else if st = 2 then s.setPort p (fun x => { x with run := x.run + 1 })
      else goodPortFrame p f r.2 s
    else if glitch || (decide (24 ≤ p) && mode == 0) then (s.setPortState p 1).setPort p (fun x => { x with starts := x.starts.take 1 })
    else (s.setPortState p 2).setPort p (fun x => { x with starts := x.starts.take 1, run := 1 })))

/-- PORT_RELOCKED (R207): 64 good frames qualify the port, which places its read window about its frame instants, or takes that of its warp
group, and starts the fade-in; direct channels outside 10 ppm stay muted. -/
def execPortRelocked (t : Nat) (port : Fin 28) (s : State) : Result :=
  let s := s.at_ t
  let p := port.val
  .next (s.whenever (s.portState p == 2 && qualifies (s.port p)) (fun s =>
    let unsync := !tdmMaster s p && !onRate s (s.port p)
    let start := s.engineOf (s.port p).frameAt
    let s := if tdmMaster s p || unsync then s else fixPhase s (portKind p) (portUnit p) start
    let phase := if tdmMaster s p then 0 else s.sampleNs (s.sampleAt start) - start
    let s := s.wr (portKey p Obj.PORT_PHASE_NS) phase
    let pos := framePos s p start
    let s := s.setPort p (fun x => { x with unsync := unsync, fadeAt := pos + 1, pos := pos, strayed := false, gain := 32, badRun := 0 })
    let s := s.setPortState p 5
    let s := s.each (asrcOf s p) (fun s c => setAsrc s c 2)
    let s := s.raise Ev.PORT_RELOCKED (portArg p)
    if unsync && directUsed s p then s.raise Ev.PORT_NOT_SYNCHRONOUS (portArg p) else s))

/-- PORT_FADE_IN_DONE (R207): the fade ends and the port runs. -/
def execPortFadeInDone (t : Nat) (port : Fin 28) (s : State) : Result :=
  let s := s.at_ t
  let p := port.val
  .next (s.whenever (s.portState p == 5 && decide ((s.port p).fadeAt + fade20 s ≤ s.sampleNow + 1)) (fun s => s.setPortState p 3))

/-- A port in no warp group has no frame in the window that has just ended (R206): that position reads as an underrun, held at first and then
faded over 32 samples, until a fault is detected. -/
def concealPort (s : State) (p : Nat) : State :=
  let x := s.port p
  let k := s.sampleNow - 1
  let direct := !tdmMaster s p && !x.unsync && (s.portState p == 3 || s.portState p == 5)
  if direct && decide (x.pos ≠ 0) && decide (x.written < k) && (memberOf s (portKind p) (portUnit p)).isNone && directUsed s p then
    let again := decide (x.pos < x.written)
    let gain := if again then x.gain - 1 else x.gain
    let s := s.each (portSources s p) (fun s src => s.warpPut src k (conceal gain (s.lastOf src)))
    let s := (s.setPort p (fun x => { x with written := k, gain := gain })).flag 5
    if again then s else s.raise Ev.WG_UNDERRUN (portArg p)
  else s

/-- Slips and missing frames of the ports at a sample instant (R205, R206). -/
def readPorts (s : State) : State :=
  let s := s.each (List.range 28) (fun s p => if (s.port p).strayed && watched s p && streaming s p then slip s p else s)
  s.each (List.range 28) concealPort

/-! ## TDM configuration (R195, R198) -/

/-- Whether a bit clock of slots and rate stays within 24.576 MHz (R195). -/
def bclkFits (slotCount mHz : Nat) : Bool := decide (slotCount * 32 * mHz ≤ 24576000000)

/-- A written mode, spindle, rate, slot count, word or format returns a port to state 1, or to 0 when off (R198). -/
def tdmWritten (s : State) (p : Nat) : State :=
  let s := stopInput s p
  let s := if tdmMaster s p then s.wr (portKey p 3) (portRate s p) else s
  s.setPortState p (if portOn s p then 1 else 0)

/-- A written mask: new slots start from silence and fade in over 20 ms (R198). -/
def maskWritten (s : State) (p old new : Nat) : State :=
  s.each ((List.range 16).filter (fun c => bit new c && !bit old c)) (fun s c =>
    s.setPort p (fun x => { x with returns := mapSet x.returns c (s.sampleNow + 1) }))

/-! ## ASRC (R215 to R217) -/

/-- A linear fade-in from a first sample on; 0 stands for none. -/
def fadeIn (start len p : Nat) (v : Int) : Int := if start = 0 then v else if p < start then 0 else fadeGain (p + 1 - start) len v

/-- A result of the conversion, stored as a sample (R20, R26, R215). -/
def asrcResult (hist : List Int) (k : Nat) : Int := sat36 (Config.asrc hist k)

/-- What an ASRC channel gives at an engine sample: its result v while it is locked, from the fade-in on; half of the result before it
and then zero after a mute (R206, R207, R216). -/
def asrcGate (s : State) (c p : Nat) (v before : Int) : Int :=
  let at_ := mapGetD s.io.asrcFade c 0
  match s.rdN (entry Obj.ASRC_STATE c) with
  | 3 => fadeIn at_ (fade20 s) p v
  | 4 => if p < at_ then v else if p = at_ then scale before (unity / 2) else 0
  | _ => 0

/-- The ASRC channel whose output instance serves a destination (R97). -/
def asrcFor (s : State) (dest : Nat) : Option Nat :=
  (List.range 256).find? (fun c =>
    let i := s.rdN (entry Obj.ASRC_CHAN_INSTANCE c)
    i != 0xFFFF && asrcPort s i == dest && asrcOut s i)

/-- Group delay of a locked channel: 24 periods of the lower rate, in ns (R217). -/
def asrcDelay (s : State) (ratio : Nat) : Nat :=
  let low := min (s.fs * ratio / 1000) (s.fs * 1000)
  if low = 0 then 0 else roundNat (24 * 1000000000000) low

/-- ASRC_ACQUIRED (R216, R217): within 50 ms of qualification the channel locks, or its ratio is out of range. -/
def execAsrcAcquired (t : Nat) (ch : Fin 256) (s : State) : Result :=
  let s := s.at_ t
  let c := ch.val
  let i := s.rdN (entry Obj.ASRC_CHAN_INSTANCE c)
  let ratio := asrcRatio s i
  .next (s.whenever (decide (i ≠ 0xFFFF) && s.rdN (entry Obj.ASRC_STATE c) == 2) (fun s =>
    let s := s.wr (entry Obj.ASRC_RATIO c) ratio
    if ratioInRange ratio then
      let s := { s with io := { s.io with asrcFade := mapSet s.io.asrcFade c (s.sampleNow + 1) } }
      (setAsrc s c 3).wr (entry Obj.ASRC_DELAY_NS c) (asrcDelay s ratio)
    else (setAsrc s c 5).raise Ev.ASRC_RANGE c))

/-! ## Warp groups at a sample instant (R219 to R221) -/

/-- Whether a member's port is in state 3 or qualified; a stream counts as present when it is read (R221). -/
def memberReady (s : State) (unit : Nat) : Bool :=
  decide (3 < idKind unit) || memberRuns s unit

/-- The sources of a member that have held a sample. -/
def memberSources (s : State) (unit : Nat) : List Nat :=
  (s.io.lasts.map (fun e => e.1)).filter (fun i => idKind i == idKind unit && idUnit i == idUnit unit)

/-- The samples of a member that its group reads at a position: the first of each source. -/
def memberSamples (s : State) (key sample : Nat) : List Arrival :=
  (s.io.waiting.filter (fun w => w.member == key && w.read == sample)).foldl
    (fun a w => if a.any (fun x => x.src == w.src) then a else a ++ [w]) []

/-- Sets the last sample read of a source of a group. -/
def Group.keep (x : Group) (src : Nat) (v : Int) : Group := { x with last := mapSet x.last src v }

/-- A member's samples at a position, at its gain on the way back to 1.0, or in the fade-in of a strict group (R220, R221). -/
def readPresent (g sample m : Nat) (mine : List Arrival) (s : State) : State :=
  let x := s.wg g
  let gain := min 32 (mapGetD x.gains m 32 + 1)
  let back := fun (v : Int) => if x.fadeAt = 0 then conceal gain v else fadeGain (sample + 1 - x.fadeAt) (fade20 s) v
  let s := s.each mine (fun s w =>
    let y := if 2 ^ 33 ≤ w.src then w.value else back w.value
    (s.setWg g ((s.wg g).keep w.src w.value)).warpPut w.src sample y w.degraded)
  s.setWg g { s.wg g with gains := mapSet x.gains m gain, under := x.under.filter (fun n => n != m) }

/-- A member without a sample at a position: its last sample is held and then faded over 32 samples, and the position is counted (R220). -/
def readMissing (g sample : Nat) (m : Nat × Nat) (s : State) : State :=
  let x := s.wg g
  let again := x.under.contains m.1
  let gain := mapGetD x.gains m.1 32 - (if again then 1 else 0)
  let s := s.each (memberSources s m.2) (fun s src => s.warpPut src sample (conceal gain (mapGetD x.last src 0)))
  let s := (s.bump (ix Obj.WG_UNDERRUN_COUNT g)).flag 5
  let s := s.setWg g { x with gains := mapSet x.gains m.1 gain, under := if again then x.under else m.1 :: x.under }
  if again then s else s.raise Ev.WG_UNDERRUN g

/-- A member under a mute: in the two steps of R206 from a position on, from its gain, or zero already (0). -/
def readMuted (g sample first : Nat) (m : Nat × Nat) (s : State) : State :=
  let x := s.wg g
  let gain := mapGetD x.gains m.1 32
  (if sample = first then s.flag 5 else s).each (memberSources s m.2) (fun s src =>
    s.warpPut src sample (if sample = first then scale (conceal gain (mapGetD x.last src 0)) (unity / 2) else 0))

/-- Reads one member at a position. In a strict group that is muted every member holds and fades, or takes the two-step mute when a fault is
the cause (R220, R221). A member that is not qualified gives what its own mute left, then zero (R206). -/
def readMember (g sample : Nat) (mute : Bool) (s : State) (m : Nat × Nat) : State :=
  let mine := memberSamples s (g * 32 + m.1) sample
  let x := s.wg g
  if mute then (if x.cause = 2 then readMuted g sample x.muteAt m s else readMissing g sample m s)
  else if !mine.isEmpty then readPresent g sample m.1 mine s
  else if memberRuns s m.2 then readMissing g sample m s
  else readMuted g sample 0 m s

/-- WG_STATE of a group: 0 empty, 1 aligned, 2 concealing, 3 muted. -/
def groupState (s : State) (g : Nat) (strictMute : Bool) : Nat :=
  if (members s g).isEmpty then 0 else if strictMute then 3 else if (s.wg g).under.isEmpty then 1 else 2

/-- Reads one group at a sample instant. In a strict group an underrun or fault of one member acts on all at the same positions, and they
return together: over 20 ms when a fault occurred, else over 32 samples (R221). -/
def readGroup (sample : Nat) (s : State) (g : Nat) : State :=
  let ms := members s g
  if ms.isEmpty then (if s.rdN (ix Obj.WG_STATE g) = 0 then s else s.wr (ix Obj.WG_STATE g) 0)
  else
    let strict := s.on (ix Obj.WG_STRICT g)
    let missing := ms.any (fun m => (memberSamples s (g * 32 + m.1) sample).isEmpty)
    let x := s.wg g
    let faulted := x.cause == 2 && decide (x.muteAt ≤ sample)
    let mute := strict && ((missing && (x.cause != 2 || faulted)) || (faulted && !ms.all (fun m => memberReady s m.2)))
    let x := if strict && missing && x.cause = 0 then { x with cause := 1 }
      else if mute then { x with fadeAt := 0 }
      else if faulted && x.fadeAt = 0 then { x with fadeAt := sample, gains := [] }
      else if x.cause = 2 && (!faulted || decide (sample < x.fadeAt + fade20 s)) then x
      else { x with cause := 0, fadeAt := 0 }
    let s := s.setWg g x
    let s := s.each ms (readMember g sample mute)
    s.wr (ix Obj.WG_STATE g) (groupState s g mute)

/-- Reads every group at a position; samples whose window has passed are discarded (R219, R220). -/
def readGroups (s : State) : State :=
  let k := s.sampleNow
  let s := s.each (List.range 32) (readGroup k)
  { s with io := { s.io with waiting := s.io.waiting.filter (fun w => decide (k < w.read)) } }

end Machine
end Sys2Proof
end

