-- ==== Sys2Proof/Machine/Network.lean ====
section
/-! DEFINITION. MACs, flow control, media streams and network statistics (R223 to R255). -/

namespace Sys2Proof
namespace Machine

/-- NET_STATS_SNAPSHOT written (R255): at either value the sub-indices take the live values of that instant; they then stay
while it reads 1. -/
def showStats (s : State) : State :=
  s.each [0, 1, 2] (fun s m => s.each statKeys (fun s k => s.wr (ix k m) (mapGetD s.net.live (ix k m) 0 : Nat)))

/-! ## Headers (R227, R228) -/

/-- The internet checksum: one's complement of the one's complement sum of 16-bit words. -/
def checksum16 (bs : List Byte) : Nat :=
  let p := if bs.length % 2 = 0 then bs else bs ++ [0]
  let sum := ((List.range (p.length / 2)).map (fun i => field p (2 * i) 2)).sum
  let f := fun (x : Nat) => x % 65536 + x / 65536
  65535 - f (f (f sum))

/-- An IPv4 datagram from the MAC's own address with DF set, identification 0 and its header checksum (R227). -/
def ipv4 (s : State) (m dest proto ttl tos : Nat) (body : List Byte) : List Byte :=
  let head := fun (sum : Nat) => beBytes 1 0x45 ++ beBytes 1 tos ++ beBytes 2 (20 + body.length) ++ beBytes 4 0x4000 ++
    beBytes 1 ttl ++ beBytes 1 proto ++ beBytes 2 sum ++ beBytes 4 (s.rdN (ix Obj.IP_ADDRESS m)) ++ beBytes 4 dest
  head (checksum16 (head 0)) ++ body

/-- A UDP datagram with its checksum, never 0 (R227). -/
def udp (src dest srcPort destPort : Nat) (body : List Byte) : List Byte :=
  let head := fun (sum : Nat) => beBytes 2 srcPort ++ beBytes 2 destPort ++ beBytes 2 (8 + body.length) ++ beBytes 2 sum
  let pseudo := beBytes 4 src ++ beBytes 4 dest ++ beBytes 2 17 ++ beBytes 2 (8 + body.length)
  let c := checksum16 (pseudo ++ head 0 ++ body)
  head (if c = 0 then 0xFFFF else c) ++ body

/-- Whether an IPv4 address is multicast. -/
def isMulticast (ip : Nat) : Bool := ip / 2 ^ 28 == 14

/-- The Ethernet address of a multicast IPv4 address (RFC 1112, R228). -/
def multicastMac (ip : Nat) : Nat := 0x01005E000000 + ip % 2 ^ 23

/-- The address that ARP resolves for a unicast destination: the destination, or the gateway outside the netmask (R228). -/
def nextHop (s : State) (m ip : Nat) : Nat :=
  let mask := s.rdN (ix Obj.IP_NETMASK m)
  if Nat.land ip mask = Nat.land (s.rdN (ix Obj.IP_ADDRESS m)) mask then ip else s.rdN (ix Obj.IP_GATEWAY m)

/-- The station address for an IPv4 destination: mapped, resolved directly, or the gateway's outside the netmask (R228). -/
def stationOf (s : State) (m ip : Nat) : Option Nat :=
  if isMulticast ip then some (multicastMac ip)
  else mapGet (s.mac m).arp (nextHop s m ip)

/-- An ARP packet: operation, target station and target address. -/
def arpFrame (s : State) (m op dest target targetIp : Nat) : List Byte :=
  etherHeader s m dest 0x0806 ++ beBytes 8 (0x0001080006040000 + op) ++ beBytes 6 (s.rdN (ix Obj.MAC_ADDRESS m)) ++
    beBytes 4 (s.rdN (ix Obj.IP_ADDRESS m)) ++ beBytes 6 target ++ beBytes 4 targetIp

/-! ## Group membership (R228) -/

/-- Multicast groups that the enabled receive streams of a leg need, with their sources. -/
def groupsOf (s : State) (leg : Nat) : List (Nat × List Nat) :=
  (List.range 256).filterMap (fun m =>
    let ip := s.rdN (ix Obj.MS_RX_DEST_IP0 m + leg)
    let srcs := [0, 1].filterMap (fun n =>
      let a := s.rdN (ix Obj.MS_RX_SRC_IP0 m + 2 * leg + n); if a = 0 then none else some a)
    if s.on (ix Obj.MS_RX_ENABLE m) && bit (s.rdN (ix Obj.MS_RX_LEGS m)) leg && isMulticast ip then some (ip, srcs) else none)

/-- One membership report on a MAC: IGMPv3 source-specific, or IGMPv2 (R228). -/
def sendReport (m : Nat) (s : State) (g : Nat × List Nat) : State :=
  let v := s.rdN (ix Obj.IGMP_VERSION m)
  let withSum := fun (f : Nat → List Byte) => f (checksum16 (f 0))
  if v = 3 || (v = 0 && !(s.mac m).querier2) then
    let body := withSum (fun c => beBytes 2 0x2200 ++ beBytes 2 c ++ beBytes 4 1 ++
      beBytes 1 (if g.2.isEmpty then 4 else 1) ++ beBytes 1 0 ++ beBytes 2 g.2.length ++ beBytes 4 g.1 ++
      g.2.flatMap (beBytes 4))
    s.send m 2 (etherHeader s m (multicastMac 0xE0000016) 0x0800 ++ ipv4 s m 0xE0000016 2 1 0 body)
  else
    let body := withSum (fun c => beBytes 2 0x1600 ++ beBytes 2 c ++ beBytes 4 g.1)
    s.send m 2 (etherHeader s m (multicastMac g.1) 0x0800 ++ ipv4 s m g.1 2 1 0 body)

/-- Leaves a group that no enabled stream needs any more: an IGMPv3 change to no sources, or an IGMPv2 leave (R228). -/
def sendLeave (m : Nat) (s : State) (g : Nat) : State :=
  let v := s.rdN (ix Obj.IGMP_VERSION m)
  let withSum := fun (f : Nat → List Byte) => f (checksum16 (f 0))
  if v = 3 || (v = 0 && !(s.mac m).querier2) then
    let body := withSum (fun c => beBytes 2 0x2200 ++ beBytes 2 c ++ beBytes 4 1 ++ beBytes 4 0x03000000 ++ beBytes 4 g)
    s.send m 2 (etherHeader s m (multicastMac 0xE0000016) 0x0800 ++ ipv4 s m 0xE0000016 2 1 0 body)
  else
    let body := withSum (fun c => beBytes 2 0x1700 ++ beBytes 2 c ++ beBytes 4 g)
    s.send m 2 (etherHeader s m (multicastMac 0xE0000002) 0x0800 ++ ipv4 s m 0xE0000002 2 1 0 body)

/-- Leaves the groups of a MAC that no stream needs any more, and sends the reports of the others (R228). -/
def sendReports (s : State) (m : Nat) : State :=
  if s.rdN (ix Obj.IP_ADDRESS m) = 0 || 2 ≤ m then s
  else
    let need := groupsOf s m
    let s := s.each ((s.mac m).joined.filter (fun g => !need.any (fun n => n.1 == g))) (sendLeave m)
    (s.setMac m (fun x => { x with joined := (need.map (fun n => n.1)).eraseDups })).each need (sendReport m)

/-- A written address, netmask or VLAN takes effect at once: gratuitous ARP, and every group is joined again (R224). -/
def addressWritten (s : State) (m : Nat) : State :=
  let s := s.setMac m (fun x => { x with arp := [] })
  let ip := s.rdN (ix Obj.IP_ADDRESS m)
  if ip = 0 then s else sendReports (s.send m 2 (arpFrame s m 1 0xFFFFFFFFFFFF 0 ip)) m

/-! ## Links (R226) -/

/-- MAC_LINK_UP (R226): the link status has held for 10 ms. -/
def execMacLinkUp (t : Nat) (mac : Fin 3) (s : State) : Result :=
  let s := s.at_ t
  let kept := decide (s.power.doff < 2) || mac.val == 2
  .next (s.whenever (!s.linkUp mac.val && decide (s.rdN (ix Obj.MAC_MODE mac.val) ≠ 0) && kept) (fun s =>
    (s.wr (ix Obj.LINK_STATE mac.val) 1).raise Ev.MAC_LINK_UP mac.val))

/-- A MAC's link goes down (R226, R251): it is no clock fault. -/
def macDown (s : State) (m : Nat) : State :=
  let s := s.setMac m (fun x => { x with queue := [], lineFree := 0, holdUntil := 0, pausing := false })
  ((s.wr (ix Obj.LINK_STATE m) 0).bump (ix Obj.LINK_DOWN_COUNT m)).raise Ev.MAC_LINK_DOWN m

/-- MAC_LINK_DOWN (R226): the link goes down at the first loss. -/
def execMacLinkDown (t : Nat) (mac : Fin 3) (s : State) : Result :=
  let s := s.at_ t
  .next (s.whenever (s.linkUp mac.val) (fun s => macDown s mac.val))

/-! ## Flow control sent (R231, R232) -/

/-- Quarter and three-quarter levels of a buffer: 256 KiB of control on CP, 128 KiB of bulk on MP. -/
def bufferSize (m cls : Nat) : Nat :=
  match cls with
  | 0 => 16384
  | 1 => 524288
  | 2 => 131072
  | _ => if m = 2 then 262144 else 65536

/-- Sends PAUSE on CP, PFC on a media port, while the link is up. -/
def sendPause (s : State) (m quanta : Nat) : State := s.whenever (s.linkUp m) (fun s =>
  let prio := if m = 2 then 0 else s.rdN (ix Obj.PFC_PRIORITY m)
  ((s.stat (if m = 2 then Obj.TX_PAUSE else Obj.TX_PFC) m).setMac m (fun x => { x with pausedAt := s.clock.now })).emit
    (.pause m prio quanta))

/-- The class whose buffer a MAC's flow control guards: control on CP, bulk on MP. -/
def guarded (m : Nat) : Nat := if m = 2 then 3 else 2
/-- Level of the guarded buffer. -/
def guardedLevel (s : State) (m : Nat) : Nat := (s.mac m).levels.getD (guarded m) 0

/-- Adds a frame to a class buffer: dropped and counted when full; flow control starts at 75 % (R230 to R232). Answers whether
the frame was kept. -/
def intoBuffer (s : State) (m cls octets : Nat) : State × Bool :=
  let level := (s.mac m).levels.getD cls 0
  if bufferSize m cls < level + octets then (s.stat (Obj.RX_DROP_TIMING + cls) m, false)
  else
    let s := s.setMac m (fun x => { x with levels := setAt x.levels cls (level + octets) })
    if cls = guarded m && !(s.mac m).pausing && bufferSize m cls * 3 / 4 ≤ level + octets then
      (sendPause (s.setMac m (fun x => { x with pausing := true })) m 0xFFFF, true)
    else (s, true)

/-- Pause time of quanta 0xFFFF in ns at the MAC's line rate (R231, R232). -/
def pauseNs (s : State) (m quanta : Nat) : Nat :=
  let mbps := match s.rdN (ix Obj.MAC_MODE m) with | 1 => 25000 | 2 => 10000 | _ => 1000
  quanta * 512 * 1000 / mbps

/-- PAUSE_REPEAT (R231): every 16 ms while the control buffer of CP stays above 25 %. -/
def execPauseRepeat (t : Nat) (s : State) : Result :=
  let s := s.at_ t
  .next (s.whenever ((s.mac 2).pausing && decide (65536 < guardedLevel s 2) && s.ran (s.mac 2).pausedAt 16000000)
    (fun s => sendPause s 2 0xFFFF))

/-- CONTROL_BUFFER_LOW (R231): at 25 % or below PAUSE with quanta 0 ends the pause. -/
def execControlBufferLow (t : Nat) (s : State) : Result :=
  let s := s.at_ t
  .next (s.whenever ((s.mac 2).pausing && decide (guardedLevel s 2 ≤ 65536)) (fun s =>
    sendPause (s.setMac 2 (fun x => { x with pausing := false })) 2 0))

/-- PFC_REPEAT (R232): at half the pause time while the bulk buffer stays above 25 %. -/
def execPfcRepeat (t : Nat) (mac : Fin 2) (s : State) : Result :=
  let s := s.at_ t
  let m := mac.val
  .next (s.whenever ((s.mac m).pausing && decide (32768 < guardedLevel s m) && s.ran (s.mac m).pausedAt (pauseNs s m 0xFFFF / 2))
    (fun s => sendPause s m 0xFFFF))

/-- BULK_BUFFER_LOW (R232): at 25 % or below PFC with quanta 0. -/
def execBulkBufferLow (t : Nat) (mac : Fin 2) (s : State) : Result :=
  let s := s.at_ t
  let m := mac.val
  .next (s.whenever ((s.mac m).pausing && decide (guardedLevel s m ≤ 32768)) (fun s =>
    sendPause (s.setMac m (fun x => { x with pausing := false })) m 0))

/-- PAUSE_QUANTA_EXPIRE (R233): the hold ends, is counted in us, and what waited is sent in strict priority (R234). -/
def execPauseQuantaExpire (t : Nat) (mac : Fin 3) (s : State) : Result :=
  let s := s.at_ t
  let m := mac.val
  .next (s.whenever (decide ((s.mac m).holdUntil ≠ 0) && decide ((s.mac m).holdUntil ≤ s.clock.now)) (fun s =>
    let s := s.serveMac m
    let us := (s.mac m).holdUs
    (s.setMac m (fun y => { y with holdUntil := 0, holdUs := 0 })).stat Obj.TX_HELD_US m us))

/-! ## Media streams: sizes and limits (R235, R236) -/

/-- Octets of a sample: L16 2, L24 3, AM824 4. -/
def sampleOctets (fmt : Nat) : Nat := match fmt with | 0 => 2 | 1 => 3 | _ => 4
/-- Packet time in us. -/
def packetUs (code : Nat) : Nat := match code with | 0 => 125 | 1 => 250 | _ => 1000
/-- Samples per packet: rate times packet time to nearest (R235). -/
def perPacket (rate ptime : Nat) : Nat := roundNat (rateHz rate * packetUs ptime) 1000000
/-- Largest channel count whose payload fits 1,440 octets, AM824 in pairs (R235). -/
def maxChannels (fmt rate ptime : Nat) : Nat :=
  let c := min 64 (1440 / (sampleOctets fmt * perPacket rate ptime))
  if fmt = 2 then c / 2 * 2 else c

/-- First key of a stream's objects: transmit or receive. -/
def streamKey (tx : Bool) (n : Nat) : Nat := ix (if tx then Obj.MS_TX_ENABLE else Obj.MS_RX_ENABLE) n

/-- The settings of a stream (enable, format, channels, rate, packet time, legs), with one object replaced. -/
def streamSet (s : State) (tx : Bool) (n : Nat) (key : Nat) (v : Nat) : List Nat :=
  (List.range 6).map (fun j => if streamKey tx n + j = key then v else s.rdN (streamKey tx n + j))

/-- Wire bit rate of a stream on one leg (R236). -/
def wireRate (s : State) (leg : Nat) (x : List Nat) (ext : Bool) : Nat :=
  let per := perPacket (x.getD 3 0) (x.getD 4 0)
  let payload := x.getD 2 0 * sampleOctets (x.getD 1 0) * per
  let above := (if s.rdN (ix Obj.VLAN_ID leg) = 0 then 78 else 82) + (if ext then 8 else 0)
  if per = 0 then 0 else (payload + above) * 8 * rateHz (x.getD 3 0) / per

/-- Wire rate in bit/s of all enabled streams of a direction on a MAC, with one object of one stream replaced. -/
def directionRate (s : State) (tx : Bool) (leg key v : Nat) : Nat :=
  ((List.range 256).map (fun n =>
    let x := streamSet s tx n key v
    if x.getD 0 0 = 1 && bit (x.getD 5 0) leg then
      wireRate s leg x (tx && s.on (ix Obj.MS_TX_EXT_ENABLE n)) else 0)).sum

/-- Media limit of a MAC mode in kb/s: 75 % of the line rate (R236). -/
def bwLimit (mode : Nat) : Nat := match mode with | 1 => 18750000 | 2 => 7500000 | 3 => 750000 | 4 => 750000 | _ => 0

/-- Whether the media rates of both media ports stay within their limits with one object replaced. -/
def bandwidthFits (s : State) (key v : Nat) : Bool :=
  [0, 1].all (fun leg => [true, false].all (fun tx =>
    decide (directionRate s tx leg key v ≤ bwLimit (s.rdN (ix Obj.MAC_MODE leg)) * 1000)))

/-- Channels of the enabled streams of a direction, with one object replaced. -/
def channelsUsed (s : State) (tx : Bool) (key v : Nat) : Nat :=
  ((List.range 256).map (fun n => let x := streamSet s tx n key v; if x.getD 0 0 = 1 then x.getD 2 0 else 0)).sum

/-- Whether an enabled receive stream would share destination, port and leg with another (R240). -/
def rxClash (s : State) (n key v : Nat) : Bool :=
  let get := fun (m sub : Nat) => let k := ix Obj.MS_RX_ENABLE m - 1 + sub; if k = key then v else s.rdN k
  get n 1 == 1 && (List.range 256).any (fun m => m != n && get m 1 == 1 && get m 9 == get n 9 &&
    [0, 1].any (fun leg => bit (get m 6) leg && bit (get n 6) leg && get m (7 + leg) == get n (7 + leg)))

/-- Shows the stream counts and the media rates (R235, R236). -/
def showStreams (s : State) : State :=
  let on := fun (tx : Bool) => ((List.range 256).filter (fun n => s.rdN (streamKey tx n) == 1)).length
  let s := (s.wr Obj.MS_RX_STREAMS_USED (on false : Nat)).wr Obj.MS_TX_STREAMS_USED (on true : Nat)
  let s := (s.wr Obj.MS_RX_CHANNELS_USED (channelsUsed s false 0 0 : Nat)).wr Obj.MS_TX_CHANNELS_USED (channelsUsed s true 0 0 : Nat)
  s.each [0, 1] (fun s leg =>
    let used := max (directionRate s true leg 0 0) (directionRate s false leg 0 0) / 1000
    (s.wr (ix Obj.MEDIA_BW_USED leg) used).wr (ix Obj.MEDIA_BW_LIMIT leg) (bwLimit (s.rdN (ix Obj.MAC_MODE leg))))

/-! ## Receive streams (R240 to R251) -/

/-- A receive stream without history. -/
def noRx : RxStream := ⟨none, [], [], 0, (0, 0), 0, false, 32, false, 0, [], [], none, [], 0⟩
/-- The state of receive stream n beside its objects. -/
def State.rx (s : State) (n : Nat) : RxStream := s.net.rx.getD n noRx
/-- Changes it. -/
def State.setRx (s : State) (n : Nat) (f : RxStream → RxStream) : State :=
  { s with net := { s.net with rx := setAt s.net.rx n (f (s.rx n)) } }
/-- Key of sub-index p of receive stream n. -/
def rxKey (n p : Nat) : Nat := ix Obj.MS_RX_ENABLE n - 1 + p
/-- Whether a receive stream is direct (R243). -/
def rxDirect (s : State) (n : Nat) : Bool := s.rd (rxKey n 4) == s.rd Obj.ENGINE_RATE_RUNNING && s.on (rxKey n 0x11)
/-- Read delay D of a stream: its warp group's, or MS_RX_DELAY (R242). -/
def rxDelay (s : State) (n : Nat) : Nat :=
  match memberOf s 4 n with | some (g, _) => groupN s (ix Obj.WG_DELAY_SAMPLES g) | none => s.rdN (rxKey n 0x10)

/-- Muting of a stream's channels by the two steps of R206, and a fade-in of 20 ms after it. Channels behind an ASRC instance mute
on its output. -/
def rxMute (s : State) (n : Nat) : State :=
  let s := s.each (asrcOfUnit s 4 n) muteAsrc
  let sources := (s.io.lasts.map (fun e => e.1)).filter (fun i => rxDirect s n && idKind i == 4 && idUnit i == n)
  let s := s.each sources (fun s src =>
    (s.warpPut src (s.sampleNow + 1) (scale (s.lastOf src) (unity / 2))).setLast src 0)
  s.setRx n (fun x => { x with fadeAt := s.sampleNow + 2, kept := [], gain := 32, under := false })

/-- A stream that starts or restarts (R244). -/
def restartRx (s : State) (n : Nat) : State :=
  let s := rxMute s n
  (s.setRx n (fun x => { noRx with fadeAt := x.fadeAt, presentAt := s.clock.now })).wr (rxKey n 0x12)
    (if s.on (rxKey n 1) then 1 else 0)

/-- The fields of an RTP packet: version, payload type, sequence number, timestamp, SSRC, DEGRADED mark for an element ID, and
payload (R237, R249). -/
structure Rtp where
  version : Nat
  pt : Nat
  seq : Nat
  ts : Nat
  ssrc : Nat
  degraded : Bool
  payload : List Byte
  deriving DecidableEq, Repr

/-- Reads an RTP packet; extId 0 ignores extensions. -/
def readRtp (extId : Nat) (b : List Byte) : Rtp :=
  let b0 := field b 0 1
  let cc := b0 % 16
  let body := b.drop (12 + 4 * cc)
  let ext := bit b0 4
  let len := if ext then 4 + 4 * field body 2 2 else 0
  let hit := ext && extId != 0 && field body 0 2 == 0xBEDE && field body 4 1 / 16 == extId
  ⟨b0 / 64, field b 1 1 % 128, field b 2 2, field b 4 4, field b 8 4, hit && bit (field body 5 3) 23, body.drop len⟩

/-- Samples of each channel of a payload in S8.27 (R22): big-endian L16 or L24, or the 24 audio bits of AM824. -/
def payloadSamples (fmt chans per : Nat) (b : List Byte) : List (List Int) :=
  let w := sampleOctets fmt
  (List.range chans).map (fun c => (List.range per).map (fun i =>
    let v := field b ((i * chans + c) * w) w
    if fmt = 0 then enter 16 v else enter 24 (v % 2 ^ 24)))

/-- Flag bits of the AM824 subframes of a payload per channel (R24, R239): the bits above the 24 audio bits. -/
def payloadFlags (fmt chans per : Nat) (b : List Byte) : List (List Int) :=
  if fmt ≠ 2 then []
  else (List.range chans).map (fun c => (List.range per).map (fun i => ((field b ((i * chans + c) * 4) 1 % 64 : Nat) : Int)))

/-- A signed 16-bit difference of sequence numbers. -/
def seqDiff (a b : Nat) : Int := signed 16 ((a + 65536 - b) % 65536)

/-- The 64-bit sample number nearest the present count for a 32-bit timestamp (R242). -/
def extend32 (now ts : Nat) : Nat :=
  let base := now / 4294967296 * 4294967296
  let c := (base + ts : Nat)
  if c + 2147483648 < now then c + 4294967296
  else if now + 2147483648 < c && 4294967296 ≤ c then c - 4294967296 else c

/-- Sample count of a stream rate now. -/
def State.countAt (s : State) (rate : Nat) : Nat := s.reached (rateHz rate)

/-- The instant of sample number k of a stream in engine ns: its RTP instant plus half a sample period (R242). -/
def rxInstant (s : State) (k : Nat) : Nat := s.sampleNs k + halfSample s

/-- First position of sample number k of a stream: its position in the warp beam for a direct stream, that of its group's read in a warp
group, the number itself behind an ASRC instance (R219, R242, R243). -/
def rxFirst (s : State) (n k : Nat) : Nat :=
  if !rxDirect s n then k
  else match memberOf s 4 n with
    | some (g, _) => groupRead s g (rxInstant s k)
    | none => k + rxDelay s n + 1

/-- Read instant of sample number k of a stream in engine ns (R242). -/
def rxReadNs (s : State) (n k : Nat) : Nat :=
  if rxDirect s n then s.sampleNs (rxFirst s n k)
  else k * 1000000000 / max 1 (rateHz (s.rdN (rxKey n 4))) + s.sampleNs (rxDelay s n + 1)

/-- Positions of a stream that are read at a sample instant: one of a direct stream; behind an ASRC instance those whose read
instant the latest sample period passed (R242, R243). -/
def rxDue (s : State) (n : Nat) : List Nat :=
  if rxDirect s n then [s.sampleNow]
  else
    let upTo := fun (j : Nat) => (j - (rxDelay s n + 1)) * rateHz (s.rdN (rxKey n 4)) / max 1 s.fs
    let a := upTo (s.sampleNow - 1)
    (List.range (upTo s.sampleNow - a)).map (fun j => a + 1 + j)

/-- A copy in time of a stream (R246 to R250): kept, a duplicate, a clean replacement, or behind the window. -/
def rxCopy (s : State) (n leg : Nat) (r : Rtp) : State :=
  let per := perPacket (s.rdN (rxKey n 4)) (s.rdN (rxKey n 5))
  let k := extend32 (s.countAt (s.rdN (rxKey n 4))) ((r.ts + 4294967296 - s.rdN (rxKey n 0x0F) % 4294967296) % 4294967296)
  let first := rxFirst s n k
  let x := s.rx n
  let seen := x.record.find? (fun e => e.1 == r.seq)
  let d := match x.high with | some h => seqDiff r.seq h.1 | none => 1
  let late := past s.engineNs (rxReadNs s n k)
  let skew := match seen with
    | some (_, legs, _, stamp) =>
      if bit legs (1 - leg) && !bit legs leg then
        s.wr (rxKey n 0x1A) (if leg = 1 then (s.engineNs : Int) - stamp else (stamp : Int) - s.engineNs) else s
    | none => s
  let s := skew
  let note := fun (s : State) => s.setRx n (fun x => { x with
    record := change x.record (fun e => e.1 == r.seq) (fun e => (e.1, setBit e.2.1 leg true, e.2.2.1, s.engineNs)),
    kept := change x.kept (fun p => p.seq == r.seq) (fun p => { p with legs := setBit p.legs leg true }) })
  if d < -63 then s.bump (rxKey n 0x16)
  else match seen with
    | some (_, legs, degraded, stamp) =>
      let replace := degraded && !r.degraded && !late
      let tie := decide (stamp = s.engineNs) && leg == 0 && bit legs 1 && !late && degraded == r.degraded
      let s := (note s).bump (rxKey n 0x14)
      if replace || tie then
        s.setRx n (fun x => { x with
          record := change x.record (fun e => e.1 == r.seq) (fun e => (e.1, e.2.1, r.degraded, e.2.2.2)),
          kept := change x.kept (fun p => p.seq == r.seq) (fun p => { p with
            degraded := r.degraded, chans := payloadSamples (s.rdN (rxKey n 2)) (s.rdN (rxKey n 3)) per r.payload,
            flags := payloadFlags (s.rdN (rxKey n 2)) (s.rdN (rxKey n 3)) per r.payload }) })
      else s
    | none =>
      if late then s.bump (rxKey n 0x16)
      else
        let p : Packet := ⟨r.seq, first, 2 ^ leg, r.degraded,
          payloadSamples (s.rdN (rxKey n 2)) (s.rdN (rxKey n 3)) per r.payload,
          payloadFlags (s.rdN (rxKey n 2)) (s.rdN (rxKey n 3)) per r.payload⟩
        let high := if 0 < d then (r.seq, r.ts) else x.high.getD (r.seq, r.ts)
        let s := s.setRx n (fun x => { x with
          high := some high, latest := some (k, s.engineNs), presentAt := s.clock.now, silent := false,
          record := (x.record ++ [(r.seq, 2 ^ leg, r.degraded, s.engineNs)]).filter
            (fun e => decide (-63 ≤ seqDiff e.1 high.1) && decide (seqDiff e.1 high.1 ≤ 0)),
          kept := x.kept ++ [p] })
        let s := (s.bump (rxKey n 0x13)).wr (rxKey n 0x1C) r.ssrc
        let s := if s.rdN (rxKey n 0x12) = 1 || s.rdN (rxKey n 0x12) = 4 then
            (if rxDirect s n then fixPhase s 4 n (rxInstant s k) else s).wr (rxKey n 0x12) 2 else s
        let s := match memberOf s 4 n with | some (g, m) => noteMargin s g m (rxInstant s k) | none => s
        if x.silent then s.raise Ev.MS_RX_PRESENT n else s

/-- Marks of an AM824 packet (R210, R244): preambles in one channel or across the two subframes of a pair. -/
def rxMarks (s : State) (n : Nat) (r : Rtp) : State :=
  let chans := s.rdN (rxKey n 3)
  let per := perPacket (s.rdN (rxKey n 4)) (s.rdN (rxKey n 5))
  let word := fun (i c : Nat) => field r.payload ((i * chans + c) * 4) 4 % 2 ^ 24
  let hit := fun (s : State) (c : Nat) =>
    let was := (mapGet (s.rx n).marks c).isSome
    let s := s.setRx n (fun x => { x with marks := mapSet x.marks c s.clock.now })
    if was then s else s.raise Ev.NONAUDIO_MUTE (arg2 (4 * 256 + n) c)
  s.each (List.range per) (fun s i => s.each (List.range chans) (fun s c =>
    let w := word i c
    let s := match mapGet (s.rx n).words c with | some a => if preamble a w then hit s c else s | none => s
    let s := if c % 2 = 1 && preamble (word i (c - 1)) w then hit (hit s (c - 1)) c else s
    s.setRx n (fun x => { x with words := mapSet x.words c w })))

/-- A media packet of stream n on a leg (R241): refused and counted, or used. -/
def rxPacket (s : State) (n leg : Nat) (b : List Byte) : State :=
  let r := readRtp (s.rdN (rxKey n 0x1D)) b
  let per := perPacket (s.rdN (rxKey n 4)) (s.rdN (rxKey n 5))
  let want := s.rdN (rxKey n 3) * sampleOctets (s.rdN (rxKey n 2)) * per
  let x := s.rx n
  let fits := fun (h : Nat × Nat) =>
    decide (((r.ts : Int) - h.2 - per * seqDiff r.seq h.1) % 4294967296 = 0)
  let good := match x.high with | some h => fits h | none => true
  if r.version ≠ 2 || r.payload.length ≠ want then (s.setRx n (fun x => { x with misfits := 0 })).bump (rxKey n 0x1B)
  else if !good then
    let run := if x.misfits = 0 || fits x.misfit then x.misfits + 1 else 1
    (s.setRx n (fun x => { x with misfits := run, misfit := (r.seq, r.ts) })).bump (rxKey n 0x1B)
  else
    let s := s.setRx n (fun x => { x with misfits := 0 })
    let s := if s.rdN (rxKey n 2) = 2 then rxMarks s n r else s
    rxCopy s n leg r

/-- MS_RX_RESTART (R241): 8 consecutive packets agree among themselves but not with the stream: it adopts the sequence and timestamp of
the latest of them. -/
def execMsRxRestart (t : Nat) (stream : Fin 256) (s : State) : Result :=
  let s := s.at_ t
  let n := stream.val
  .next (s.whenever (s.on (rxKey n 1) && decide (8 ≤ (s.rx n).misfits)) (fun s =>
    ((rxMute s n).setRx n (fun x => { x with high := some x.misfit, record := [], misfits := 0, latest := none, paces := [] })).wr
      (rxKey n 0x12) 4))

/-- MS_RX_SILENT (R251): no copy in time for 1 s. -/
def execMsRxSilent (t : Nat) (stream : Fin 256) (s : State) : Result :=
  let s := s.at_ t
  let n := stream.val
  .next (s.whenever (s.on (rxKey n 1) && !(s.rx n).silent && s.overdue ((s.rx n).presentAt + 1000000000)) (fun s =>
    (s.setRx n (fun x => { x with silent := true })).raise Ev.MS_RX_SILENT n))

/-- NONAUDIO_CLEAR (R212, R244): no mark for NONAUDIO_HOLD_MS; the channel fades in over 20 ms. Ports 0 to 27 are audio ports,
28 to 283 AM824 receive streams. -/
def execNonaudioClear (t : Nat) (port : Fin 284) (ch : Nat) (s : State) : Result :=
  let s := s.at_ t
  if port.val < 28 then .next (portNonaudioClear port.val ch s)
  else
    let n := port.val - 28
    match mapGet (s.rx n).marks ch with
    | some last =>
      .next (s.whenever (s.overdue (last + s.rdN Obj.NONAUDIO_HOLD_MS * 1000000)) (fun s =>
        (s.setRx n (fun x => { x with marks := mapDel x.marks ch, fadeAt := s.sampleNow + 1 })).raise
          Ev.NONAUDIO_CLEAR (arg2 (4 * 256 + n) ch)))
    | none => .next s

/-- A sample of a stream for its reader: a warp group's window, an ASRC channel's history, or the warp beam; `bare` is the sample without
the fades of non-audio channels, and `flags` its AES3 bits (R24, R219, R242). -/
def putStream (group : Option (Nat × Nat)) (direct : Bool) (src pos : Nat) (y bare flags : Int) (degraded : Bool) (s : State) : State :=
  match group with
  | some (g, m) => ((s.await ⟨src, g * 32 + m, pos, y, degraded⟩).await ⟨bareOf src, g * 32 + m, pos, bare, degraded⟩).await
      ⟨flagsOf src, g * 32 + m, pos, flags, degraded⟩
  | none => if !direct then s.rawPut src y else
    let s := s.warpPut src pos y degraded
    let s := if bare = y && !degraded then s else s.warpPut (bareOf src) pos bare degraded
    if flags = 0 then s else s.warpPut (flagsOf src) pos flags

/-- One position of a receive stream (R242, R248, R251): its sample is read, or concealed as a group member. A direct stream is read
into the warp beam, another for its ASRC instances (R243). -/
def readStream (n : Nat) (s : State) (pos : Nat) : State :=
  let now := s.sampleNow
  let direct := rxDirect s n
  let group := if direct then memberOf s 4 n else none
  let x := s.rx n
  let per := perPacket (s.rdN (rxKey n 4)) (s.rdN (rxKey n 5))
  let both := s.rdN (rxKey n 6) == 3
  let clear := fun (v : Int) =>
    if x.fadeAt = 0 then v
    else if now < x.fadeAt then 0 else fadeGain (now + 1 - x.fadeAt) (fade20 s) v
  let fade := fun (c : Nat) (v : Int) => if (mapGet x.marks c).isSome then 0 else clear v
  match x.kept.find? (fun p => decide (p.first ≤ pos) && decide (pos < p.first + per)) with
  | some p =>
    let gain := if x.gain < 32 then x.gain + 1 else 32
    let s := s.each ((List.range p.chans.length).zip p.chans) (fun s c =>
      let src := endpoint 4 n c.1
      let v := c.2.getD (pos - p.first) 0
      let g := if group.isSome then 32 else gain
      let y := conceal g (fade c.1 v)
      let s := s.setLast src v
      let bare := conceal g (clear v)
      let flags := (p.flags.getD c.1 []).getD (pos - p.first) 0
      putStream group direct src pos y bare flags p.degraded s)
    let s := s.setRx n (fun x => { x with
      gain := gain, under := false, degradedAt := if p.degraded then s.sampleNow else x.degradedAt })
    let s := if gain = 32 && s.rdN (rxKey n 0x12) = 3 then s.wr (rxKey n 0x12) 2 else s
    if pos + 1 = p.first + per then
      let s := s.setRx n (fun x => { x with kept := x.kept.filter (fun q => q.seq != p.seq) })
      let s := if p.degraded then s.bump (rxKey n 0x19) else s
      if both && !bit p.legs 0 then s.bump (rxKey n 0x17) else if both && !bit p.legs 1 then s.bump (rxKey n 0x18) else s
    else s
  | none =>
    match x.high with
    | none => s
    | some h =>
      let base := rxFirst s n
        (extend32 (s.countAt (s.rdN (rxKey n 4))) ((h.2 + 4294967296 - s.rdN (rxKey n 0x0F) % 4294967296) % 4294967296))
      let gain := if x.under then x.gain - 1 else x.gain
      let lost := decide (((pos : Int) - base) % (max 1 per) = 0)
      let s := if lost then s.bump (rxKey n 0x15) else s
      let s := if group.isSome then s
        else s.each ((List.range (s.rdN (rxKey n 3))).map (fun c => endpoint 4 n c)) (fun s src =>
          let y := conceal gain (fade (idChannel src) (s.lastOf src))
          if direct then s.warpPut src pos y else s.rawPut src y)
      let s := if group.isSome then s else s.flag 5
      let s := if x.under || group.isSome then s else s.raise Ev.WG_UNDERRUN (4 * 256 + n)
      (s.setRx n (fun x => { x with gain := gain, under := true })).wr (rxKey n 0x12) 3

/-- Reads every enabled stream at a sample instant. -/
def readStreams (s : State) : State :=
  s.each ((List.range 256).filter (fun n => s.on (rxKey n 1))) (fun s n => s.each (rxDue s n) (readStream n))

/-! ## Transmit streams (R237 to R239, R245, R249) -/

/-- Key of sub-index p of transmit stream n. -/
def txKey (n p : Nat) : Nat := ix Obj.MS_TX_ENABLE n - 1 + p

/-- A released sample of a media destination at a position: its value and degraded mark. -/
def txSample (s : State) (dest pos : Nat) : Int × Bool :=
  match (mapGetD s.net.tx dest []).find? (fun e => e.1 == pos) with | some e => e.2 | none => (0, false)

/-- Keeps a released sample of a media destination for its packets. -/
def txPut (s : State) (dest pos : Nat) (v : Int) (degraded : Bool) : State :=
  { s with net := { s.net with tx := mapSet s.net.tx dest (((pos, v, degraded) :: mapGetD s.net.tx dest []).take 512) } }

/-- Word length of transmit stream n (R239). -/
def mediaWord (s : State) (n : Nat) : Nat := if s.rdN (txKey n 2) = 0 then 16 else 24

/-- Whether the output that an ASRC instance serves is dithered (R62): the entry that feeds its pin says so. -/
def ditheredInst (s : State) (i : Nat) : Bool :=
  match (edgesOf s.run).find? (fun e => e.dest == endpoint 6 i 0) with | some e => ditheredEntry s.run e.entry | none => false

/-- Octets of one sample on the wire (R239). -/
def wireSample (fmt : Nat) (v : Int) : List Byte :=
  if fmt = 0 then beBytes 2 (pattern 16 (leave 16 v))
  else beBytes 3 (pattern 24 (leave 24 v))

/-- The channel-status bit of a generated block at a frame (R200). -/
def statusBit (block : List Byte) (frame : Nat) : Bool := bit ((block.getD (frame % 192 / 8) 0).toNat) (frame % 8)

/-- Flag bits of a generated AES3 subframe (R200, R239): no validity or user bit, the channel-status bit of the generated block,
even parity over them and the audio bits, subframe A on even channels, and the block start. -/
def subframeFlags (rate frame chan : Nat) (audio : Nat) : Nat :=
  let body := statusBody rate 24
  let c := if statusBit (body ++ [crcc body]) frame then 4 else 0
  let parity := if ones 30 (audio + c / 4 * 2 ^ 24) % 2 = 0 then 0 else 8
  c + parity + (if chan % 2 = 0 then 16 else 0) + (if frame % 192 = 0 then 32 else 0)

/-- Octets of a subframe on the wire: as its bit-transparent route carries it, else generated (R239). -/
def wireSubframe (s : State) (n k : Nat) (c i : Nat) (v : Int) : List Byte :=
  let dest := endpoint 4 n c
  let audio := pattern 24 (leave 24 v)
  match (mapGetD s.net.tx (flagsOf dest) []).find? (fun e => e.1 == k + i) with
  | some e => beBytes 4 ((e.2.1.toNat % 64) * 2 ^ 24 + audio)
  | none => beBytes 4 (subframeFlags (rateHz (s.rdN (txKey n 4)) * 1000) (k + i) c audio * 2 ^ 24 + audio)

/-- The RTP packet of transmit stream n whose first sample is number k at the stream rate (R237, R249). -/
def rtpPacket (s : State) (n k : Nat) : List Byte × Nat × Nat :=
  let fmt := s.rdN (txKey n 2)
  let chans := s.rdN (txKey n 3)
  let per := perPacket (s.rdN (txKey n 4)) (s.rdN (txKey n 5))
  let value := fun (c i : Nat) =>
    let dest := endpoint 4 n c
    match asrcFor s dest with
    | none => if s.rd (txKey n 4) == s.rd Obj.ENGINE_RATE_RUNNING then txSample s dest (k + i) else (0, false)
    | some ch =>
      let cells : List (Nat × Int × Bool) := mapGetD s.net.tx dest []
      let hist := cells.map (fun (e : Nat × Int × Bool) => e.2.1)
      let p := (k + i) * s.fs / max 1 (rateHz (s.rdN (txKey n 4)))
      let y := asrcGate s ch p (asrcResult hist (k + i)) (asrcResult hist (k + i - 1))
      let d := if ditheredInst s (s.rdN (entry Obj.ASRC_CHAN_INSTANCE ch)) then dither dest (p / s.pl) ((k + i) % 1024) (mediaWord s n) else 0
      (y + d, cells.any (fun (e : Nat × Int × Bool) => e.2.2))
  let cells := (List.range per).flatMap (fun i => (List.range chans).map (fun c => value c i))
  let octets := (List.range per).flatMap (fun i => (List.range chans).flatMap (fun c =>
    if fmt = 2 then wireSubframe s n k c i (value c i).1 else wireSample fmt (value c i).1))
  let ext := s.on (txKey n 0x0F)
  let seq := k / max 1 per % 65536
  let ts := (k + s.rdN (txKey n 0x0B)) % 4294967296
  let ssrc := if s.rdN (txKey n 0x0C) = 0 then 0x41580000 + n else s.rdN (txKey n 0x0C)
  let extension := if ext then beBytes 4 0xBEDE0001 ++ beBytes 1 (s.rdN (txKey n 0x10) * 16 + 2) ++
      beBytes 3 ((if cells.any (fun c => c.2) then 2 ^ 23 else 0) + s.rdN Obj.LOOM_ID) else []
  (beBytes 1 (if ext then 0x90 else 0x80) ++ beBytes 1 (s.rdN (txKey n 0x0A)) ++ beBytes 2 seq ++ beBytes 4 ts ++
    beBytes 4 ssrc ++ extension ++ octets, seq, ts)

/-- A packet of stream n joins the media queue of one leg, due at a local instant: nothing while the destination is unresolved or the link is
down (R234, R238, R245). -/
def sendLeg (n : Nat) (p : List Byte × Nat × Nat) (due : Nat) (s : State) (leg : Nat) : State :=
  let dest := s.rdN (txKey n (7 + leg))
  if !s.linkUp leg || s.rdN (ix Obj.IP_ADDRESS leg) = 0 then s
  else match stationOf s leg dest with
    | none =>
      let was := s.rdN (txKey n 0x12)
      let s := s.wr (txKey n 0x12) 2
      if was = 2 then s
      else (s.raise Ev.MS_TX_UNRESOLVED n).send leg 2 (arpFrame s leg 1 0xFFFFFFFFFFFF 0 (nextHop s leg dest))
    | some station =>
      let port := s.rdN (txKey n 9)
      let d := udp (s.rdN (ix Obj.IP_ADDRESS leg)) dest port port p.1
      let frame := etherHeader s leg station 0x0800 ++
        ipv4 s leg dest 17 (s.rdN (txKey n 0x0E)) (s.rdN (txKey n 0x0D) * 4) d
      s.transmit leg ⟨1, s.clock.now, due, n, tagged s leg 1 frame, some (.media n leg p.2.1 p.2.2 p.1)⟩

/-- Engine time of sample k of a rate in ns. -/
def streamNs (rate k : Nat) : Nat := roundNat (k * 1000000000) (max 1 (rateHz rate))

/-- The packet of stream n that is complete now: the next packet's number, and the instant that follows its last sample in engine ns. -/
def packetDue (s : State) (n : Nat) : Nat × Nat :=
  let rate := s.rdN (txKey n 4)
  let per := perPacket rate (s.rdN (txKey n 5))
  let no := s.countAt rate / max 1 per
  (no, streamNs rate (no * per))

/-- Whether the streams before stream n have sent what is due at the same instant (R238). -/
def txTurn (s : State) (n : Nat) : Bool :=
  let due := packetDue s n
  (List.range n).all (fun m => !s.on (txKey m 1) || mapGet s.net.packets m == some (packetDue s m).1 || (packetDue s m).2 != due.2)

/-- MEDIA_PACKET_TX (R237, R238, R245): after the instant that follows its last sample, the latest packet leaves on each leg, once. -/
def execMediaPacketTx (t : Nat) (stream : Fin 256) (s : State) : Result :=
  let s := s.at_ t
  let n := stream.val
  let per := perPacket (s.rdN (txKey n 4)) (s.rdN (txKey n 5))
  let now := (packetDue s n).1
  let runs := s.inService && s.on (txKey n 1) && !s.twin.silent && (s.power.doffFade == 0 || s.power.doff == 0)
  .next (s.whenever (runs && decide (1 ≤ now) && decide (mapGet s.net.packets n ≠ some now) && txTurn s n) (fun s =>
    let p := rtpPacket s n ((now - 1) * per)
    let s := { s with net := { s.net with packets := mapSet s.net.packets n now } }
    let s := (s.wr (txKey n 0x12) (if s.rdN (txKey n 0x12) = 2 then 2 else 1)).bump (txKey n 0x11)
    let legs := bitsOf (s.rdN (txKey n 6)) 2
    let solved := legs.all (fun l => (stationOf s l (s.rdN (txKey n (7 + l)))).isSome)
    let s := if solved then s.wr (txKey n 0x12) 1 else s
    s.each legs (sendLeg n p (s.localOf (packetDue s n).2))))

/-! ## Received frames (R225, R227 to R233) -/

/-- A received frame without its tag: destination, source, PCP and VID of a tag, EtherType, and what follows. -/
structure Ether where
  dest : Nat
  source : Nat
  tag : Option (Nat × Nat)
  etype : Nat
  body : List Byte
  deriving DecidableEq, Repr

/-- Reads an Ethernet frame. -/
def readEther (f : List Byte) : Ether :=
  if field f 12 2 = 0x8100 then
    let tci := field f 14 2
    ⟨field f 0 6, field f 6 6, some (tci / 8192, tci % 4096), field f 16 2, f.drop 18⟩
  else ⟨field f 0 6, field f 6 6, none, field f 12 2, f.drop 14⟩

/-- Whether a frame is for the MAC's own station, or for all. -/
def forStation (s : State) (m dest : Nat) : Bool :=
  dest == s.rdN (ix Obj.MAC_ADDRESS m) || dest == 0xFFFFFFFFFFFF || dest / 2 ^ 40 % 2 == 1

/-- Whether a PTP domain is in use on a MAC: an enabled slot or a master role (R229). -/
def domainUsed (s : State) (m d : Nat) : Bool :=
  !(ptpSlots s m d).isEmpty || (s.on (ix Obj.PTP_GM_ENABLE m) && s.rdN (ix Obj.PTP_GM_DOMAIN m) == d)

/-- The enabled receive stream that a UDP datagram on a leg belongs to (R240). -/
def streamOf (s : State) (leg src dest port pt : Nat) : Option Nat :=
  (List.range 256).find? (fun n =>
    let a := s.rdN (rxKey n (0x0A + 2 * leg))
    let b := s.rdN (rxKey n (0x0B + 2 * leg))
    s.on (rxKey n 1) && bit (s.rdN (rxKey n 6)) leg && s.rdN (rxKey n (7 + leg)) == dest && s.rdN (rxKey n 9) == port &&
    ((a == 0 && b == 0) || (src != 0 && (src == a || src == b))) &&
    (s.rdN (rxKey n 0x0E) == 0xFF || s.rdN (rxKey n 0x0E) == pt))

/-- Holds transmission for a time from now, or lets it go on at once; the time held so far is kept (R233, R254). -/
def hold (s : State) (m ns : Nat) : State :=
  let s := s.serveMac m
  let s := s.setMac m (fun x =>
    { x with holdUntil := s.clock.now + ns, holdUs := x.holdUs + ns / 1000 - (x.holdUntil - s.clock.now) / 1000 })
  s.serveMac m

/-- A received PAUSE or PFC frame (R233): the hold it asks for, in quanta, if it is obeyed. -/
def pauseRx (s : State) (m : Nat) (body : List Byte) : State :=
  let op := field body 0 2
  if op = 0x0001 then
    let s := s.stat Obj.RX_PAUSE m
    if m = 2 then
      let ns := pauseNs s m (field body 2 2)
      hold s m ns
    else s
  else if op = 0x0101 then
    let s := s.stat Obj.RX_PFC m
    let p := s.rdN (ix Obj.PFC_PRIORITY m)
    if m < 2 && bit (field body 2 2) p then
      let ns := pauseNs s m (field body (4 + 2 * p) 2)
      hold s m ns
    else s
  else s.stat Obj.RX_UNMATCHED m

/-- The firmware's answer to an ARP packet (R228): replies for the own address, and learns senders. -/
def arpRx (s : State) (m : Nat) (b : List Byte) : State :=
  let own := s.rdN (ix Obj.IP_ADDRESS m)
  let s := s.setMac m (fun x => { x with arp := mapSet x.arp (field b 14 4) (field b 8 6) })
  if field b 6 2 = 1 && own ≠ 0 && field b 24 4 = own then
    s.send m 2 (arpFrame s m 2 (field b 8 6) (field b 8 6) (field b 14 4))
  else s

/-- The firmware's answer to an ICMP echo request (R228). -/
def icmpRx (s : State) (m station src : Nat) (b : List Byte) : State :=
  if field b 0 1 = 8 then
    let rest := b.drop 4
    let reply := fun (c : Nat) => beBytes 2 0 ++ beBytes 2 c ++ rest
    s.send m 2 (etherHeader s m station 0x0800 ++ ipv4 s m src 1 64 0 (reply (checksum16 (reply 0))))
  else s

/-- An IGMP query is answered; a version 2 query tells of a version 2 querier (R228). -/
def igmpRx (s : State) (m : Nat) (b : List Byte) : State :=
  if field b 0 1 = 0x11 then
    sendReports (s.setMac m (fun x => { x with querier2 := x.querier2 || b.length < 12 })) m
  else s

/-- Takes a frame into a class and acts on it when it is kept. -/
def classed (s : State) (m cls octets : Nat) (f : State → State) : State :=
  let (s, kept) := intoBuffer s m cls octets
  if kept then f s else s

/-- Whether a frame is of the bulk class: tagged with PFC_PRIORITY on a media port (R229). -/
def isBulk (s : State) (m : Nat) (e : Ether) : Bool :=
  decide (m < 2) && (match e.tag with | some (pcp, _) => pcp == s.rdN (ix Obj.PFC_PRIORITY m) | none => false)

/-- An IPv4 frame (R227, R229). An IHL below 5 counts in RX_IP_HDR_ERRORS, which is the model's choice (log entry 260). -/
def ipRx (s : State) (m : Nat) (e : Ether) (octets : Nat) : State :=
  let b := e.body
  let ihl := field b 0 1 % 16
  let total := field b 2 2
  let src := field b 12 4
  let dest := field b 16 4
  let own := s.rdN (ix Obj.IP_ADDRESS m)
  let frag := field b 6 2 % 16384
  let proto := field b 9 1
  let body := (b.take total).drop (4 * ihl)
  let sum := field body 6 2
  let udpBad := proto == 17 && sum != 0 &&
    checksum16 (beBytes 4 src ++ beBytes 4 dest ++ beBytes 2 17 ++ beBytes 2 body.length ++ body) != 0
  if field b 0 1 / 16 ≠ 4 || ihl < 5 || checksum16 (b.take (4 * ihl)) ≠ 0 then s.stat Obj.RX_IP_HDR_ERRORS m
  else if frag ≠ 0 then s.stat Obj.RX_IP_FRAGMENTS m
  else if udpBad then s.stat Obj.RX_UDP_CSUM_ERRORS m
  else if own = 0 then s.stat Obj.RX_UNMATCHED m
  else
    let port := field body 2 2
    let plain := ihl == 5
    let stream := if proto == 17 && plain && decide (m < 2) then streamOf s m src dest port (field body 9 1 % 128) else none
    if proto = 17 && plain && (port = 319 || port = 320) && domainUsed s m (field body 12 1) then
      classed s m 0 octets (fun s => s)
    else match stream with
      | some n => classed s m 1 octets (fun s => rxPacket s n m (body.drop 8))
      | none =>
        if isBulk s m e && plain && (dest = own || e.dest = s.rdN (ix Obj.MAC_ADDRESS m)) then classed s m 2 octets (fun s => s)
        else if dest = own && (proto = 1 || (proto = 17 && port = s.rdN Obj.HAPOL_UDP_PORT)) then
          classed s m 3 octets (fun s => if proto = 1 && s.coreRuns 0 then icmpRx s m e.source src body else s)
        else if proto = 2 then classed s m 3 octets (fun s => if s.coreRuns 0 then igmpRx s m body else s)
        else s.stat Obj.RX_UNMATCHED m

/-- A good frame past the size and FCS checks (R225, R229, R233). An untagged frame above 1,518 octets counts in RX_UNMATCHED (R223), which
is the model's choice (log entry 40). -/
def goodFrame (s : State) (m : Nat) (f : List Byte) : State :=
  let e := readEther f
  let octets := f.length + 4
  let own := s.rdN (ix Obj.VLAN_ID m)
  let s := s.countFrame Obj.RX_FRAMES_OK Obj.RX_OCTETS_64 Obj.RX_MULTICAST Obj.RX_BROADCAST Obj.RX_SIZE_BIN m f
  let vidBad := match e.tag with | some (_, vid) => vid != 0 && (vid != own || own == 0) | none => false
  if e.etype = 0x8808 then pauseRx s m e.body
  else if vidBad then s.stat Obj.RX_VLAN_MISMATCH m
  else if e.tag.isNone && decide (1518 < octets) then s.stat Obj.RX_UNMATCHED m
  else if e.etype = 0x0800 then (if forStation s m e.dest then ipRx s m e octets else s.stat Obj.RX_UNMATCHED m)
  else if isBulk s m e && (e.etype = 0x88B5 || e.dest = s.rdN (ix Obj.MAC_ADDRESS m)) then classed s m 2 octets (fun s => s)
  else if e.etype = 0x88B5 && e.dest = s.rdN (ix Obj.MAC_ADDRESS m) then classed s m 3 octets (fun s => s)
  else if e.etype = 0x0806 && forStation s m e.dest then
    classed s m 3 octets (fun s => if s.coreRuns 0 then arpRx s m e.body else s)
  else s.stat Obj.RX_UNMATCHED m

/-- A frame at a MAC (R223, R229, R254): code errors, sizes and FCS first. -/
def frameRx (m : Nat) (f : EthFrame) (s : State) : State :=
  let l := f.octets.length + 4
  let s := if f.codeError then s.stat Obj.RX_CODE_ERRORS m else s
  if l < 64 then s.stat (if f.fcsGood then Obj.RX_UNDERSIZE else Obj.RX_FRAGMENTS) m
  else if 1522 < l then s.stat (if f.fcsGood then Obj.RX_OVERSIZE else Obj.RX_JABBER) m
  else if !f.fcsGood then s.stat Obj.RX_FCS_ERRORS m
  else goodFrame s m f.octets

/-- Drains the class buffers at a batten: the engine takes timing, media and bulk frames, core A the control frames (log
entry 24). -/
def drainBuffers (s : State) : State :=
  s.each [0, 1, 2] (fun s m => s.setMac m (fun x =>
    { x with levels := [0, 0, 0, if s.coreRuns 0 then 0 else x.levels.getD 3 0] }))

/-! ## Assessment of streams (R243) and wake-pattern filters (R252) -/

/-- Measures a stream at an assessment (R243): a direct stream that departs by more than 10 ppm raises MS_NOT_SYNCHRONOUS; the ASRC channels of
another track the sender's media clock (R216). -/
def assessStream (s : State) (n : Nat) : State :=
  if !s.on (rxKey n 1) then s
  else
    let s := if rxDirect s n then (if 10000 < (streamPace s n).natAbs then s.raise Ev.MS_NOT_SYNCHRONOUS n else s)
      else s.each (asrcOfUnit s 4 n) trackAsrc
    s.setRx n (fun x => { x with paces := match x.latest with | some a => (a :: x.paces).take 9 | none => x.paces })

/-- Octets of a frame that a filter selects, ascending (R252). -/
def selectedOctets (offset : Nat) (mask : List Byte) (f : List Byte) : Option (List Byte) :=
  let at_ := ((List.range 128).filter (fun i => bit (mask.getD (i / 8) 0).toNat (i % 8))).map (fun i => offset + i)
  if at_.isEmpty || at_.any (fun i => decide (f.length ≤ i)) then none else some (at_.map (fun i => f.getD i 0))

/-- Filters that match a frame: CRC-16 with polynomial 0x1021 and initial value 0xFFFF (R252). -/
def wakeMatches (s : State) (f : List Byte) : List Nat :=
  (List.range 8).filter (fun n =>
    s.on (ix Obj.WAKE_ENABLE n) &&
    (match selectedOctets (s.rdN (ix Obj.WAKE_OFFSET n)) (s.rdB (ix Obj.WAKE_MASK n)) f with
      | some bs => crc 16 0x1021 0xFFFF bs == s.rdN (ix Obj.WAKE_CRC n)
      | none => false))

end Machine
end Sys2Proof
end

