-- ==== Sys2Proof/Machine/Swiska.lean ====
section
/-! DEFINITION. Swiska ports (R259 to R294): training, markers, idle and bulk blocks, pick assignment, eye quality, loopback,
and audio cuts. -/

namespace Sys2Proof
namespace Machine

/-! ## Ports and lanes -/

/-- A lane and a port that hold nothing yet. -/
def noLane : Lane := ⟨0, 0, 0, [0, 0, 0], 0, [0, 0, 0], 0⟩
def noLink : Link :=
  { grantAt := 0, failed := false, locked := [], heardAt := 0, agreedAt := 0, partnerReady := false, lanes := [], txPrecode := 0, failedAt := 0,
    downAt := 0, askAt := 0, count := 0, departed := [], arrived := (0, 0), hops := 0, timeDiff := 0, coincide := false, decided := false,
    failRun := 0, rate := 1, guest := 0, async := false, stored := [], prbs := [], prbsOut := [], atPick := 0, queue := [], slot := 0, period := 0,
    idleAt := 0 }
/-- Port p beside its objects. -/
def State.link (s : State) (p : Nat) : Link := s.links.getD p noLink
/-- Changes it. -/
def State.setLink (s : State) (p : Nat) (f : Link → Link) : State := { s with links := setAt s.links p (f (s.link p)) }
/-- Lane l of port p. -/
def State.lane (s : State) (p l : Nat) : Lane := (s.link p).lanes.getD l noLane
/-- Changes it. -/
def State.setLane (s : State) (p l : Nat) (f : Lane → Lane) : State :=
  s.setLink p (fun x => { x with lanes := setAt ((x.lanes ++ List.replicate 4 noLane).take 4) l (f (x.lanes.getD l noLane)) })
/-- Key of an object of a lane. -/
def laneKey (k p l : Nat) : Nat := ix k (4 * p + l)
/-- SW_STATE of port p. -/
def State.swState (s : State) (p : Nat) : Nat := s.rdN (ix Obj.SW_STATE p)
/-- Sets it. -/
def State.setSw (s : State) (p v : Nat) : State :=
  let s' := s.wr (ix Obj.SW_STATE p) v
  if s.rdN (ix Obj.SW_STATE p) = 5 ∧ v ≠ 5 then sourceLost s' 2 p else s'
/-- Whether a port is trained. -/
def State.trained (s : State) (p : Nat) : Bool := s.swState p == 5
/-- The own LOOM_ID. -/
def State.loomId (s : State) : Nat := s.rdN Obj.LOOM_ID
/-! ## Sending blocks (R259, R261, R266) -/

/-- Blocks per second of the four lanes of a port (R259, R274). -/
def slotRate (s : State) (p : Nat) : Nat := if s.on (ix Obj.SW_FEC_ACTIVE p) then 103652656 else 110592000

/-- The block slot of a port that has begun. -/
def slotNow (s : State) (p : Nat) : Nat := s.clock.now * slotRate s p / 1000000000

/-- The waiting block that is sent next: the lowest priority number, then the oldest (R266). -/
def nextBlock (q : List (Nat × Nat × BitVec 1024)) : Option (Nat × Nat × BitVec 1024) :=
  match q with
  | [] => none
  | e :: r => some (r.foldl (fun best g => if g.1 < best.1 then g else best) e)

/-- A block is sent in its slot: consecutive slots go to lanes 0, 1, 2, 3, 0 and so on (R266). -/
def startBlock (p : Nat) (s : State) (e : Nat × Nat × BitVec 1024) : State :=
  let slot := max (s.link p).slot e.2.1
  (s.setLink p (fun x => { x with queue := x.queue.erase e, slot := slot + 1 })).emit (.block p (slot % 4) e.2.2)

/-- Sends the blocks whose slots have come. -/
def servePort (p : Nat) : Nat → State → State
  | 0, s => s
  | n + 1, s =>
    match nextBlock (s.link p).queue with
    | none => s
    | some e => if max (s.link p).slot e.2.1 ≤ slotNow s p then servePort p n (startBlock p s e) else s

/-- Sends the blocks of a port whose slots have come; a block that has started is always finished. -/
def State.serveSwiska (s : State) (p : Nat) : State := servePort p (s.link p).queue.length s

/-- A block joins the queue of a port at a priority (R266). -/
def State.sendBlock (s : State) (p prio : Nat) (b : BitVec 1024) : State :=
  let s := s.serveSwiska p
  (s.setLink p (fun x => { x with queue := x.queue ++ [(prio, slotNow s p, b)] })).serveSwiska p

/-- Counts a block that the receiver discards (R265). -/
def badBlock (s : State) (p : Nat) : State := s.bump (ix Obj.SW_CRC_ERRORS p)

/-- Forwarded-clock cycles in ns: 1.769472 GHz (R259, R269). -/
def cyclesNs (c : Nat) : Nat := roundNat (c * 1000000) 1769472
/-- Forwarded-clock cycles of a time in ns. -/
def nsCycles (ns : Nat) : Nat := ns * 1769472 / 1000000

/-! ## Training (R275 to R282) -/

/-- Taps of a preset (R275). -/
def presetTaps (n : Nat) : List Nat := match n with | 1 => [0, 63, 0] | 3 => [6, 45, 12] | 4 => [8, 39, 16] | _ => [4, 51, 8]

/-- The transmit taps of a lane. -/
def taps (s : State) (p l : Nat) : List Nat :=
  [s.rdN (laneKey Obj.SW_LANE_TX_PRE p l), s.rdN (laneKey Obj.SW_LANE_TX_MAIN p l), s.rdN (laneKey Obj.SW_LANE_TX_POST p l)]

/-- Sets the transmit taps of a lane. -/
def setTaps (s : State) (p l : Nat) (c : List Nat) : State :=
  ((s.wr (laneKey Obj.SW_LANE_TX_PRE p l) (c.getD 0 0)).wr (laneKey Obj.SW_LANE_TX_MAIN p l) (c.getD 1 0)).wr
    (laneKey Obj.SW_LANE_TX_POST p l) (c.getD 2 0)

/-- Applies one tap request: 1 up, 2 down; answers the taps and the status code (R277). -/
def tapStep (c : List Nat) (i code : Nat) : List Nat × Nat :=
  let v := c.getD i 0
  if code = 1 then (if 63 < c.sum + 1 || 63 ≤ v then (c, 3) else (setAt c i (v + 1), 1))
  else if code = 2 then (if v = 0 then (c, 2) else (setAt c i (v - 1), 1))
  else (c, 0)

/-- Step 0 of R279: the forwarded clock starts and leave of 6 units is asked for (R280). -/
def swStart (s : State) (p : Nat) : State :=
  let s := s.setLink p (fun x => { noLink with
    count := x.count, departed := x.departed, rate := x.rate, stored := x.stored, lanes := List.replicate 4 noLane })
  let s := s.each [0, 1, 2, 3] (fun s l => setTaps s p l (presetTaps (s.rdN (ix Obj.SW_TX_PRESET p))))
  let s := (s.setSw p 1).emit (.pin "SW_TXCK" p 1)
  if s.asking 2 p || s.granted 2 p then s else s.askLeave 2 6 p

/-- A port switched off: it stops at once and its leave is released. -/
def swStop (s : State) (p : Nat) : State :=
  ((s.release 2 p).setLink p (fun x => { noLink with count := x.count, stored := x.stored })).setSw p 0

/-- The grant of leave for training reaches its port at a batten (R280). -/
def swGranted (s : State) (p : Nat) : State :=
  if s.granted 2 p && (s.link p).grantAt = 0 && s.swState p = 1 then s.setLink p (fun x => { x with grantAt := s.clock.now }) else s

/-- A refused request asks again 1 s later (R280). -/
def swRefused (s : State) (p : Nat) : State := s.setLink p (fun x => { x with askAt := s.clock.now + 1000000000 })

/-- Asks again when the second has passed (R280). -/
def swAskAgain (s : State) (p : Nat) : State :=
  let x := s.link p
  if x.askAt ≠ 0 && x.askAt ≤ s.clock.now && s.swState p = 1 then (s.setLink p (fun x => { x with askAt := 0 })).askLeave 2 6 p else s

/-- A step of training fails (R279): SW_TRAIN_FAILED follows. -/
def stepFails (s : State) (p : Nat) : State := s.setLink p (fun x => { x with failed := true })

/-- SW_CLOCK_LOCK (R261, R279 step 1): the partner's forwarded clock and its offset; beyond 200 ppm the link does not come up. -/
def execSwClockLock (t : Nat) (port : Fin 6) (ppb : Int) (s : State) : Result :=
  let s := s.at_ t
  let p := port.val
  .next (s.whenever (decide (s.swState p ≠ 0) && decide (s.swState p ≠ 7)) (fun s =>
    let s := s.wr (ix Obj.SW_FREQ_PPB p) ppb
    if s.swState p = 1 && (s.link p).grantAt ≠ 0 then
      (if 200000 < ppb.natAbs then stepFails s p else s.setSw p 2)
    else s))

/-- SW_BLOCK_LOCK (R260, R272, R279 step 2): a lane has 64 valid sync headers; its place and polarity are shown. -/
def execSwBlockLock (t : Nat) (port : Fin 6) (lane : Fin 4) (phys : Nat) (inverted : Bool) (s : State) : Result :=
  let s := s.at_ t
  let p := port.val
  .next (s.whenever (s.swState p == 2) (fun s =>
    let s := s.wr (laneKey Obj.SW_LANE_PHYS p lane.val) (phys % 4 + (if inverted then 128 else 0) : Nat)
    s.setLink p (fun x => { x with locked := if x.locked.contains lane.val then x.locked else lane.val :: x.locked })))

/-- SW_MARKER_LOCK (R272, R279 step 5): once both ends are ready, deskew of the lanes within 64 UI, or SW_DESKEW_FAIL. -/
def execSwMarkerLock (t : Nat) (port : Fin 6) (skew : List Int) (s : State) : Result :=
  let s := s.at_ t
  let p := port.val
  .next (s.whenever (s.swState p == 3 && decide ((s.link p).agreedAt ≠ 0)) (fun s =>
    if skew.any (fun k => decide (64 < k.natAbs)) then (stepFails s p).raise Ev.SW_DESKEW_FAIL p
    else (s.each [0, 1, 2, 3] (fun s l => s.wr (laneKey Obj.SW_LANE_SKEW_UI p l) (skew.getD l 0))).setSw p 4))

/-- The body of a training block of a lane (R277). -/
def trainingBody (s : State) (p l loop : Nat) : Nat :=
  let x := s.lane p l
  let ready := [0, 1, 2, 3].all (fun n => decide (s.rdN Obj.SW_EQF_TRAINED ≤ s.rdN (laneKey Obj.SW_LANE_EQF p n)))
  let at_ := fun (v lo : Nat) => v * 2 ^ (lo - 32)
  at_ l 1012 + at_ (x.req.getD 0 0) 1010 + at_ (x.req.getD 1 0) 1008 + at_ (x.req.getD 2 0) 1006 +
  at_ (x.sts.getD 0 0) 1001 + at_ (x.sts.getD 1 0) 999 + at_ (x.sts.getD 2 0) 997 +
  at_ (s.rdN (laneKey Obj.SW_LANE_EQF p l)) 989 + at_ (x.step % 256) 981 + at_ (x.echo % 256) 973 +
  at_ (if ready then 1 else 0) 972 + at_ (if bit (s.rdN (ix Obj.SW_PRECODE p)) l then 1 else 0) 971 +
  at_ (s.rdN (ix Obj.SW_FEC p)) 970 + at_ (loop % 4) 968 + at_ (s.loomId % 65536) 952

/-- Sends a training block of a lane. -/
def sendTraining (s : State) (p l loop : Nat) : State := s.sendBlock p 2 (makeBlock 2 0x04 (trainingBody s p l loop))

/-- A new request on a lane whose codes the receiver's equalizer chooses: a free value (R276, R277). -/
def newRequest (s : State) (p l : Nat) : State :=
  let (v, s) := s.draw
  let c := (v % 27).toNat
  s.setLane p l (fun x => { x with
    step := (x.step + 1) % 256, askedAt := s.clock.now, repeats := 0, req := [c % 3, c / 3 % 3, c / 9 % 3] })

/-- SW_TRAIN_STEP_TIMEOUT (R278): a request unanswered for 1 ms is repeated with its STEP; eight in a row fail. -/
def execSwTrainStepTimeout (t : Nat) (port : Fin 6) (lane : Fin 4) (s : State) : Result :=
  let s := s.at_ t
  let p := port.val
  let x := s.lane p lane.val
  .next (s.whenever (s.swState p == 3 && decide (x.askedAt ≠ 0) && s.overdue (x.askedAt + 1000000)) (fun s =>
    let s := s.setLane p lane.val (fun x => { x with askedAt := s.clock.now, repeats := x.repeats + 1 })
    if 8 ≤ x.repeats + 1 then stepFails s p else sendTraining s p lane.val 0))

/-- Whether the present step of training has overrun its time (R279): step 1 counts from the grant, later steps not before the first training
block (R280), step 5 from the end of step 4. The wait for the next marker has no time of its own. -/
def stepLate (s : State) (p : Nat) : Bool :=
  let x := s.link p
  let since := fun (at_ ns : Nat) => decide (at_ ≠ 0) && s.overdue (at_ + ns)
  let base := if x.heardAt = 0 then 0 else max x.grantAt x.heardAt
  match s.swState p with
  | 1 => since x.grantAt 1000000
  | 2 => since base (if 4 ≤ x.locked.length then 3000000 else 2000000)
  | 3 => if x.agreedAt = 0 then since base (s.rdN Obj.SW_TRAIN_TIMEOUT_MS * 1000000) else since x.agreedAt 1300000
  | _ => false

/-- SW_TRAIN_FAILED (R279): a step failed or overran its time. -/
def execSwTrainFailed (t : Nat) (port : Fin 6) (s : State) : Result :=
  let s := s.at_ t
  let p := port.val
  .next (s.whenever (decide (1 ≤ s.swState p) && decide (s.swState p ≤ 4) && ((s.link p).failed || stepLate s p)) (fun s =>
    (((s.release 2 p).setLink p (fun x => { x with
      failed := false, grantAt := 0, heardAt := 0, agreedAt := 0, failedAt := s.clock.now, queue := [] })).setSw p 7).raise
        Ev.SW_TRAIN_FAILED p))

/-- SW_TRAIN_RETRY (R279): 1 s after a failure, from step 0. -/
def execSwTrainRetry (t : Nat) (port : Fin 6) (s : State) : Result :=
  let s := s.at_ t
  let p := port.val
  .next (s.whenever (s.swState p == 7 && s.on (ix Obj.SW_ENABLE p) && s.ran (s.link p).failedAt 1000000000) (fun s => swStart s p))

/-- The link goes down (R282): counted and raised; received streams underrun from their next read. -/
def linkDown (s : State) (p : Nat) : State :=
  let s := (s.release 2 p).release 2 (16 + p)
  let s := s.setLink p (fun x => { noLink with
    downAt := s.clock.now, count := x.count, departed := x.departed, rate := x.rate, stored := x.stored,
    queue := x.queue.filter (fun e => e.1 == 2), slot := x.slot })
  ((s.setSw p 1).bump (ix Obj.SW_DOWN_COUNT p)).raise Ev.SW_LINK_DOWN p

/-- SW_LINK_DOWN (R282): clock lock, sync headers, markers or skew of a trained link fail. -/
def execSwLinkDown (t : Nat) (port : Fin 6) (c : LinkCause) (s : State) : Result :=
  let s := s.at_ t
  let p := port.val
  let observed := match c with
    | .clock => true | .headers => true | .markers => true | .skew => true | .loopRequest => false | .retrain => false
  .next (s.whenever (observed && s.trained p) (fun s => linkDown s p))

/-- TRAINING_RESTART (R282): 10 ms after the link went down, training starts again. -/
def execTrainingRestart (t : Nat) (port : Fin 6) (s : State) : Result :=
  let s := s.at_ t
  let p := port.val
  .next (s.whenever (s.on (ix Obj.SW_ENABLE p) && decide ((s.link p).downAt ≠ 0) && s.ran (s.link p).downAt 10000000 &&
      s.rdN (ix Obj.SW_LOOPBACK p) == 0) (fun s => swStart s p))

/-- Tap requests and presets of a training block are carried out and answered (R277). -/
def answerRequests (s : State) (p : Nat) (b : BitVec 1024) : State :=
  let l := blockBits b 1013 1012
  let preset := blockBits b 1005 1003
  let step := blockBits b 988 981
  if step = (s.lane p l).echo && step ≠ 0 then s
  else
    let c0 := if 1 ≤ preset && preset ≤ 4 then presetTaps preset else taps s p l
    let a := tapStep c0 0 (blockBits b 1011 1010)
    let m := tapStep a.1 1 (blockBits b 1009 1008)
    let z := tapStep m.1 2 (blockBits b 1007 1006)
    (setTaps s p l z.1).setLane p l (fun x => { x with echo := step, sts := [a.2, m.2, z.2] })

/-- The first training block of step 3: identity, FEC agreement, and stored or preset taps (R273, R279, R281). -/
def firstTraining (s : State) (p : Nat) (b : BitVec 1024) : State :=
  let loom := blockBits b 967 952
  let fec := s.on (ix Obj.SW_FEC p) && blockBits b 970 970 == 1
  let s := (s.wr (ix Obj.SW_PARTNER_LOOM p) loom).wr (ix Obj.SW_FEC_ACTIVE p) (if fec then 1 else 0)
  let s := if loom ≠ 0 && s.rdN (ix Obj.SW_EQ_STORED_LOOM p) = loom then
      s.each [0, 1, 2, 3] (fun s l => setTaps s p l ((s.link p).stored.getD l (taps s p l))) else s
  (s.setLink p (fun x => { x with slot := 0, period := 0, idleAt := 0 })).setSw p 3

/-- A training block whose LOOP field asks for, answers or ends a loopback (R292, R293). -/
def loopField (s : State) (p : Nat) (b : BitVec 1024) : State :=
  let loop := blockBits b 969 968
  let mine := s.rdN (ix Obj.SW_LOOPBACK p)
  if mine = 3 && loop = 3 then s.setSw p 6
  else if mine = 3 && loop = 0 && s.swState p ≠ 6 && (s.link p).downAt ≠ 0 then
    (s.wr (ix Obj.SW_LOOPBACK p) 0).raise Ev.SW_LOOP_REFUSED p
  else if loop = 1 && s.trained p then linkDown s p
  else if loop = 2 then
    let s := if s.trained p then linkDown s p else s
    if s.on (ix Obj.SW_FAR_LOOP_ALLOW p) then (sendTraining s p (blockBits b 1013 1012) 3).setSw p 6
    else sendTraining s p (blockBits b 1013 1012) 0
  else if mine = 0 && loop = 0 && s.swState p = 6 then swStart s p
  else s

/-- TRAINING_BLOCK (R263, R277, R279 steps 3 and 4): requests are carried out and answered; with both ends ready training goes
on to marker lock. -/
def execTrainingBlock (t : Nat) (port : Fin 6) (block : BitVec 1024) (s : State) : Result :=
  let s := s.at_ t
  let p := port.val
  .next (s.whenever (decide (s.swState p ≠ 0)) (fun s =>
    if !isBlock 0x04 block then badBlock s p
    else
      let l := blockBits block 1013 1012
      let s := s.setLink p (fun x => { x with heardAt := if x.grantAt ≠ 0 && x.heardAt = 0 then s.clock.now else x.heardAt })
      let s := loopField s p block
      let s := s.setLink p (fun x => { x with txPrecode := setBit x.txPrecode l (blockBits block 971 971 == 1) })
      let s := if s.swState p = 2 && 4 ≤ (s.link p).locked.length then firstTraining s p block else s
      if s.swState p = 3 && (s.link p).agreedAt = 0 then
        let s := answerRequests s p block
        let s := if blockBits block 980 973 = (s.lane p l).step && (s.lane p l).askedAt ≠ 0 then
            s.setLane p l (fun x => { x with askedAt := 0, repeats := 0, req := [0, 0, 0] }) else s
        let s := s.setLink p (fun x => { x with partnerReady := blockBits block 972 972 == 1 })
        let ready := [0, 1, 2, 3].all (fun n => decide (s.rdN Obj.SW_EQF_TRAINED ≤ s.rdN (laneKey Obj.SW_LANE_EQF p n)))
        let s := if !ready && (s.lane p l).askedAt = 0 then newRequest s p l else s
        let s := sendTraining s p l 0
        if ready && (s.link p).partnerReady then s.setLink p (fun x => { x with agreedAt := max 1 s.clock.now }) else s
      else s))

/-! ## Markers (R269 to R271, R279 step 6) -/

/-- The spare budget offered to guests in 1,000 lane-operations per pick: within OVERFLOW_GUEST_PERMILLE of the capacity and within
what is free (R126, R267). -/
def guestOffer (s : State) : Nat :=
  let cap := s.rdN Obj.PLACE_CAPACITY
  let guests := s.rdN Obj.OVERFLOW_GUEST_LOAD
  min (cap * s.rdN Obj.OVERFLOW_GUEST_PERMILLE / 1000 - guests) (cap - s.rdN Obj.PLACE_LOAD) / 1000

/-- The idle block that carries the own reference and identity (R154, R267). -/
def idleBlock (s : State) : BitVec 1024 :=
  let at_ := fun (v lo : Nat) => v * 2 ^ (lo - 32)
  makeBlock 2 0x00 (at_ (s.rdN Obj.REF_ADVERTISED % 256) 1006 + at_ (s.ref.advHop % 256) 998 + at_ (s.ref.advUpstream % 65536) 982 +
    at_ (s.loomId % 65536) 966 + at_ (s.rdN Obj.ENGINE_RATE_RUNNING % 16) 962 + at_ (guestOffer s % 65536) 946)

/-- In every 4,096 blocks of each lane at least one idle block (R261): a group of four is queued at its priority when it is due. -/
def idleDue (s : State) (p : Nat) : State :=
  let k := slotNow s p / 16384
  if s.trained p && decide ((s.link p).idleAt ≤ k) then
    (s.setLink p (fun x => { x with idleAt := k + 1 })).each [0, 1, 2, 3] (fun s _ => s.sendBlock p 5 (idleBlock s))
  else s

/-- The PRBS31 bits that follow a state, as a number with the first bit highest, and the state after them. -/
def prbsOutBits : Nat → Nat → Nat → Nat × Nat
  | 0, st, a => (a, st)
  | n + 1, st, a =>
    let st' := st * 2 % 2 ^ 31 + (st / 2 ^ 30 + st / 2 ^ 27) % 2
    prbsOutBits n st' (2 * a + st' % 2)

/-- Test-pattern blocks of the lanes in loopback, each lane going on in its PRBS31 (R292). -/
def sendPatterns (s : State) (p : Nat) : State :=
  let states := if (s.link p).prbsOut.isEmpty then [1, 1, 1, 1] else (s.link p).prbsOut
  let made := states.map (fun st => prbsOutBits 982 st 0)
  let s := s.setLink p (fun x => { x with prbsOut := made.map (fun m => m.2) })
  s.each made (fun s m => s.sendBlock p 6 (makeBlock 1 0x0F m.1))

/-- ALIGNMENT_MARKER_TX (R269): at the start of each period of 16,384 blocks each lane sends its marker; in loopback test patterns follow
(R292). -/
def execAlignmentMarkerTx (t : Nat) (port : Fin 6) (s : State) : Result :=
  let s := s.at_ t
  let p := port.val
  let x := s.link p
  let k := slotNow s p / 65536
  let runs := decide (s.swState p ≠ 0) && decide (s.swState p ≠ 7) && (decide (x.grantAt ≠ 0) || decide (5 ≤ s.swState p))
  .next (s.whenever (runs && decide (x.period ≤ k)) (fun s =>
    let s := s.serveSwiska p
    let since := s.engineNs - s.battenNs s.clock.pick
    let hold := if x.arrived.2 = 0 then 0 else nsCycles (s.clock.now - x.arrived.2)
    let fill := (List.range 747).foldl (fun (a : Nat) i => a + (if i % 4 = 0 then 2 ^ (746 - i) else 0)) 0
    let at_ := fun (v lo : Nat) => v * 2 ^ (lo - 32)
    let body := fun (l : Nat) => at_ 0x5AC30F96A53CF069 950 + at_ l 948 + at_ (s.loomId % 65536) 932 + at_ (x.count % 65536) 916 +
      at_ s.clock.pick 852 + at_ (nsCycles since % 2 ^ 20) 832 + at_ (x.arrived.1 % 65536) 816 + at_ (hold % 2 ^ 32) 784 +
      at_ (s.rdN Obj.ENGINE_RATE_RUNNING) 780 + at_ (s.rdN (ix Obj.SW_FEC_ACTIVE p)) 779 + fill
    let s := s.each [0, 1, 2, 3] (fun s l => s.emit (.block p l (makeBlock 2 0x7E (body l))))
    let s := s.setLink p (fun x => { x with
      period := k + 1, slot := (max x.slot (65536 * k) + 3) / 4 * 4 + 4,
      count := (x.count + 1) % 65536, departed := ((x.count % 65536, s.clock.now) :: x.departed).take 64 })
    if s.swState p = 6 && s.rdN (ix Obj.SW_LOOPBACK p) ≠ 0 then sendPatterns s p else idleDue s p))

/-- Trained state (R279 step 6, R281): taps and partner are stored, leave is released. -/
def enterTrained (s : State) (p : Nat) : State :=
  let s := s.release 2 p
  let s := s.setLink p (fun x => { x with
    grantAt := 0, heardAt := 0, agreedAt := 0, hops := 0, decided := false, failRun := 0, downAt := 0, stored := [0, 1, 2, 3].map (fun l => taps s p l) })
  let s := s.wr (ix Obj.SW_EQ_STORED_LOOM p) (s.rd (ix Obj.SW_PARTNER_LOOM p))
  let s := s.each [0, 1, 2, 3] (fun s l => s.wr (laneKey Obj.SW_LANE_EQF_MIN p l) 255)
  ((s.setSw p 5).bump (ix Obj.SW_TRAIN_COUNT p)).raise Ev.SW_LINK_UP p

/-- The measurements of a marker on a trained link (R270, R271, R290). -/
def markerMeasure (s : State) (p : Nat) (b : BitVec 1024) : State :=
  let x := s.link p
  let rate := blockBits b 783 780
  let fec := s.on (ix Obj.SW_FEC_ACTIVE p)
  let s := s.setLink p (fun x => { x with arrived := (blockBits b 931 916, s.clock.now), rate := rate })
  let s := match x.departed.find? (fun d => d.1 == blockBits b 831 816) with
    | some d =>
      let rt := s.clock.now - d.2 - cyclesNs (blockBits b 815 784)
      let wire := rt / 2
      let partner := s.battenNs (blockBits b 915 852) + cyclesNs (blockBits b 851 832) + wire
      let diff := (partner : Int) - s.engineNs
      let hop := wire + (if fec then 1700 else 1200)
      let good := decide (diff.natAbs ≤ 100) && rate == s.rdN Obj.ENGINE_RATE_RUNNING
      let added := !(good && decide (hop ≤ 5000))
      (s.setLink p (fun x => { x with
        hops := x.hops + 1, timeDiff := diff, coincide := good,
        atPick := if (!x.decided && x.hops < 2) || x.failRun < 8 then s.clock.pick else x.atPick,
        failRun := if x.decided && added != s.on (ix Obj.SW_PICK_ADDED p) then x.failRun + 1 else 0 })).wr (ix Obj.SW_HOP_NS p) hop
    | none => s
  let off := decide (10000 < (s.rd (ix Obj.SW_FREQ_PPB p)).natAbs)
  let s := if off && !(s.link p).async then s.raise Ev.SW_NOT_SYNCHRONOUS p else s
  s.setLink p (fun x => { x with async := off })

/-- What the decoder met in the marker period that ends (R274): corrected bytes and uncorrectable codewords. -/
def fecReport (s : State) (p corrected failed : Nat) : State :=
  if s.on (ix Obj.SW_FEC_ACTIVE p) then (s.bump (ix Obj.SW_FEC_CORRECTED p) corrected).bump (ix Obj.SW_FEC_UNCORRECTABLE p) failed else s

/-- ALIGNMENT_MARKER (R270, R274): the first one after deskew makes the port trained; later ones measure. -/
def execAlignmentMarker (t : Nat) (port : Fin 6) (block : BitVec 1024) (corrected failed : Nat) (s : State) : Result :=
  let s := s.at_ t
  let p := port.val
  .next (s.whenever (decide (2 ≤ s.swState p)) (fun s =>
    let s := fecReport s p corrected failed
    if !isBlock 0x7E block then badBlock s p
    else
      let s := if s.swState p = 4 then enterTrained s p else s
      if s.trained p then markerMeasure s p block else s))

/-- Whether a pick is added to paths from a port: its hop exceeds 5 us or the battens do not coincide (R36, R271). -/
def pickAdded (s : State) (p : Nat) : Bool := !((s.link p).coincide && decide (s.rdN (ix Obj.SW_HOP_NS p) ≤ 5000))

/-- SW_PICK_DECIDE (R36, R271, R279 step 7): at the first batten with two hop measurements. -/
def execSwPickDecide (t : Nat) (port : Fin 6) (s : State) : Result :=
  let s := s.at_ t
  let p := port.val
  .next (s.whenever (s.trained p && !(s.link p).decided && decide (2 ≤ (s.link p).hops) && decide ((s.link p).atPick < s.clock.pick)) (fun s =>
    let added := pickAdded s p
    let s := (s.setLink p (fun x => { x with decided := true, failRun := 0 })).wr (ix Obj.SW_PICK_ADDED p) (if added then 1 else 0)
    if added then s.raise Ev.LINK_PICK_ADDED p else s))

/-! ## Receive streams of audio cuts (R286 to R289) -/

/-- A receive stream without history. -/
def noCuts : CutStream := ⟨none, [], [], [], 0⟩
/-- Receive stream m beside its objects. -/
def State.cutsOf (s : State) (m : Nat) : CutStream := s.cuts.getD m noCuts
/-- Changes it. -/
def State.setCuts (s : State) (m : Nat) (f : CutStream → CutStream) : State := { s with cuts := setAt s.cuts m (f (s.cutsOf m)) }
/-- Key of sub-index n of receive stream m. -/
def cutKey (m n : Nat) : Nat := ix Obj.SW_RX_ENABLE m - 1 + n

/-- A stream mutes by the two steps of R206 and returns with a 20 ms fade-in (R271, R294). -/
def cutMute (s : State) (m : Nat) : State :=
  let sources := (s.io.lasts.map (fun e => e.1)).filter (fun i => idKind i == 5 && idUnit i == m)
  let s := s.each sources (fun s src =>
    (s.warpPut src (s.sampleNow + 1) (scale (s.lastOf src) (unity / 2))).setLast src 0)
  s.setCuts m (fun _ => { noCuts with fadeAt := s.sampleNow + 2 })

/-- SW_PICK_CHANGED (R271): the condition of the decision failed at 8 consecutive markers. -/
def execSwPickChanged (t : Nat) (port : Fin 6) (s : State) : Result :=
  let s := s.at_ t
  let p := port.val
  .next (s.whenever (s.trained p && (s.link p).decided && decide (8 ≤ (s.link p).failRun) && decide ((s.link p).atPick < s.clock.pick)) (fun s =>
    let added := !s.on (ix Obj.SW_PICK_ADDED p)
    let s := (s.setLink p (fun x => { x with failRun := 0 })).wr (ix Obj.SW_PICK_ADDED p) (if added then 1 else 0)
    let fed := (List.range 64).filter (fun m => s.on (cutKey m 1) && bit (s.rdN (cutKey m 2)) p)
    let s := s.each fed cutMute
    let s := if added then s.raise Ev.LINK_PICK_ADDED p else s
    s.raise Ev.SW_PICK_CHANGED p))

/-- Whether a stream reads with a pick added: on every port when its ports differ (R289). -/
def streamAdded (s : State) (m : Nat) : Bool :=
  (bitsOf (s.rdN (cutKey m 2)) 6).any (fun p => s.trained p && s.on (ix Obj.SW_PICK_ADDED p))

/-- The instant of sample k of a stream in a warp group, in engine ns: the largest hop of its trained ports after k / fs (R289). -/
def cutInstant (s : State) (m k : Nat) : Nat :=
  s.sampleNs k + ((bitsOf (s.rdN (cutKey m 2)) 6).filter s.trained).foldl (fun a p => max a (s.rdN (ix Obj.SW_HOP_NS p))) 0

/-- The warp-beam position of sample number k of a stream (R289): its pick, or the following one; in a warp group after the
largest hop and the group's D. -/
def cutPosition (s : State) (m k : Nat) : Nat :=
  match memberOf s 5 m with
  | some (g, _) => groupRead s g (cutInstant s m k)
  | none => if streamAdded s m then k + s.pl else k

/-- The read instant of a position in engine ns: the batten that closes its pick, or its own instant in a warp group. -/
def cutReadNs (s : State) (m pos : Nat) : Nat :=
  if (memberOf s 5 m).isSome then s.sampleNs pos else s.battenNs (pos / s.pl + 1)

/-- The receive stream that accepts a cut from a port (R287). -/
def streamFor (s : State) (p stream loom : Nat) : Option Nat :=
  (List.range 64).find? (fun m =>
    let a := s.rdN (cutKey m 5)
    let b := s.rdN (cutKey m 6)
    s.on (cutKey m 1) && bit (s.rdN (cutKey m 2)) p && s.rdN (cutKey m 3) == stream &&
    ((a == 0 && b == 0) || (loom != 0 && (loom == a || loom == b))))

/-- Keeps, replaces or discards a cut in the record of its stream (R246, R247, R250, R288). -/
def keepCut (s : State) (p m : Nat) (b : BitVec 1024) : State :=
  let raw := blockBits b 1013 982
  let seq := extend32 s.sampleNow raw
  let chan := blockBits b 951 940
  let degraded := blockBits b 957 957 == 1
  let n := min 24 (blockBits b 956 952)
  let samples := (List.range n).map (fun j => signed 36 (blockBits b (895 - 36 * j) (860 - 36 * j)))
  let x := s.cutsOf m
  let late := past s.engineNs (cutReadNs s m (cutPosition s m seq))
  let cut : Cut := ⟨seq, chan, degraded, p, s.clock.now, samples⟩
  let same := fun (c : Cut) => c.seq == seq && c.chan == chan
  let behind := match x.high with | some h => decide (seq + 63 < h) | none => false
  if behind then s.bump (cutKey m 0x0B)
  else match x.kept.find? same with
    | some c =>
      let better := !late && ((c.degraded && !degraded) || (c.degraded == degraded && c.stamp == s.clock.now && decide (p < c.port)))
      let s := s.bump (cutKey m 9)
      if better then s.setCuts m (fun x => { x with kept := change x.kept same (fun _ => cut) }) else s
    | none =>
      if late then s.bump (cutKey m 0x0B)
      else
        let high := max seq (x.high.getD seq)
        let s := s.setCuts m (fun x => { x with
          high := some high, kept := (x.kept ++ [cut]).filter (fun c => decide (high < c.seq + 64 + 2 * s.pl)) })
        let s := if s.rdN (cutKey m 7) = 1 then (fixPhase s 5 m (cutInstant s m seq)).wr (cutKey m 7) 2 else s
        let s := match memberOf s 5 m with | some (g, n) => noteMargin s g n (cutInstant s m seq) | none => s
        s.bump (cutKey m 8)

/-- AUDIO_CUT (R287, R288): a received cut is matched to a stream. -/
def execAudioCut (t : Nat) (port : Fin 6) (block : BitVec 1024) (s : State) : Result :=
  let s := s.at_ t
  let p := port.val
  .next (s.whenever (s.trained p) (fun s =>
    if !isBlock 0x01 block then badBlock s p
    else match streamFor s p (blockBits block 965 958) (blockBits block 981 966) with
      | none => s
      | some m =>
        if (s.link p).rate ≠ s.rdN Obj.ENGINE_RATE_RUNNING then (s.bump (cutKey m 0x0A)).raise Ev.SW_RATE_MISMATCH p
        else keepCut s p m block))

/-- A received sample through the fade-in of its stream (R294). -/
def cutFade (s : State) (m pos : Nat) (v : Int) : Int :=
  let at_ := (s.cutsOf m).fadeAt
  if at_ = 0 then v else if pos < at_ then 0 else fadeGain (pos + 1 - at_) (fade20 s) v

/-- Reads one position of a stream: its cuts, or concealment of the cuts that are missing (R220, R288). A stream of a warp group that
has no cut at all is concealed by its group. -/
def readCutAt (s : State) (m pos : Nat) : State :=
  let x := s.cutsOf m
  let chans := s.rdN (cutKey m 4)
  let group := memberOf s 5 m
  let here := x.kept.filter (fun c => cutPosition s m c.seq == pos)
  let fade := cutFade s m pos
  if x.high.isNone then s
  else
    let all := List.range ((chans + 23) / 24)
    let missing := all.filter (fun c => !here.any (fun k => k.chan == 24 * c))
    let own := group.isNone || !here.isEmpty
    let gains := all.map (fun c =>
      let g := mapGetD x.gains c 32
      (c, if !missing.contains c then min 32 (g + 1) else if x.under.contains c then g - 1 else g))
    let gain := fun (c : Nat) => mapGetD gains c 32
    let put := fun (s : State) (src : Nat) (y : Int) (degraded : Bool) =>
      match group with
      | some (g, n) => s.await ⟨src, g * 32 + n, pos, y, degraded⟩
      | none => s.warpPut src pos y degraded
    let s := s.each here (fun s c => s.each ((List.range c.samples.length).zip c.samples) (fun s v =>
      if chans ≤ c.chan + v.1 then s
      else
        let src := endpoint 5 m (c.chan + v.1)
        put (s.setLast src v.2) src (conceal (gain (c.chan / 24)) (fade v.2)) c.degraded))
    let s := if !own then s
      else s.each (missing.flatMap (fun c => (List.range 24).map (fun j => (c, 24 * c + j)))) (fun s h =>
        let src := endpoint 5 m h.2
        if chans ≤ h.2 then s else put s src (conceal (gain h.1) (fade (s.lastOf src))) false)
    let s := s.bump (cutKey m 0x0A) missing.length
    let s := if own && !missing.isEmpty then s.flag 5 else s
    let s := s.bump (cutKey m 0x0C) (here.filter (fun c => c.degraded)).length
    let rest := x.kept.filter (fun c => cutPosition s m c.seq != pos)
    let s := s.setCuts m (fun x => if own then { x with gains := gains.filter (fun e => e.2 != 32), under := missing, kept := rest }
                                   else { x with kept := rest })
    let s := if own && !missing.isEmpty && x.under.isEmpty then s.raise Ev.WG_UNDERRUN (5 * 256 + m) else s
    s.wr (cutKey m 7) (if missing.isEmpty && all.all (fun c => gain c == 32) then 2 else 3)

/-- The positions of the pick that a batten closes are read for every enabled stream outside warp groups (R289). -/
def readCuts (s : State) (pick : Nat) : State :=
  s.each ((List.range 64).filter (fun m => s.on (cutKey m 1) && (memberOf s 5 m).isNone)) (fun s m =>
    s.each (List.range s.pl) (fun s i => readCutAt s m (pick * s.pl + i)))

/-- Streams in warp groups are read at sample instants. -/
def readGroupCuts (s : State) : State :=
  s.each ((List.range 64).filter (fun m => s.on (cutKey m 1) && (memberOf s 5 m).isSome)) (fun s m => readCutAt s m s.sampleNow)

/-- SAMPLE_INSTANT (R219): every member of each warp group is read from the common window. Slips and missing frames of the ports show at the
same instants (R205, R206), and media receive streams, and Swiska streams in warp groups, are read at them (R242, R289). -/
def execSampleInstant (t : Nat) (s : State) : Result :=
  let s := s.at_ t
  .next (readGroups (readGroupCuts (readStreams (readPorts s))))

/-- A stream that starts or restarts (R294). -/
def restartCuts (s : State) (m : Nat) : State := (cutMute s m).wr (cutKey m 7) (if s.on (cutKey m 1) then 1 else 0)

/-- Whether an enabled receive stream would accept the same cuts as another (R287), with one object replaced. -/
def cutClash (s : State) (m key v : Nat) : Bool :=
  let get := fun (n sub : Nat) => if cutKey n sub = key then v else s.rdN (cutKey n sub)
  let any := fun (n : Nat) => get n 5 == 0 && get n 6 == 0
  get m 1 == 1 && (List.range 64).any (fun n => n != m && get n 1 == 1 && get n 3 == get m 3 &&
    decide (Nat.land (get n 2) (get m 2) % 64 ≠ 0) &&
    (any n || any m || [5, 6].any (fun a => [5, 6].any (fun b => get n a != 0 && get n a == get m b))))

/-! ## Transmit streams (R284, R285, R291) -/

/-- Key of sub-index n of transmit stream m. -/
def cutTxKey (m n : Nat) : Nat := ix Obj.SW_TX_ENABLE m - 1 + n

/-- An audio cut (R284). -/
def cutBlock (seq loom stream : Nat) (degraded : Bool) (chan : Nat) (samples : List Int) : BitVec 1024 :=
  let at_ := fun (v lo : Nat) => v * 2 ^ (lo - 32)
  makeBlock 1 0x01 (at_ (seq % 2 ^ 32) 982 + at_ (loom % 65536) 966 + at_ (stream % 256) 958 + at_ (if degraded then 1 else 0) 957 +
    at_ samples.length 952 + at_ chan 940 +
    (((List.range samples.length).zip samples).map (fun v => at_ (pattern 36 v.2) (860 - 36 * v.1))).sum)

/-- Whether cuts leave on a port: trained, LOOM_ID set, no LOOM_ID_CONFLICT on it (R8, R285). -/
def cutsLeave (s : State) (p : Nat) : Bool :=
  s.trained p && (s.link p).decided && s.loomId != 0 && !s.stands Ev.LOOM_ID_CONFLICT p

/-- Sends the cuts of one transmit stream for one sample: `value` gives each channel's sample and degraded mark. -/
def sendCuts (s : State) (m seq : Nat) (value : Nat → Int × Bool) : State :=
  let chans := s.rdN (cutTxKey m 4)
  let ports := (bitsOf (s.rdN (cutTxKey m 2)) 6).filter (cutsLeave s)
  s.each (List.range ((chans + 23) / 24)) (fun s c =>
    let cells := (List.range (min 24 (chans - 24 * c))).map (fun j => value (24 * c + j))
    let b := cutBlock seq s.loomId (s.rdN (cutTxKey m 3)) (cells.any (fun v => v.2)) (24 * c) (cells.map (fun v => v.1))
    (s.each ports (fun s p => s.sendBlock p 4 b)).bump (cutTxKey m 5))

/-- Audio load of a port in cuts per second, with one object of one stream replaced (R291). -/
def cutRate (s : State) (p key v : Nat) : Nat :=
  ((List.range 64).map (fun m =>
    let get := fun (n : Nat) => if cutTxKey m n = key then v else s.rdN (cutTxKey m n)
    if get 1 = 1 && bit (get 2) p then (get 4 + 23) / 24 * s.fs else 0)).sum
/-- Non-marker blocks per second of a port (R291). -/
def blockRate (s : State) (p : Nat) : Nat := if s.on (ix Obj.SW_FEC p) then 103646330 else 110585250
/-- Whether every port's audio load stays within SW_AUDIO_LIMIT_PERMILLE. -/
def loadFits (s : State) (key v : Nat) : Bool :=
  (List.range 6).all (fun p => decide (cutRate s p key v * 1000 ≤ s.rdN Obj.SW_AUDIO_LIMIT_PERMILLE * blockRate s p))
/-- Shows SW_AUDIO_LOAD of each port. -/
def showLoads (s : State) : State :=
  s.each (List.range 6) (fun s p => s.wr (ix Obj.SW_AUDIO_LOAD p) (cutRate s p 0 0 * 1000 / blockRate s p : Nat))

/-! ## Idle, bulk and test blocks (R267, R268, R292) -/

/-- IDLE_BLOCK (R8, R154, R155, R267): the partner's quality, hops, identity, rate and guest budget. -/
def execIdleBlock (t : Nat) (port : Fin 6) (block : BitVec 1024) (s : State) : Result :=
  let s := s.at_ t
  let p := port.val
  .next (s.whenever (s.trained p) (fun s =>
    if !isBlock 0x00 block then badBlock s p
    else
      let loom := blockBits block 981 966
      let hop := blockBits block 1005 998
      let up := blockBits block 997 982
      let q := swiskaQuality s.loomId (blockBits block 1013 1006) hop up
      let s := (s.wr (ix Obj.SW_PARTNER_LOOM p) loom).setLink p (fun x => { x with guest := blockBits block 961 946 })
      let ks := slots.filter (fun k => s.candType k == 2 && s.candUnit k == p)
      let s := s.each ks (fun s k => (s.setCand k (fun c => { c with hop := hop, upstream := up })).wr (ix Obj.REF_CAND_QUALITY k) q)
      s.level Ev.LOOM_ID_CONFLICT p p (loom != 0 && loom == s.loomId)))

/-- A written LOOM_ID may end a conflict on a link, or make one with the value that the partner last gave (R8). -/
def loomWritten (s : State) : State :=
  s.each (List.range 6) (fun s p =>
    let loom := s.rdN (ix Obj.SW_PARTNER_LOOM p)
    s.level Ev.LOOM_ID_CONFLICT p p (loom != 0 && loom == s.loomId))

/-- Joins a Hapol part of a bulk block: bits [31:8] of SEGMENT name the message, [7:0] the part (R346). A message with a part
missing goes when the next message number arrives. -/
def joinPart (s : State) (p seg : Nat) (bytes : List Byte) : State :=
  let msg := seg / 256
  let part := seg % 256
  let old := s.agent.joining.find? (fun j => j.1 == p && j.2.1 == msg)
  let rest := s.agent.joining.filter (fun j => j.1 != p)
  let parts := match old with | some j => j.2.2 | none => []
  if parts.length = part * 117 then { s with agent := { s.agent with joining := rest ++ [(p, msg, parts ++ bytes)] } }
  else { s with agent := { s.agent with joining := rest } }

/-- The octets of a bulk payload. -/
def bulkPayload (b : BitVec 1024) : List Byte := beBytes 117 (blockBits b 967 32)

/-- PRBS31 bits that follow a 31-bit state: x^31 + x^28 + 1. -/
def prbsNext (st : Nat) : Nat := st * 2 % 2 ^ 31 + (st / 2 ^ 30 + st / 2 ^ 27) % 2

/-- Counts the bits of a list that differ from the PRBS, and the state after them. -/
def prbsCheck : List Bool → Nat → Nat → Nat × Nat
  | [], st, n => (st, n)
  | b :: r, st, n => let st' := prbsNext st; prbsCheck r st' (if (st' % 2 == 1) == b then n else n + 1)

/-- Of two checks the one with fewer wrong bits. -/
def fewer (a b : Nat × Nat × Nat) : Nat × Nat × Nat := if b.2.2 < a.2.2 then b else a

/-- Checks a BODY against the lane sequence that it follows with the fewest wrong bits; a BODY that follows none of up to four
starts a lane's sequence with its first 31 bits (log entry 208). Answers the lanes' states and the wrong bits. -/
def prbsBody (known : List Nat) (body : Nat) : List Nat × Nat :=
  let tries := known.map (fun st => (st, prbsCheck (bitString 982 body) st 0))
  let best := tries.foldl fewer (0, 0, 983)
  if best.2.2 ≤ 245 || 4 ≤ known.length then (known.erase best.1 ++ [best.2.1], best.2.2)
  else
    let r := prbsCheck (bitString 951 (body % 2 ^ 951)) (body / 2 ^ 951) 0
    (known ++ [r.1], r.2)

/-- TEST_PATTERN (R292): in loopback the wrong bits of BODY are counted. -/
def execTestPattern (t : Nat) (port : Fin 6) (block : BitVec 1024) (s : State) : Result :=
  let s := s.at_ t
  let p := port.val
  .next (s.whenever (s.swState p == 6 && decide (s.rdN (ix Obj.SW_LOOPBACK p) ≠ 0)) (fun s =>
    if !isBlock 0x0F block then badBlock s p
    else
      let r := prbsBody (s.link p).prbs (blockBits block 1013 32)
      (s.setLink p (fun x => { x with prbs := r.1 })).bump (ix Obj.SW_PRBS_ERRORS p) r.2))

/-! ## Eye quality (R276, R283) -/

/-- EQF of a lane (R276) from openings in 1/65,536 of a level spacing and a count of near decisions. -/
def eqf (o1 o2 o3 e : Nat) : Nat := 255 * min o1 (min o2 o3) / 65536 - min 255 (e / 16)

/-- SW_EQF_UPDATE (R276): every 2^20 symbols. -/
def execSwEqfUpdate (t : Nat) (port : Fin 6) (lane : Fin 4) (o1 o2 o3 e : Nat) (s : State) : Result :=
  let s := s.at_ t
  let p := port.val
  let l := lane.val
  let v := min 255 (eqf o1 o2 o3 e)
  .next (s.whenever (decide (2 ≤ s.swState p)) (fun s =>
    let s := s.wr (laneKey Obj.SW_LANE_EQF p l) v
    let s := if s.trained p && v < s.rdN (laneKey Obj.SW_LANE_EQF_MIN p l) then s.wr (laneKey Obj.SW_LANE_EQF_MIN p l) v else s
    let low := decide (v < s.rdN Obj.SW_EQF_WARN) && s.trained p
    s.setLane p l (fun x => { x with lowAt := if low then (if x.lowAt = 0 then max 1 s.clock.now else x.lowAt) else 0 })))

/-- SW_EQF_LOW (R283): below SW_EQF_WARN for 1 s; leave for an adaptation burst is asked. -/
def execSwEqfLow (t : Nat) (port : Fin 6) (lane : Fin 4) (s : State) : Result :=
  let s := s.at_ t
  let p := port.val
  let x := s.lane p lane.val
  .next (s.whenever (s.trained p && decide (x.lowAt ≠ 0) && s.ran x.lowAt 1000000000) (fun s =>
    let s := (s.setLane p lane.val (fun x => { x with lowAt := 0 })).raise Ev.SW_EQF_LOW (arg2 p lane.val)
    if s.asking 2 (16 + p) || s.granted 2 (16 + p) then s else s.askLeave 2 6 (16 + p)))

/-- ADAPTATION_BURST_END (R283): the burst ends and releases its leave. -/
def execAdaptationBurstEnd (t : Nat) (port : Fin 6) (s : State) : Result :=
  let s := s.at_ t
  .next (s.whenever (s.granted 2 (16 + port.val)) (fun s => s.release 2 (16 + port.val)))

/-! ## Written ports (R279, R282, R292, R293) -/

/-- SW_ENABLE written. -/
def enableWritten (s : State) (p : Nat) : State :=
  if s.on (ix Obj.SW_ENABLE p) then (if s.swState p = 0 then swStart s p else s)
  else if s.trained p then swStop (linkDown s p) p
  else swStop s p

/-- SW_LOOPBACK written: entering sends 8 training blocks with LOOP and takes the link down; 0 starts training (R292, R293). -/
def loopbackWritten (s : State) (p old : Nat) : State :=
  let mode := s.rdN (ix Obj.SW_LOOPBACK p)
  if mode = 0 then (if old = 0 then s else if s.on (ix Obj.SW_ENABLE p) then swStart s p else swStop s p)
  else
    let s := s.each [0, 1, 2, 3, 0, 1, 2, 3] (fun s l => sendTraining s p l (if mode = 3 then 2 else 1))
    let s := if s.trained p then linkDown s p else s
    let s := s.setLink p (fun x => { x with prbs := [], prbsOut := [], downAt := max 1 s.clock.now })
    if mode = 3 then s else s.setSw p 6

/-- SW_RETRAIN written with 1: the link goes down and trains again (R282). -/
def retrainWritten (s : State) (p : Nat) : State := if s.trained p then linkDown s p else s

end Machine
end Sys2Proof
end

