-- ==== Sys2Proof/Machine/Graph.lean ====
section
/-! DEFINITION. The signal graph and its compile (chapters 3 to 5): the elements of a copy of the graph objects (R45, R46),
the costs and sizes of the object types (R72, R79), classes (R48, R74), the checks in the order of R490, block phases (R88),
placement whole onto shuttles (R99, R100, R103, R121) and the memory tiers (R105, R106). -/

namespace Sys2Proof
namespace Machine

/-! ## Object types (R72, R73) -/

/-- Whether a type code is in the table of R72. -/
def knownType (t : Nat) : Bool :=
  [0x01, 0x10, 0x11, 0x20, 0x21, 0x30, 0x40, 0x41, 0x50, 0x60, 0x61, 0x70, 0x80].contains t

/-- A shape parameter of an instance as a Nat. -/
def shapeOf (d : Map Val) (i p : Nat) : Nat := (paramNum d i p).toNat

/-- Input pins of an instance. -/
def inPins (d : Map Val) (i : Nat) : Nat :=
  match typeIn d i with
  | 0x40 => 2
  | 0x50 => shapeOf d i Par.MTX_IN
  | 0x61 => shapeOf d i Par.LD_INPUTS
  | 0x70 => 0
  | 0x80 => if shapeOf d i Par.ASRC_DIR = 1 then 1 else 0
  | 0 => 0
  | _ => 1

/-- Output pins of an instance. -/
def outPins (d : Map Val) (i : Nat) : Nat :=
  match typeIn d i with
  | 0x11 => shapeOf d i Par.XO_WAYS
  | 0x50 => shapeOf d i Par.MTX_OUT
  | 0x60 => 0
  | 0x61 => 0
  | 0x80 => if shapeOf d i Par.ASRC_DIR = 0 then 1 else 0
  | 0 => 0
  | _ => 1

/-- Partition length P for a pick length (R85). -/
def partLen (pl : Nat) : Nat := 8 * pl
/-- Number of partitions K of T taps (R85). -/
def partCount (t pl : Nat) : Nat := (t + partLen pl - 1) / partLen pl
/-- Transform cost X (R85). -/
def transformCost (pl : Nat) : Nat := match pl with | 8 => 40 | 16 => 44 | _ => 48
/-- Section count S of a crossover (R83). -/
def crossoverSections (w slope : Nat) : Nat :=
  2 * slopeSections slope * (w - 1) + alignSections slope * (w - 1) * (w - 2) / 2

/-- Lane-operations per sample of an instance (R72). -/
def costOf (d : Map Val) (pl i : Nat) : Nat :=
  let n := shapeOf d i
  match typeIn d i with
  | 0x01 => 2
  | 0x10 => 5 * n Par.EQ_SECTIONS + 1
  | 0x11 => 5 * crossoverSections (n Par.XO_WAYS) (n Par.XO_SLOPE) + n Par.XO_WAYS
  | 0x20 => n Par.FIRD_TAPS
  | 0x21 => transformCost pl + 4 * partCount (n Par.FIRP_TAPS) pl
  | 0x30 => 3
  | 0x40 => 40
  | 0x41 => if n Par.LIM_TRUE_PEAK = 1 then 52 else 12
  | 0x50 => n Par.MTX_IN * n Par.MTX_OUT
  | 0x60 => 3
  | 0x61 => 60 * n Par.LD_INPUTS + 4
  | 0x70 => 8
  | _ => 0

/-- State words of an instance (R72). -/
def stateWords (d : Map Val) (pl i : Nat) : Nat :=
  let n := shapeOf d i
  match typeIn d i with
  | 0x01 => 3
  | 0x10 => 4 * n Par.EQ_SECTIONS + 2
  | 0x11 => 4 * crossoverSections (n Par.XO_WAYS) (n Par.XO_SLOPE) + 2
  | 0x20 => n Par.FIRD_TAPS + pl
  | 0x21 => 2 * partCount (n Par.FIRP_TAPS) pl * (partLen pl + 1) + 4 * partLen pl
  | 0x30 => n Par.DELAY_MAX + pl
  | 0x40 => 14
  | 0x41 => if n Par.LIM_TRUE_PEAK = 1 then 16 else 4
  | 0x60 => 6
  | 0x61 => 20 * n Par.LD_INPUTS + 40
  | 0x70 => 8
  | _ => 0

/-- Coefficient words of an instance (R72). -/
def coefWords (d : Map Val) (pl i : Nat) : Nat :=
  let n := shapeOf d i
  match typeIn d i with
  | 0x10 => 10 * n Par.EQ_SECTIONS
  | 0x11 => 10 * crossoverSections (n Par.XO_WAYS) (n Par.XO_SLOPE)
  | 0x20 => 2 * n Par.FIRD_TAPS
  | 0x21 => 4 * partCount (n Par.FIRP_TAPS) pl * (partLen pl + 1)
  | 0x40 => 8
  | 0x41 => if n Par.LIM_TRUE_PEAK = 1 then 50 else 2
  | 0x50 => 2 * (n Par.MTX_IN * n Par.MTX_OUT)
  | 0x61 => 58
  | _ => 0

/-- Whether a type has a staged set (R78). -/
def hasStaged (t : Nat) : Bool := [0x10, 0x11, 0x20, 0x21, 0x50].contains t

/-! ## Endpoints (R46, R97) -/

/-- ASRC instances of a copy with their ASRC_PORT. -/
def asrcPorts (d : Map Val) : List (Nat × Nat) :=
  (instsOf d).filterMap (fun (p : Nat × Nat) => if p.2 = 0x80 then some (p.1, shapeOf d p.1 Par.ASRC_PORT) else none)

/-- Channels of a MADI mode. -/
def madiChannels (mode : Nat) : Nat := match mode with | 1 => 56 | 2 => 64 | 3 => 32 | _ => 0

/-- Whether an identifier names a configured port channel, stream channel or pin in a copy (R45, R46). A
MADI input without a detected mode takes channels 0 to 63, which is the model's choice (R193, log entry 258). -/
def endpointOk (s : State) (d : Map Val) (asDest : Bool) (i : Nat) : Bool :=
  let u := idUnit i
  let c := idChannel i
  match idKind i with
  | 1 => decide (u < 16) && decide (c < 16) && portOn s u &&
      bit (s.rdN (portKey u (if asDest then 8 else 7))) c
  | 2 => decide (u < 8) && decide (c < 2) && (asDest || s.on (ix Obj.AES_IN_ENABLE u))
  | 3 => decide (u < 4) && (if asDest then decide (c < madiChannels (s.rdN (ix Obj.MADI_OUT_MODE u)))
      else s.on (ix Obj.MADI_IN_ENABLE u) &&
        decide (c < (if s.rdN (ix Obj.MADI_IN_MODE u) = 0 then 64 else madiChannels (s.rdN (ix Obj.MADI_IN_MODE u)))))
  | 4 => decide (u < 256) && s.on (streamKey asDest u) && decide (c < s.rdN (streamKey asDest u + 2))
  | 5 => decide (u < 64) && (if asDest then s.on (cutTxKey u 1) && decide (c < s.rdN (cutTxKey u 4))
      else s.on (cutKey u 1) && decide (c < s.rdN (cutKey u 4)))
  | 6 => decide (u < 16384) && decide (c < (if asDest then inPins d u else outPins d u))
  | 7 => !asDest && decide (u < 2048) && decide (c = 0)
  | 8 => asDest && decide (u < 32) && decide (c = 0)
  | _ => false

/-- Whether a port channel is reached only through an ASRC instance (R97). -/
def underAsrc (d : Map Val) (asDest : Bool) (i : Nat) : Bool :=
  (asrcPorts d).any (fun (p : Nat × Nat) => p.2 == i && decide (shapeOf d p.1 Par.ASRC_DIR = if asDest then 1 else 0))

/-- Whether a spindle runs in phase with SP0 (R194). -/
def inPhase (s : State) (sp : Nat) : Bool :=
  decide (sp = 0) || (decide (2 ≤ sp) && s.rdN (ix Obj.SP_SOURCE sp) == 0 && s.rdN (ix Obj.SP_RATE sp) == s.fs * 1000)

/-- Whether a port channel may be direct: its port is on SP0, its stream at the engine rate (R194, R243). -/
def directOk (s : State) (asDest : Bool) (i : Nat) : Bool :=
  let u := idUnit i
  match idKind i with
  | 1 => if tdmMaster s u then inPhase s (s.rdN (portKey u 2)) else s.rdN (portKey u 3) == s.fs * 1000 && !(s.port u).unsync
  | 2 => if asDest then inPhase s (s.rdN (ix Obj.AES_OUT_SPINDLE u)) else !(s.port (16 + u)).unsync
  | 3 => if asDest then inPhase s (s.rdN (ix Obj.MADI_OUT_SPINDLE u)) else !(s.port (24 + u)).unsync
  | 4 => if asDest then s.rd (streamKey true u + 3) == s.rd Obj.ENGINE_RATE_RUNNING else rxDirect s u
  | _ => true

/-- Whether a source may be named by a route entry or a contribution. -/
def sourceOk (s : State) (d : Map Val) (i : Nat) : Bool := endpointOk s d false i && !underAsrc d false i && directOk s false i
/-- Whether a destination may be named by a route entry. -/
def destOk (s : State) (d : Map Val) (i : Nat) : Bool := endpointOk s d true i && !underAsrc d true i && directOk s true i

/-! ## GRAPH_ERROR (R51, R490) -/

/-- What a compile answers: a code with its element field and record slot, or a plan. -/
abbrev Compiled := Except (Nat × Nat × Nat) Plan

/-- An element field (R490). -/
def element (kind n : Nat) : Nat := kind * 2 ^ 21 + n % 2 ^ 21
/-- A count as an element field: it saturates at 0x1F_FFFF. -/
def elementCount (n : Nat) : Nat := min n 0x1FFFFF
/-- The lowest of a list of faulty elements. -/
def lowest (xs : List (Nat × Nat)) : Option (Nat × Nat) :=
  (sortBy (fun (x : Nat × Nat) => x.1 * 65536 + x.2) xs).head?

/-- UNKNOWN_ELEMENT (R46, R73, R97): faulty elements with their slots. -/
def unknownElements (s : State) (d : Map Val) : List (Nat × Nat) :=
  ((edgesOf d).filter (fun (e : Edge) =>
    !(destOk s d e.dest) || !(sourceOk s d e.src))).map
      (fun (e : Edge) => (element 1 e.entry, 0xFFFF)) ++
  ((instsOf d).filter (fun (p : Nat × Nat) => !knownType p.2)).map (fun (p : Nat × Nat) => (element 2 p.1, 0xFFFF)) ++
  (((sortBy (fun (p : Nat × Nat) => p.1) (asrcPorts d)).drop 256).map (fun (p : Nat × Nat) => (element 2 p.1, 0xFFFF))) ++
  (mixedBuses d).flatMap (fun b =>
    let cs := contribsOf d b
    ((List.range cs.length).zip cs).filterMap (fun (c : Nat × Nat × Int) =>
      if sourceOk s d c.2.1 then none else some (element 5 b, c.1)))

/-- DEST_TWICE (R490): entries whose DEST_ID a lower-numbered entry holds. -/
def twiceEntries (d : Map Val) : List (Nat × Nat) :=
  let es := edgesOf d
  (es.filter (fun (e : Edge) => es.any (fun (f : Edge) => decide (f.entry < e.entry) && f.dest == e.dest))).map
    (fun (e : Edge) => (element 1 e.entry, 0xFFFF))

/-- The nominal rate code of R203 that equals the engine rate. -/
def engineNominal (s : State) : Nat := s.rdN Obj.ENGINE_RATE_RUNNING + 2

/-- Source conditions of R213 for a bit-transparent entry. -/
def transparentSource (s : State) (d : Map Val) (i : Nat) : Bool :=
  let u := idUnit i
  !(selvSources d).contains i && !underAsrc d false i && (match idKind i with
    | 2 => s.rdN (portKey (16 + u) Obj.PORT_RATE_NOMINAL) == engineNominal s
    | 3 => s.rdN (portKey (24 + u) Obj.PORT_RATE_NOMINAL) == engineNominal s
    | 4 => s.rdN (rxKey u 2) == 2 && s.rd (rxKey u 4) == s.rd Obj.ENGINE_RATE_RUNNING
    | _ => false)

/-- Destination conditions of R213. -/
def transparentDest (s : State) (d : Map Val) (i : Nat) : Bool :=
  let u := idUnit i
  !underAsrc d true i && (match idKind i with
    | 2 => s.rdN (ix Obj.AES_OUT_SPINDLE u) == 0
    | 3 => s.rdN (ix Obj.MADI_OUT_SPINDLE u) == 0
    | 4 => s.rdN (txKey u 2) == 2 && s.rd (txKey u 4) == s.rd Obj.ENGINE_RATE_RUNNING
    | _ => false)

/-- TRANSPARENT_INVALID (R213). -/
def opaqueEntries (s : State) (d : Map Val) : List (Nat × Nat) :=
  ((edgesOf d).filter (fun (e : Edge) => outputKind (idKind e.dest) && e.cls == 4 &&
    !(transparentSource s d e.src && transparentDest s d e.dest))).map (fun (e : Edge) => (element 1 e.entry, 0xFFFF))

/-! ## Outputs -/

/-- Whether a destination is the input pin of an output ASRC instance (R97). -/
def isAsrcPin (m : Map Val) (dest : Nat) : Bool :=
  idKind dest == 6 && typeIn m (idUnit dest) == 0x80 && shapeOf m (idUnit dest) Par.ASRC_DIR == 1

/-- Outputs of a copy. -/
def outputsOf (m : Map Val) : List Edge := (edgesOf m).filter (fun e => outputKind (idKind e.dest) || isAsrcPin m e.dest)

/-! ## Cycles (R49, R90) -/

/-- Elements reached from a front along links, in at most n rounds. -/
def reach (links : List (Nat × Nat)) : Nat → List Nat → List Nat → List Nat
  | 0, _, seen => seen
  | n + 1, front, seen =>
    let next := (links.filterMap (fun (l : Nat × Nat) =>
      if front.contains l.1 && !seen.contains l.2 then some l.2 else none)).eraseDups
    if next.isEmpty then seen else reach links n next (seen ++ next)

/-- Elements downstream of one. -/
def downstream (links : List (Nat × Nat)) (e : Nat) : List Nat := reach links (links.length + 1) [e] []

/-- Whether an instance is a delay of at least one pick, which may close a cycle (R49, R90). -/
def delaysPick (d : Map Val) (pl i : Nat) : Bool :=
  typeIn d i == 0x30 && decide (pl ≤ shapeOf d i Par.DELAY_MAX) && decide (pl ≤ shapeOf d i Par.DELAY_TIME)

/-- Links that a delay of a pick does not cut. -/
def tightLinks (d : Map Val) (pl : Nat) : List (Nat × Nat) :=
  (linksOf d).filter (fun (l : Nat × Nat) => !delaysPick d pl l.1)

/-- Element field of an instance or a bus. -/
def elementOf (n : Nat) : Nat := if n < 65536 then element 2 n else element 3 (n - 65536)

/-- CYCLE (R49): elements on a cycle without a delay of a pick. -/
def cyclic (d : Map Val) (pl : Nat) : List (Nat × Nat) :=
  let links := tightLinks d pl
  let es := (links.map (fun (l : Nat × Nat) => l.1)).eraseDups
  (es.filter (fun e => (downstream links e).contains e)).map (fun e => (elementOf e, 0xFFFF))

/-- Whether an instance lies on a cycle of a copy (R90). -/
def onCycle (d : Map Val) (i : Nat) : Bool := (downstream (linksOf d) i).contains i

/-! ## Classes (R47, R48, R74) -/

/-- Class of an output entry as a number: 4, tight bit-transparent, counts as 1. -/
def entryClass (cls : Nat) : Nat := if cls = 4 then 1 else cls

/-- The classes that output entries impose on the elements that feed them directly. -/
def seedClasses (d : Map Val) : Map Nat :=
  (edgesOf d).foldl (fun (m : Map Nat) (e : Edge) =>
    if outputKind (idKind e.dest) then
      match sourceElem e.src with
      | some a => mapSet m a (min (mapGetD m a 9) (entryClass e.cls))
      | none => m
    else m) []

/-- One round of R48: every element is at least as tight as what it feeds. -/
def tighten (links : List (Nat × Nat)) (m : Map Nat) : Map Nat :=
  links.foldl (fun (m : Map Nat) (l : Nat × Nat) =>
    match mapGet m l.2 with
    | some c => mapSet m l.1 (min (mapGetD m l.1 9) c)
    | none => m) m

/-- Runs n rounds. -/
def rounds {α : Type} (f : α → α) : Nat → α → α
  | 0, x => x
  | n + 1, x => rounds f n (f x)

/-- The class that a type allows at or after a class (R48): only FIR_PARTITIONED is restricted. -/
def allowed (d : Map Val) (e c : Nat) : Nat := if e < 65536 && typeIn d e == 0x21 then 3 else c

/-- One round of the classes of the elements `es`, which reach no output (R48, R74): the tightest class among the elements that feed each, as
far as it is known; normal when none does. -/
def looser (d : Map Val) (links : List (Nat × Nat)) (es : List Nat) (m : Map Nat) : Map Nat :=
  es.foldl (fun (m : Map Nat) e =>
    let fs := (links.filter (fun (l : Nat × Nat) => l.2 == e)).map (fun (l : Nat × Nat) => l.1)
    let c := if fs.isEmpty then 2 else fs.foldl (fun a f => min a (mapGetD m f 9)) 9
    if c = 9 then m else mapSet m e (allowed d e c)) m

/-- Elements of a copy: instances and buses. -/
def elemsOf (d : Map Val) : List Nat := (instsOf d).map (fun (p : Nat × Nat) => p.1) ++ (busesOf d).map (fun b => 65536 + b)

/-- Compiled classes by element number (R48). -/
def classesOf (d : Map Val) : Map Nat :=
  let links := linksOf d
  let es := elemsOf d
  let m := rounds (tighten links) (links.length + 1) (seedClasses d)
  let m := rounds (looser d links (es.filter (fun e => (mapGet m e).isNone))) (es.length + 1) m
  es.foldl (fun (m : Map Nat) e => if (mapGet m e).isSome then m else mapSet m e (allowed d e 2)) m

/-- SELV objects of one output in a copy. -/
def selvIn (d : Map Val) (o k : Nat) : Int := Val.int (getIn d (ix Obj.SELV_DEST o - 1 + k))

/-- Whether a selvedge output breaks R128. -/
def selvBroken (s : State) (d : Map Val) (o : Nat) : Bool :=
  let dest := (selvIn d o 1).toNat
  let srcs := ((List.range 8).map (fun k => (selvIn d o (2 + k)).toNat)).filter (fun i => i != 0)
  decide (dest ≠ 0) &&
    (!([1, 2, 3, 5, 8].contains (idKind dest)) || !(destOk s d dest) ||
      (List.range 64).any (fun q => decide (q < o) && (selvIn d q 1).toNat == dest) ||
      srcs.any (fun i => !([1, 2, 3, 5].contains (idKind i)) || !(sourceOk s d i)))

/-- CLASS_CONFLICT (R47, R48, R87, R128). -/
def classConflicts (s : State) (d : Map Val) (classes : Map Nat) : List (Nat × Nat) :=
  let links := linksOf d
  let selv := ((List.range 64).map (fun o => (selvIn d o 1).toNat)).filter (fun i => i != 0)
  let firps := ((instsOf d).filter (fun (p : Nat × Nat) => p.2 == 0x21)).map (fun (p : Nat × Nat) => p.1)
  ((edgesOf d).filter (fun (e : Edge) => selv.contains e.dest)).map (fun (e : Edge) => (element 1 e.entry, 0xFFFF)) ++
  (firps.filter (fun i => mapGetD classes i 3 != 3 ||
    firps.any (fun f => f != i && (downstream links f).contains i))).map (fun i => (element 2 i, 0xFFFF)) ++
  ((List.range 64).filter (selvBroken s d)).map (fun o => (element 4 o, 0xFFFF))

/-! ## Reed positions and the mix pool (R55, R56) -/

/-- Reed positions each way at the running rate (R14, R56). -/
def positions (s : State) : Nat := 4096 / rateMultiple (s.rd Obj.ENGINE_RATE_RUNNING)
/-- Mix pool at the running rate. -/
def poolSize (s : State) : Nat := 262144 / rateMultiple (s.rd Obj.ENGINE_RATE_RUNNING)

/-- Whether a route change of an entry always cuts (R47, R71): an output of class 4. -/
def hardCut (e : Edge) : Bool := outputKind (idKind e.dest) && e.cls == 4

/-- Whether the change of an old entry's destination cuts at the switch (R71): by its new entry, or its own when it has none. -/
def cutsAt (d : Map Val) (e : Edge) : Bool :=
  match (edgesOf d).find? (fun (f : Edge) => f.dest == e.dest) with
  | some f => hardCut f
  | none => hardCut e

/-- Old sources that the fades of R70 of a length hold at the switching batten (R55); without a fade none are held. -/
def heldSources (fade : Nat) (old d : Map Val) : List Nat :=
  let new := edgesOf d
  if fade = 0 then [] else
  ((edgesOf old).filter (fun (e : Edge) => !cutsAt d e && !new.any (fun (f : Edge) => f.dest == e.dest && f.src == e.src))).map
      (fun (e : Edge) => e.src) ++
  (mixedBuses old).flatMap (fun b =>
    let kept := (contribsOf d b).map (fun (c : Nat × Int) => c.1)
    ((contribsOf old b).map (fun (c : Nat × Int) => c.1)).filter (fun i => !kept.contains i))

/-- Source positions that a commit needs. -/
def sourcesNeeded (fade : Nat) (old d : Map Val) : Nat :=
  ((sourcesOf d ++ heldSources fade old d).filter (fun i => i != 0)).eraseDups.length

/-- Destinations that a commit removes and that fade out (R55, R70). -/
def heldDests (fade : Nat) (old d : Map Val) : List Nat :=
  if fade = 0 then [] else ((edgesOf old).filter (fun e => !cutsAt d e)).map (fun (e : Edge) => e.dest)

/-- Destination positions that a commit needs. -/
def destsNeeded (fade : Nat) (old d : Map Val) : Nat :=
  (((edgesOf d).map (fun (e : Edge) => e.dest)) ++ heldDests fade old d).eraseDups.length

/-- Contributions of a copy. -/
def poolUsed (d : Map Val) : Nat := ((mixedBuses d).map (fun b => (contribsOf d b).length)).sum

/-! ## Load and block phases (R79, R88) -/

/-- Work of an instance in each of 8 picks, with block phase f for FIR_PARTITIONED (R88). -/
def pickWork (d : Map Val) (pl i f : Nat) : List Nat :=
  let c := costOf d pl i
  if typeIn d i = 0x21 then
    let work := c * partLen pl
    (List.range 8).map (fun n => if n = (f + 1) % 8 then work / 2 else if n = (f + 2) % 8 then work - work / 2 else 0)
  else List.replicate 8 (c * pl)

/-- Sum of two loads pick by pick. -/
def addWork (a b : List Nat) : List Nat := (a.zip b).map (fun (p : Nat × Nat) => p.1 + p.2)
/-- The heaviest pick of a load. -/
def heaviest (a : List Nat) : Nat := a.foldl max 0

/-- The least heaviest pick that works could give however they are spread: the mean of the picks, and as every pick carries whole halves of
blocks, a multiple of their common divisor. -/
def phaseBound (works : List (List Nat)) : Nat :=
  let parts := works.flatMap id
  let step := parts.foldl Nat.gcd 0
  let mean := (parts.sum + 7) / 8
  if step = 0 then mean else (mean + step - 1) / step * step

/-- The search for the block phases with the least heaviest pick (R88): every phase of every instance is tried, unless it cannot lie below
the best set found or that set meets the bound. Answers the better of `best` and what it finds. -/
def phaseSearch (d : Map Val) (pl bound : Nat) : List Nat → Map Nat → List Nat → Option (Map Nat × Nat) → Option (Map Nat × Nat)
  | [], m, sum, best => match best with
    | some b => if heaviest sum < b.2 then some (m, heaviest sum) else best
    | none => some (m, heaviest sum)
  | i :: r, m, sum, best =>
    let tries := sortBy (fun f => heaviest (addWork sum (pickWork d pl i f)) * 8 + f) (List.range 8)
    tries.foldl (fun best f =>
      let sum' := addWork sum (pickWork d pl i f)
      if best.any (fun (b : Map Nat × Nat) => decide (b.2 ≤ max bound (heaviest sum'))) then best
      else phaseSearch d pl bound r (mapSet m i f) sum' best) best

/-- Block phases of the FIR_PARTITIONED instances (R88): a set with the least heaviest pick, the first in the order of the search. -/
def phasesOf (d : Map Val) (pl : Nat) : Map Nat :=
  let is := ((instsOf d).filter (fun (p : Nat × Nat) => p.2 == 0x21)).map (fun (p : Nat × Nat) => p.1)
  let sorted := sortBy (fun i => 2 ^ 32 - costOf d pl i) is
  let bound := phaseBound (sorted.map (fun i => pickWork d pl i 0))
  (phaseSearch d pl bound sorted [] (List.replicate 8 0) none).elim [] (fun b => b.1)

/-- The work of one placed instance. -/
def workOf (d : Map Val) (pl : Nat) (phase : Map Nat) (i : Nat) : List Nat := pickWork d pl i (mapGetD phase i 0)

/-- The summed work of instances. -/
def workSum (d : Map Val) (pl : Nat) (phase : Map Nat) (is : List Nat) : List Nat :=
  is.foldl (fun a i => addWork a (workOf d pl phase i)) (List.replicate 8 0)

/-! ## Placement (R98 to R103, R121) -/

/-- Harness of a shuttle (R9). -/
def State.harness (s : State) (sh : Nat) : Nat := s.rdN (Obj.SHUTTLE_HARNESS + sh)
/-- HARNESS_STATE of a harness. -/
def State.harnessState (s : State) (h : Nat) : Nat := s.rdN (Obj.HARNESS_STATE + h)

/-- Budget of a shuttle (R103): floor(0.9 * 8 * rating * pick period), 0 outside state 0. -/
def budget (s : State) (sh : Nat) : Nat :=
  if s.harnessState (s.harness sh) = 0 then s.rdN (Obj.SHUTTLE_RATING + sh) * s.pl * 7200000 / s.fs else 0

/-- The R19 limit: 48 budgets at the full rating. -/
def laneLimit (s : State) : Nat := 48 * 720 * s.pl * 7200000 / s.fs

/-- PLACE_CAPACITY (R103): the sum of all budgets, capped at the R19 limit. -/
def capacity (s : State) : Nat := min (laneLimit s) ((List.range 54).map (budget s)).sum

/-- Shuttle budgets as a list. -/
def budgets (s : State) : List Nat := (List.range 54).map (budget s)

/-- A placement in progress: place per instance and work per shuttle. -/
abbrev Packing := Map Nat × List (List Nat)

/-- Work of the guests that a shuttle runs (R126). -/
def guestWork (s : State) (sh : Nat) : Nat := ((s.fabric.guests.filter (fun g => g.shuttle == sh)).map (fun g => g.load)).sum

/-- Nothing is placed but the guests. -/
def guestPacking (s : State) : Packing := ([], (List.range 54).map (fun sh => List.replicate 8 (guestWork s sh)))

/-- Puts an instance on a shuttle. -/
def packOn (p : Packing) (i sh : Nat) (w : List Nat) : Packing :=
  (mapSet p.1 i sh, p.2.set sh (addWork (p.2.getD sh []) w))

/-- Budget left on a shuttle with work added; negative beyond it. -/
def roomWith (bs : List Nat) (p : Packing) (sh : Nat) (w : List Nat) : Int :=
  (bs.getD sh 0 : Nat) - (heaviest (addWork (p.2.getD sh []) w) : Nat)

/-- What a placement starts from: the copy, its phases, the budgets, the present placement of the instances that exist already, and the
destinations that a failed comparison bars to them (R114). -/
structure Site where
  d : Map Val
  pl : Nat
  phase : Map Nat
  budgets : List Nat
  now : Map Nat
  bars : List (Nat × Nat)

/-- The shuttles with room for an instance: the present one first, then the ones with the most budget left. -/
def shuttlesFor (x : Site) (p : Packing) (i : Nat) (w : List Nat) : List Nat :=
  let fits := (List.range 54).filter (fun sh => decide (0 < x.budgets.getD sh 0) && decide (0 ≤ roomWith x.budgets p sh w) &&
    (mapGet x.now i == some sh || !x.bars.contains (i, sh)))
  sortBy (fun sh => if mapGet x.now i = some sh then 0 else 2 ^ 40 - (roomWith x.budgets p sh w).toNat) fits

/-- A packing of instances into the budgets of single shuttles, if there is any (R103). -/
def packSearch (x : Site) : List Nat → Packing → Option Packing
  | [], p => some p
  | i :: r, p =>
    let w := workOf x.d x.pl x.phase i
    (shuttlesFor x p i w).findSome? (fun sh => packSearch x r (packOn p i sh w))

/-- Puts the instances that exist already on their present shuttles, if all fit there (R115). -/
def packKept (x : Site) : List Nat → Packing → Option Packing
  | [], p => some p
  | i :: r, p =>
    let w := workOf x.d x.pl x.phase i
    let sh := mapGetD x.now i 54
    if sh < 54 ∧ 0 < x.budgets.getD sh 0 ∧ 0 ≤ roomWith x.budgets p sh w then packKept x r (packOn p i sh w) else none

/-- A packing that keeps every existing instance on its shuttle, else any (R103, R115). -/
def packAll (x : Site) (is : List Nat) (p : Packing) : Option Packing :=
  let old := is.filter (fun i => (mapGet x.now i).isSome)
  match (packKept x old p).bind (packSearch x (is.filter (fun i => (mapGet x.now i).isNone))) with
  | some r => some r
  | none => packSearch x is p

/-- Whether a partner on a port qualifies for overflow (R122). -/
def partnerQualifies (s : State) (p : Nat) : Bool :=
  s.trained p && (s.link p).coincide && decide (s.rdN (ix Obj.SW_HOP_NS p) ≤ 5000) &&
  (List.range 6).any (fun k => s.rdN (Obj.OVERFLOW_PARTNER + k) == s.rdN (ix Obj.SW_PARTNER_LOOM p) &&
    s.rdN (Obj.OVERFLOW_PARTNER + k) != 0)

/-- Partners with the spare budget that they offer, less what this engine already placed there. -/
def partnerRoom (s : State) (d : Map Val) (place : Map Nat) : List (Nat × Int) :=
  ((List.range 6).filter (partnerQualifies s)).map (fun p =>
    (p, ((s.link p).guest * 1000 : Nat) -
      (((place.filter (fun (e : Nat × Nat) => e.2 == 0x100 + p)).map (fun (e : Nat × Nat) => costOf d s.pl e.1 * s.pl)).sum : Nat)))

/-- Partners for an instance: its present one, else the roomiest that takes it whole. -/
def partnerFor (s : State) (d : Map Val) (place now : Map Nat) (i : Nat) : Option Nat :=
  let xs := (partnerRoom s d place).filter (fun (r : Nat × Int) => decide (((costOf d s.pl i * s.pl : Nat) : Int) ≤ r.2))
  ((sortBy (fun (r : Nat × Int) => if mapGet now i = some (0x100 + r.1) then 0 else 2 ^ 40 - r.2.toNat) xs).head?).map
    (fun (r : Nat × Int) => r.1)

/-- Whether an instance is a FIR_PARTITIONED. -/
def partitioned (d : Map Val) (e : Nat) : Bool := decide (e < 65536) && typeIn d e == 0x21

/-- Elements upstream of one, itself among them. -/
def upstream (links : List (Nat × Nat)) (e : Nat) : List Nat :=
  e :: downstream (links.map (fun (l : Nat × Nat) => (l.2, l.1))) e

/-- Picks that passages to partners add on the way to each element (R123): an element on a partner begins a passage of 2 picks unless what
feeds it runs on that partner too, and a late hop adds one more. A delay that closes a cycle begins a way anew. -/
def passages (d : Map Val) (pl : Nat) (late : Nat → Bool) (out : Map Nat) : Map Nat :=
  if out.isEmpty then []
  else
    let adds := fun (p : Nat) => if late (p - 0x100) then 3 else 2
    let links := (linksOf d).filter (fun (l : Nat × Nat) => !(delaysPick d pl l.1 && onCycle d l.1))
    let first := out.foldl (fun (m : Map Nat) (e : Nat × Nat) => mapSet m e.1 (adds e.2)) []
    rounds (fun m => links.foldl (fun (m : Map Nat) (l : Nat × Nat) =>
      let enters := match mapGet out l.2 with
        | some p => if mapGet out l.1 = some p then 0 else adds p
        | none => 0
      mapSet m l.2 (max (mapGetD m l.2 0) (mapGetD m l.1 0 + enters))) m) (links.length + 1) first

/-- Whether the hop of a link is late (R36). -/
def lateHop (s : State) (p : Nat) : Bool := s.on (ix Obj.SW_PICK_ADDED p)

/-- Release offset of a route entry in picks (R33 to R35, R87, R123); 0 for object inputs. `ways` holds the picks that passages add. -/
def offsetOf (d : Map Val) (links : List (Nat × Nat)) (ways : Map Nat) (e : Edge) : Nat :=
  if !outputKind (idKind e.dest) then 0
  else match entryClass e.cls with
    | 1 => 2
    | 2 => 3
    | _ => match sourceElem e.src with
      | some a => (if (upstream links a).any (partitioned d) then 10 else 4) + mapGetD ways a 0
      | none => 4

/-- Whether every path keeps a release offset of at most 12 picks with instances on partners (R123). -/
def offsetsFit (s : State) (d : Map Val) (out : Map Nat) : Bool :=
  let links := linksOf d
  let ways := passages d s.pl (lateHop s) out
  (edgesOf d).all (fun e => decide (offsetOf d links ways e ≤ 12))

/-- Instances that a shuttle runs: all but ASRC, which runs in the rim (R97), largest first. -/
def placedInsts (d : Map Val) (pl : Nat) : List Nat :=
  sortBy (fun i => 2 ^ 40 - costOf d pl i)
    (((instsOf d).filter (fun (p : Nat × Nat) => p.2 != 0x80)).map (fun (p : Nat × Nat) => p.1))

/-- Lane-operations of instances in their heaviest pick, guests included (R79, R126). -/
def loadWith (s : State) (x : Site) (is : List Nat) : Nat :=
  heaviest (workSum x.d x.pl x.phase is) + (s.fabric.guests.map (fun g => g.load)).sum

/-- A packing of instances within PLACE_CAPACITY and the budgets (R103). -/
def packLocal (s : State) (x : Site) (is : List Nat) : Option Packing :=
  if loadWith s x is ≤ capacity s then packAll x is (guestPacking s) else none

/-- Placement with overflow (R121): what packs locally stays; else the next of the candidates, which come largest first, goes to a partner
when one takes it and its path keeps its limit. -/
def overflowPack (s : State) (x : Site) : List Nat → List Nat → Map Nat → Option (Packing × Map Nat)
  | [], is, out => (packLocal s x is).map (fun p => (p, out))
  | g :: gs, is, out =>
    match packLocal s x is with
    | some p => some (p, out)
    | none => match (partnerFor s x.d out x.now g).filter (fun p => offsetsFit s x.d (mapSet out g (0x100 + p))) with
      | some p => overflowPack s x gs (is.filter (fun i => i != g)) (mapSet out g (0x100 + p))
      | none => overflowPack s x gs is out

/-- Whether an instance of one copy stands in another with the same type and shape, so that it stays the same instance (R70, R77, R80). -/
def sameInst (old new : Map Val) (i : Nat) : Bool :=
  typeIn old i == typeIn new i && (slotsOf (typeIn new i)).all (fun r =>
    if r.access = .rw && !r.ty.octets && !(typeIn new i == 0x10 && r.subLo == Par.EQ_BAND_STAGED) &&
        !(typeIn new i == 0x11 && r.subLo == Par.XO_FREQ_STAGED) then
      paramNum old i r.subLo == paramNum new i r.subLo
    else true)

/-- Placement of a copy (R103, R115, R121): of every instance that a shuttle runs, here or on a partner that `out` lets it go
to; none when it does not fit. -/
def placeAll (s : State) (d : Map Val) (phase classes : Map Nat) (out : Nat → Bool) : Option (Map Nat) :=
  let is := placedInsts d s.pl
  let now := s.graph.plan.place.filter (fun (e : Nat × Nat) => is.contains e.1 && sameInst s.run d e.1)
  let x : Site := ⟨d, s.pl, phase, budgets s, now, s.fabric.noRetry⟩
  let here := fun (i : Nat) => match mapGet now i with | some sh => decide (sh < 54) | none => false
  let movable := if s.on Obj.OVERFLOW_ENABLE then is.filter (fun i => mapGetD classes i 0 == 3 && !here i && out i) else []
  (overflowPack s x movable is []).map (fun r => r.2.foldl (fun (m : Map Nat) (e : Nat × Nat) => mapSet m e.1 e.2) r.1.1)

/-! ## Memory tiers (R105, R106) -/

/-- Words in use: per shuttle's local store, per harness store, warp store, LPDDR5. -/
structure Stores where
  local_ : List Nat
  harness : List Nat
  warp : Nat
  ddr : Nat
  deriving DecidableEq, Repr

/-- Empty stores. -/
def emptyStores : Stores := ⟨List.replicate 54 0, List.replicate 9 0, 0, 0⟩

/-- Groups of eight words (R106). -/
def groups8 (w : Nat) : Nat := (w + 7) / 8

/-- LPDDR5 words fitted: 8 words per 40-byte group (R106). -/
def ddrWords (s : State) : Nat := s.rdN Obj.DDR_FITTED_MIB * 1048576 / 40 * 8

/-- Stores with an item added. -/
def addItem (x : Stores) (it : Holding) : Stores :=
  match it.tier with
  | 1 => { x with local_ := x.local_.set it.home (x.local_.getD it.home 0 + it.words) }
  | 2 => { x with harness := x.harness.set it.home (x.harness.getD it.home 0 + it.words) }
  | 3 => { x with warp := x.warp + it.words }
  | _ => { x with ddr := x.ddr + it.words }

/-- Whether no store holds more words than it has. -/
def withinStores (s : State) (x : Stores) : Bool :=
  x.local_.all (fun w => decide (w ≤ 65536)) && x.harness.all (fun w => decide (w ≤ 524288)) && decide (x.warp ≤ 8388608) &&
  decide (x.ddr ≤ ddrWords s)

/-- An item in the first tier of its row with room (R105), on a shuttle. -/
def putItem (s : State) (sh : Nat) (x : Stores) (it : Holding) : List Nat → Option (Stores × Holding)
  | [] => none
  | t :: r =>
    let it := { it with tier := t, home := if t = 1 then sh else if t = 2 then s.harness sh else 0 }
    if withinStores s (addItem x it) then some (addItem x it, it) else putItem s sh x it r

/-- The stored items of an instance with the tiers of their rows (R105): words, and LPDDR5 groups per eight picks, which are one block of a
FIR_PARTITIONED (R85, R106). -/
def itemsOf (d : Map Val) (pl cls i : Nat) : List (Holding × List Nat) :=
  let state := stateWords d pl i
  let coefs := coefWords d pl i
  let row := if cls = 3 then [1, 2, 3] else [1, 2]
  let items : List (Holding × List Nat) := match typeIn d i with
    | 0x30 => [(⟨i, 1, state, 0, 0, 16 * groups8 pl⟩, [3, 4])]
    | 0x21 => [(⟨i, 0, coefs, 0, 0, groups8 coefs⟩, [2, 3, 4]), (⟨i, 1, state, 0, 0, 2 * groups8 state⟩, [2, 3, 4])]
    | _ => [(⟨i, 0, coefs, 0, 0, 0⟩, row), (⟨i, 1, state, 0, 0, 0⟩, row)]
  items.filter (fun it => it.1.words != 0)

/-- Stores items on a shuttle; none when one of them fits no tier of its row. -/
def storeItems (s : State) (sh : Nat) : List (Holding × List Nat) → Stores → List Holding → Option (Stores × List Holding)
  | [], x, out => some (x, out)
  | it :: r, x, out => match putItem s sh x it.1 it.2 with
    | some (x, it) => storeItems s sh r x (out ++ [it])
    | none => none

/-- Stores an instance's items on a shuttle. -/
def storeInst (s : State) (d : Map Val) (cls sh : Nat) (x : Stores) (i : Nat) : Option (Stores × List Holding) :=
  storeItems s sh (itemsOf d s.pl cls i) x []

/-- Items of an instance that stay where they are: it stays on its shuttle with the same words, and it is no delay line, whose tier R106 fills
by length. -/
def keptItems (s : State) (d : Map Val) (place : Map Nat) (i : Nat) : List Holding :=
  if typeIn d i = 0x30 ∨ mapGet s.graph.plan.place i ≠ mapGet place i ∨ !sameInst s.run d i then []
  else s.graph.plan.items.filter (fun it => it.inst == i)

/-- Stores instances in an order; answers all items, or the instance that does not fit. -/
def storeAll (s : State) (d : Map Val) (classes place : Map Nat) : List Nat → Stores → List Holding → Except Nat (List Holding)
  | [], _, out => .ok out
  | i :: r, x, out =>
    if 54 ≤ mapGetD place i 54 then storeAll s d classes place r x out
    else match storeInst s d (mapGetD classes i 2) (mapGetD place i 54) x i with
      | some (x, items) => storeAll s d classes place r x (out ++ items)
      | none => .error i

/-- Order of storing: other instances by number, delay lines by length (R106). -/
def storeOrder (d : Map Val) (pl : Nat) : List Nat :=
  let is := sortBy (fun i => i) (placedInsts d pl)
  is.filter (fun i => typeIn d i != 0x30) ++ sortBy (fun i => stateWords d pl i) (is.filter (fun i => typeIn d i == 0x30))

/-- The stored items of a copy at a placement: those that stay, then the others in the order of storing. -/
def storeCopy (s : State) (d : Map Val) (classes place : Map Nat) : Except Nat (List Holding) :=
  let kept := (placedInsts d s.pl).flatMap (keptItems s d place)
  storeAll s d classes place ((storeOrder d s.pl).filter (fun i => !kept.any (fun it => it.inst == i))) (kept.foldl addItem emptyStores) kept

/-- OBJ_TIER of an instance: the tier of its largest stored item (R98), the first of equals. -/
def tierOf (items : List Holding) (i : Nat) : Nat :=
  ((items.filter (fun it => it.inst == i)).foldl (fun (a : Nat × Nat) it => if a.1 < it.words then (it.words, it.tier) else a) (0, 0)).2

/-- Groups per eight picks that items move in LPDDR5 (R106). -/
def ddrTraffic (items : List Holding) : Nat := ((items.filter (fun it => it.tier == 4)).map (fun it => it.groups)).sum

/-- MB/s of LPDDR5 traffic in groups of 40 bytes per eight picks, the fraction dropped. -/
def trafficMb (s : State) (groups : Nat) : Nat := groups * 40 * s.fs / (8 * s.pl * 1000000)

/-- Whether LPDDR5 traffic exceeds its budget (R106). -/
def overTraffic (s : State) (items : List Holding) : Bool :=
  decide (s.rdN Obj.DDR_BW_BUDGET * (8 * s.pl * 1000000) < ddrTraffic items * 40 * s.fs)

/-- Words in use by the plan in force, the moves under way and the second instances of running swaps (R65, R110). -/
def stores (s : State) : Stores :=
  (s.graph.plan.items ++ s.fabric.moves.flatMap (fun m => m.items) ++ s.graph.twills.flatMap (fun t => t.items)).foldl addItem emptyStores

/-! ## Release (R33, R37) -/

/-- Release offset of an element's own path (R33, R87, R123): that of its class, and for a relaxed one 10 when a FIR_PARTITIONED lies on the
way to it, 4 otherwise, and what passages add. -/
def elemOffset (d : Map Val) (links : List (Nat × Nat)) (ways classes : Map Nat) (e : Nat) : Nat :=
  match mapGetD classes e 2 with
  | 1 => 2
  | 2 => 3
  | _ => (if (upstream links e).any (partitioned d) then 10 else 4) + mapGetD ways e 0

/-- Picks after its opening batten at which an element's result is due (R33, R37). A tight element is due at its release. A normal element
that feeds another normal one works in the first of the two stages, any other in the second. A relaxed element is due when the next
stage takes its result: what feeds a FIR_PARTITIONED within one pick period, what lies behind one at the release, and of the others
those that feed a further relaxed element one pick before the last. The stages are the model's choice (log entry 225). -/
def dueOf (d : Map Val) (links : List (Nat × Nat)) (ways classes : Map Nat) (es : List Edge) (offset : Edge → Nat) (e : Nat) : Nat :=
  let cls := mapGetD classes e 2
  let outs := es.filter (fun (x : Edge) => outputKind (idKind x.dest) && sourceElem x.src == some e)
  let release := (outs.map offset).foldl min (elemOffset d links ways classes e)
  let next := (links.filter (fun (l : Nat × Nat) => l.1 == e)).map (fun (l : Nat × Nat) => l.2)
  let feeds := next.any (fun f => mapGetD classes f 2 == cls)
  match cls with
  | 1 => 2
  | 2 => if feeds then 2 else min 3 release
  | _ =>
    if (upstream links e).any (partitioned d) then release
    else if (downstream links e).any (partitioned d) then 2
    else if feeds then min 3 release else release

/-! ## The compile (R51, R490) -/

/-- The checks of R490 in their order; `none` when all pass. -/
def refusal (s : State) (d : Map Val) (classes : Map Nat) : Option (Nat × Nat × Nat) :=
  let old := s.run
  let fade := s.rdN Obj.ROUTE_FADE_MS
  match lowest (unknownElements s d) with
  | some (e, slot) => some (0x09, e, slot)
  | none => match lowest (twiceEntries d) with
  | some (e, _) => some (0x04, e, 0xFFFF)
  | none => match lowest (opaqueEntries s d) with
  | some (e, _) => some (0x0A, e, 0xFFFF)
  | none => match lowest (cyclic d s.pl) with
  | some (e, _) => some (0x05, e, 0xFFFF)
  | none => match lowest (classConflicts s d classes) with
  | some (e, _) => some (0x06, e, 0xFFFF)
  | none =>
    if positions s < sourcesNeeded fade old d then some (0x01, elementCount (sourcesNeeded fade old d), 0xFFFF)
    else if positions s < destsNeeded fade old d then some (0x02, elementCount (destsNeeded fade old d), 0xFFFF)
    else if poolSize s < poolUsed d then some (0x03, elementCount (poolUsed d), 0xFFFF)
    else none

/-- Resizes a set of taps: kept from tap 0, cut or extended with zeros (R489). -/
def resizeTaps (b : List Byte) (t : Nat) : List Byte := (b ++ List.replicate (8 * t - b.length) 0).take (8 * t)

/-- Resizes a gain matrix from an old shape (R489). -/
def resizeGains (b : List Byte) (m0 n0 m n : Nat) : List Byte :=
  (List.range (m * n)).flatMap (fun e =>
    let j := e % m
    let o := e / m
    if j < m0 ∧ o < n0 then (b.drop (4 * (o * m0 + j))).take 4 else beBytes 4 (pattern 32 (if j = o then 0 else minusInf)))

/-- Slot at which a copy notes the shape, M * 256 + N, that a gain set of a MATRIX was written or resized at (R489). It is no object. -/
def gainShapeSlot (p : Nat) : Nat := if p = Par.MTX_GAINS then 0x3E else 0x3D

/-- The shape at which a gain set of a copy stands: the noted one, or that of the plan the copy was taken from. -/
def gainShape (d old : Map Val) (i p : Nat) : Nat :=
  match mapGet d (paramKey i (gainShapeSlot p)) with
  | some (.num v) => v.toNat
  | _ => shapeOf old i Par.MTX_IN * 256 + shapeOf old i Par.MTX_OUT

/-- The shape of a MATRIX in a copy. -/
def matrixShape (d : Map Val) (i : Nat) : Nat := shapeOf d i Par.MTX_IN * 256 + shapeOf d i Par.MTX_OUT

/-- The set of a BLOB slot at the shape of a copy, resized from the values it holds (R489). -/
def resized (d old : Map Val) (i p : Nat) : Option (List Byte) :=
  match mapGet d (paramKey i p) with
  | some (.bytes b) =>
    match typeIn d i with
    | 0x20 => if b.length = 8 * shapeOf d i Par.FIRD_TAPS then none else some (resizeTaps b (shapeOf d i Par.FIRD_TAPS))
    | 0x21 => if b.length = 8 * shapeOf d i Par.FIRP_TAPS then none else some (resizeTaps b (shapeOf d i Par.FIRP_TAPS))
    | _ =>
      let was := gainShape d old i p
      if was = matrixShape d i then none
      else some (resizeGains b (was / 256) (was % 256) (shapeOf d i Par.MTX_IN) (shapeOf d i Par.MTX_OUT))
  | _ => none

/-- Notes that a gain set of a copy stands at the copy's shape (R489). -/
def noteShape (d : Map Val) (i p : Nat) : Map Val := mapSet d (paramKey i (gainShapeSlot p)) (.num (matrixShape d i : Nat))

/-- A copy with every BLOB that follows a shape at its new length (R489). -/
def resizeAll (d old : Map Val) : Map Val :=
  (instsOf d).foldl (fun (m : Map Val) (p : Nat × Nat) =>
    let slots := match p.2 with
      | 0x20 => [Par.FIRD_COEFS, Par.FIRD_COEFS_STAGED]
      | 0x21 => [Par.FIRP_COEFS_STAGED]
      | 0x50 => [Par.MTX_GAINS, Par.MTX_GAINS_STAGED]
      | _ => []
    slots.foldl (fun (m : Map Val) k => match resized d old p.1 k with
      | some b => if p.2 = 0x50 then noteShape (mapSet m (paramKey p.1 k) (.bytes b)) p.1 k else mapSet m (paramKey p.1 k) (.bytes b)
      | none => m) m) d

/-- Placement and stored items of a copy as the engine stands, or the refusal of R490. An instance that fits no tier is named; for LPDDR5
traffic above its budget the lowest instance with an item there, which is the model's choice (log entry 227). -/
def settle (s : State) (d : Map Val) (phase classes : Map Nat) (out : Nat → Bool) : Except (Nat × Nat × Nat) (Map Nat × List Holding) :=
  match placeAll s d phase classes out with
  | none => .error (0x07, elementCount ((heaviest (workSum d s.pl phase (placedInsts d s.pl)) + 9999) / 10000), 0xFFFF)
  | some place => match storeCopy s d classes place with
    | .error i => .error (0x08, element 2 i, 0xFFFF)
    | .ok items =>
      if overTraffic s items then
        .error (0x08, (lowest ((items.filter (fun it => it.tier == 4)).map (fun it => (element 2 it.inst, 0xFFFF)))).elim (element 2 0)
          (fun e => e.1), 0xFFFF)
      else .ok (place, items)

/-- Instances of a copy on partners. -/
def outside (place : Map Nat) : Map Nat := place.filter (fun (e : Nat × Nat) => decide (0x100 ≤ e.2) && decide (e.2 < 0x106))

/-- The compile of a copy of the graph objects (R48, R490); which element MEMORY names for LPDDR5 traffic is log entry 227. -/
def compile (s : State) (d0 : Map Val) : Compiled :=
  let classes := classesOf d0
  match refusal s d0 classes with
  | some e => .error e
  | none =>
    let d := resizeAll d0 s.run
    let phase := phasesOf d s.pl
    match settle s d phase classes (fun _ => true) with
    | .error e => .error e
    | .ok (place, items) =>
      let links := linksOf d
      let es := edgesOf d
      let ways := passages d s.pl (lateHop s) (outside place)
      .ok {
        dict := d
        instClass := classes.filter (fun (e : Nat × Nat) => decide (e.1 < 65536))
        busClass := (classes.filter (fun (e : Nat × Nat) => decide (65536 ≤ e.1))).map (fun (e : Nat × Nat) => (e.1 - 65536, e.2))
        offset := es.foldl (fun (m : Map Nat) (e : Edge) => mapSet m e.entry (offsetOf d links ways e)) []
        due := (elemsOf d).foldl (fun (m : Map Nat) e => mapSet m e (dueOf d links ways classes es (fun x => offsetOf d links ways x) e)) []
        shown := (elemsOf d).foldl (fun (m : Map Nat) e => mapSet m e (elemOffset d links ways classes e)) []
        place := place
        items := items
        phase := phase
        sources := (sourcesOf d).length
        dests := es.length
        pool := poolUsed d }

/-! ## The plan in force -/

/-- Instances placed on a shuttle or partner. -/
def placedOn (s : State) (sh : Nat) : List Nat := (s.graph.plan.place.filter (fun (e : Nat × Nat) => e.2 == sh)).map (fun (e : Nat × Nat) => e.1)

/-- Lane-operations of running instances in their heaviest pick. -/
def loadSum (s : State) (is : List Nat) : Nat := heaviest (workSum s.run s.pl s.graph.plan.phase is)

/-- Scheduled load of a shuttle, guests included (R79, R126). -/
def loadOn (s : State) (sh : Nat) : Nat := loadSum s (placedOn s sh) + guestWork s sh

/-- PLACE_LOAD: the heaviest pick of the plan in force, guests included. -/
def planLoad (s : State) : Nat :=
  loadSum s ((s.graph.plan.place.filter (fun (e : Nat × Nat) => decide (e.2 < 54))).map (fun (e : Nat × Nat) => e.1)) +
    (s.fabric.guests.map (fun g => g.load)).sum

/-- SHUTTLE_LOAD, PLACE_LOAD and OVERFLOW_OUT. -/
def showPlanLoad (s : State) : State :=
  let s := s.each (List.range 54) (fun s sh => s.wr (Obj.SHUTTLE_LOAD + sh) (loadOn s sh : Nat))
  (s.wr Obj.PLACE_LOAD (planLoad s : Nat)).wr Obj.OVERFLOW_OUT ((outside s.graph.plan.place).length : Nat)

/-- What the stores hold (R106). -/
def showStores (s : State) : State :=
  let x := stores s
  ((s.wr Obj.WARP_STORE_USED (x.warp : Nat)).wr Obj.DDR_USED (groups8 x.ddr * 40 : Nat)).wr Obj.DDR_BW_USED
    (trafficMb s (ddrTraffic s.graph.plan.items) : Nat)

/-- OBJ_TIER of a placed instance. -/
def showTier (s : State) (i : Nat) : State :=
  s.wr (entry Obj.OBJ_TIER i) (if 54 ≤ mapGetD s.graph.plan.place i 54 then 5 else tierOf s.graph.plan.items i : Nat)

/-- The empty plan. -/
def emptyPlan : Plan := Plan.reset

end Machine
end Sys2Proof
end

