-- ==== Sys2Proof/Machine/Objects.lean ====
section
/-! DEFINITION. What the running graph computes (chapters 3 and 4): parameters and ramps on the sample axis (R63, R81,
R142), crossfades (R67 to R71, R89, R96), the object types (R72 to R97), mix buses (R57), the temple (R61), and the end of
an element's work for a pick (R28, R29, R42). -/

namespace Sys2Proof
namespace Machine

/-! ## Values on the sample axis -/

/-- A parameter at a sample: its old value while the sample lies before the change (R142). -/
def State.valueAt (s : State) (m : Map Val) (key k : Nat) : Val :=
  match (sortBy (fun (p : Past) => p.sample) (s.graph.past.filter (fun p => p.key == key && decide (k < p.sample)))).head? with
  | some p => p.old
  | none => getIn m key

/-- A numeric parameter at a sample. -/
def State.numAt (s : State) (m : Map Val) (key k : Nat) : Int := Val.int (s.valueAt m key k)

/-- The equal-power weight sin(pi k / 2 n) as an S4.31 coefficient, to one of its neighbours (R67). -/
def sineWeight (kk n : Nat) : Int := if n ≤ kk then unity else coefNear (fixQuarter kk n) [kk, n]
/-- Weight of the new side at step kk of N as a fraction (R67). -/
def newWeight (law kk n : Nat) : Int × Nat := if law = 0 then (kk, n) else (sineWeight kk n, 2 ^ 31)
/-- Weight of the old side. -/
def oldWeight (law kk n : Nat) : Int × Nat := if law = 0 then ((n - kk : Nat), n) else (sineWeight (n - kk) n, 2 ^ 31)

/-- A ramp at a sample, rounded to nearest: a straight line (R81, R130), or the weights of its law (R70). -/
def rampAt (r : Ramp) (k : Nat) : Int :=
  if r.sample + r.len ≤ k then r.to_
  else if r.law = 0 then r.from_ + roundDiv ((r.to_ - r.from_) * (k - r.sample : Nat)) r.len
  else
    let o := oldWeight r.law (k - r.sample) r.len
    let w := newWeight r.law (k - r.sample) r.len
    roundDiv (r.from_ * o.1 * w.2 + r.to_ * w.1 * o.2) (o.2 * w.2)

/-- A ramped quantity at a sample: the latest ramp that has started, else its target. -/
def State.ramped (s : State) (key k : Nat) (target : Int) : Int :=
  match (sortBy (fun (r : Ramp) => r.sample) (s.graph.ramps.filter (fun r => r.key == key && decide (r.sample ≤ k)))).getLast? with
  | some r => rampAt r k
  | none => target

/-- Starts a ramp under a law at a sample; the earlier ramps of the key stay for picks that are still to be computed. -/
def State.rampBy (s : State) (law key sample len : Nat) (from_ to_ : Int) : State :=
  { s with graph := { s.graph with ramps := s.graph.ramps.filter (fun (r : Ramp) => !(r.key == key && decide (sample ≤ r.sample))) ++
      [⟨key, sample, from_, to_, len, law⟩] } }

/-- Starts a straight ramp at a sample. -/
def State.startRamp (s : State) (key sample len : Nat) (from_ to_ : Int) : State := s.rampBy 0 key sample len from_ to_

/-- Signed linear gain of a gain, a polarity and a mute. -/
def signedGain (g pol mute : Int) : Int := if mute = 1 then 0 else if pol = 1 then -(coefOfGain g) else coefOfGain g

/-- Target gain of a GAIN_TRIM at a sample (R81). -/
def trimTarget (s : State) (m : Map Val) (i k : Nat) : Int :=
  signedGain (s.numAt m (paramKey i Par.TRIM_GAIN) k) (s.numAt m (paramKey i Par.TRIM_POLARITY) k)
    (s.numAt m (paramKey i Par.TRIM_MUTE) k)

/-- Key of the ramp of a contribution's gain (R70). -/
def contribKey (bus slot : Nat) : Nat := 2 ^ 32 + bus * 4096 + slot

/-! ## Crossfades (R67 to R71, R89) -/

/-- The running fade of a destination or tap at a sample, or the first to come. -/
def State.fadeAt (s : State) (unit : Nat) (tap : Bool) (k : Nat) : Option Fade :=
  let fs := s.graph.fades.filter (fun f => f.unit == unit && f.tap == tap)
  match (sortBy (fun (f : Fade) => f.sample) (fs.filter (fun f => decide (f.sample ≤ k)))).getLast? with
  | some f => some f
  | none => (sortBy (fun (f : Fade) => f.sample) fs).head?

/-- The parts of a destination at a sample: sources with their weights (R67, R69). -/
def partsAt (f : Option Fade) (now k : Nat) : List Part :=
  match f with
  | none => [⟨now, 1, 1⟩]
  | some f =>
    if k < f.sample then f.old
    else if f.sample + f.len ≤ k then [⟨f.new, 1, 1⟩]
    else
      let kk := k - f.sample
      let o := oldWeight f.law kk f.len
      let n := newWeight f.law kk f.len
      f.old.map (fun p => ⟨p.src, p.num * o.1, p.den * o.2⟩) ++ [⟨f.new, n.1, n.2⟩]

/-- The weighted sum of parts, rounded once and stored (R26, R67), with its saturated stores. -/
def mixParts (value : Nat → Int) (ps : List Part) : Int × Nat :=
  match ps with
  | [⟨src, 1, 1⟩] => (value src, 0)
  | _ =>
    let r := ps.foldl (fun (a : Int × Nat) (p : Part) => (a.1 * p.den + value p.src * p.num * a.2, a.2 * p.den)) ((0, 1) : Int × Nat)
    let y := roundDiv r.1 r.2
    (sat36 y, if sat36 y = y then 0 else 1)

/-- The weighted sum of parts. -/
def sumParts (value : Nat → Int) (ps : List Part) : Int := (mixParts value ps).1

/-- Sources that feed a destination or tap once a change to a new one is taken (R69), each once; silence is no source. -/
def feedSources (tap : Bool) (parts : List Part) (new : Nat) : List Nat :=
  (((parts.filter (fun p => p.num != 0)).map (fun p => p.src) ++ [new]).filter (fun i => tap || i != 0)).eraseDups

/-- Starts a fade of a destination or tap toward a new source (R67, R69, R89). A change that would need more than `most`
sources is deferred, and so is one that meets a deferred change, which it replaces; a length of 0 cuts (R68). Answers whether it
was deferred. -/
def State.startFade (s : State) (unit : Nat) (tap : Bool) (sample len law most now new : Nat) : State × Bool :=
  let cur := s.fadeAt unit tap sample
  let running := match cur with | some f => decide (f.sample ≤ sample) && decide (sample < f.sample + f.len) | none => false
  let parts := partsAt cur now sample
  let waits := match cur with | some f => f.deferred.isSome | none => false
  if decide (0 < len) && (waits || running && decide (most < (feedSources tap parts new).length)) then
    let fades := s.graph.fades.map (fun (f : Fade) => if some f = cur then { f with deferred := some new } else f)
    ({ s with graph := { s.graph with fades := fades } }, true)
  else
    let parts := if running then parts else [⟨match cur with | some f => if sample < f.sample then now else f.new | none => now, 1, 1⟩]
    let fades := s.graph.fades.filter (fun (f : Fade) => !(f.unit == unit && f.tap == tap && decide (sample ≤ f.sample)))
    let fades := change fades (fun (f : Fade) => f.unit == unit && f.tap == tap) (fun f => { f with deferred := none, ended := true })
    ({ s with graph := { s.graph with fades := fades ++ [⟨unit, tap, sample, len, law, parts, new, none, len == 0⟩] } }, false)

/-! ## Samples of sources -/

/-- The copy that ran until a plan whose first sample is k replaced it. -/
def State.copyBefore (s : State) (k : Nat) : Map Val :=
  match s.graph.olds.find? (fun c => c.1 == k) with | some c => c.2 | none => s.run

/-- The copy of the graph that an element's next pick runs from: an old one while it is leaving (R70), and for the picks
before the start of an instance that replaces another of its number. -/
def State.copyFor (s : State) (w : Work) : Map Val :=
  if w.left ≠ 0 then s.copyBefore (w.left - 1) else if w.next * s.pl < w.start then s.copyBefore w.start else s.run

/-- A block of a source for a pick. -/
def State.block (s : State) (src pick : Nat) : Option Block := s.graph.blocks.find? (fun b => b.id == src && b.pick == pick)

/-- Whether a source is an element's output. -/
def madeSource (src : Nat) : Bool := idKind src == 6 || idKind src == 7

/-- The stored word of a source's sample with its degraded mark: in an element's block, in a warp-beam slot, or in the stores; none
for a position that nothing has written. -/
def State.wordAt (s : State) (src k : Nat) : Option (Nat × Bool) :=
  let within := fun (b : Block) => (b.words[k % s.pl]?).map (fun w => (w, b.degraded))
  if madeSource src then (s.block src (k / s.pl)).bind within
  else match s.graph.warp.find? (fun w => w.src == src && w.sample == k) with
    | some w => some (w.word, w.degraded)
    | none => (s.graph.kept.find? (fun b => b.id == src && b.pick == k / s.pl)).bind within

/-- A source's sample as a reader gets it: in place of a word with a parity error the sample that the stream delivered before it
(R28), over at most n words; an unwritten position reads 0. -/
def State.cleanAt (s : State) (src : Nat) : Nat → Nat → Int
  | 0, _ => 0
  | n + 1, k =>
    match s.wordAt src k with
    | none => 0
    | some w => if storedClean w.1 then ofWord w.1 else if k = 0 then 0 else s.cleanAt src n (k - 1)

/-- A source's sample and degraded mark. -/
def State.sourceAt (s : State) (src k : Nat) : Int × Bool :=
  (s.cleanAt src 64 k, match s.wordAt src k with | some w => w.2 | none => false)

/-- Whether a sample of a source in a pick is degraded (R41, R250). -/
def State.degradedIn (s : State) (src pick : Nat) : Bool := (List.range s.pl).any (fun o => (s.sourceAt src (pick * s.pl + o)).2)

/-- Whether a source's word has a parity error (R28). -/
def State.badWord (s : State) (src k : Nat) : Bool := match s.wordAt src k with | some w => !storedClean w.1 | none => false

/-- The source that a copy routes to a destination; 0 when none does. -/
def routed (m : Map Val) (dest : Nat) : Nat :=
  match (edgesOf m).find? (fun e => e.dest == dest) with | some e => e.src | none => 0

/-- The parts that feed a destination at a sample. -/
def State.feed (s : State) (m : Map Val) (dest k : Nat) : List Part := partsAt (s.fadeAt dest false k) (routed m dest) k

/-- A destination's sample through its crossfade (R67). -/
def State.destAt (s : State) (m : Map Val) (dest k : Nat) : Int :=
  sumParts (fun src => (s.sourceAt src k).1) (s.feed m dest k)

/-- Sources that feed a destination over a pick. -/
def State.feeds (s : State) (m : Map Val) (dest pick : Nat) : List Nat :=
  (((s.feed m dest (pick * s.pl)) ++ (s.feed m dest (pick * s.pl + s.pl - 1))).map (fun p => p.src)).eraseDups

/-! ## Object types (R81 to R96): one sample -/

/-- What one sample of an object makes: its outputs, its registers and its saturated stores. -/
structure Made where
  outs : List Int
  regs : List Int
  sats : Nat
  deriving DecidableEq, Repr

/-- A gain applied and stored. -/
def gained (x c : Int) : Int × Nat := (scale x c, if storeSaturates (x * c) then 1 else 0)

/-- One second-order section in direct form I with its five coefficients and four registers (R82): output, registers,
saturations. -/
def section1 (c : List Int) (x : Int) (r : List Int) : Int × List Int × Nat :=
  let x1 := r.getD 0 0
  let x2 := r.getD 1 0
  let y1 := r.getD 2 0
  let y2 := r.getD 3 0
  let acc := macAll [x, x1, x2, y1, y2] c
  (store acc, [x, x1, store acc, y1], if storeSaturates acc then 1 else 0)

/-- A cascade of sections over consecutive registers. -/
def cascade : List (List Int) → Int → List Int → Int × List Int × Nat
  | [], x, _ => (x, [], 0)
  | c :: cs, x, r =>
    let a := section1 c x (r.take 4)
    let b := cascade cs a.1 (r.drop 4)
    (b.1, a.2.1 ++ b.2.1, a.2.2 + b.2.2)

/-- The ways of a crossover over its points, lowest first (R83): at each point the low-pass of what is left, aligned in phase to the
points above it, is a way, and the high-pass goes on. Answers the ways, the registers and the saturations. -/
def splitWays (slope rate : Nat) : List Nat → Int → List Int → List Int × List Int × Nat
  | [], x, _ => ([x], [], 0)
  | p :: ps, x, r =>
    let lows := bandSections slope rate .low p ++ ps.flatMap (bandSections slope rate .align)
    let highs := bandSections slope rate .high p
    let a := cascade lows x r
    let b := cascade highs x (r.drop (4 * lows.length))
    let c := splitWays slope rate ps b.1 (r.drop (4 * (lows.length + highs.length)))
    (a.1 :: c.1, a.2.1 ++ b.2.1 ++ c.2.1, a.2.2 + b.2.2 + c.2.2)

/-- One sample of a CHANNEL_DYNAMICS (R91, R92): the gain that it applies and its registers, the first of which is the applied gain of
gate and compressor together, without makeup, that DYN_GR shows. -/
def dynamicsSample (rate : Nat) (num : Nat → Int) (gain : Nat → Int) (regs keys : List Int) : Int × List Int :=
  let lsb := fun (p : Nat) => num p * 2 ^ 32
  let range := lsb Par.GATE_RANGE
  let d := dynamicsOf range regs
  let peak := levelOf (keys.headD 0).natAbs (2 ^ 27)
  let d := gateStep peak (lsb Par.GATE_THRESH) range (lsb Par.GATE_HYST) (num Par.GATE_ATTACK_US).toNat
    (roundNat ((num Par.GATE_HOLD_MS).toNat * rate) 1000) (num Par.GATE_RELEASE_MS).toNat rate d
  let squares := ((keys.map (fun x => x * x)).foldl (fun (a : Int) x => a + x) 0).toNat
  let level := if num Par.COMP_DETECT = 1 then levelOf squares (keys.length * 2 ^ 54) / 2 else peak
  let target := compCurve level (lsb Par.COMP_THRESH) (lsb Par.COMP_KNEE) (num Par.COMP_RATIO).toNat
  let comp := compStep target (num Par.COMP_ATTACK_US).toNat (num Par.COMP_RELEASE_MS).toNat rate d.comp
  let gate := bypassMix (gain Par.GATE_ON) (fixOfLevel d.gate)
  let bare := fixMul gate (bypassMix (gain Par.COMP_ON) (fixOfLevel comp))
  let full := fixMul gate (bypassMix (gain Par.COMP_ON) (fixOfLevel comp * gain Par.COMP_MAKEUP / unity))
  (coefNear full [full], [coefNear bare [bare], d.gate, comp, if d.isOpen then 1 else 0, (d.below : Nat)])

/-- One sample of an object of a type from its slots, registers, history per pin (newest first) and inputs; `rate`
is the engine rate, `gain` its ramped quantities by slot. -/
def makeSample (type rate : Nat) (p : Nat → Val) (gain : Nat → Int) (regs : List Int) (hist : List (List Int))
    (x : List Int) : Made :=
  let x0 := x.getD 0 0
  let num := fun (k : Nat) => Val.int (p k)
  match type with
  | 0x01 => let g := gained x0 (gain Par.TRIM_GAIN); ⟨[g.1], [], g.2⟩
  | 0x10 =>
    let cs := (List.range (num Par.EQ_SECTIONS).toNat).map (fun k => eqSection (num (Par.EQ_BAND + k)).toNat rate)
    let a := cascade cs x0 regs
    let g := gained a.1 (coefOfGain (num Par.EQ_GAIN))
    ⟨[g.1], a.2.1, a.2.2 + g.2⟩
  | 0x11 =>
    let points := (List.range ((num Par.XO_WAYS).toNat - 1)).map (fun k => (num (Par.XO_FREQ + k)).toNat)
    let r := splitWays (num Par.XO_SLOPE).toNat rate points x0 regs
    let ys := ((List.range r.1.length).zip r.1).map (fun (y : Nat × Int) =>
      let g := coefOfGain (num (Par.XO_WAY_GAIN + y.1))
      gained y.2 (if bit (num Par.XO_WAY_POLARITY).toNat y.1 then -g else g))
    ⟨ys.map (fun y => y.1), r.2.1, r.2.2 + (ys.map (fun y => y.2)).sum⟩
  | 0x20 =>
    let cs := unpackInts 8 (Val.octets (p Par.FIRD_COEFS))
    let acc := macAll (x0 :: hist.headD []) cs
    ⟨[store acc], [], if storeSaturates acc then 1 else 0⟩
  | 0x21 =>
    let cs := unpackInts 8 (Val.octets (p 0x3F))
    let y := roundStore (macAll (x0 :: hist.headD []) cs) + transformError cs (x0 :: hist.headD [])
    ⟨[sat36 y], [], if sat36 y = y then 0 else 1⟩
  | 0x40 =>
    let pin := if num Par.KEY_SOURCE = 1 then 1 else 0
    let r := dynamicsSample rate num gain regs ((x.getD pin 0 :: hist.getD pin []).take (rate / 100))
    let g := gained x0 r.1
    ⟨[g.1], r.2, g.2⟩
  | 0x41 =>
    let peak := if num Par.LIM_TRUE_PEAK = 1 then max (x0.natAbs : Int) (truePeak (x0 :: hist.headD [])) else x0
    let r := limit (ceilingOf (num Par.LIM_CEILING)) (regs.headD unity) x0 peak (num Par.LIM_RELEASE_MS).toNat rate
    ⟨[r.1], [r.2.1], 0⟩
  | 0x50 =>
    let m := (num Par.MTX_IN).toNat
    let gs := unpackInts 4 (Val.octets (p Par.MTX_GAINS))
    (List.range (num Par.MTX_OUT).toNat).foldl (fun (a : Made) o =>
      let acc := macAll (x.take m) ((List.range m).map (fun j => coefOfGain (gs.getD (o * m + j) minusInf)))
      ⟨a.outs ++ [store acc], [], a.sats + (if storeSaturates acc then 1 else 0)⟩) ⟨[], [], 0⟩
  | 0x70 => ⟨[0], regs, 0⟩
  | _ => ⟨[], regs, 0⟩

/-- Samples of one sweep of a GENERATOR (R96). -/
def sweepLen (rate : Nat) (p : Nat → Val) : Nat := max 1 (roundNat ((Val.int (p Par.GEN_SWEEP_MS)).toNat * rate) 1000)

/-- Frequency of a sweep at sample n of its run, in mHz with 32 bits behind the point: logarithmic from GEN_FREQ to GEN_SWEEP_END over
the sweep, which repeats (R96). -/
def sweepFreq (rate n : Nat) (p : Nat → Val) : Int :=
  let from_ := (Val.int (p Par.GEN_FREQ)).toNat
  let way := fixRatio (n % sweepLen rate p : Nat) (sweepLen rate p)
  from_ * fixExp (fixMul (fixLog (Val.int (p Par.GEN_SWEEP_END)).toNat from_) way) / 2 ^ 32

/-- Phase units of a turn at a rate: mHz with 32 bits behind the point, per sample. -/
def turnOf (rate : Nat) : Nat := rate * 1000 * 2 ^ 32

/-- One waveform of a GENERATOR before its level (R75, R96): sine and sweep from their phases, noise with its RMS at full scale and a crest
factor of at most 12 dB. -/
def wave (code i start n rate : Nat) (sine sweep : Int) : Int :=
  let tone := fun (phase : Int) => sampleNear (fixSine phase.toNat (turnOf rate)) [phase, rate]
  match code with
  | 0 => 0
  | 1 => tone sine
  | 4 => tone sweep
  | _ => max (-(ceilingOf 12000)) (min (ceilingOf 12000) (Config.noise code i start n))

/-- Length of the history that a type keeps per pin. -/
def historyLen (m : Map Val) (i rate : Nat) : Nat :=
  match typeIn m i with
  | 0x20 => shapeOf m i Par.FIRD_TAPS
  | 0x21 => shapeOf m i Par.FIRP_TAPS
  | 0x30 => shapeOf m i Par.DELAY_MAX
  | 0x40 => rate / 100
  | 0x41 => 12
  | 0x60 => 3 * rate
  | 0x61 => rate
  | _ => 0

/-- Slots whose quantity ramps on its own (R92, R96), with the value of a number. -/
def rampedSlot (type p : Nat) (v : Int) : Option Int :=
  match type with
  | 0x40 => if p = Par.GATE_ON ∨ p = Par.COMP_ON then some (if v = 1 then unity else 0)
            else if p = Par.COMP_MAKEUP then some (coefOfGain v) else none
  | 0x70 => if p = Par.GEN_LEVEL then some (coefOfGain v) else none
  | _ => none

/-- The ramped quantity of a slot at a sample. -/
def State.gainAt (s : State) (m : Map Val) (i k p : Nat) : Int :=
  let key := paramKey i p
  if typeIn m i = 0x01 then s.ramped (paramKey i Par.TRIM_GAIN) k (trimTarget s m i k)
  else s.ramped key k ((rampedSlot (typeIn m i) p (s.numAt m key k)).getD 0)

/-- A delay's output: the taps of its crossfade (R89). -/
def State.delayed (s : State) (m : Map Val) (i k : Nat) (line : List Int) : Made :=
  let now := (s.numAt m (paramKey i Par.DELAY_TIME) k).toNat
  let y := mixParts (fun d => line.getD d 0) (partsAt (s.fadeAt i true k) now k)
  ⟨[y.1], [], y.2⟩

/-- A generator's output: the waveforms of its crossfade, times its level (R96). Its registers are the phases of sine and sweep, zero at the
first sample and moved by the frequency at each, and the sample number of its start. -/
def State.generated (s : State) (m : Map Val) (i n k : Nat) (p : Nat → Val) (regs : List Int) : Made :=
  let now := (Val.int (p Par.GEN_WAVE)).toNat
  let sine := regs.getD 0 0
  let start := regs.getD 1 k
  let sweep := regs.getD 2 0
  let mix := mixParts (fun c => wave c i start.toNat n s.fs sine sweep) (partsAt (s.fadeAt i true k) now k)
  let y := gained mix.1 (s.gainAt m i k Par.GEN_LEVEL)
  let turn := ((turnOf s.fs : Nat) : Int)
  ⟨[y.1], [(sine + Val.int (p Par.GEN_FREQ) * 2 ^ 32) % turn, start, (sweep + sweepFreq s.fs n p) % turn], mix.2 + y.2⟩

/-- Samples of a LOUDNESS block: 100 ms (R95). -/
def loudBlock (rate : Nat) : Nat := rate / 10

/-- One sample of a LOUDNESS (R95): every input through K-weighting, its square times its channel weight into the energy of the running
100 ms block. Registers: 8 per input, the samples and the energy of the running block, then the energies of finished blocks, oldest
first. -/
def loudSample (rate inputs : Nat) (num : Nat → Int) (regs x : List Int) : Made :=
  let ks := kWeighting rate
  let ys := (List.range inputs).map (fun j => cascade ks (x.getD j 0) ((regs.drop (8 * j)).take 8))
  let energy := (List.range inputs).foldl (fun (a : Int) j =>
    let w := num (Par.LD_WEIGHT + j)
    let y := (ys.getD j (0, [], 0)).1
    if w = minusInf then a else a + y * y * fixOfLevel (2 * w * 2 ^ 32) / 2 ^ 32) (regs.getD (8 * inputs + 1) 0)
  let n := regs.getD (8 * inputs) 0 + 1
  let done := regs.drop (8 * inputs + 2)
  let tail := if n = (loudBlock rate : Nat) then 0 :: 0 :: (done ++ [energy]) else n :: energy :: done
  ⟨[], (ys.flatMap (fun y => y.2.1)) ++ tail, 0⟩

/-- Outputs, work and saturations of an instance over one pick; `slot` says which slot holds a parameter at a sample, for the
second instance of a twill swap (R64). -/
def State.runInst (s : State) (m : Map Val) (i pick : Nat) (slot : Nat → Nat → Nat) (inputs : Nat → List Int) (w : Work) :
    List (List Int) × List Int × Work × Nat :=
  let type := typeIn m i
  let len := historyLen m i s.fs
  (List.range s.pl).foldl (fun (a : List (List Int) × List Int × Work × Nat) o =>
    let k := pick * s.pl + o
    let x := inputs o
    let w := a.2.2.1
    let p := fun (q : Nat) => s.valueAt m (paramKey i (slot k q)) k
    let r := match type with
      | 0x30 => s.delayed m i k (x.headD 0 :: w.hist.headD [])
      | 0x61 => loudSample s.fs (inPins m i) (fun q => Val.int (p q)) w.regs x
      | 0x70 => s.generated m i (k - w.start) k p w.regs
      | _ => makeSample type s.fs p (s.gainAt m i k) w.regs w.hist x
    let hist := (List.range (max x.length w.hist.length)).map (fun j => (x.getD j 0 :: w.hist.getD j []).take len)
    (a.1 ++ [r.outs], a.2.1 ++ [r.regs.headD unity], { w with regs := r.regs, hist := if len = 0 then [] else hist }, a.2.2.2 + r.sats))
    ([], [], w, 0)

/-- The slots of the staged set for the active ones (R64, R78). -/
def stagedSlot (type p : Nat) : Nat :=
  match type with
  | 0x10 => if Par.EQ_BAND ≤ p ∧ p < Par.EQ_BAND + 16 then p + 16 else p
  | 0x11 => if Par.XO_FREQ ≤ p ∧ p < Par.XO_FREQ + 4 then p + 4 else p
  | 0x20 => if p = Par.FIRD_COEFS then Par.FIRD_COEFS_STAGED else p
  | 0x21 => if p = 0x3F then Par.FIRP_COEFS_STAGED else p
  | 0x50 => if p = Par.MTX_GAINS then Par.MTX_GAINS_STAGED else p
  | _ => p

/-- Active slots that take the staged values at TWILL_DONE, with the slots they come from (R64, R78). -/
def swapSlots (type : Nat) : List (Nat × Nat) :=
  match type with
  | 0x10 => (List.range 16).map (fun k => (Par.EQ_BAND + k, Par.EQ_BAND_STAGED + k))
  | 0x11 => (List.range 4).map (fun k => (Par.XO_FREQ + k, Par.XO_FREQ_STAGED + k))
  | 0x20 => [(Par.FIRD_COEFS, Par.FIRD_COEFS_STAGED)]
  | 0x21 => [(0x3F, Par.FIRP_COEFS_STAGED)]
  | 0x50 => [(Par.MTX_GAINS, Par.MTX_GAINS_STAGED)]
  | _ => []

/-! ## Mix buses (R57, R70) -/

/-- Octets of a bus's contribution list at a sample, its gains moving under R70. -/
def State.busGain (s : State) (m : Map Val) (b slot : Nat) (k : Nat) : Int :=
  let now := match (contribsIn (Val.octets (s.valueAt m (entry Obj.BUS_CONTRIB b) k)))[slot]? with | some c => coefOfGain c.2 | none => 0
  s.ramped (contribKey b slot) k now

/-- The accumulator of a bus at a sample: contributions, then removed contributions that fade out (R57, R70). -/
def State.busSum (s : State) (m : Map Val) (b k : Nat) : Int :=
  let cs := contribsIn (Val.octets (s.valueAt m (entry Obj.BUS_CONTRIB b) k))
  let acc := ((List.range cs.length).zip cs).foldl (fun a (c : Nat × Nat × Int) =>
    Machine.mac a (s.sourceAt c.2.1 k).1 (s.busGain m b c.1 k)) 0
  (s.graph.tails.filter (fun t => t.bus == b && decide (t.sample ≤ k) && decide (k < t.sample + t.len))).foldl (fun a t =>
    let w := oldWeight t.law (k - t.sample) t.len
    Machine.mac a (s.sourceAt t.src k).1 (roundDiv (t.gain * w.1) w.2)) acc

/-- The store of an unrounded sum times one further coefficient, rounded once (R26, R57), with its saturated stores. -/
def storeScaled (acc level : Int) : Int × Nat :=
  let r := (acc * level + 2 ^ 61) / 2 ^ 62
  (sat36 r, if sat36 r = r then 0 else 1)

/-- A bus's sample: the unrounded sum times BUS_LEVEL, stored once (R57). -/
def State.busAt (s : State) (m : Map Val) (b k : Nat) : Int × Nat :=
  storeScaled (s.busSum m b k) (coefOfGain (s.numAt m (entry Obj.BUS_LEVEL b) k))

/-! ## The end of an element's work (R28, R29, R42) -/

/-- Keeps a block of a pin for a pick, in place of one that stands. -/
def State.putBlock (s : State) (b : Block) : State :=
  { s with graph := { s.graph with blocks := s.graph.blocks.filter (fun (c : Block) => !(c.id == b.id && c.pick == b.pick)) ++ [b] } }

/-- The work of an element. -/
def State.workOf (s : State) (e : Nat) : Option Work := s.graph.works.find? (fun w => elemNo w.elem == e)

/-- Replaces the work of an element. -/
def State.setWork (s : State) (e : Nat) (w : Work) : State :=
  { s with graph := { s.graph with works := change s.graph.works (fun (v : Work) => elemNo v.elem == e) (fun _ => w) } }

/-- Adds or replaces the work of an element. -/
def State.putWork (s : State) (w : Work) : State :=
  { s with graph := { s.graph with works := s.graph.works.filter (fun (v : Work) => v.elem ≠ w.elem) ++ [w] } }

/-- The stage of an output or pin by DEST_ID or SOURCE_ID. -/
def State.outOf (s : State) (id : Nat) : OutState :=
  (s.graph.outs.find? (fun o => o.dest == id)).getD ⟨id, unity, 0, 0, 0, 0⟩

/-- Replaces a stage. -/
def State.setOut (s : State) (o : OutState) : State :=
  { s with graph := { s.graph with outs := s.graph.outs.filter (fun (p : OutState) => p.dest != o.dest) ++ [o] } }

/-- Output pins of an element as SOURCE_IDs. -/
def pinsOf (m : Map Val) (e : Nat) : List Nat :=
  if e < 65536 then (List.range (outPins m e)).map (fun c => endpoint 6 e c) else [endpoint 7 (e - 65536) 0]

/-- Samples of the fade-in of R43: 10 ms. -/
def fade10 (s : State) : Nat := s.msSamples 10

/-- Releases a pin's samples of a pick: a pin that was moved fades in linearly over 10 ms with its degraded mark (R43). -/
def State.putPin (s : State) (id pick : Nat) (x : List Int) (degraded : Bool) : State :=
  let o := s.outOf id
  let o := if o.phase = 2 ∨ o.phase = 3 ∨ o.phase = 5 then { o with phase := 4, sample := pick * s.pl }
    else if o.phase = 1 then { o with phase := 0 } else o
  let o := if o.phase = 4 ∧ o.sample + fade10 s ≤ pick * s.pl then { o with phase := 0 } else o
  let n := fade10 s
  let y := if o.phase = 4 then ((List.range x.length).zip x).map (fun (p : Nat × Int) =>
      let k := pick * s.pl + p.1 - o.sample
      if n ≤ k then p.2 else roundDiv (p.2 * k) n) else x
  (s.putBlock (blockOf id pick y (degraded || o.phase == 4))).setOut { o with last := y.getLastD o.last }

/-- The weight of sample k of the 32-sample fade-out of R43 in 1/32: from 31/32 at its first sample down to 0 at its last. The manual gives
the length alone; the weights are the model's choice (log entry 223). -/
def fadeOutWeight (k : Nat) : Nat := 31 - k

/-- A held pick of a pin: the last sample at every position, degraded (R41). -/
def heldBlock (s : State) (id pick : Nat) (v : Int) : Block := { blockOf id pick (List.replicate s.pl v) true with missed := true }

/-- The block that replaces a pin's output that did not complete: held for the first pick, then, for a moved object (`moved`), faded to zero
over 32 samples with the weights of log entry 223, then zero, always degraded (R41, R43). -/
def State.holdPin (s : State) (pick : Nat) (moved : Bool) (id : Nat) : State :=
  let o := s.outOf id
  let faded := fun (first : Nat) => (List.range s.pl).map (fun k => roundDiv (o.held * (fadeOutWeight (pick * s.pl + k - first) : Nat)) 32)
  let starts := (s.putBlock (blockOf id pick (faded (pick * s.pl)) true)).setOut
    { o with phase := if 32 ≤ s.pl then 3 else 2, sample := pick * s.pl, last := (faded (pick * s.pl)).getLastD 0 }
  match o.phase with
  | 1 => if moved then starts else s.putBlock (heldBlock s id pick o.last)
  | 5 => starts
  | 2 =>
    let y := faded o.sample
    let done := decide (o.sample + 32 ≤ (pick + 1) * s.pl)
    (s.putBlock (blockOf id pick y true)).setOut { o with phase := if done then 3 else 2, last := y.getLastD 0 }
  | 3 => (s.putBlock (blockOf id pick (List.replicate s.pl 0) true)).setOut { o with last := 0 }
  | _ => (s.putBlock (heldBlock s id pick o.last)).setOut { o with phase := if moved then 5 else 1, held := o.last }

/-- The pins of an object that a fault move takes fade in when it produces output again, even after a single held pick (R43). -/
def State.markMoved (s : State) (ids : List Nat) : State :=
  s.each ids (fun s id => let o := s.outOf id; if o.phase = 1 then s.setOut { o with phase := 5 } else s)

/-- Sources that an element reads over a pick. -/
def State.readsOf (s : State) (m : Map Val) (e pick : Nat) : List Nat :=
  if e < 65536 then (List.range (inPins m e)).flatMap (fun j => s.feeds m (endpoint 6 e j) pick)
  else ((contribsOf m (e - 65536)).map (fun (c : Nat × Int) => c.1) ++
    (s.graph.tails.filter (fun t => t.bus == e - 65536)).map (fun t => t.src)).eraseDups

/-- Whether a source's samples of a pick can be read: a port's always, an element's once it has completed, or before it
started. -/
def State.ready (s : State) (pick src : Nat) : Bool :=
  match sourceElem src with
  | none => true
  | some a => (s.block src pick).isSome || (match s.workOf a with
    | some w => decide ((pick + 1) * s.pl ≤ w.start) && decide (pick < w.next)
    | none => true)

/-- Whether an instance is a delay of a pick or more that closes a cycle (R49, R90): no sample of a pick's output depends on the
input of that pick, so it reads the input of the pick before. -/
def State.lags (s : State) (m : Map Val) (i : Nat) : Bool := delaysPick m s.pl i && onCycle m i

/-- Whether the inputs that an element reads for its next pick are complete. -/
def State.fed (s : State) (e : Nat) (w : Work) : Bool :=
  let m := s.copyFor w
  if s.lags m e then decide (w.next * s.pl ≤ w.start) || (s.readsOf m e (w.next - 1)).all (s.ready (w.next - 1))
  else (s.readsOf m e w.next).all (s.ready w.next)

/-- The pick that closes the block of a FIR_PARTITIONED to which a pick belongs, by its block phase (R87, R88). -/
def State.blockEnd (s : State) (i pick : Nat) : Nat :=
  let f := mapGetD s.graph.plan.phase i 0
  pick + (f + 8 - pick % 8) % 8

/-- Whether an element runs: its pick's slot has closed, its inputs are complete, and no fault move holds it (R11, R116). A
FIR_PARTITIONED completes a block in the second pick period after the block has closed (R87). -/
def State.canComplete (s : State) (e : Nat) (w : Work) : Bool :=
  let m := s.copyFor w
  let last := if e < 65536 && typeIn m e == 0x21 then s.blockEnd e w.next + 1 else w.next
  decide (last < s.clock.pick) && s.fed e w &&
  !s.fabric.moves.any (fun m => m.inst == e && m.kind == 1)

/-- Input samples of an instance over a pick, each word with a parity error replaced by the previous sample of the position (R28). -/
def State.inputsOf (s : State) (m : Map Val) (i pick : Nat) : List (List Int) :=
  (List.range (inPins m i)).map (fun j => (List.range s.pl).map (fun o => s.destAt m (endpoint 6 i j) (pick * s.pl + o)))

/-- Saturated stores of the crossfades at an instance's inputs over a pick (R26, R67). -/
def State.inputSats (s : State) (m : Map Val) (i pick : Nat) : Nat :=
  (((List.range (inPins m i)).filter (fun j => s.graph.fades.any (fun f => !f.tap && f.unit == endpoint 6 i j))).flatMap (fun j =>
    (List.range s.pl).map (fun o =>
      let k := pick * s.pl + o
      (mixParts (fun src => (s.sourceAt src k).1) (s.feed m (endpoint 6 i j) k)).2))).sum

/-- Words with a parity error among the inputs of an instance or a bus for a pick (R28). -/
def State.badReads (s : State) (m : Map Val) (e pick : Nat) : Nat :=
  ((s.readsOf m e pick).map (fun src => ((List.range s.pl).filter (fun o => s.badWord src (pick * s.pl + o))).length)).sum

/-- An upset of the stored word of a source's sample (R28): it stays until a later write. -/
def State.upset (s : State) (src k : Nat) : State :=
  { s with graph := { s.graph with
      warp := change s.graph.warp (fun (w : WarpSample) => w.src == src && w.sample == k) (fun w => { w with word := upsetWord w.word })
      kept := change s.graph.kept (fun (b : Block) => b.id == src && b.pick == k / s.pl)
        (fun b => { b with words := b.words.modify (k % s.pl) upsetWord })
      blocks := change s.graph.blocks (fun (b : Block) => b.id == src && b.pick == k / s.pl)
        (fun b => { b with words := b.words.modify (k % s.pl) upsetWord }) } }

/-- Upsets at input positions of an element for a pick: position number * PICK_LENGTH + offset, where the number counts input pins, or
the records of a bus (R28). -/
def State.upsets (s : State) (m : Map Val) (e pick : Nat) (positions : List Nat) : State :=
  s.each positions (fun s q =>
    let k := pick * s.pl + q % s.pl
    let src := if e < 65536 then (match s.feed m (endpoint 6 e (q / s.pl)) k with | p :: _ => p.src | [] => 0)
      else (((contribsOf m (e - 65536))[q / s.pl]?).map (fun (c : Nat × Int) => c.1)).getD 0
    s.upset src k)

/-- A delay that closes a cycle leaves room for its input of a pick, which its next pick fills in; register 0 is then 1. -/
def State.fillLine (s : State) (m : Map Val) (i : Nat) (w : Work) : Work :=
  if typeIn m i = 0x30 ∧ w.regs.headD 0 = 1 then
    let line := (w.hist.headD []).drop s.pl
    let x := (s.inputsOf m i (w.next - 1)).headD []
    { w with hist := [x.reverse ++ line], regs := [] }
  else w

/-- Key of the lowest gain of an instance's pick, kept as a block of pin 0xFFF until its release batten (R91, R93). -/
def gainPin (i : Nat) : Nat := endpoint 6 i 0xFFF
/-- Key of the input samples of a METER's pick, or the true peaks of a LOUDNESS's, kept until its release batten (R74, R95). -/
def meterPin (i : Nat) : Nat := endpoint 6 i 0xFFE

/-- The highest true peak of a LOUDNESS's inputs at each sample of a pick that lies in a run, else 0, from the histories after the pick,
newest first (R95). -/
def State.truePeaks (s : State) (i pick : Nat) (hist : List (List Int)) : List Int :=
  (List.range s.pl).map (fun o =>
    if s.numAt s.run (paramKey i Par.LD_RUN) (pick * s.pl + o) ≠ 1 then 0
    else hist.foldl (fun (a : Int) h => max a (truePeak (h.drop (s.pl - 1 - o)))) 0)

/-- The running twill swap of an instance. -/
def State.swapOf (s : State) (i : Nat) : Option Twill := s.graph.twills.find? (fun t => t.inst == i && t.phase == 2)

/-- Samples N of a twill swap (R64). -/
def twillLen (s : State) (t : Twill) : Nat := s.msSamples t.fadeMs

/-- An instance computes its pick: outputs, new state and what is kept for its readings; a running twill swap mixes the two
instances sample by sample (R64). -/
def State.computeInst (s : State) (i : Nat) (w : Work) : State :=
  let m := s.copyFor w
  let pick := w.next
  let w := if pick * s.pl = w.start then { w with regs := [], hist := [] } else w
  let type := typeIn m i
  let lag := s.lags m i
  let w := s.fillLine m i w
  let xs := if lag then [[]] else s.inputsOf m i pick
  let inputs := fun (o : Nat) => xs.map (fun x => x.getD o 0)
  let r := s.runInst m i pick (fun _ p => p) inputs w
  let outs := match (s.swapOf i).filter (fun t => decide (t.start < (pick + 1) * s.pl)) with
    | some t =>
      let w2 := (s.workOf (16384 + i)).getD { w with elem := .inst (16384 + i) }
      let r2 := s.runInst m i pick (fun k p => if k < t.start then p else stagedSlot type p) inputs w2
      let n := twillLen s t
      (((List.range s.pl).zip (r.1.zip r2.1)).map (fun (q : Nat × List Int × List Int) =>
        let k := pick * s.pl + q.1 - t.start
        if pick * s.pl + q.1 < t.start then q.2.1
        else if n ≤ k then q.2.2
        else (q.2.1.zip q.2.2).map (fun (v : Int × Int) => roundDiv (v.1 * (n - k : Nat) + v.2 * k) n)), some r2.2.2.1, r2.2.2.2)
    | none => (r.1, none, 0)
  let read := if lag then pick - 1 else pick
  let degraded := (s.readsOf m i read).any (fun src => s.degradedIn src read)
  let s := s.each (List.range (outPins m i)) (fun s c =>
    s.putPin (endpoint 6 i c) pick (outs.1.map (fun o => o.getD c 0)) degraded)
  let s := if type = 0x40 ∨ type = 0x41 then s.putBlock (blockOf (gainPin i) pick r.2.1 false) else s
  let s := if type = 0x60 then s.putBlock (blockOf (meterPin i) pick (xs.headD []) false) else s
  let s := if type = 0x61 then s.putBlock (blockOf (meterPin i) pick (s.truePeaks i pick (r.2.2.1.hist)) false) else s
  let sats := r.2.2.2 + outs.2.2 + (if lag then 0 else s.inputSats m i pick)
  let s := if sats = 0 then s else s.bump (entry Obj.SAT_STORE_INSTANCE i) sats
  let s := s.setWork i { r.2.2.1 with next := pick + 1, regs := if lag then [1] else r.2.2.1.regs }
  match outs.2.1 with
  | some w2 => s.putWork { w2 with next := pick + 1 }
  | none => s

/-- A bus computes its pick. -/
def State.computeBus (s : State) (b : Nat) (w : Work) : State :=
  let m := s.copyFor w
  let pick := w.next
  let ys := (List.range s.pl).map (fun o => s.busAt m b (pick * s.pl + o))
  let degraded := (s.readsOf m (65536 + b) pick).any (fun src => s.degradedIn src pick)
  let sats := (ys.map (fun y => y.2)).sum
  let s := s.putPin (endpoint 7 b 0) pick (ys.map (fun y => y.1)) degraded
  let s := if sats = 0 then s else s.bump (entry Obj.SAT_STORE_BUS b) sats
  s.setWork (65536 + b) { w with next := pick + 1 }

/-- Finish time of a shuttle, or of the reed and the mix as number 54, for the deadline at a batten (R37). -/
def State.finishAt (s : State) (sh deadline : Nat) : State :=
  let rest := s.fabric.finish.filter (fun (p : Nat × Nat × Nat) => !(p.1 == sh && p.2.2 == deadline))
  { s with fabric := { s.fabric with finish := rest ++ [(sh, s.clock.now, deadline)] } }

/-- Batten at which the result of an element's pick is due (R33, R37). -/
def State.deadline (s : State) (e pick : Nat) : Nat := pick + mapGetD s.graph.plan.due e 2

/-- n parity errors met while reading are counted in a tier and flagged (R28, R416). -/
def State.parityMet (s : State) (tier n : Nat) : State := if n = 0 then s else (s.bumpSat (parityKey tier) n).flag 0

/-- The shuttle of an element; the reed and mix for a bus. -/
def State.shuttleOf (s : State) (e : Nat) : Nat := if e < 65536 then mapGetD s.graph.plan.place e 54 else 54

/-- A double-bit error of a coefficient pair (R29): held output, no new state, a reload at the next batten. -/
def State.coefLost (s : State) (i : Nat) (w : Work) : State :=
  let s := s.each (pinsOf (s.copyFor w) i) (fun s id => s.putBlock (heldBlock s id w.next (s.outOf id).last))
  let s := (s.setWork i { w with next := w.next + 1 }).flag 2
  let s := { s with graph := { s.graph with reload := s.graph.reload ++ [i] } }
  (s.bumpSat Obj.ECC_COEF_UNCORR).raise Ev.COEF_UNCORRECTABLE i

/-- An instance computes the picks of its task: one, or the block of a FIR_PARTITIONED (R87). -/
def State.computeTask (s : State) (i : Nat) (w : Work) : State :=
  if typeIn (s.copyFor w) i = 0x21 then
    s.each (List.range (s.blockEnd i w.next + 1 - w.next)) (fun s _ => match s.workOf i with
      | some w => s.computeInst i w
      | none => s)
  else s.computeInst i w

/-- TASK_COMPLETE (R42): the end of an element's last task for its pick makes its new state valid and sets the finish time of
its shuttle; parity and ECC faults met on the way act under R28 and R29. -/
def execTaskComplete (t : Nat) (e : Elem) (f : TaskFaults) (s : State) : Result :=
  let s := s.at_ t
  let n := elemNo e
  match s.workOf n with
  | none => .next s
  | some w =>
    .next (s.whenever (decide (s.power.stage = 5) && s.canComplete n w) (fun s =>
      let m := s.copyFor w
      let read := match e with | .inst i => if s.lags m i then w.next - 1 else w.next | .bus _ => w.next
      let s := s.upsets m n read f.parity
      let s := s.parityMet f.tier (s.badReads m n read)
      let s := if f.eccCorrected = 0 then s else s.bumpSat Obj.ECC_COEF_CORR f.eccCorrected
      let s := match e with
        | .inst i => if f.eccDouble then s.coefLost i w else s.computeTask i w
        | .bus b => s.computeBus b w
      s.finishAt (s.shuttleOf n) (s.deadline n w.next)))

end Machine
end Sys2Proof
end

