-- ==== Sys2Proof/Machine/Checks.lean ====
section
/-! DEFINITION. The checks of a written value that rest on its type, its range and its object alone (R4, R341, R342, R488),
and those of graph objects and object parameters (R58, R59, R64, R82 to R84, R89, R90, R94, R489). -/

namespace Sys2Proof
namespace Machine

/-- Octets of a value type on the wire; 0 for STRING and BLOB (R341). -/
def Ty.size : Ty → Nat
  | .bool => 1 | .u8 => 1 | .u16 => 2 | .u32 => 4 | .u64 => 8 | .s8 => 1 | .s16 => 2 | .s32 => 4 | .s64 => 8 | .smp36 => 8
  | .gain => 4 | .time80 => 10 | .pick64 => 8 | .string => 0 | .blob => 0 | .enum16 => 2 | .freq => 4 | .coef36 => 8

/-- Type codes (R341). -/
def Ty.code : Ty → Nat
  | .bool => 1 | .u8 => 2 | .u16 => 3 | .u32 => 4 | .u64 => 5 | .s8 => 6 | .s16 => 7 | .s32 => 8 | .s64 => 9 | .smp36 => 10
  | .gain => 11 | .time80 => 12 | .pick64 => 13 | .string => 14 | .blob => 15 | .enum16 => 16 | .freq => 17 | .coef36 => 18

/-- Whether a type is signed on the wire. -/
def Ty.signed : Ty → Bool
  | .s8 => true | .s16 => true | .s32 => true | .s64 => true | .smp36 => true | .gain => true | .coef36 => true | _ => false

/-- The wire form of a value. -/
def wireOf (ty : Ty) (v : Val) : List Byte :=
  match v with
  | .bytes b => b
  | .num n => beBytes ty.size (pattern (8 * ty.size) n)

/-- The value of a wire form. -/
def readWire (ty : Ty) (b : List Byte) : Val :=
  if ty.octets then .bytes b else if ty.signed then .num (signed (8 * ty.size) (beNat b)) else .num (beNat b)

/-- Whether a value has the form of its type: BOOL 0 or 1, 36-bit types sign-extended, TIME80 with its nanoseconds below a
second, and every number inside its width (R134, R341). -/
def formOk (ty : Ty) (v : Val) : Bool :=
  match ty, v with
  | .bool, .num n => n == 0 || n == 1
  | .smp36, .num n => decide (-(2 ^ 35) ≤ n) && decide (n < 2 ^ 35)
  | .coef36, .num n => decide (-(2 ^ 35) ≤ n) && decide (n < 2 ^ 35)
  | .time80, .num n => decide (0 ≤ n) && decide (n < 2 ^ 80) && time80Valid n.toNat
  | .string, .bytes b => decide (b.length ≤ 64)
  | .blob, .bytes b => decide (b.length ≤ 16777216)
  | ty, .num n => !ty.octets && (if ty.signed then decide (-(2 ^ (8 * ty.size - 1)) ≤ n) && decide (n < 2 ^ (8 * ty.size - 1))
      else decide (0 ≤ n) && decide (n < 2 ^ (8 * ty.size)))
  | _, .bytes _ => false

/-- Whether a value lies in the range column of its row. Reserved bits do not matter (R4). -/
def inRange (r : Range) (v : Val) : Bool :=
  match r, v with
  | .between lo hi, .num n => decide (lo ≤ n) && decide (n ≤ hi)
  | .betweenOr lo hi x, .num n => (decide (lo ≤ n) && decide (n ≤ hi)) || n == x
  | .oneOf vs, .num n => vs.contains n
  | .len n, .bytes b => b.length == n
  | _, _ => true

/-- A value without its reserved bits (R4). -/
def masked (r : Range) (v : Val) : Val :=
  match r, v with
  | .mask m, .num n => .num (Nat.land n.toNat m)
  | _, v => v

/-- Highest sub-index that an index defines (R339). -/
def topSub (i : Nat) : Nat :=
  ((rowsOf i).filter (fun r => Nat.ble r.idxLo i && Nat.ble i r.idxHi)).foldl (fun a r => max a r.subHi) 0

/-- The row of any object in the edit copy's view: a table row, a parameter slot, PARAM_TYPE, or the count at sub-index 0
(R76, R339). -/
def State.objRow (s : State) (k : Nat) : Option Row :=
  if isParam k then
    let type := typeIn s.dict (paramInst k)
    if paramSlot k = 0 then some ⟨0, 0, 0, 0, .u16, .ro, .num type, .any⟩ else slotRow type (paramSlot k)
  else match rowOf k with
    | some r => some r
    | none => if keySub k = 0 ∧ indexDefined (keyIndex k) then
        some ⟨keyIndex k, keyIndex k, 0, 0, .u8, .ro, .num (topSub (keyIndex k)), .any⟩ else none

/-- The value of an object as a READ returns it (R339, R342); some read-only objects follow the running rate (R31, R56, R85, R171). -/
def State.valueOf (s : State) (k : Nat) : Val :=
  match mapGet s.dict k with
  | some v => v
  | none =>
    if k = Obj.PICK_LENGTH then .num (s.pl : Nat)
    else if k = Obj.REED_POSITIONS then .num (positions s : Nat)
    else if k = Obj.MIX_POOL_SIZE then .num (poolSize s : Nat)
    else if k = ix Obj.SP_RATE 0 then .num (s.fs * 1000 : Nat)
    else if isParam k ∧ typeIn s.dict (paramInst k) = 0x21 ∧ paramSlot k = Par.FIRP_PARTITION then .num (partLen s.pl : Nat)
    else if isParam k then paramDefault s.dict (paramInst k) (paramSlot k)
    else if (rowOf k).isNone ∧ keySub k = 0 then .num (topSub (keyIndex k))
    else defaultOf k

/-- Whether an object reads from no store of its own but a count (sub-index 0). -/
def isCount (k : Nat) : Bool := !isParam k && (rowOf k).isNone && decide (keySub k = 0)

/-- The form and range check of a value for a row: TYPE_MISMATCH, RANGE or OK. -/
def rowStatus (r : Row) (v : Val) : Nat :=
  match v with
  | .bytes b =>
    if !r.ty.octets then Status.TYPE_MISMATCH
    else if !formOk r.ty v then Status.RANGE
    else match r.range with | .len n => if b.length = n then Status.OK else Status.TYPE_MISMATCH | _ => Status.OK
  | .num _ =>
    if r.ty.octets then Status.TYPE_MISMATCH
    else if formOk r.ty v && inRange r.range v then Status.OK else Status.RANGE

/-! ## Records inside values -/

/-- Whether a GAIN lies in -144,000 to +24,000 or is minus infinity (R58). -/
def gainOk (g : Int) : Bool := (decide (-144000 ≤ g) && decide (g ≤ 24000)) || g == minusInf

/-- Whether a section record is admitted (R82): its shape and the fields that the shape uses. A design beyond S4.31 is refused
too. -/
def recordOk (fs : Nat) (r : Nat) : Bool :=
  let shape := bits r 63 60
  let freq := bits r 55 32
  let gain := signed 16 (bits r 31 16)
  let q := bits r 15 0
  let freqOk := decide (100 ≤ freq) && decide (freq ≤ 49 * fs)
  let qOk := decide (100 ≤ q) && decide (q ≤ 40000)
  let gainFits := decide (-2400 ≤ gain) && decide (gain ≤ 2400)
  let designed := (eqSection r fs).all (fun c => decide (-(2 ^ 35) ≤ c) && decide (c < 2 ^ 35))
  match shape with
  | 0 => true
  | 1 => freqOk && qOk && gainFits && designed
  | 2 => freqOk && qOk && gainFits && designed
  | 3 => freqOk && qOk && gainFits && designed
  | 9 => freqOk && designed
  | 10 => freqOk && designed
  | n => decide (n < 11) && freqOk && qOk && designed

/-- Whether a coefficient BLOB entry is sign-extended (R84, R341). -/
def coefsOk (b : List Byte) : Bool :=
  (unpackInts 8 b).all (fun (x : Int) => decide (-(2 ^ 35) ≤ x) && decide (x < 2 ^ 35))

/-- A coefficient BLOB of T taps: TYPE_MISMATCH by length, RANGE by entry (R84). -/
def tapsStatus (b : List Byte) (t : Nat) : Nat :=
  if b.length ≠ 8 * t then Status.TYPE_MISMATCH else if coefsOk b then Status.OK else Status.RANGE

/-- A gain BLOB of M inputs and N outputs (R94). -/
def gainsStatus (b : List Byte) (m n : Nat) : Nat :=
  if b.length ≠ 4 * (m * n) then Status.TYPE_MISMATCH else if (unpackInts 4 b).all gainOk then Status.OK else Status.RANGE

/-- Whether crossover points rise strictly over the ones in use (R83), with one slot replaced: a point, or the number of ways. -/
def pointsRise (d : Map Val) (i base slot : Nat) (v : Int) : Bool :=
  let used := (if slot = Par.XO_WAYS then v.toNat else shapeOf d i Par.XO_WAYS) - 1
  let pts := (List.range used).map (fun n => if base + n = slot then v else paramNum d i (base + n))
  (pts.zip (pts.drop 1)).all (fun (p : Int × Int) => decide (p.1 < p.2))

/-- Whether a delay lies on a cycle of a copy (R90). -/
def closesCycle (d : Map Val) (i : Nat) : Bool := typeIn d i == 0x30 && onCycle d i

/-- The check of a parameter's value against the shape in a copy (R77, R82 to R84, R89, R90, R94, R489); `d` is the copy
whose shape and graph judge it. -/
def paramStatus (s : State) (d : Map Val) (i p : Nat) (v : Val) : Nat :=
  let type := typeIn d i
  match slotRow type p with
  | none => Status.UNKNOWN_SUB
  | some r =>
    let st := rowStatus r v
    if st ≠ Status.OK then st
    else
      let n := Val.int v
      let b := Val.octets v
      let ok := fun (c : Bool) (e : Nat) => if c then Status.OK else e
      match type with
      | 0x10 => ok (!(decide (Par.EQ_BAND ≤ p) && decide (p < Par.EQ_BAND_STAGED + 16)) || recordOk s.fs n.toNat) Status.RANGE
      | 0x11 =>
        if Par.XO_FREQ ≤ p ∧ p < Par.XO_FREQ_STAGED + 4 then
          if (450 * s.fs : Int) < n then Status.RANGE
          else ok (pointsRise d i (if p < Par.XO_FREQ_STAGED then Par.XO_FREQ else Par.XO_FREQ_STAGED) p n) Status.CONFLICT
        else if p = Par.XO_WAYS then
          ok (pointsRise d i Par.XO_FREQ p n && pointsRise d i Par.XO_FREQ_STAGED p n) Status.CONFLICT
        else Status.OK
      | 0x20 => if p = Par.FIRD_TAPS then Status.OK else tapsStatus b (shapeOf d i Par.FIRD_TAPS)
      | 0x21 => if p = Par.FIRP_COEFS_STAGED then tapsStatus b (shapeOf d i Par.FIRP_TAPS) else Status.OK
      | 0x30 =>
        if p = Par.DELAY_MAX then ok (decide (n ≤ (10 * s.fs : Nat))) Status.RANGE
        else if p = Par.DELAY_TIME then
          if paramNum d i Par.DELAY_MAX < n then Status.RANGE
          else ok (!(closesCycle d i || closesCycle s.run i || closesCycle s.dict i) || decide ((s.pl : Int) ≤ n)) Status.CONFLICT
        else Status.OK
      | 0x50 =>
        let m := shapeOf d i Par.MTX_IN
        let o := shapeOf d i Par.MTX_OUT
        if p = Par.MTX_GAINS ∨ p = Par.MTX_GAINS_STAGED then gainsStatus b m o
        else if p = Par.MTX_SET then
          if gainOk (signed 32 (bits n.toNat 31 0)) then
            ok (decide (bits n.toNat 43 38 < o) && decide (bits n.toNat 37 32 < m)) Status.CONFLICT
          else Status.RANGE
        else Status.OK
      | 0x70 => ok (!(p == Par.GEN_FREQ || p == Par.GEN_SWEEP_END) || decide (n ≤ (450 * s.fs : Nat))) Status.RANGE
      | 0x80 => ok (!(p == Par.ASRC_PORT) || n == 0 || (decide (1 ≤ idKind n.toNat) && decide (idKind n.toNat ≤ 4))) Status.RANGE
      | _ => Status.OK

/-- Whether an instance has the same type in the edit copy and the running plan (R77). -/
def State.inBoth (s : State) (i : Nat) : Bool := typeIn s.run i != 0 && typeIn s.run i == typeIn s.dict i

/-- Whether the shapes of an instance agree between the copies (R78, R489). -/
def State.sameShape (s : State) (i : Nat) : Bool :=
  (slotsOf (typeIn s.dict i)).all (fun r =>
    if r.access = .rw && !r.ty.octets && decide (r.subLo ≠ Par.EQ_BAND_STAGED || typeIn s.dict i ≠ 0x10) &&
        decide (typeIn s.dict i ≠ 0x11 || r.subLo < Par.XO_FREQ_STAGED) then
      paramNum s.dict i r.subLo == paramNum s.run i r.subLo
    else true)

/-! ## Graph objects -/

/-- BUS, SLOT and GAIN of CONTRIB_SET (R59). -/
def setBus (v : Nat) : Nat := bits v 54 44
def setSlot (v : Nat) : Nat := bits v 43 32
def setGain (v : Nat) : Int := signed 32 (bits v 31 0)

/-- The check of CONTRIB_SET against the edit copy (R58, R59). -/
def contribStatus (s : State) (v : Nat) : Nat :=
  if gainOk (setGain v) && decide (setSlot v < (contribsOf s.dict (setBus v)).length) then Status.OK else Status.RANGE

/-- The check of a BUS_CONTRIB list (R58, R59). -/
def contribListStatus (s : State) (b : List Byte) : Nat :=
  if b.length % 8 ≠ 0 then Status.TYPE_MISMATCH
  else if positions s < b.length / 8 then Status.RANGE
  else if (contribsIn b).all (fun (c : Nat × Int) => gainOk c.2) then Status.OK else Status.RANGE

/-- Lane-operations per pick that all running instances, swaps and guests take (R19, R65). -/
def runningLoad (s : State) : Nat :=
  planLoad s + ((s.graph.twills.filter (fun (t : Twill) => t.phase == 2)).map (fun (t : Twill) => costOf s.run s.pl t.inst * s.pl)).sum

/-- The stored items of a second instance in the tiers of the first one's row, beside what is stored (R65, R105). -/
def secondItems (s : State) (i : Nat) : Option (List Holding) :=
  match mapGet s.graph.plan.place i with
  | some sh => if sh < 54 then (storeInst s s.run (mapGetD s.graph.plan.instClass i 2) sh (stores s) i).map (fun r => r.2) else some []
  | none => some []

/-- Admission of a twill swap (R65): cost, memory and the number of running swaps. -/
def twillAdmitted (s : State) (i : Nat) : Bool :=
  decide (runningLoad s + costOf s.run s.pl i * s.pl ≤ laneLimit s) && (secondItems s i).isSome &&
  decide ((s.graph.twills.filter (fun (t : Twill) => t.phase == 2)).length < 256)

/-- The check of TWILL_REQUEST (R64, R65, R78). -/
def twillStatus (s : State) (v : Nat) : Nat :=
  let i := v % 16384
  if 200 < v / 2 ^ 24 then Status.RANGE
  else if s.inBoth i && hasStaged (typeIn s.run i) && twillAdmitted s i then Status.OK
  else Status.TWILL_REFUSED

end Machine
end Sys2Proof
end

