-- ==== Sys2Proof/Machine/Weave.lean ====
section
/-! DEFINITION. The running graph as it changes (chapters 3 and 4): live writes (R53, R63), ramps and crossfades (R67 to R71,
R81, R89, R92, R96, R130), twill swaps (R64 to R66, R86), the compile's end (R51), the switch to a new plan (R54, R70, R115)
and the readings of objects (R74, R91, R93, R95). -/

namespace Sys2Proof
namespace Machine

/-! ## The two copies of the graph (R50) -/

/-- Whether a key is a graph object, which has an edit copy and a running copy. Readings and the loaded partitions of
FIR_PARTITIONED have no edit copy. -/
def isGraph (d : Map Val) (k : Nat) : Bool :=
  let i := keyIndex k
  (Nat.ble 0x4400 i && Nat.ble i 0x447F) || (Nat.ble 0x4600 i && Nat.ble i 0x463F) || (Nat.ble 0x4660 i && Nat.ble i 0x469F) ||
  (Nat.ble 0x4700 i && Nat.ble i 0x470F) || (Nat.ble 0x4720 i && Nat.ble i 0x472F) ||
  (Nat.ble 0x4C00 i && Nat.ble i 0x4C3F && Nat.ble (keySub k) 0x18) ||
  (isParam k && (match slotRow (typeIn d (paramInst k)) (paramSlot k) with
    | some r => r.access != .ro
    | none => false))

/-- The graph objects of a copy. -/
def graphOf (d : Map Val) : Map Val := d.filter (fun (e : Nat × Val) => isGraph d e.1)

/-- A dictionary with its graph objects replaced by those of a copy. -/
def withGraph (d g : Map Val) : Map Val :=
  (graphOf g).foldl (fun (m : Map Val) (e : Nat × Val) => mapSet m e.1 e.2) (d.filter (fun (e : Nat × Val) => !isGraph d e.1))

/-- Edits wait for a commit (R50); a compile or a switch under way keeps its status (R52). -/
def edited (s : State) : State :=
  if s.rd Obj.GRAPH_STATUS = 2 ∨ s.rd Obj.GRAPH_STATUS = 3 then s else s.wr Obj.GRAPH_STATUS 1

/-- A live write is kept for the new plan while a compile or a switch is under way (R54). -/
def noteLive (s : State) (k : Nat) (v : Val) : State :=
  if s.graph.compiling.isSome || s.graph.ready.isSome then { s with graph := { s.graph with live := s.graph.live ++ [(k, v)] } } else s

/-- Changes a value of the running plan from sample k on (R142). -/
def setRunAt (s : State) (key k : Nat) (v : Val) : State :=
  let past := s.graph.past ++ [(⟨key, k, getIn s.run key⟩ : Past)]
  { s with graph := { s.graph with past := past } }.wrRun key v

/-! ## Live eligibility (R53) -/

/-- The class that a destination of an entry requires in a plan (R53). -/
def requiredClass (p : Plan) (e : Edge) : Nat :=
  match destElem e.dest with
  | some i => mapGetD p.instClass i 3
  | none => entryClass e.cls

/-- Compiled class of an element of a plan; 0 when it is not in it. -/
def planClass (p : Plan) (e : Nat) : Nat := if e < 65536 then mapGetD p.instClass e 0 else mapGetD p.busClass (e - 65536) 0

/-- Route crossfades whose positions stay occupied (R55): those that run, and until the batten after its end the latest of a
destination. -/
def holdingFades (s : State) : List Fade :=
  s.graph.fades.filter (fun f => !f.tap &&
    (!f.ended || decide (s.clock.pick * s.pl ≤ f.sample + f.len) &&
      !s.graph.fades.any (fun g => g.unit == f.unit && !g.tap && decide (f.sample < g.sample))))

/-- Tails whose position stays occupied (R55). -/
def holdingTails (s : State) : List Tail := s.graph.tails.filter (fun t => decide (s.clock.pick * s.pl ≤ t.sample + t.len))

/-- Removed elements that a crossfade or tail still reads, each with its copy (R55, R70). -/
def heldElems (s : State) : List (Nat × Map Val) :=
  let reads := ((holdingFades s).flatMap (fun f => f.old.map (fun p => p.src)) ++ (holdingTails s).map (fun t => t.src)).filterMap sourceElem
  s.graph.works.filterMap (fun w =>
    if w.left = 0 then none
    else
      let m := s.copyBefore (w.left - 1)
      let links := linksOf m
      if reads.any (fun e => (upstream links e).contains (elemNo w.elem)) then some (elemNo w.elem, m) else none)

/-- Sources that crossfades, tails and the removed elements they read hold (R55). -/
def fadeSources (s : State) : List Nat :=
  ((holdingFades s).flatMap (fun f => f.old.map (fun p => p.src)) ++ (holdingTails s).map (fun t => t.src) ++
    (heldElems s).flatMap (fun (h : Nat × Map Val) =>
      if h.1 < 65536 then ((edgesOf h.2).filter (fun e => destElem e.dest == some h.1)).map (fun e => e.src)
      else (contribsOf h.2 (h.1 - 65536)).map (fun (c : Nat × Int) => c.1))).filter (fun i => i != 0)

/-- Removed destinations that fade out, and the pins of removed instances that a fade still reads (R55, R70). -/
def fadeDests (s : State) : List Nat :=
  ((holdingFades s).filter (fun f => f.new == 0)).map (fun f => f.unit) ++
    (heldElems s).flatMap (fun (h : Nat × Map Val) => ((edgesOf h.2).filter (fun e => destElem e.dest == some h.1)).map (fun e => e.dest))

/-- Destination positions in use by a copy and the running crossfades. -/
def destsInUse (s : State) (d : Map Val) : List Nat := ((edgesOf d).map (fun e => e.dest) ++ fadeDests s).eraseDups

/-- Source positions in use by a copy and the running crossfades. -/
def sourcesInUse (s : State) (d : Map Val) : List Nat := (sourcesOf d ++ fadeSources s).eraseDups

/-- Whether a ROUTE write of an entry is live-eligible in a plan and its copy (R53). -/
def routeLive (s : State) (p : Plan) (d : Map Val) (n v : Nat) : Bool :=
  match (edgesOf d).find? (fun e => e.entry == n) with
  | none => false
  | some e =>
    let src := v % 2 ^ 32
    decide (v / 2 ^ 32 = e.dest) && sourceOk s d src &&
    (match sourceElem src with
      | none => true
      | some a => decide (0 < planClass p a) && decide (planClass p a ≤ requiredClass p e)) &&
    ((sourcesInUse s d).contains src || decide ((sourcesInUse s d).length < positions s)) &&
    (!(outputKind (idKind e.dest) && e.cls == 4) || transparentSource s d src)

/-- Whether a BUS_LEVEL write is live-eligible. -/
def levelLive (d : Map Val) (b : Nat) : Bool := (busesOf d).contains b

/-- Whether a CONTRIB_SET write is live-eligible: the edit copy's record at the slot names the source of the running one. -/
def contribLive (s : State) (d : Map Val) (v : Nat) : Bool :=
  match (contribsOf d (setBus v))[setSlot v]?, (contribsOf s.dict (setBus v))[setSlot v]? with
  | some a, some b => a.1 == b.1
  | _, _ => false

/-- Whether a write of ROUTE, BUS_LEVEL or CONTRIB_SET changes the running plan (R53). -/
def liveNow (s : State) (key : Nat) (v : Val) : Bool :=
  let n := (Val.int v).toNat
  if key = Obj.CONTRIB_SET then contribLive s s.run n
  else if Nat.ble 0x4700 (keyIndex key) && Nat.ble (keyIndex key) 0x470F then
    levelLive s.run ((keyIndex key - 0x4700) * 128 + keySub key - 1)
  else routeLive s s.graph.plan s.run ((keyIndex key - 0x4600) * 128 + keySub key - 1) n

/-- A contribution list with the gain of one record replaced. -/
def setRecord (b : List Byte) (slot : Nat) (g : Int) : List Byte :=
  b.take (8 * slot + 4) ++ beBytes 4 (pattern 32 g) ++ b.drop (8 * slot + 8)

/-- One gain of a matrix replaced (R94). -/
def setGainOf (d old : Map Val) (i : Nat) (v : Nat) : Val :=
  let m := shapeOf d i Par.MTX_IN
  let b := (resized d old i Par.MTX_GAINS).getD (Val.octets (getIn d (paramKey i Par.MTX_GAINS)))
  let e := 4 * (bits v 43 38 * m + bits v 37 32)
  .bytes (b.take e ++ beBytes 4 (bits v 31 0) ++ b.drop (e + 4))

/-! ## Ramps (R81, R92, R96, R130) -/

/-- A quantity with polarity and mute moves at sample k: a straight line, or through zero when the polarity changes
(R81, R130). Of an odd ramp length the first half takes the smaller part: the manual gives half the length to each side and is
silent on the odd sample (log entry 226). -/
def moveGain (s : State) (key k len : Nat) (old new : Int) (flips : Bool) : State :=
  if flips && decide (0 < len) then
    (s.startRamp key k (len / 2) old 0).startRamp key (k + len / 2) (len - len / 2) 0 new
  else s.startRamp key k len old new

/-- Key of the signed gain of a GAIN_TRIM. -/
def trimKey (i : Nat) : Nat := paramKey i Par.TRIM_GAIN

/-- A live write of a GAIN_TRIM parameter at sample k (R81). -/
def trimSet (s : State) (i p k : Nat) (v : Val) : State :=
  let old := s.ramped (trimKey i) k (trimTarget s s.run i k)
  let flips := p == Par.TRIM_POLARITY && getIn s.run (paramKey i p) != v
  let s := setRunAt s (paramKey i p) k v
  if p = Par.TRIM_RAMP_MS then s
  else moveGain s (trimKey i) k (s.msSamples (s.runN (paramKey i Par.TRIM_RAMP_MS)).toNat) old (trimTarget s s.run i k) flips

/-- Signed gain of a selvedge output (R129). -/
def selvTarget (s : State) (m : Map Val) (o k : Nat) : Int :=
  signedGain (s.numAt m (ix Obj.SELV_GAIN o) k) (s.numAt m (ix Obj.SELV_POLARITY o) k) (s.numAt m (ix Obj.SELV_MUTE o) k)

/-- A live write of a selvedge object at sample k (R130). -/
def selvSet (s : State) (key k : Nat) (v : Val) : State :=
  let o := keyIndex key - 0x4C00
  let sub := keySub key
  let len := s.msSamples (s.runN (ix Obj.SELV_RAMP_MS o)).toNat
  if 0x0A ≤ sub ∧ sub ≤ 0x11 then
    let old := s.ramped key k (coefOfGain (s.runN key))
    (setRunAt s key k v).startRamp key k len old (coefOfGain (Val.int v))
  else if 0x12 ≤ sub ∧ sub ≤ 0x14 then
    let g := ix Obj.SELV_GAIN o
    let old := s.ramped g k (selvTarget s s.run o k)
    let flips := sub == 0x13 && getIn s.run key != v
    let s := setRunAt s key k v
    moveGain s g k len old (selvTarget s s.run o k) flips
  else setRunAt s key k v

/-- The shortest crossfades of types: 5 ms of a GENERATOR, 10 ms of a CHANNEL_DYNAMICS (R92, R96). -/
def ownRamp (s : State) (type : Nat) : Nat := s.msSamples (if type = 0x70 then 5 else 10)

/-- What a LOUDNESS instance holds beside its registers. -/
def loudOf (s : State) (i : Nat) : Loud := (s.graph.louds.find? (fun l => l.inst == i)).getD ⟨i, [], 0, 0, []⟩

/-- Replaces it. -/
def setLoud (s : State) (l : Loud) : State :=
  { s with graph := { s.graph with louds := s.graph.louds.filter (fun (x : Loud) => x.inst != l.inst) ++ [l] } }

/-- A new run of LOUDNESS from sample k clears integrated loudness and true peak; a write of 0 freezes them (R95). -/
def loudnessRun (s : State) (i k : Nat) (v : Val) : State :=
  if v = .num 1 ∧ s.runN (paramKey i Par.LD_RUN) = 0 then
    let s := (s.wr (paramKey i Par.LD_INTEGRATED) minusInf).wr (paramKey i Par.LD_TRUE_PEAK) minusInf
    setLoud s { loudOf s i with runFrom := k, bins := [] }
  else s

/-- A live write of parameter p of a running instance at sample k. -/
def paramSet (s : State) (i p k : Nat) (v : Val) : State :=
  let type := typeIn s.run i
  let key := paramKey i p
  let now := s.runN key
  match rampedSlot type p (Val.int v) with
  | some goal =>
    let old := s.ramped key k ((rampedSlot type p now).getD 0)
    (setRunAt s key k v).startRamp key k (ownRamp s type) old goal
  | none =>
    if type = 0x01 then trimSet s i p k v
    else if type = 0x30 ∧ p = Par.DELAY_TIME then
      if getIn s.run key = v then s
      else
        let len := s.msSamples (s.runN (paramKey i Par.DELAY_FADE_MS)).toNat
        let r := s.startFade i true k len 0 3 now.toNat (Val.int v).toNat
        let s := setRunAt r.1 key k v
        if r.2 then s.raise Ev.ROUTE_CHANGE_DEFERRED i else s
    else if type = 0x70 ∧ p = Par.GEN_WAVE then
      if getIn s.run key = v then s
      else setRunAt (s.startFade i true k (ownRamp s type) 0 4294967296 now.toNat (Val.int v).toNat).1 key k v
    else if type = 0x50 ∧ p = Par.MTX_SET then
      setRunAt (setRunAt s key k v) (paramKey i Par.MTX_GAINS) k (setGainOf s.run s.run i (Val.int v).toNat)
    else if type = 0x61 ∧ p = Par.LD_RUN then setRunAt (loudnessRun s i k v) key k v
    else setRunAt s key k v

/-- A live ROUTE write at sample k (R67 to R71). -/
def routeSet (s : State) (key n k : Nat) (v : Val) : State :=
  match (edgesOf s.run).find? (fun e => e.entry == n) with
  | none => s
  | some e =>
    let src := (Val.int v).toNat % 2 ^ 32
    if e.src = src then s
    else
      let len := if hardCut e then 0 else s.msSamples (s.rdN Obj.ROUTE_FADE_MS)
      let r := s.startFade e.dest false k len (s.rdN Obj.ROUTE_FADE_LAW) 3 e.src src
      let s := setRunAt r.1 key k v
      if r.2 then s.raise Ev.ROUTE_CHANGE_DEFERRED n else s

/-- A gain set that the edit copy has taken stands at the edit copy's shape (R489). -/
def gainsTaken (s : State) (key : Nat) : State :=
  let i := paramInst key
  let p := paramSlot key
  if isParam key && typeIn s.dict i == 0x50 && (p == Par.MTX_GAINS || p == Par.MTX_GAINS_STAGED) then { s with dict := noteShape s.dict i p }
  else s

/-- The edit copy takes a graph write; CONTRIB_SET and MTX_SET change one record of it (R59, R94). -/
def editSet (s : State) (key : Nat) (v : Val) : State :=
  if key = Obj.CONTRIB_SET then
    let n := (Val.int v).toNat
    let k := entry Obj.BUS_CONTRIB (setBus n)
    (s.wrV key v).wrV k (.bytes (setRecord (s.rdB k) (setSlot n) (setGain n)))
  else if isParam key && typeIn s.dict (paramInst key) == 0x50 && paramSlot key == Par.MTX_SET then
    let i := paramInst key
    let s := (s.wrV key v).wrV (paramKey i Par.MTX_GAINS) (setGainOf s.dict s.run i (Val.int v).toNat)
    { s with dict := noteShape s.dict i Par.MTX_GAINS }
  else gainsTaken (s.wrV key v) key

/-- The running plan takes a live graph write at sample k. -/
def liveSet (s : State) (key k : Nat) (v : Val) : State :=
  let s := noteLive s key v
  let i := keyIndex key
  if isParam key then paramSet s (paramInst key) (paramSlot key) k v
  else if key = Obj.CONTRIB_SET then
    let n := (Val.int v).toNat
    let c := entry Obj.BUS_CONTRIB (setBus n)
    let s := s.startRamp (contribKey (setBus n) (setSlot n)) k 0 0 (coefOfGain (setGain n))
    setRunAt s c k (.bytes (setRecord (Val.octets (getIn s.run c)) (setSlot n) (setGain n)))
  else if Nat.ble 0x4C00 i && Nat.ble i 0x4C3F then selvSet s key k v
  else if Nat.ble 0x4600 i && Nat.ble i 0x461F then routeSet s key ((i - 0x4600) * 128 + keySub key - 1) k v
  else setRunAt s key k v

/-! ## Partition loads (R65, R86) -/

/-- FIRP_LOAD_STATE of an instance. -/
def loadState (s : State) (i : Nat) : Int := s.rd (paramKey i Par.FIRP_LOAD_STATE)

/-- Starts a load at its first step: the leave of a convolution reload, kind 5 (R86, R395). -/
def startLoad (s : State) (i : Nat) : State := ((s.release 5 i).askLeave 5 16 i).wr (paramKey i Par.FIRP_LOAD_STATE) 1

/-- A twill swap of an instance needs a reload unless its staged partitions are loaded (R65). -/
def needsLoad (s : State) (i : Nat) : Bool := typeIn s.run i == 0x21 && loadState s i != 3

/-- The load of a request begins when the request is accepted (R65). -/
def preload (s : State) (i : Nat) : State :=
  if needsLoad s i && loadState s i != 1 && loadState s i != 2 then startLoad s i else s

/-- A write of the staged taps in states 1 to 3 restarts the load (R86). -/
def stagedWritten (s : State) (i : Nat) : State :=
  if loadState s i = 1 ∨ loadState s i = 2 ∨ loadState s i = 3 then startLoad s i else s

/-- A refused leave of a load: the state shows 4, waiting requests end with TWILL_REFUSED, and a commit that waits for the
load is refused with LEAVE_REFUSED (R86, R399). -/
def loadRefused (s : State) (i : Nat) : State :=
  let s := s.wr (paramKey i Par.FIRP_LOAD_STATE) 4
  if s.graph.loads.contains i then
    let s := s.each s.graph.loads (fun s j => s.release 5 j)
    let s := { s with graph := { s.graph with ready := none, loads := [], live := [] },
                      fabric := { s.fabric with moves := s.fabric.moves.filter (fun m => m.kind != 2) } }
    ((s.wr Obj.GRAPH_STATUS 4).wr Obj.GRAPH_ERROR (0x0B * 2 ^ 24 + element 2 i : Nat)).wr Obj.GRAPH_ERROR_SLOT 0xFFFF
  else
    let s := { s with graph := { s.graph with twills := s.graph.twills.filter (fun t => !(t.inst == i && t.phase != 2)) } }
    s.raise Ev.TWILL_REFUSED i

/-- Granted loads transform their coefficients; partitions of a request that do not fit the memory tiers fail it (R86). -/
def loadsGranted (s : State) : State :=
  s.each (s.governor.grants.filter (fun r => r.kind == 5)) (fun s r =>
    if loadState s r.owner ≠ 1 then s
    else if s.graph.loads.contains r.owner || (secondItems s r.owner).isSome then s.wr (paramKey r.owner Par.FIRP_LOAD_STATE) 2
    else loadRefused (s.release 5 r.owner) r.owner)

/-- FIRP_LOAD_DONE (R86): the transform of the staged coefficients into partitions completes; its leave ends. -/
def execFirpLoadDone (t i : Nat) (s : State) : Result :=
  let s := s.at_ t
  .next (s.whenever (loadState s i = 2) (fun s =>
    let s := (s.release 5 i).wr (paramKey i Par.FIRP_LOAD_STATE) 3
    { s with graph := { s.graph with loads := s.graph.loads.filter (fun j => j != i) } }))

/-! ## Twill swaps (R64 to R66) -/

/-- TWILL_ACTIVE follows the running swaps. -/
def showTwills (s : State) : State := s.wr Obj.TWILL_ACTIVE ((s.graph.twills.filter (fun (t : Twill) => t.phase == 2)).length : Nat)

/-- A timed action counts as late (R143): whether it is discarded, by its LATE field or TIMED_LATE_POLICY. -/
def discardsLate (s : State) (a : Action) : Bool := a.late == 2 || (a.late == 0 && s.rd Obj.TIMED_LATE_POLICY == 1)

/-- A late action that acts: counted, and TIMED_LATE raised with its ID (R143). -/
def countActed (s : State) (a : Action) : State :=
  if a.direct || a.late == 3 then s else (s.bump Obj.TIMED_LATE_COUNT).raise Ev.TIMED_LATE a.id

/-- A late action that is applied, or one that is discarded: counted, and TIMED_LATE raised with its ID (R143). LATE 3 marks an
action that a pair's holder counted at its insertion (R297). -/
def countLate (s : State) (a : Action) : State :=
  if a.direct || a.late == 3 then s
  else (s.bump (if discardsLate s a then Obj.TIMED_DISCARDED else Obj.TIMED_LATE_COUNT)).raise Ev.TIMED_LATE a.id

/-- Whether a move of an instance is in shadow. -/
def inShadow (s : State) (i : Nat) : Bool := s.fabric.moves.any (fun m => m.inst == i && m.phase == 4)

/-- Crossfade length of a TWILL_REQUEST in ms (R64). -/
def twillMs (s : State) (v : Nat) : Nat := if v / 2 ^ 24 = 0 then s.rdN Obj.TWILL_DEFAULT_MS else v / 2 ^ 24

/-- Starts a swap at sample k when it is admitted there (R64, R65). -/
def startTwill (s : State) (i ms k : Nat) (a : Action) : State :=
  if s.inBoth i && hasStaged (typeIn s.run i) && twillAdmitted s i then
    showTwills { s with graph := { s.graph with twills := s.graph.twills ++ [⟨i, ms, a, 2, k, (secondItems s i).getD []⟩] } }
  else s.raise Ev.TWILL_REFUSED i

/-- A twill request arrives at its sample k (R64 to R66): it starts, waits for the running swap or the shadow of a move, or
waits for its load; a timed request that cannot start is late and may be discarded. -/
def twillDue (s : State) (a : Action) (k : Nat) : State :=
  let v := (Val.int a.val).toNat
  let i := v % 16384
  let ms := twillMs s v
  let s := s.wr Obj.TWILL_REQUEST (v : Nat)
  let waits := (s.swapOf i).isSome || inShadow s i
  if waits || needsLoad s i then
    if !a.direct && discardsLate s a then countLate s a
    else
      let s := if waits then s else preload s i
      let rest := s.graph.twills.filter (fun t => t.inst != i || t.phase == 2)
      { s with graph := { s.graph with twills := rest ++ [⟨i, ms, a, if waits then 0 else 1, k, []⟩] } }
  else startTwill { s with graph := { s.graph with twills := s.graph.twills.filter (fun t => t.inst != i || t.phase == 2) } } i ms k a

/-- Requests that wait start at offset 0 of the pick that opens at a batten, once nothing holds them (R65, R66). -/
def startWaiting (s : State) (k : Nat) : State :=
  s.each (s.graph.twills.filter (fun t => t.phase != 2)) (fun s t =>
    if (s.swapOf t.inst).isSome || inShadow s t.inst then s
    else if needsLoad s t.inst then
      { s with graph := { s.graph with twills := change s.graph.twills (fun u => u == t) (fun u => { u with phase := 1 }) } } |>
        (fun s => preload s t.inst)
    else
      let s := { s with graph := { s.graph with twills := s.graph.twills.filter (fun u => u != t) } }
      let s := if s.inBoth t.inst && twillAdmitted s t.inst then countActed s t.ask else s
      startTwill s t.inst t.fadeMs k t.ask)

/-- The staged set becomes the active set of an instance, in the running plan and in the edit copy (R64, R78). -/
def takeStaged (s : State) (i : Nat) : State :=
  s.each (swapSlots (typeIn s.run i)) (fun s p =>
    let v := getIn s.run (paramKey i p.2)
    let both := s.inBoth i && s.sameShape i
    let s := noteLive (s.wrRun (paramKey i p.1) v) (paramKey i p.1) v
    if both && p.1 != 0x3F then s.wrV (paramKey i p.1) v else s)

/-- A swap ends: the new instance stands alone (R64, R116). -/
def endTwill (s : State) (i : Nat) : State :=
  let s := takeStaged s i
  let works := match s.workOf (16384 + i) with
    | some w2 => (s.graph.works.filter (fun w => w.elem ≠ .inst (16384 + i))).map (fun w =>
        if w.elem = .inst i then { w2 with elem := .inst i } else w)
    | none => s.graph.works
  let s := { s with graph := { s.graph with works := works,
                                            twills := s.graph.twills.filter (fun t => !(t.inst == i && t.phase == 2)) } }
  (showTwills s).raise Ev.TWILL_DONE i

/-- TWILL_DONE (R64): from sample N on only the new instance runs, with the staged set active. -/
def execTwillDone (t i : Nat) (s : State) : Result :=
  let s := s.at_ t
  match s.swapOf i, s.workOf i with
  | some tw, some w => .next (s.whenever (decide (tw.start + twillLen s tw ≤ w.next * s.pl)) (fun s => endTwill s i))
  | _, _ => .next s

/-! ## The ends of fades and ramps -/

/-- The fade of a destination or tap that has run its length by sample k. -/
def endedFade (s : State) (unit : Nat) (tap : Bool) (k : Nat) : Option Fade :=
  match s.fadeAt unit tap k with
  | some f => if f.sample + f.len ≤ k then some f else none
  | none => none

/-- Marks a fade as ended. -/
def markEnded (s : State) (f : Fade) : State :=
  { s with graph := { s.graph with fades := change s.graph.fades (fun g => g == f) (fun g => { g with ended := true }) } }

/-- ROUTE_FADE_END (R67): only the new source is read; held positions are freed at the next batten. -/
def execRouteFadeEnd (t dest : Nat) (s : State) : Result :=
  let s := s.at_ t
  match endedFade s dest false s.sampleNow with
  | some f => .next (markEnded s f)
  | none => .next s

/-- Applies a deferred change of a destination or tap at offset 0 of the pick that has just opened (R69, R89). -/
def applyDeferred (s : State) (f : Fade) (len law : Nat) : State :=
  match f.deferred with
  | some new =>
    let s := { s with graph := { s.graph with fades := change s.graph.fades (fun g => g == f) (fun g => { g with deferred := none, ended := true }) } }
    (s.startFade f.unit f.tap (s.clock.pick * s.pl) len law 3 f.new new).1
  | none => s

/-- ROUTE_DEFERRED_APPLY (R69): the deferred change starts at the first batten after the running fade ends, which is one later
than a batten that opens with sample N. -/
def execRouteDeferredApply (t dest : Nat) (s : State) : Result :=
  let s := s.at_ t
  match endedFade s dest false (s.clock.pick * s.pl - 1) with
  | some f =>
    let cuts := (edgesOf s.run).any (fun e => e.dest == dest && hardCut e)
    .next (applyDeferred s f (if cuts then 0 else s.msSamples (s.rdN Obj.ROUTE_FADE_MS)) (s.rdN Obj.ROUTE_FADE_LAW))
  | none => .next s

/-- DELAY_FADE_END (R89): only the new tap is read, or a deferred time change is applied. -/
def execDelayFadeEnd (t i : Nat) (s : State) : Result :=
  let s := s.at_ t
  .next (s.whenever (typeIn s.run i = 0x30) (fun s =>
    match endedFade s i true (s.clock.pick * s.pl) with
    | some f =>
      if f.deferred.isNone then markEnded s f
      else if s.clock.pick * s.pl ≤ f.sample + f.len then s
      else applyDeferred s f (s.msSamples (s.runN (paramKey i Par.DELAY_FADE_MS)).toNat) 0
    | none => s))

/-- GEN_CROSSFADE_END (R96): only the newest waveform plays. -/
def execGenCrossfadeEnd (t i : Nat) (s : State) : Result :=
  let s := s.at_ t
  .next (s.whenever (typeIn s.run i = 0x70) (fun s =>
    match endedFade s i true s.sampleNow with
    | some f => markEnded s f
    | none => s))

/-- The ramps of a key that have ended by sample k give way to their end value. -/
def rampEnds (s : State) (key k : Nat) : State :=
  { s with graph := { s.graph with ramps := s.graph.ramps.filter (fun (r : Ramp) => !(r.key == key && decide (r.sample + r.len ≤ k))) } }

/-- TRIM_RAMP_END (R81): a ramp of a GAIN_TRIM that every computed pick has passed holds its end value. -/
def execTrimRampEnd (t i : Nat) (s : State) : Result :=
  let s := s.at_ t
  match s.workOf i with
  | some w => .next (s.whenever (typeIn s.run i = 0x01) (fun s => rampEnds s (trimKey i) (min s.sampleNow (w.next * s.pl))))
  | none => .next s

/-- SELV_RAMP_END (R130): ramps of a selvedge output hold their end values. -/
def execSelvRampEnd (t : Nat) (o : Fin 64) (s : State) : Result :=
  let s := s.at_ t
  .next (s.each (List.range 9) (fun s k => rampEnds s (ix (Obj.SELV_SRC_GAIN + k) o.val) s.sampleNow))

/-! ## The end of a compile (R51, R107, R115, R126) -/

/-- FIR_PARTITIONED instances that load their partitions before the switch (R86, R489). -/
def loadedInsts (s : State) (p : Plan) : List Nat :=
  ((instsOf p.dict).filter (fun (e : Nat × Nat) => e.2 == 0x21 && !sameInst s.run p.dict e.1)).map (fun (e : Nat × Nat) => e.1)

/-- GRAPH_ERROR of a refused commit (R51, R490). -/
def graphRefused (s : State) (e : Nat × Nat × Nat) : State :=
  let s := { s with graph := { s.graph with compiling := none, ready := none, live := [] } }
  ((s.wr Obj.GRAPH_STATUS 4).wr Obj.GRAPH_ERROR (e.1 * 2 ^ 24 + e.2.1 : Nat)).wr Obj.GRAPH_ERROR_SLOT (e.2.2 : Nat)

/-! ## The switch (R54, R70, R115) -/

/-- The active taps of FIR_PARTITIONED instances in a new copy: kept, or loaded from the staged set (R86, R489). -/
def withActive (old new : Map Val) : Map Val :=
  (instsOf new).foldl (fun (m : Map Val) (e : Nat × Nat) =>
    if e.2 ≠ 0x21 then m
    else
      let now := getIn old (paramKey e.1 0x3F)
      if sameInst old new e.1 then (match now with | .bytes b => mapSet m (paramKey e.1 0x3F) (.bytes b) | _ => m)
      else
        let staged := getIn new (paramKey e.1 Par.FIRP_COEFS_STAGED)
        let written := typeIn old e.1 ≠ 0x21 || getIn old (paramKey e.1 Par.FIRP_COEFS_STAGED) != staged
        mapSet m (paramKey e.1 0x3F) (if written then staged else .bytes (resizeTaps (Val.octets now) (shapeOf new e.1 Par.FIRP_TAPS)))) new

/-- Live writes since the compile began are applied to the new copy where they are still eligible there (R54). -/
def reapply (s : State) (p : Plan) (m : Map Val) (w : Nat × Val) : Map Val :=
  let i := keyIndex w.1
  let n := (Val.int w.2).toNat
  if isParam w.1 then
    let j := paramInst w.1
    if typeIn m j = typeIn s.run j ∧ paramStatus s m j (paramSlot w.1) w.2 = Status.OK then
      let m' := mapSet m w.1 w.2
      if typeIn m j = 0x50 ∧ paramSlot w.1 = Par.MTX_SET then mapSet m' (paramKey j Par.MTX_GAINS) (setGainOf m s.run j n) else m'
    else m
  else if w.1 = Obj.CONTRIB_SET then
    if contribLive s m n then
      let c := entry Obj.BUS_CONTRIB (setBus n)
      mapSet m c (.bytes (setRecord (Val.octets (getIn m c)) (setSlot n) (setGain n)))
    else m
  else if Nat.ble 0x4700 i && Nat.ble i 0x470F then if levelLive m ((i - 0x4700) * 128 + keySub w.1 - 1) then putIn m w.1 w.2 else m
  else if Nat.ble 0x4600 i && Nat.ble i 0x461F then
    if routeLive s p m ((i - 0x4600) * 128 + keySub w.1 - 1) n then putIn m w.1 w.2 else m
  else putIn m w.1 w.2

/-- Destinations of a copy that a switch leaves in place: outputs, and pins of instances that stay. -/
def fadingDest (old new : Map Val) (dest : Nat) : Bool :=
  match destElem dest with
  | some i => sameInst old new i || typeIn new i != 0
  | none => true

/-- The fades of changed, new and removed destinations at sample k (R70, R71). -/
def fadeRoutes (s : State) (old new : Map Val) (k : Nat) : State :=
  let a := edgesOf old
  let b := edgesOf new
  let dests := ((b.map (fun (e : Edge) => e.dest)) ++ (a.map (fun (e : Edge) => e.dest))).eraseDups.filter (fadingDest old new)
  s.each dests (fun s d =>
    let was := (a.find? (fun e => e.dest == d)).elim 0 (fun e => e.src)
    let now := (b.find? (fun e => e.dest == d)).elim 0 (fun e => e.src)
    let cuts := match (b ++ a).find? (fun (e : Edge) => e.dest == d) with | some e => hardCut e | none => false
    if was = now then s
    else
      let len := if cuts then 0 else s.msSamples (s.rdN Obj.ROUTE_FADE_MS)
      let r := s.startFade d false k len (s.rdN Obj.ROUTE_FADE_LAW) 3 was now
      if r.2 then r.1.raise Ev.ROUTE_CHANGE_DEFERRED ((b.find? (fun e => e.dest == d)).elim 0 (fun e => e.entry)) else r.1)

/-- Pairs the records of a new list with an old one by source, in order (R70): per new record the old slot. -/
def pairRecords : List (Nat × Int) → List (Nat × Nat) → List (Option Nat) × List (Nat × Nat)
  | [], rest => ([], rest)
  | c :: cs, rest =>
    match rest.find? (fun o => o.2 == c.1) with
    | some o => let r := pairRecords cs (rest.filter (fun q => q.1 != o.1)); (some o.1 :: r.1, r.2)
    | none => let r := pairRecords cs rest; (none :: r.1, r.2)

/-- The gains of a bus move, and removed contributions fade out (R70). -/
def fadeBus (old new : Map Val) (k : Nat) (s : State) (b : Nat) : State :=
  let was := contribsOf old b
  let now := contribsOf new b
  let n := s.msSamples (s.rdN Obj.ROUTE_FADE_MS)
  let pairs := pairRecords now ((List.range was.length).zip (was.map (fun (c : Nat × Int) => c.1)))
  let gains := (List.range was.length).map (fun j => s.busGain old b j k)
  let moves := (List.range now.length).zip (now.zip pairs.1)
  let law := s.rdN Obj.ROUTE_FADE_LAW
  let tails := pairs.2.map (fun o => (⟨b, o.2, gains.getD o.1 0, k, n, law⟩ : Tail))
  let s := { s with graph := { s.graph with tails := s.graph.tails ++ tails } }
  s.each moves (fun s q =>
    let g := coefOfGain q.2.1.2
    match q.2.2 with
    | some j => s.startRamp (contribKey b q.1) k (if gains.getD j 0 = g then 0 else n) (gains.getD j 0) g
    | none => s.rampBy law (contribKey b q.1) k n 0 g)

/-- Release offset of an output entry in a plan (R33, R48): that of the entry, or of the ASRC instance whose pin it feeds. -/
def entryOffset (p : Plan) (e : Edge) : Nat := if idKind e.dest = 6 then mapGetD p.shown (idUnit e.dest) 2 else mapGetD p.offset e.entry 2

/-- Release offset of an output of a copy in a plan. -/
def planOffset (p : Plan) (d : Map Val) (dest : Nat) : Option Nat := ((outputsOf d).find? (fun e => e.dest == dest)).map (entryOffset p)

/-- Notes the old release offset of an output from sample k on. -/
def putShift (s : State) (dest old k len law : Nat) : State :=
  { s with graph := { s.graph with shifts := s.graph.shifts.filter (fun (x : Shift) => x.dest != dest) ++ [⟨dest, old, k, len, law⟩] } }

/-- Outputs whose release offset changes fade between their samples at both offsets; a class 4 output cuts; a removed output
keeps its old offset while it fades out (R70). -/
def shiftOutputs (s : State) (p : Plan) (old new : Map Val) (k : Nat) : State :=
  let gone := (outputsOf old).filter (fun e => !(edgesOf new).any (fun x => x.dest == e.dest))
  let s := s.each gone (fun s e => putShift s e.dest (entryOffset s.graph.plan e) k
    (if hardCut e then 0 else s.msSamples (s.rdN Obj.ROUTE_FADE_MS)) 0)
  s.each (outputsOf new) (fun s e =>
    match planOffset s.graph.plan old e.dest with
    | some a =>
      if a = entryOffset p e then s
      else putShift s e.dest a k (if hardCut e then 0 else s.msSamples (s.rdN Obj.ROUTE_FADE_MS)) (s.rdN Obj.ROUTE_FADE_LAW)
    | none => s)

/-- The works after a switch at pick n: kept, started from cleared state, or leaving until no fade reads them (R70, R80). -/
def switchWorks (s : State) (old new : Map Val) (n : Nat) : List Work :=
  let want := (elemsOf new).filter (fun e => 65536 ≤ e || typeIn new e != 0x80)
  let kept := s.graph.works.filterMap (fun (w : Work) =>
    let e := elemNo w.elem
    if !want.contains e then
      (if 16384 ≤ e && e < 65536 then (if sameInst old new (e - 16384) && want.contains (e - 16384) then some w else none)
       else some { w with left := if w.left = 0 then n * s.pl + 1 else w.left })
    else if w.left ≠ 0 then some ⟨w.elem, n, [], [], n * s.pl, 0⟩
    else if 65536 ≤ e || sameInst old new e then some w
    else some { w with start := n * s.pl })
  let fresh := (want.filter (fun e => !s.graph.works.any (fun w => elemNo w.elem == e))).map
    (fun e => (⟨elemOf e, n, [], [], n * s.pl, 0⟩ : Work))
  kept ++ fresh

/-- ASRC channels after a switch (R97, R216): instances keep their channel, new ones take the lowest free one. A removed output instance
keeps its channel while it fades out (R70). -/
def assignAsrc (s : State) (new : Map Val) : State :=
  let is := sortBy (fun i => i) ((asrcPorts new).map (fun (p : Nat × Nat) => p.1))
  let fading := (s.graph.shifts.filter (fun h => idKind h.dest == 6)).map (fun h => idUnit h.dest)
  let s := s.each (List.range 256) (fun s c =>
    let i := s.rdN (entry Obj.ASRC_CHAN_INSTANCE c)
    if i = 0xFFFF ∨ is.contains i ∨ fading.contains i then s
    else ((s.wr (entry Obj.ASRC_STATE c) 0).wr (entry Obj.ASRC_CHAN_INSTANCE c) 0xFFFF).wr (entry Obj.ASRC_DELAY_NS c) 0)
  let s := s.each is (fun s i =>
    if (List.range 256).any (fun c => s.rdN (entry Obj.ASRC_CHAN_INSTANCE c) == i) then s
    else match (List.range 256).find? (fun c => s.rdN (entry Obj.ASRC_CHAN_INSTANCE c) == 0xFFFF) with
      | some c => (s.wr (entry Obj.ASRC_CHAN_INSTANCE c) (i : Nat)).wr (entry Obj.ASRC_STATE c) 1
      | none => s)
  s.wr Obj.ASRC_USED (is.length : Nat)

/-- What objects report of a plan: classes, placement, tiers, latencies, positions, loads and stores (R48, R51, R98 to
R106). -/
def showPlan (s : State) : State :=
  let p := s.graph.plan
  let tables := s.dict.filter (fun (e : Nat × Val) =>
    let i := keyIndex e.1
    !((Nat.ble 0x4480 i && Nat.ble i 0x45FF) || (Nat.ble 0x4640 i && Nat.ble i 0x465F) || (Nat.ble 0x4710 i && Nat.ble i 0x471F) ||
      i == 0x4822))
  let s := { s with dict := tables }
  let s := s.each p.instClass (fun s e => s.wr (entry Obj.OBJ_CLASS e.1) (e.2 : Nat))
  let s := s.each p.busClass (fun s e => s.wr (entry Obj.BUS_CLASS e.1) (e.2 : Nat))
  let s := s.each p.place (fun s e => s.wr (entry Obj.OBJ_PLACE e.1) (e.2 : Nat))
  let s := s.each p.place (fun s e => showTier s e.1)
  let s := s.each p.offset (fun s e => s.wr (entry Obj.ROUTE_LATENCY e.1) (e.2 : Nat))
  let s := s.wr Obj.REED_SOURCES_USED ((sourcesInUse s s.run).length : Nat)
  let s := s.wr Obj.REED_DESTS_USED ((destsInUse s s.run).length : Nat)
  let s := s.wr Obj.MIX_POOL_USED (p.pool : Nat)
  showStores (showPlanLoad s)

/-- Whether a copy of the graph has the target of an action: its instance, bus, entry or output (R146). -/
def targetIn (d : Map Val) (a : Action) : Bool :=
  let i := keyIndex a.key
  if isParam a.key then typeIn d (paramInst a.key) != 0
  else if a.key = Obj.CONTRIB_SET then (busesOf d).contains (setBus (Val.int a.val).toNat)
  else if Nat.ble 0x4700 i && Nat.ble i 0x470F then (busesOf d).contains ((i - 0x4700) * 128 + keySub a.key - 1)
  else if Nat.ble 0x4600 i && Nat.ble i 0x461F then (edgesOf d).any (fun e => e.entry == (i - 0x4600) * 128 + keySub a.key - 1)
  else if Nat.ble 0x4660 i && Nat.ble i 0x467F then (edgesOf d).any (fun e => e.entry == (i - 0x4660) * 128 + keySub a.key - 1)
  else if Nat.ble 0x4C00 i && Nat.ble i 0x4C3F then Val.int (getIn d (ix Obj.SELV_DEST (i - 0x4C00))) != 0
  else true

/-- Marks an action whose target a new plan has not, when the old one had it; a target that is there again is not lost (R146). -/
def markGone (old new : Map Val) (a : Action) : Action := { a with gone := !targetIn new a && (a.gone || targetIn old a) }

/-- The switch to a plan at the batten of the present pick (R54, R70, R115). -/
def switchPlan (s : State) (p : Plan) : State :=
  let n := s.clock.pick
  let k := n * s.pl
  let old := s.run
  let new := withActive old (s.graph.live.foldl (reapply s p) p.dict)
  let s := fadeRoutes s old new k
  let s := s.each ((mixedBuses new ++ mixedBuses old).eraseDups.filter (fun b => (busesOf new).contains b)) (fadeBus old new k)
  let s := shiftOutputs s p old new k
  let works := switchWorks s old new n
  let dests := (edgesOf new).map (fun (e : Edge) => e.dest)
  let had := (edgesOf old).map (fun (e : Edge) => e.dest)
  let outs := s.graph.outs.filter (fun (o : OutState) => !(dests.contains o.dest && !had.contains o.dest))
  let past := (edgesOf new ++ edgesOf old).map (fun (e : Edge) => e.entry)
  let graph := { s.graph with
    plan := { p with dict := new, due := s.graph.plan.due.foldl (fun (m : Map Nat) e =>
      if (mapGet m e.1).isSome then m else mapSet m e.1 e.2) p.due }
    ready := none
    live := []
    olds := s.graph.olds ++ [(k, old)]
    louds := s.graph.louds.filter (fun (l : Loud) => sameInst old new l.inst)
    works := works
    outs := outs
    twills := s.graph.twills.filter (fun (t : Twill) => sameInst old new t.inst)
    waiting := s.graph.waiting.map (markGone old new)
    past := s.graph.past ++ (mixedBuses old).map (fun b => ⟨entry Obj.BUS_CONTRIB b, k, getIn old (entry Obj.BUS_CONTRIB b)⟩) ++
      (mixedBuses new).map (fun b => ⟨entry Obj.BUS_CONTRIB b, k, getIn old (entry Obj.BUS_CONTRIB b)⟩) ++
      past.map (fun (e : Nat) => ⟨entry Obj.TEMPLE_CEILING e, k, getIn old (entry Obj.TEMPLE_CEILING e)⟩) ++
      (busesOf new).map (fun b => ⟨entry Obj.BUS_LEVEL b, k, getIn old (entry Obj.BUS_LEVEL b)⟩)
    ramps := s.graph.ramps.filter (fun (r : Ramp) => !isParam r.key || sameInst old new (paramInst r.key)) }
  let s := { s with graph := graph, run := new, agent := { s.agent with actions := s.agent.actions.map (markGone old new) } }
  let gone := s.fabric.moves.filter (fun (m : Move) => !sameInst old new m.inst)
  let fabric := { s.fabric with
    moves := s.fabric.moves.filter (fun (m : Move) => sameInst old new m.inst)
    noRetry := s.fabric.noRetry.filter (fun (e : Nat × Nat) => sameInst old new e.1)
    evictions := s.fabric.evictions.filter (fun (e : Nat × Nat × Bool) => sameInst old new e.1) }
  let faults := (gone.filter (fun m => m.kind == 1 && m.phase == 6)).length
  let s := { s with fabric := fabric, governor := { s.governor with faultMoves := s.governor.faultMoves - faults } }
  let s := s.each (gone.filter (fun m => m.kind == 2 || m.kind == 4 || m.kind == 5)) (fun s m => s.release (if m.kind = 4 then 7 else 3) m.inst)
  let s := if gone.isEmpty then s else s.bump Obj.REWEAVE_ABANDONED (gone.filter (fun m => m.phase != 5)).length
  let s := { s with dict := resizeAll s.dict old }
  let s := assignAsrc s new
  let s := showPlan s
  let s := s.bump Obj.GRAPH_GENERATION
  (showTwills s).wr Obj.GRAPH_STATUS (if graphOf s.dict = graphOf new then 0 else 1)

/-! ## Readings (R74, R91, R93, R95) -/

/-- A gain of at most 1 in S4.31 as a reading in 0.001 dB. -/
def gainReading (g : Int) : Int := min 0 (readingOf (levelOf g.toNat (2 ^ 31)))

/-- The lowest gain of a pick's block. -/
def lowestGain (b : Block) : Int := b.x.foldl min unity

/-- Readings of an instance at batten n, from the pick that its path releases there (R74, R91, R93, R95). -/
def readInst (n : Nat) (s : State) (e : Nat × Nat) : State :=
  let i := e.1
  let pick := n - mapGetD s.graph.plan.shown i 2
  match e.2 with
  | 0x60 =>
    match s.block (meterPin i) pick, s.workOf i with
    | some b, some w =>
      let peak := decibel (b.x.foldl (fun (a : Nat) x => max a x.natAbs) 0)
      let overs := (b.x.filter (fun x => decide (fullScale < (x.natAbs : Int)))).length
      let window := s.msSamples (s.runN (paramKey i Par.MTR_WINDOW_MS)).toNat
      let xs := (((w.hist.getD 0 []).drop ((w.next - 1 - pick) * s.pl)).take window)
      let s := s.wr (paramKey i Par.MTR_PEAK) peak
      let s := if s.rd (paramKey i Par.MTR_PEAK_HOLD) < peak then s.wr (paramKey i Par.MTR_PEAK_HOLD) peak else s
      let s := s.wr (paramKey i Par.MTR_RMS) (decibelPower (xs.foldl (fun (a : Nat) x => a + x.natAbs * x.natAbs) 0) window)
      if overs = 0 then s else s.bump (paramKey i Par.MTR_OVER_COUNT) overs
    | _, _ => s
  | 0x40 =>
    match s.block (gainPin i) pick with
    | some b => s.wr (paramKey i Par.DYN_GR) (gainReading (lowestGain b))
    | none => s
  | 0x41 =>
    match s.block (gainPin i) pick with
    | some b => s.wr (paramKey i Par.LIM_GR) (gainReading (lowestGain b))
    | none => s
  | 0x61 =>
    match s.block (meterPin i) pick with
    | some b =>
      let from_ := (loudOf s i).runFrom
      let ys := ((List.range b.x.length).zip b.x).map (fun (y : Nat × Int) => if from_ ≤ pick * s.pl + y.1 then y.2 else 0)
      let peak := decibel (ys.foldl max 0).toNat
      if s.rd (paramKey i Par.LD_TRUE_PEAK) < peak then s.wr (paramKey i Par.LD_TRUE_PEAK) peak else s
    | none => s
  | _ => s

/-- Readings of all instances at batten n. -/
def readAll (s : State) (n : Nat) : State := s.each (instsOf s.run) (readInst n)

/-- Loudness in 2^-32 of 0.001 LUFS of a weighted energy over n samples (R95): -0.691 + 10 log10 of the mean square of full scale; energies
carry 32 bits behind the point. -/
def loudnessOf (energy : Int) (n : Nat) : Int := levelOf energy.toNat (n * 2 ^ 86) / 2 - 691 * 2 ^ 32

/-- The mean square, in fixed point, of the blocks of a bin: bin b holds loudness from -70 LUFS + b / 100 LU up (R95). -/
def binEnergy (b : Nat) : Int := fixPow10 (fixRatio ((b : Int) * 10 - 69309) 10000)

/-- Loudness of the mean of bins, in 2^-32 of 0.001 LUFS. -/
def binsLoudness (bins : Map Nat) : Int :=
  let n := (bins.map (fun (e : Nat × Nat) => e.2)).sum
  let energy := bins.foldl (fun (a : Int) (e : Nat × Nat) => a + binEnergy e.1 * e.2) 0
  levelOf energy.toNat (n * 2 ^ 64) / 2 - 691 * 2 ^ 32

/-- Gated loudness of a run (R95): blocks of at least -70 LKFS, which the bins hold, and of those the ones above their mean less 10 LU. -/
def integratedLoudness (bins : Map Nat) : Int :=
  let gate := binsLoudness bins - 10000 * 2 ^ 32
  binsLoudness (bins.filter (fun (e : Nat × Nat) => decide (gate < ((e.1 : Int) * 10 - 70000) * 2 ^ 32)))

/-- A gating block of 400 ms enters its bin of 0.01 LU when it reaches -70 LKFS (R95). -/
def binBlock (bins : Map Nat) (loudness : Int) : Map Nat :=
  let b := (loudness + 70000 * 2 ^ 32) / (10 * 2 ^ 32)
  if b < 0 then bins else mapSet bins b.toNat (mapGetD bins b.toNat 0 + 1)

/-- LOUDNESS_UPDATE (R74, R95): a further 100 ms of samples, once its last pick has been released: momentary and short-term loudness, and in a
run the gating block that ends with it. -/
def execLoudnessUpdate (t i : Nat) (s : State) : Result :=
  let s := s.at_ t
  match s.workOf i with
  | none => .next s
  | some w =>
    let l := loudOf s i
    let size := loudBlock s.fs
    let at_ := 8 * shapeOf s.run i Par.LD_INPUTS + 2
    let end_ := w.start + (l.total + 1) * size
    .next (s.whenever (typeIn s.run i = 0x61 && (w.regs[at_]?).isSome &&
        decide (end_ + mapGetD s.graph.plan.shown i 2 * s.pl ≤ (s.clock.pick + 1) * s.pl)) (fun s =>
      let energies := (w.regs.getD at_ 0 :: l.energies).take 30
      let s := s.setWork i { w with regs := w.regs.take at_ ++ w.regs.drop (at_ + 1) }
      let gating := loudnessOf ((energies.take 4).foldl (fun (a : Int) x => a + x) 0) (4 * size)
      let on := s.numAt s.run (paramKey i Par.LD_RUN) (end_ - 1) = 1 ∧ l.runFrom + 4 * size ≤ end_ ∧ 4 ≤ l.total + 1
      let bins := if on then binBlock l.bins gating else l.bins
      let s := setLoud s { l with energies := energies, total := l.total + 1, bins := bins }
      let s := if 4 ≤ l.total + 1 then s.wr (paramKey i Par.LD_MOMENTARY) (readingOf gating) else s
      let s := if 30 ≤ l.total + 1 then s.wr (paramKey i Par.LD_SHORT_TERM)
          (readingOf (loudnessOf (energies.foldl (fun (a : Int) x => a + x) 0) (30 * size))) else s
      if on then s.wr (paramKey i Par.LD_INTEGRATED) (readingOf (integratedLoudness bins)) else s))

end Machine
end Sys2Proof
end

