-- ==== Sys2Proof/Machine/Placement.lean ====
section
/-! DEFINITION. Placement as it changes in service (chapter 5): moves (R107 to R116), the switch of a commit (R115), withdrawal and the
reserve (R117 to R119), derating (R104), the slack actions (R40), mending (R120, R409 to R415) and overflow (R125 to R127). -/

namespace Sys2Proof
namespace Machine

/-! ## Where work runs -/

/-- Shuttles of a harness, in order (R9). -/
def shuttlesOf (s : State) (h : Nat) : List Nat := (List.range 54).filter (fun sh => s.harness sh == h)

/-- Instances that run on a shuttle or move toward it. -/
def boundFor (s : State) (sh : Nat) : List Nat :=
  (placedOn s sh ++ ((s.fabric.moves.filter (fun m => m.dst == sh && decide (m.phase ≠ 5))).map (fun m => m.inst))).eraseDups

/-- Load of a shuttle with an instance added to what runs there or moves toward it. -/
def loadWithInst (s : State) (i sh : Nat) : Nat := loadSum s (i :: (boundFor s sh).filter (fun j => j != i)) + guestWork s sh

/-- Budget left on a shuttle with an instance added; negative beyond it. -/
def roomFor (s : State) (i sh : Nat) : Int := (budget s sh : Int) - (loadWithInst s i sh : Nat)

/-- The items that an instance would store anew on a shuttle or partner (R105, R112): what lies in the warp store or in LPDDR5 stays where it
is. None when an item fits no tier of its row. -/
def itemsAt (s : State) (i dst : Nat) : Option (List Holding) :=
  if 54 ≤ dst then some []
  else
    let stays := s.graph.plan.items.filter (fun it => it.inst == i && decide (3 ≤ it.tier))
    let anew := (itemsOf s.run s.pl (mapGetD s.graph.plan.instClass i 2) i).filter (fun it => !stays.any (fun x => x.part == it.1.part))
    (storeItems s dst anew (stores s) []).map (fun r => r.2)

/-- Shuttles that an instance may move to: in service, another one, with room for its stored items, not one that a failed comparison bars
(R99, R105, R114). -/
def targets (s : State) (i : Nat) (avoid : List Nat) : List Nat :=
  (List.range 54).filter (fun sh => decide (0 < budget s sh) && !avoid.contains sh && mapGet s.graph.plan.place i != some sh &&
    !s.fabric.noRetry.contains (i, sh) && (itemsAt s i sh).isSome)

/-- A destination with free budget: the preferred shuttle when it has room, else the roomiest. -/
def destFor (s : State) (i : Nat) (avoid : List Nat) (pref : Option Nat) : Option Nat :=
  let fits := (targets s i avoid).filter (fun sh => decide (0 ≤ roomFor s i sh))
  match pref.filter (fun sh => fits.contains sh) with
  | some sh => some sh
  | none => (sortBy (fun sh => 2 ^ 40 - (roomFor s i sh).toNat) fits).head?

/-- Measured lane speed of a shuttle in 2^-16 Mop/s: the filtered value, or the rating before one (R104, R119). -/
def speedOf (s : State) (sh : Nat) : Nat := (mapGetD s.fabric.filtered sh ((s.rdN (Obj.SHUTTLE_RATING + sh) * 65536 : Nat) : Int)).toNat

/-- Share of the pick, in 2^-32 of what the measured speed allows, that a shuttle would need with an instance added (R119). -/
def strain (s : State) (i sh : Nat) : Nat := loadWithInst s i sh * 2 ^ 32 / max 1 (speedOf s sh)

/-- The shuttle that would keep the most slack with an instance added beyond budgets (R119). -/
def overDest (s : State) (i : Nat) (avoid : List Nat) : Option Nat := (sortBy (strain s i) (targets s i avoid)).head?

/-- Budgets, committed shuttles and capacity as objects show them (R10, R103). -/
def showBudgets (s : State) : State :=
  let s := s.each (List.range 54) (fun s sh => s.wr (Obj.SHUTTLE_BUDGET + sh) (budget s sh : Nat))
  let s := s.wr Obj.COMMITTED_SHUTTLES (((List.range 54).filter (fun sh => s.harnessState (s.harness sh) == 0)).length : Nat)
  s.wr Obj.PLACE_CAPACITY (capacity s : Nat)

/-- Sets the state of a harness. -/
def setHarness (s : State) (h st : Nat) : State := s.wr (Obj.HARNESS_STATE + h) (st : Nat)

/-- The harness in state 1, if any. -/
def reserveOf (s : State) : Option Nat := (List.range 9).find? (fun h => s.harnessState h == 1)

/-- RESERVE_EXHAUSTED stands while a withdrawn harness has left no reserve (R10, R118). -/
def showReserve (s : State) : State :=
  let gone := (List.range 9).any (fun h => s.harnessState h == 4)
  s.level Ev.RESERVE_EXHAUSTED 0 0 (gone && (reserveOf s).isNone)

/-- An instance runs on a shuttle or partner from now on, with new items in place of those that it leaves behind (R105, R110, R112). Answers
those. -/
def relocate (s : State) (i dst : Nat) (items : List Holding) : State × List Holding :=
  let p := s.graph.plan
  let leaves := fun (it : Holding) => it.inst == i && (decide (54 ≤ dst) || decide (it.tier < 3))
  let plan := { p with place := mapSet p.place i dst, items := p.items.filter (fun it => !leaves it) ++ items }
  let s := showPlanLoad { s with graph := { s.graph with plan := plan } }
  (showTier (s.wr (entry Obj.OBJ_PLACE i) (dst : Nat)) i, p.items.filter leaves)

/-! ## Moves (R107 to R114) -/

/-- Leave kind of a move (R395); drains share the request of their harness. -/
def moveLeave (m : Move) : Nat := if m.kind = 4 then 7 else 3

/-- Priority of a kind of move (R107). -/
def movePrio (kind : Nat) : Nat := if kind = 5 then 2 else kind

/-- Moves in the order in which they compete (R107). -/
def inOrder (ms : List Move) : List Move := sortBy (fun (m : Move) => movePrio m.kind * 2 ^ 48 + m.planned) ms

/-- REWEAVE_MOVES_ACTIVE: moves between admission and switch. -/
def showMoves (s : State) : State :=
  s.wr Obj.REWEAVE_MOVES_ACTIVE ((s.fabric.moves.filter (fun (m : Move) => decide (2 ≤ m.phase) && m.phase != 5)).length : Nat)

/-- Replaces a move. -/
def setMove (s : State) (m n : Move) : State :=
  { s with fabric := { s.fabric with moves := change s.fabric.moves (fun (x : Move) => x == m) (fun _ => n) } }

/-- Takes moves out; the storage they hold is free. -/
def takeOut (s : State) (p : Move → Bool) : State :=
  showStores (showMoves { s with fabric := { s.fabric with moves := s.fabric.moves.filter (fun (x : Move) => !p x) } })

/-- Removes a move and releases its own leave. -/
def dropMove (s : State) (m : Move) : State :=
  let s := takeOut s (fun x => x == m)
  if m.kind = 3 ∨ m.kind = 1 then s else s.release (moveLeave m) m.inst

/-- Abandons a move and counts it; A stays in force (R111, R114). -/
def abandon (s : State) (m : Move) : State := (dropMove s m).bump Obj.REWEAVE_ABANDONED

/-- Whether a voluntary move of an instance may start, but for moves in progress (R109). -/
def movable (s : State) (i : Nat) : Bool :=
  (s.swapOf i).isNone && loadState s i != 1 && loadState s i != 2 && typeIn s.run i != 0x80

/-- Whether an instance has a move in progress. -/
def moving (s : State) (i : Nat) : Bool := s.fabric.moves.any (fun m => m.inst == i)

/-- Whether a voluntary move of an instance may start (R109). -/
def mayMove (s : State) (i : Nat) : Bool := movable s i && !moving s i

/-- A planned move of an instance. -/
def newMove (s : State) (i kind dst : Nat) : Move :=
  { inst := i, kind := kind, src := mapGetD s.graph.plan.place i 0xFFFF, dst := dst, phase := 0, closings := 0, planned := s.clock.pick,
    logged := 0, since := s.clock.now, items := [], blocks := 0 }

/-- Adds a move. -/
def addMove (s : State) (m : Move) : State := { s with fabric := { s.fabric with moves := s.fabric.moves ++ [m] } }

/-- Plans a voluntary move; an instance with a move in progress gets none (R109). -/
def planMove (s : State) (i kind dst : Nat) : State := if moving s i then s else addMove s (newMove s i kind dst)

/-- A move switches: B's outputs are released and OBJ_PLACE follows (R110 step 6); it keeps A's storage until the next batten. -/
def switchMove (s : State) (m : Move) : State :=
  let r := relocate s m.inst m.dst m.items
  let s := if m.kind = 3 then r.1 else r.1.release (moveLeave m) m.inst
  let s := { s with fabric := { s.fabric with evictions := s.fabric.evictions.filter (fun e => e.1 != m.inst) } }
  showMoves ((setMove s m { m with phase := 5, items := r.2 }).bump Obj.REWEAVE_MOVES_DONE)

/-- Whether an instance has completed every pick that was due by batten n. -/
def completed (s : State) (i n : Nat) : Bool :=
  match s.workOf i with
  | some w => decide (n < w.next + mapGetD s.graph.plan.due i 2)
  | none => true

/-- Whether the pick that opens at batten n carries block work of a FIR_PARTITIONED instance (R113). -/
def carriesBlock (s : State) (i n : Nat) : Bool :=
  typeIn s.run i != 0x21 || decide ((pickWork s.run s.pl i (mapGetD s.graph.plan.phase i 0)).getD (n % 8) 0 ≠ 0)

/-- Whether a move holds its leave. -/
def hasLeave (s : State) (m : Move) : Bool := if m.kind = 3 then s.granted 6 (s.harness m.src) else s.granted (moveLeave m) m.inst

/-- Whether the cause of a move still stands: a rebalance needs its warning or its excess load (R40, R104, R110). -/
def causeStands (s : State) (m : Move) : Bool :=
  m.kind != 4 || s.stands Ev.SLACK_WARN 0 || decide (budget s m.src < loadOn s m.src)

/-- Whether a commit move finds budget at its destination beside what runs there and what moves there; the first of them goes when none is
under way, as commit moves can wait for one another. -/
def findsRoom (s : State) (m : Move) : Bool :=
  m.kind != 2 || decide (54 ≤ m.dst) ||
  (let others := (s.fabric.moves.filter (fun (x : Move) => x.dst == m.dst && x.inst != m.inst && x.phase != 0 && x.phase != 5)).map (fun x => x.inst)
   decide (loadSum s (m.inst :: (placedOn s m.dst ++ others).eraseDups) + guestWork s m.dst ≤ budget s m.dst)) ||
  !s.fabric.moves.any (fun (x : Move) => x.kind == 2 && x.phase != 0)

/-- A move begins its bulk copy with storage at B (R105, R110). -/
def startCopy (s : State) (m : Move) : State :=
  match itemsAt s m.inst m.dst with
  | some items => showStores (showMoves (setMove s m { m with phase := 2, since := s.clock.now, items := items }))
  | none => s

/-- One step of a move at batten n (R110, R111, R113). -/
def advanceMove (n : Nat) (s : State) (m : Move) : State :=
  match m.phase with
  | 0 =>
    if !movable s m.inst || !findsRoom s m || (itemsAt s m.inst m.dst).isNone then s
    else if m.kind = 3 then (if hasLeave s m then startCopy s m else s)
    else (setMove s m { m with phase := 1 }).askLeave (moveLeave m) 8 m.inst
  | 1 =>
    if hasLeave s m then
      if movable s m.inst then startCopy s m else (setMove s m { m with phase := 0 }).release (moveLeave m) m.inst
    else if s.asking (moveLeave m) m.inst then s
    else if causeStands s m then s.askLeave (moveLeave m) 8 m.inst
    else dropMove s m
  | 3 =>
    let shadows := (s.fabric.moves.filter (fun (x : Move) => x.phase == 4)).length
    if !carriesBlock s m.inst n || decide (s.rdN Obj.REWEAVE_MAX_ACTIVE ≤ shadows) || (s.swapOf m.inst).isSome then s
    else if completed s m.inst n then setMove s m { m with phase := 4 }
    else setMove s m { m with closings := m.closings + 1 }
  | _ => s

/-- Words that the placement mover copies for a move: B's items in local and harness store, or those logged behind the latest round (R110,
R112). -/
def copyWords (m : Move) : Nat :=
  if 2048 < m.logged then m.logged else ((m.items.filter (fun it => decide (it.tier < 3))).map (fun it => it.words)).sum

/-- Whether the mover can have copied a move's words by now (R107, R110): 256 words in a microsecond since its copy could begin, and no
move with precedence still copies. -/
def copied (s : State) (m : Move) : Bool :=
  decide (m.since + copyWords m * 1000 / 256 ≤ s.clock.now) &&
  (inOrder (s.fabric.moves.filter (fun (x : Move) => x.phase == 2 || x.phase == 6))).head? == some m

/-- Swiska blocks that the state of an instance fills at least: 936 payload bits carry 26 words of 36 bits (R127, R268). -/
def stateBlocks (s : State) (i : Nat) : Nat := (stateWords s.run s.pl i + 25) / 26

/-- Whether the state of an evicted instance has arrived from its partner (R127). -/
def arrived (s : State) (m : Move) : Bool := m.kind != 5 || decide (stateBlocks s m.inst ≤ m.blocks)

/-- REWEAVE_BULK_COPY_DONE (R107, R110, R112, R127): the bulk copy of an instance ends; with 2,048 logged words or fewer the closing
follows, with more a further round copies them. -/
def execReweaveBulkCopyDone (t i logged : Nat) (s : State) : Result :=
  let s := s.at_ t
  match s.fabric.moves.find? (fun m => m.inst == i && m.phase == 2 && copied s m && arrived s m) with
  | some m => .next (setMove s m { m with phase := if logged ≤ 2048 then 3 else 2, logged := logged, since := s.clock.now })
  | none => .next s

/-- REWEAVE_ABANDONED (R111): after 16 failed closings. -/
def execReweaveAbandoned (t i : Nat) (s : State) : Result :=
  let s := s.at_ t
  match s.fabric.moves.find? (fun m => m.inst == i && m.phase == 3 && decide (16 ≤ m.closings)) with
  | some m => .next (abandon s m)
  | none => .next s

/-! ## The switch of a commit (R51, R55, R86, R115, R126) -/

/-- Placement and items of a prepared plan as the engine stands now; overflow was decided at its compile (R121). -/
def settled (s : State) (p : Plan) : Except (Nat × Nat × Nat) (Map Nat × List Holding) :=
  settle s p.dict p.phase p.instClass (fun i => decide (54 ≤ mapGetD p.place i 0))

/-- Existing instances that a placement moves (R107): commit moves. -/
def movedInsts (s : State) (d place : Map Nat) (new : Map Val) : List (Nat × Nat) :=
  place.filter (fun (e : Nat × Nat) => sameInst s.run new e.1 && (match mapGet d e.1 with | some a => a != e.2 | none => false))

/-- The commit moves that a prepared plan still needs are planned (R107, R114, R115). A plan that no longer fits, as budgets have fallen since its
compile, is refused, which is the model's choice (log entry 228). -/
def planCommit (s : State) : State :=
  match s.graph.ready with
  | none => s
  | some p =>
    if s.fabric.commitWaits || s.fabric.moves.any (fun m => m.kind == 2 && m.phase != 5) then s
    else match settled s p with
      | .error e =>
        let s := s.each s.graph.loads (fun s i => s.release 5 i)
        graphRefused { s with graph := { s.graph with loads := [] } } e
      | .ok r => s.each (movedInsts s s.graph.plan.place r.1 p.dict) (fun s e => planMove s e.1 2 e.2)

/-- COMPILE_DONE (R51, R126): the commit is refused with the first error, or the switch to the new plan is prepared: the loads of its new
partitions and its moves. When it fits only without the guests, they are sent away first. -/
def execCompileDone (t : Nat) (s : State) : Result :=
  let s := s.at_ t
  match s.graph.compiling with
  | none => .next s
  | some d =>
    .next (s.whenever (s.coreRuns 0) (fun s =>
      let bare := { s with fabric := { s.fabric with guests := [] } }
      let first := compile s d
      let waits := match first with | .error e => e.1 == 0x07 && !s.fabric.guests.isEmpty | .ok _ => false
      match (if waits then compile bare d else first) with
      | .error e => graphRefused s e
      | .ok p =>
        let loads := loadedInsts s p
        let guests := if waits then s.fabric.guests.map (fun g => if g.ends = 0 then { g with ends := s.clock.pick + 2048 } else g)
          else s.fabric.guests
        let s := if waits then s.each (s.fabric.guests.filter (fun g => g.ends == 0)) (fun s g => s.emit (.evict g.port g.inst)) else s
        let s := { s with graph := { s.graph with compiling := none, ready := some p, loads := loads },
                          fabric := { s.fabric with commitWaits := waits, guests := guests } }
        planCommit ((s.each loads startLoad).wr Obj.GRAPH_STATUS 3)))

/-- Whether a prepared plan may switch: no commit move is left, its loads have ended, no guest is in its way, and running fades leave it its
positions (R55, R86, R115, R126). -/
def maySwitch (s : State) (p : Plan) : Bool :=
  !s.fabric.moves.any (fun m => m.kind == 2 && m.phase != 5) && s.graph.loads.isEmpty && !s.fabric.commitWaits &&
  (match settled s p with | .ok r => (movedInsts s s.graph.plan.place r.1 p.dict).isEmpty | .error _ => false) &&
  decide ((sourcesOf p.dict ++ heldSources (s.rdN Obj.ROUTE_FADE_MS) s.run p.dict ++ fadeSources s).eraseDups.length ≤ positions s) &&
  decide (((edgesOf p.dict).map (fun e => e.dest) ++ heldDests (s.rdN Obj.ROUTE_FADE_MS) s.run p.dict ++ fadeDests s).eraseDups.length
    ≤ positions s)

/-- GRAPH_SWITCH (R115): at the first batten at which nothing is outstanding, the engine switches to the new plan. -/
def execGraphSwitch (t : Nat) (s : State) : Result :=
  let s := s.at_ t
  match s.graph.ready with
  | some p => .next (s.whenever (maySwitch s p) (fun s => match settled s p with
    | .ok r => showMoves (switchPlan s { p with place := r.1, items := r.2 })
    | .error _ => s))
  | none => .next s

/-! ## Fault moves (R108, R116, R119) -/

/-- Work goes beyond budgets: OVERCOMMITTED stands (R119). -/
def overcommit (s : State) : State := s.rise Ev.OVERCOMMITTED 0 0

/-- A destination for a move that must find one: free budget first, then beyond budgets. -/
def forcedDest (s : State) (i : Nat) (avoid : List Nat) (pref : Option Nat) : Option Nat × Bool :=
  match destFor s i avoid pref with
  | some d => (some d, false)
  | none => (overDest s i avoid, true)

/-- Whether a placement is a partner. -/
def isPartner (p : Nat) : Bool := decide (0x100 ≤ p) && decide (p ≤ 0x105)

/-- A partner other than one, for an instance (R122, R127). -/
def otherPartner (s : State) (i port : Nat) : Option Nat :=
  ((partnerRoom s s.run s.graph.plan.place).find? (fun (r : Nat × Int) =>
    r.1 != port && decide (((costOf s.run s.pl i * s.pl : Nat) : Int) ≤ r.2))).map (fun (r : Nat × Int) => 0x100 + r.1)

/-- Free budget for an instance that a partner runs: here, else at another partner that qualifies (R125, R127). -/
def freeBudget (s : State) (i place : Nat) : Option Nat :=
  match destFor s i [] none with
  | some d => some d
  | none => otherPartner s i (place - 0x100)

/-- Where a fault move goes: an instance lost at a partner to free budget only (R125), any other beyond budgets if it must (R119). -/
def faultDest (s : State) (i : Nat) (avoid : List Nat) (pref : Option Nat) : Option Nat × Bool :=
  let place := mapGetD s.graph.plan.place i 0xFFFF
  if isPartner place then (freeBudget s i place, false) else forcedDest s i avoid pref

/-- A fault move starts (R43, R108, R116): without leave, counted at 40 units; a running twill swap ends at once, and the outputs hold. One
that finds no place waits until one appears (R127). A move that has passed its comparison switches instead (R44). -/
def startFault (s : State) (i : Nat) (avoid : List Nat) (pref : Option Nat) : State :=
  let s := s.each (s.fabric.moves.filter (fun m => m.inst == i && m.phase != 5 && m.phase != 7 && m.kind != 1)) abandon
  if s.fabric.moves.any (fun m => m.inst == i && (m.kind == 1 || m.phase == 7)) then s
  else
    let s := if (s.swapOf i).isSome then endTwill s i else s
    let s := s.markMoved (pinsOf s.run i)
    match faultDest s i avoid pref with
    | (some d, above) =>
      let s := addMove s { newMove s i 1 d with phase := 6, items := (itemsAt s i d).getD [] }
      let s := showStores { s with governor := { s.governor with faultMoves := s.governor.faultMoves + 1 } }
      showMoves (if above then overcommit s else s)
    | (none, _) => addMove s (newMove s i 1 0xFFFF)

/-- Fault moves that found no place start as soon as one appears (R127). -/
def retryFaults (s : State) : State :=
  s.each (s.fabric.moves.filter (fun m => m.kind == 1 && m.phase == 0)) (fun s m =>
    if (faultDest s m.inst [] none).1.isSome then startFault (takeOut s (fun x => x == m)) m.inst [] none else s)

/-- FAULT_MOVE_START (R42, R107, R116, R125): the copy is complete and the moved instance starts at the next batten, from cleared state when
the withdrawn store, or a partner's, could not be read. -/
def execFaultMoveStart (t i : Nat) (readable : Bool) (s : State) : Result :=
  let s := s.at_ t
  match s.fabric.moves.find? (fun m => m.inst == i && m.kind == 1 && m.phase == 6) with
  | none => .next s
  | some m =>
    let lost := !readable || (decide (0x100 ≤ m.src) && m.src != 0xFFFF)
    .next (s.whenever (lost || copied s m) (fun s =>
      let works := change s.graph.works (fun (w : Work) => w.elem == .inst i) (fun w =>
        let w := { w with next := max w.next s.clock.pick }
        if lost then { w with regs := [], hist := [] } else w)
      let s := { s with graph := { s.graph with works := works },
                        governor := { s.governor with faultMoves := s.governor.faultMoves - 1 },
                        fabric := { s.fabric with moves := s.fabric.moves.filter (fun (x : Move) => x != m) } }
      let s := (((relocate s i m.dst m.items).1).bump Obj.REWEAVE_MOVES_DONE).bump Obj.REWEAVE_UNVERIFIED
      let s := showStores (showMoves s)
      if lost then ((s.bump Obj.STATE_LOST_COUNT).raise Ev.STATE_LOST i).flag 3 else s))

/-! ## Withdrawal (R117) -/

/-- Ends a running self-test: the harness takes its old ratings back and MEND_RESULT reads 3 (R117, R411). -/
def stopTest (s : State) (h st : Nat) : State :=
  let s := s.each (s.fabric.oldRatings.filter (fun (r : Nat × Nat) => s.harness r.1 == h)) (fun s r => s.wr (Obj.SHUTTLE_RATING + r.1) (r.2 : Nat))
  let s := (setHarness s h st).wr (Obj.MEND_RESULT + h) 3
  let s := { s with fabric := { s.fabric with mending := if s.fabric.mending = some h then none else s.fabric.mending, oldRatings := [] } }
  s.release 6 h

/-- The preferred shuttle of an instance in a harness: the one at the same position (R117, R120). -/
def samePlace (s : State) (i : Nat) (home : Option Nat) : Option Nat :=
  home.bind (fun h =>
    let sh := mapGetD s.graph.plan.place i 0
    (findPos (fun x => x == sh) (shuttlesOf s (s.harness sh))).bind (fun p => (shuttlesOf s h)[p]?))

/-- Instances largest first (R119). -/
def largestFirst (s : State) (is : List Nat) : List Nat := sortBy (fun i => 2 ^ 40 - costOf s.run s.pl i) is

/-- Plans the drain moves of what still runs on a harness and has no move (R117, R120). -/
def planDrains (s : State) (h : Nat) (home : Option Nat) : State :=
  let is := ((shuttlesOf s h).flatMap (placedOn s)).filter (fun i => !moving s i)
  s.each (largestFirst s is) (fun s i =>
    match forcedDest s i (shuttlesOf s h) (samePlace s i home) with
    | (some d, above) => let s := planMove s i 3 d; if above then overcommit s else s
    | (none, _) => s)

/-- The harness that takes a withdrawn one's work (R117): the reserve, else one whose self-test is stopped for it. -/
def takeHome (s : State) : State × Option Nat :=
  match reserveOf s with
  | some h => (setHarness s h 0, some h)
  | none => match (List.range 9).find? (fun h => s.harnessState h == 3) with
    | some h => (stopTest s h 0, some h)
    | none => (s, none)

/-- A guest on a shuttle out of service goes to one with room; without one the partner's guest stops (R125, R126). -/
def rehouseGuests (s : State) : State :=
  s.each (s.fabric.guests.filter (fun g => budget s g.shuttle == 0)) (fun s g =>
    let rest := s.fabric.guests.filter (fun x => x != g)
    let s := { s with fabric := { s.fabric with guests := rest } }
    match (sortBy (fun sh => 2 ^ 40 - (budget s sh - loadOn s sh)) ((List.range 54).filter (fun sh => decide (loadOn s sh + g.load ≤ budget s sh)))).head? with
    | some sh => { s with fabric := { s.fabric with guests := rest ++ [{ g with shuttle := sh }] } }
    | none => s)

/-- A fault copy whose destination is withdrawn starts again toward another shuttle (R108). -/
def dropCopy (gone : List Nat) (s : State) (m : Move) : State :=
  let t := takeOut s (fun x => x == m)
  let g := { t.governor with faultMoves := s.governor.faultMoves - 1 }
  startFault { t with governor := g } m.inst gone none

/-- Withdraws shuttles (R41, R104, R114, R117): their harnesses enter state 4, the reserve enters service, their instances
leave by fault moves and the rest of the harness by drain moves under one leave of kind 6. -/
def withdrawShuttles (s : State) (gone : List Nat) : State :=
  let fresh := ((gone.map s.harness).eraseDups).filter (fun h => s.harnessState h != 4)
  let s := s.each fresh (fun s h => setHarness s h 4)
  let s := { s with fabric := { s.fabric with mending := s.fabric.mending.filter (fun h => !fresh.contains h) } }
  let r := if fresh.isEmpty then (s, none) else takeHome s
  let home := r.2
  let s := if fresh.isEmpty then r.1 else r.1.wr Obj.RESERVE_HARNESS 0xFF
  let s := rehouseGuests (showBudgets s)
  let ends := fun (m : Move) => gone.contains m.dst || (decide (m.dst < 54) && fresh.contains (s.harness m.dst))
  let s := s.each (s.fabric.moves.filter (fun m => m.kind != 1 && m.phase != 5 && (ends m || (gone.contains m.src && m.phase != 7)))) abandon
  let lostCopy := s.fabric.moves.filter (fun m => m.kind == 1 && m.phase == 6 && ends m)
  let s := s.each lostCopy (dropCopy gone)
  let is := gone.flatMap (placedOn s)
  let s := s.each (largestFirst s is) (fun s i => startFault s i gone (samePlace s i home))
  let s := s.each fresh (fun s h =>
    let s := planDrains s h home
    if s.granted 6 h || s.asking 6 h then s else s.askLeave 6 120 h)
  showReserve (showPlanLoad s)

/-- A placement in the ARG of REWEAVE_MISMATCH (R114). -/
def placeArg (p : Nat) : Nat := if 0x100 ≤ p then 0x80 + p % 0x100 else p

/-- A failed comparison (R114). -/
def mismatched (s : State) (m : Move) : State :=
  let arg := m.inst * 65536 + placeArg m.src * 256 + placeArg m.dst
  let again := [m.src, m.dst].filter (fun sh => decide (sh < 54) && (match mapGet s.fabric.mismatch sh with
    | some at_ => decide (s.clock.now < at_ + 86400000000000)
    | none => false))
  let s := ((abandon s m).bump Obj.REWEAVE_MISMATCH).raise Ev.REWEAVE_MISMATCH arg
  let head := ([m.src, m.dst].filter (fun sh => decide (sh < 54))).map s.harness
  let fabric := { s.fabric with
    mismatch := [m.src, m.dst].foldl (fun (x : Map Nat) sh => mapSet x sh s.clock.now) s.fabric.mismatch
    noRetry := s.fabric.noRetry ++ [(m.inst, m.dst)]
    mendFirst := (s.fabric.mendFirst ++ head).eraseDups }
  let s := { s with fabric := fabric }
  if again.isEmpty then s else withdrawShuttles s again

/-- The end of a shadow pick at the deadline of batten n (R44, R110 steps 5 and 6, R114): `missed` and `failed` list the instances whose shadow
missed or whose comparison failed. A move that passes, or whose shadow stands in for an old placement that missed, switches in step 4. -/
def judgeShadow (missed failed : List Nat) (n : Nat) (s : State) (m : Move) : State :=
  if !s.fabric.moves.contains m then s
  else if missed.contains m.inst then abandon s m
  else if completed s m.inst n then
    if failed.contains m.inst then mismatched s m else setMove s m { m with phase := 7 }
  else
    match s.workOf m.inst with
    | some w =>
      let s := s.computeTask m.inst w
      let pins := pinsOf s.run m.inst
      let blocks := change s.graph.blocks (fun (b : Block) => pins.contains b.id && b.pick == w.next) (fun b => { b with degraded := true })
      (setMove { s with graph := { s.graph with blocks := blocks } } m { m with phase := 7 }).bump Obj.REWEAVE_UNVERIFIED
    | none => setMove s m { m with phase := 7 }

/-! ## Derating and slack (R40, R104) -/

/-- Instances of a shuttle that stay there. -/
def stayingOn (s : State) (sh : Nat) : List Nat := (placedOn s sh).filter (fun j => !moving s j)

/-- Moves instances off a shuttle to free budget, largest first: one for a slack warning, or until its load is within its budget. -/
def offload (sh : Nat) (one : Bool) (s : State) : State :=
  let is := largestFirst s ((placedOn s sh).filter (fun i => mayMove s i))
  (is.foldl (fun (a : State × Bool) i =>
    if a.2 || (!one && decide (loadSum a.1 (stayingOn a.1 sh) + guestWork a.1 sh ≤ budget a.1 sh)) then a
    else match destFor a.1 i [sh] none with
      | some d => (planMove a.1 i 4 d, one)
      | none => a) ((s, false) : State × Bool)).1

/-- What a derated shuttle can shed to no free budget goes beyond budgets (R119): each instance to the shuttle that would keep the most slack,
which may be its own. -/
def spill (sh : Nat) (s : State) : State :=
  let above := fun (s : State) => decide (budget s sh < loadSum s (stayingOn s sh) + guestWork s sh)
  if !above s then s
  else (largestFirst s ((stayingOn s sh).filter (movable s))).foldl (fun s i =>
    if !above s then s
    else match overDest s i [sh] with
      | some d => if strain s i d < strain s i sh then planMove s i 4 d else s
      | none => s) (overcommit s)

/-- Whether pick slack is at or above the warning threshold (R38). -/
def slackFine (s : State) : Bool := decide (s.rdN Obj.SLACK_WARN_PERMILLE * s.pickNs ≤ s.rdN Obj.PICK_SLACK_LAST * 1000)

/-- Derated shuttles whose load exceeds their budget lose work, outside quiet periods with fine slack (R101, R104, R119). -/
def rebalanceDerated (s : State) : State :=
  let s := { s with fabric := { s.fabric with derated := s.fabric.derated.filter (fun sh => decide (budget s sh < loadOn s sh)) } }
  if s.clock.now < s.fabric.quietUntil && slackFine s then s
  else s.each (s.fabric.derated.filter (fun sh => decide (0 < budget s sh))) (fun s sh => spill sh (offload sh false s))

/-- One pick's measured lane speed of a loaded shuttle in Mop/s (R104): the filter, and a derate below 0.970. The filter starts at the rating,
which is the model's choice (log entry 229). -/
def measureSpeed (s : State) (e : Nat × Nat) : State :=
  let sh := e.1
  if loadOn s sh = 0 then s else
  let x : Int := (e.2 * 65536 * 1000 / max 1 (s.rdN Obj.CORNER_FACTOR) : Nat)
  let old := mapGetD s.fabric.filtered sh ((s.rdN (Obj.SHUTTLE_RATING + sh) * 65536 : Nat) : Int)
  let f := old + roundDiv (x - old) 4096
  let s := { s with fabric := { s.fabric with filtered := mapSet s.fabric.filtered sh f } }
  let rating := s.rdN (Obj.SHUTTLE_RATING + sh)
  if f * 1000 < (rating * 65536 * 970 : Nat) then
    let s := (s.wr (Obj.SHUTTLE_RATING + sh) (f / 65536)).raise Ev.SHUTTLE_DERATED sh
    let s := showBudgets { s with fabric := { s.fabric with derated := (s.fabric.derated ++ [sh]).eraseDups } }
    if f / 65536 < 360 then withdrawShuttles s [sh] else s
  else s

/-- SLACK_WARN (R40): 64 picks in a row below the warning threshold raise it, or repeat it, and take work off the slowest
shuttle. -/
def execSlackWarn (t : Nat) (s : State) : Result :=
  let s := s.at_ t
  .next (s.whenever (decide (64 ≤ s.fabric.warnBelow)) (fun s =>
    let s := { s with fabric := { s.fabric with warnBelow := 0 } }
    let s := s.rise Ev.SLACK_WARN 0 0
    if s.fabric.slowest < 54 then offload s.fabric.slowest true s else s))

/-- SLACK_WARN_CLEAR (R40). -/
def execSlackWarnClear (t : Nat) (s : State) : Result :=
  let s := s.at_ t
  .next (s.whenever (decide (64 ≤ s.fabric.warnAbove)) (fun s => s.fall Ev.SLACK_WARN 0))

/-- SLACK_ALARM_CLEAR (R40); the next alarm may raise VCORE_AT_MAX again (R402). -/
def execSlackAlarmClear (t : Nat) (s : State) : Result :=
  let s := s.at_ t
  .next (s.whenever (decide (64 ≤ s.fabric.alarmAbove)) (fun s =>
    { s with governor := { s.governor with atMaxRaised := false } }.fall Ev.SLACK_ALARM 0))

/-! ## Mending (R120, R409 to R415) -/

/-- Time of the latest self-test of a harness in ns. -/
def mendLast (s : State) (h : Nat) : Nat := time80Ns (s.rdN (Obj.MEND_LAST + h))

/-- Harnesses in service in the order of their drains: those that a failed comparison put first, then the oldest test. -/
def mendOrder (s : State) : List Nat :=
  let hs := (List.range 9).filter (fun h => s.harnessState h == 0)
  s.fabric.mendFirst.filter (fun h => hs.contains h) ++
    sortBy (fun h => mendLast s h * 16 + h) (hs.filter (fun h => !s.fabric.mendFirst.contains h))

/-- Whether a harness can be drained (R120): a reserve takes it, or each of its instances finds free budget and storage on the other harnesses in
service. -/
def drainable (s : State) (h : Nat) : Bool :=
  (reserveOf s).isSome ||
  (let here := shuttlesOf s h
   let site : Site := ⟨s.run, s.pl, s.graph.plan.phase, (List.range 54).map (fun sh => if here.contains sh then 0 else budget s sh), [],
     s.fabric.noRetry⟩
   let p := guestPacking s
   let others : Packing := (p.1, (List.range 54).map (fun sh => addWork (p.2.getD sh []) (workSum s.run s.pl s.graph.plan.phase (boundFor s sh))))
   let is := largestFirst s (here.flatMap (placedOn s))
   (packSearch site is others).isSome && is.all (fun i => !(targets s i here).isEmpty))

/-- Chooses the next harness to mend (R120): those before it that cannot be drained are skipped, and leave is asked for the whole drain. -/
def chooseDrain (s : State) (order : List Nat) : State :=
  let skipped := order.takeWhile (fun h => !drainable s h)
  let s := s.each skipped (fun s h => s.raise Ev.MEND_SKIPPED h)
  match (order.drop skipped.length).head? with
  | some h =>
    { s with fabric := { s.fabric with mending := some h, mendFirst := s.fabric.mendFirst.filter (fun x => x != h) } }.askLeave 6 120 h
  | none => s

/-- MEND_DRAIN_START (R101, R120, R409): every MEND_INTERVAL_S / 9 a harness is chosen. -/
def execMendDrainStart (t : Nat) (s : State) : Result :=
  let s := s.at_ t
  let step := s.rdN Obj.MEND_INTERVAL_S * 1000000000 / 9
  .next (s.whenever (s.on Obj.MEND_ENABLE && s.ran s.fabric.mendAt step && s.fabric.mending.isNone &&
      decide (s.fabric.quietUntil ≤ s.clock.now) && s.inService) (fun s =>
    chooseDrain { s with fabric := { s.fabric with mendAt := s.fabric.mendAt + (s.clock.now - s.fabric.mendAt) / max 1 step * step } } (mendOrder s)))

/-- A granted mending drain begins: harness x enters state 2 and the reserve state 0 (R120). When x can no longer be drained it is skipped and the
next in order is tried. In a quiet period the drain does not start and its request is withdrawn (R101). -/
def mendGranted (s : State) : State :=
  match s.fabric.mending with
  | some x =>
    if s.harnessState x = 0 ∧ s.clock.now < s.fabric.quietUntil then s.release 6 x
    else if s.harnessState x = 0 ∧ s.granted 6 x then
      if !drainable s x then
        let order := mendOrder s
        let s := (s.release 6 x).raise Ev.MEND_SKIPPED x
        chooseDrain { s with fabric := { s.fabric with mending := none } } (order.filter (fun h => h != x))
      else
        let home := reserveOf s
        let s := setHarness s x 2
        let s := match home with | some h => setHarness s h 0 | none => s
        planDrains (rehouseGuests (showBudgets (s.wr Obj.RESERVE_HARNESS (x : Nat)))) x home
    else s
  | none => s

/-- Whether nothing runs on a harness or moves off it. -/
def empty (s : State) (h : Nat) : Bool :=
  (shuttlesOf s h).all (fun sh => (placedOn s sh).isEmpty && !s.fabric.moves.any (fun m => m.src == sh))

/-- MEND_SELF_TEST (R118, R120, R410): a drained harness enters state 3 and its self-test starts; a withdrawn one that is not
retired is tested in state 4. -/
def execMendSelfTest (t : Nat) (h : Fin 9) (s : State) : Result :=
  let s := s.at_ t
  let st := s.harnessState h.val
  .next (s.whenever ((st == 2 || (st == 4 && !bit (s.rdN Obj.RETIRED_HARNESSES) h.val)) && empty s h.val && s.granted 6 h.val) (fun s =>
    let ratings := (shuttlesOf s h.val).map (fun sh => (sh, s.rdN (Obj.SHUTTLE_RATING + sh)))
    let s := { s with fabric := { s.fabric with mending := some h.val, oldRatings := ratings } }
    if st = 2 then setHarness s h.val 3 else s))

/-- F_VT in 0.001 (R413): the fused factor, which is 1.000 at 0.68 V and +105 degC and 1.469 at 0.75 V and +60 degC. -/
def vtFactor (mv : Nat) (tj : Int) : Nat :=
  if mv = 680 ∧ tj = 10500 then 1000 else if mv = 750 ∧ tj = 6000 then 1469 else Config.speedFactor mv tj

/-- D_now = 1 - S_vt / S0 as a quotient, S_vt being the measured speed over F_VT (R413); a faster shuttle has not slowed. -/
def slowing (s : State) (sh speed : Nat) : Nat × Nat :=
  let d := s.rdN (Obj.AGING_S0 + sh) * vtFactor s.governor.vout (s.rd Obj.TJ_NOW)
  (d - speed * 1000, max 1 d)

/-- (te_eol / AGING_STRESS_H)^0.20 with 64 bits behind the point: the quotient is 350,640 h over AGING_SERVICE_H (R413). -/
def agingRoot (s : State) : Int := fixExp (fixLog 350640 (max 1 (s.rdN Obj.AGING_SERVICE_H)) / 5)

/-- D_eol times 1,000 and the divisor of D_now, with 64 bits behind the point (R413): the allowance, or the projection from 1,000 equivalent
hours on. -/
def projected (s : State) (d : Nat × Nat) : Int :=
  let allow : Int := (s.rdN Obj.AGING_ALLOW_PERMILLE * d.2 : Nat) * fixOne
  if s.rdN Obj.AGING_STRESS_H < 1000 then allow else max allow ((d.1 * 1000 : Nat) * agingRoot s)

/-- The rating that a self-test sets (R414): min(720, floor(S_vt (1 - D_eol) / (1 - D_now))). S_vt / (1 - D_now) is S0. -/
def newRating (s : State) (sh : Nat) (d : Nat × Nat) : Nat :=
  let unit : Int := (1000 * d.2 : Nat) * fixOne
  min 720 ((s.rdN (Obj.AGING_S0 + sh) : Nat) * (unit - projected s d) / unit).toNat

/-- One shuttle's result from its measured speed (R413, R414). -/
def rateShuttle (s : State) (e : Nat × Nat) : State :=
  let d := slowing s e.1 e.2
  let eol := projected s d
  let s := s.wr (Obj.SHUTTLE_RATING + e.1) (newRating s e.1 d : Nat)
  let s := { s with fabric := { s.fabric with slowed := setAt s.fabric.slowed e.1 d } }
  (s.wr (Obj.AGING_NOW_PERMILLE + e.1) (neighbour ((d.1 * 1000 : Nat) : Int) d.2 [(d.1 : Nat), (d.2 : Nat)])).wr
    (Obj.AGING_EOL_PERMILLE + e.1) (neighbour eol (d.2 * 2 ^ 64) [(d.1 : Nat), (d.2 : Nat), eol])

/-- Whether a shuttle passes (R410). -/
def passes (s : State) (ok : Bool) (sh : Nat) : Bool := ok && decide (360 ≤ s.rdN (Obj.SHUTTLE_RATING + sh))

/-- Whether D_eol of a shuttle exceeds the allowance (R415). -/
def ahead (s : State) (sh : Nat) : Bool :=
  let d := s.fabric.slowed.getD sh (0, 1)
  decide (((s.rdN Obj.AGING_ALLOW_PERMILLE * d.2 : Nat) : Int) * fixOne < projected s d)

/-- AGING_LIFE_Y of a shuttle ahead of its allowance, in 0.1 years of 8,766 h (R415): the service time times (allowance / D_now)^5. -/
def lifeOf (s : State) (d : Nat × Nat) : Int :=
  let n := s.rdN Obj.AGING_SERVICE_H * 10 * (s.rdN Obj.AGING_ALLOW_PERMILLE * d.2) ^ 5
  neighbour (n : Nat) (8766 * (1000 * d.1) ^ 5) [(n : Nat), (d.1 : Nat)]

/-- The shuttle that has slowed most. -/
def worstSlowing (s : State) : Nat × Nat :=
  s.fabric.slowed.foldl (fun a d => if a.1 * d.2 < d.1 * a.2 then d else a) (0, 1)

/-- AGING_AHEAD and AGING_LIFE_Y (R415). -/
def agingAhead (s : State) (shs : List Nat) : State :=
  let s := s.each (shs.filter (ahead s)) (fun s sh => s.raise Ev.AGING_AHEAD (arg2 sh (s.rdN (Obj.AGING_EOL_PERMILLE + sh))))
  s.wr Obj.AGING_LIFE_Y (if (List.range 54).any (ahead s) then lifeOf s (worstSlowing s) else 400)

/-- MEND_SELF_TEST_DONE (R118, R410): new ratings; the harness becomes the reserve, or stays withdrawn and is retired. -/
def execMendSelfTestDone (t : Nat) (h : Fin 9) (r : SelfTest) (s : State) : Result :=
  let s := s.at_ t
  let hv := h.val
  .next (s.whenever (s.fabric.mending == some hv && !s.fabric.oldRatings.isEmpty) (fun s =>
    let shs := shuttlesOf s hv
    let s := s.each (shs.zip r.speeds) rateShuttle
    let good := (shs.zip r.pass).filter (fun (p : Nat × Bool) => passes s p.2 p.1)
    let filtered := s.fabric.filtered.filter (fun (e : Nat × Int) => !shs.contains e.1)
    let s := { s with fabric := { s.fabric with mending := none, oldRatings := [], filtered := filtered } }.release 6 hv
    let s := s.wr (Obj.MEND_LAST + hv) (time80 s.engineNs : Nat)
    let s := agingAhead s shs
    let s := if good.length = shs.length then
        let s := ((setHarness s hv 1).wr (Obj.MEND_RESULT + hv) 1).wr Obj.RESERVE_HARNESS (hv : Nat)
        s.raise Ev.MEND_PASSED hv
      else
        let bad := ((shs.zip r.pass).find? (fun (p : Nat × Bool) => !passes s p.2 p.1)).elim 0 (fun p => p.1)
        let s := (setHarness s hv 4).wr (Obj.MEND_RESULT + hv) 2
        let s := s.wr Obj.RETIRED_HARNESSES (setBit (s.rdN Obj.RETIRED_HARNESSES) hv true : Nat)
        let s := s.each shs (fun s sh => s.wr (Obj.SHUTTLE_RATING + sh) 0)
        let s := if s.rdN Obj.RESERVE_HARNESS = hv then s.wr Obj.RESERVE_HARNESS 0xFF else s
        s.raise Ev.MEND_FAILED (arg2 hv bad)
    showReserve (showBudgets s)))

/-- A self-test that TJ_HIGH stops (R411). -/
def mendTooHot (s : State) : State :=
  match s.fabric.mending with
  | some h =>
    if s.fabric.oldRatings.isEmpty then s
    else showReserve (showBudgets ((stopTest s h 1).wr Obj.RESERVE_HARNESS (h : Nat)))
  | none => s

/-- PLACE_QUIET as written (R101): a quiet period of v seconds; 0 ends it. -/
def quietWritten (s : State) (v : Nat) : State :=
  { s with fabric := { s.fabric with quietUntil := if v = 0 then 0 else s.clock.now + v * 1000000000 } }

/-- The seconds left of the quiet period. -/
def showQuiet (s : State) : State := s.wr Obj.PLACE_QUIET ((s.fabric.quietUntil - s.clock.now + 999999999) / 1000000000 : Nat)

/-- PLACE_QUIET_END (R101). -/
def execPlaceQuietEnd (t : Nat) (s : State) : Result :=
  let s := s.at_ t
  .next (s.whenever (decide (s.fabric.quietUntil ≠ 0) && decide (s.fabric.quietUntil ≤ s.clock.now)) (fun s =>
    showQuiet { s with fabric := { s.fabric with quietUntil := 0 } }))

/-- OVERCOMMITTED clears at the batten at which R99 holds again (R119). -/
def clearOvercommitted (s : State) : State :=
  if s.stands Ev.OVERCOMMITTED 0 && decide (planLoad s ≤ capacity s) &&
      (List.range 54).all (fun sh => decide (loadOn s sh ≤ budget s sh)) then s.fall Ev.OVERCOMMITTED 0
  else s

/-! ## Overflow (R125 to R127) -/

/-- OVERFLOW_EVICT (R127): an eviction move, first to free budget here, then to another partner. -/
def execOverflowEvict (t i : Nat) (s : State) : Result :=
  let s := s.at_ t
  let place := mapGetD s.graph.plan.place i 0xFFFF
  .next (s.whenever (isPartner place && !s.fabric.evictions.any (fun e => e.1 == i)) (fun s =>
    let s := { s with fabric := { s.fabric with evictions := s.fabric.evictions ++ [(i, s.clock.pick + 2048, false)] } }
    match freeBudget s i place with
    | some d => planMove s i 5 d
    | none => s))

/-- OVERFLOW_EVICT_FAILED (R127): no placement was free, or the move has not switched 64 picks before the 2,048 end; raised once. -/
def execOverflowEvictFailed (t i : Nat) (s : State) : Result :=
  let s := s.at_ t
  match s.fabric.evictions.find? (fun e => e.1 == i && !e.2.2) with
  | some e =>
    .next (s.whenever (decide (e.2.1 ≤ s.clock.pick + 64) || !moving s i) (fun s =>
      { s with fabric := { s.fabric with evictions := change s.fabric.evictions (fun x => x.1 == i) (fun x => (x.1, x.2.1, true)) } }.raise
        Ev.OVERFLOW_EVICT_FAILED i))
  | none => .next s

/-- An overflowed instance is lost (R125): raised, and re-placed by a fault move, here or on another partner. -/
def overflowLost (s : State) (i : Nat) : State :=
  let place := mapGetD s.graph.plan.place i 0xFFFF
  if !isPartner place || s.fabric.moves.any (fun m => m.inst == i && m.kind == 1) then s
  else startFault (s.raise Ev.OVERFLOW_LOST i) i [] none

/-- Evictions whose 2,048 picks have ended leave the instance lost (R127). -/
def endEvictions (s : State) : State :=
  s.each (s.fabric.evictions.filter (fun e => decide (e.2.1 ≤ s.clock.pick))) (fun s e =>
    overflowLost { s with fabric := { s.fabric with evictions := s.fabric.evictions.filter (fun x => x != e) } } e.1)

/-- Guests as objects show them (R126). -/
def showGuests (s : State) : State :=
  (s.wr Obj.OVERFLOW_GUESTS (s.fabric.guests.length : Nat)).wr Obj.OVERFLOW_GUEST_LOAD ((s.fabric.guests.map (fun g => g.load)).sum : Nat)

/-- Guest load that this engine offers to run (R126). -/
def guestRoom (s : State) : Nat :=
  capacity s * s.rdN Obj.OVERFLOW_GUEST_PERMILLE / 1000 - (s.fabric.guests.map (fun g => g.load)).sum

/-- A partner's overflow instance arrives with its state (R126): it becomes a guest when the offered share and a shuttle's budget have room, and a
commit does not wait for guests to leave. -/
def takeGuest (s : State) (port i load : Nat) : State :=
  if s.fabric.guests.any (fun g => g.port == port && g.inst == i) || s.fabric.commitWaits || decide (guestRoom s < load) || !s.inService then s
  else
    let fits := (List.range 54).filter (fun sh => decide (0 < budget s sh) && decide (loadOn s sh + load ≤ budget s sh))
    match (sortBy (fun sh => 2 ^ 40 - (budget s sh - loadOn s sh)) fits).head? with
    | some sh => showGuests (showPlanLoad { s with fabric := { s.fabric with guests := s.fabric.guests ++ [⟨i, port, load, sh, 0⟩] } })
    | none => s

/-- Overflow state of an instance arrives in a block (R126, R127): that of an own instance whose eviction move copies it, or of a partner's
guest. The spec does not state the payload: what instance and load it names is free (log entry 61). -/
def overflowState (s : State) (port payload : Nat) : State :=
  let x := Config.overflowState payload
  match s.fabric.moves.find? (fun m => m.inst == x.1 && m.kind == 5 && m.phase == 2 && m.src == 0x100 + port) with
  | some m => setMove s m { m with blocks := m.blocks + 1 }
  | none => takeGuest s port x.1 x.2

/-- BULK_BLOCK (R127, R268): a part of a Hapol message is joined; overflow state passes to its instance; a reserved kind discards the block. Twin
state comes with the commands of the join, which hold what its blocks carried (R303). -/
def execBulkBlock (t : Nat) (port : Fin 6) (block : BitVec 1024) (s : State) : Result :=
  let s := s.at_ t
  let p := port.val
  .next (s.whenever (s.trained p) (fun s =>
    if !isBlock 0x02 block then badBlock s p
    else match blockBits block 1013 1006 with
      | 0 => joinPart s p (blockBits block 1005 974) (bulkPayload block)
      | 2 => overflowState s p (blockBits block 967 32)
      | _ => s))

/-- GUEST_EVICT_END (R126): the 2,048 picks after the notice end; the partner's guests stop and the waiting commit proceeds. -/
def execGuestEvictEnd (t : Nat) (p : Fin 6) (s : State) : Result :=
  let s := s.at_ t
  let above := fun (g : Guest) => g.port == p.val && decide (g.ends ≠ 0) && decide (g.ends ≤ s.clock.pick)
  .next (s.whenever (s.fabric.guests.any above) (fun s =>
    let guests := s.fabric.guests.filter (fun g => !above g)
    let s := { s with fabric := { s.fabric with guests := guests, commitWaits := s.fabric.commitWaits && guests.any (fun g => decide (g.ends ≠ 0)) } }
    showGuests (showPlanLoad s)))

/-- What the moves do at batten n, in step 4 of R18 and after it (R110): A's storage of the moves that switched a batten ago is freed, moves that
passed switch, faults and drains are planned again, a prepared plan plans what it still needs, and moves advance. -/
def movesBatten (lost : List Nat) (s : State) : State :=
  let n := s.clock.pick
  let s := if s.fabric.moves.any (fun m => m.phase == 5) then takeOut s (fun m => m.phase == 5) else s
  let s := s.each (inOrder (s.fabric.moves.filter (fun m => m.phase == 7))) switchMove
  let s := s.each lost overflowLost
  let s := endEvictions s
  let s := retryFaults s
  let s := rebalanceDerated s
  let s := mendGranted s
  let s := s.each ((List.range 9).filter (fun h => s.harnessState h == 2 || s.harnessState h == 4)) (fun s h =>
    let s := planDrains s h none
    if s.harnessState h = 4 && !bit (s.rdN Obj.RETIRED_HARNESSES) h && !(s.granted 6 h || s.asking 6 h) then s.askLeave 6 120 h else s)
  let s := match s.fabric.mending with
    | some h =>
      if s.granted 6 h || s.asking 6 h || s.harnessState h == 0 && decide (s.clock.now < s.fabric.quietUntil) then s
      else s.askLeave 6 120 h
    | none => s
  let s := planCommit s
  let s := s.each (inOrder (s.fabric.moves.filter (fun m => m.phase == 0 || m.phase == 1 || m.phase == 3))) (advanceMove n)
  clearOvercommitted s

end Machine
end Sys2Proof
end

