-- ==== Sys2Proof/Machine/Sense.lean ====
section
/-! DEFINITION. What the engine decodes from the sense bitstreams of Treadle (R318, R322, R323): the sinc filters of the measuring path and the
fast path, and synchronous detection (R331, R333). Bitstreams are numbers whose least significant bit is the newest. -/

namespace Sys2Proof
namespace Machine

/-- Triangular numbers, 0 below 0. -/
def triangle (x : Int) : Int := if x < 0 then 0 else (x + 1) * (x + 2) / 2

/-- Weight of a bit in a value of the measuring path: the impulse response of a third-order sinc filter that decimates by 128 (R322). -/
def slowWeight (b : Nat) : Int := triangle b - 3 * triangle ((b : Int) - 128) + 3 * triangle ((b : Int) - 256)

/-- Weight of a bit in a value of the fast path: a second-order sinc filter that decimates by 16 (R322). -/
def fastWeight (b : Nat) : Int := min (b + 1 : Nat) (31 - b : Nat)

/-- The weighted count of ones of the newest n bits. -/
def onesOf (weight : Nat → Int) (n bits : Nat) : Int := ((List.range n).map (fun b => if bits.testBit b then weight b else 0)).sum

/-- Bits that one value of the measuring path spans. -/
def slowSpan : Nat := 382

/-- d = 2p - 1 of the measuring path in 2^-21 (R322). -/
def slowValue (bits : Nat) : Int := 2 * onesOf slowWeight slowSpan bits - 2 ^ 21

/-- d = 2p - 1 of the fast path in 2^-8 (R322). -/
def fastValue (bits : Nat) : Int := 2 * onesOf fastWeight 31 bits - 2 ^ 8

/-- The 16 values of the measuring path of one pick, oldest first: `held` are the 254 bits before the pick, `bits` the 2,048 of the pick. -/
def slowValues (held bits : Nat) : List Int :=
  (List.range 16).map (fun j => slowValue ((held * 2 ^ 2048 + bits) / 2 ^ (128 * (15 - j)) % 2 ^ slowSpan))

/-- The 254 newest bits of a pick, which the next values span too. -/
def heldBits (bits : Nat) : Nat := bits % 2 ^ 254

/-- Whether n bits hold 64 consecutive bits without a change of level (R323). -/
def isStuck (n bits : Nat) : Bool :=
  (List.range (n - 63)).any (fun o => let w := bits / 2 ^ o % 2 ^ 64; w == 0 || w == 2 ^ 64 - 1)

/-- No value yet. -/
def noSync : Sync := ⟨0, 0, 0, 0, 0⟩

/-- Adds a voltage and a current value at tick k of a rate to the detection of a frequency (R331, R333). -/
def syncAdd (f rate k : Nat) (v i : Int) (a : Sync) : Sync :=
  let sine := fixSine (f * k % rate) rate / 2 ^ 40
  let cosine := fixSine ((4 * (f * k % rate) + rate) % (4 * rate)) (4 * rate) / 2 ^ 40
  ⟨a.vs + v * sine, a.vc + v * cosine, a.is + i * sine, a.ic + i * cosine, a.count + 1⟩

/-- Twice the magnitude of a pair of sums: the amplitude times the number of values, in 2^-45. -/
def amplitude (a b : Int) : Nat := 2 * sqrtNat (a * a + b * b).toNat

end Machine
end Sys2Proof
end

