-- ==== Sys2Proof/Machine/Treadle.lean ====
section
/-! DEFINITION. Treadle loudspeaker drive (chapter 13): relay sequences (R324 to R326), sense and rail faults (R323, R327),
the sag limiter (R328), the thermal model (R329 to R331), load tests (R332, R333), shorts (R334 to R336) and what a channel
makes of each sample (R316, R321). -/

namespace Sys2Proof
namespace Machine

/-! ## Singular outputs (R305, R311) -/

/-- Whether the engine holds the authority: always with TWIN_ENABLE at 0, else while it holds the lease (R305). -/
def State.authority (s : State) : Bool := !s.on Obj.TWIN_ENABLE || decide (s.rd Obj.LEASE_ROLE ≠ 0)
/-- Whether it drives the singular outputs: from the first batten after its take (R311). -/
def State.drives (s : State) : Bool := s.authority && (!s.on Obj.TWIN_ENABLE || decide (s.twin.drivesFrom ≤ s.clock.pick))
/-- A level of a singular output: driven while the engine holds the authority (R305). -/
def State.singular (s : State) (name : String) (n : Nat) (v : Bool) : State :=
  if s.drives then s.emit (.pin name n (if v then 1 else 0)) else s

/-! ## Channels -/

/-- A channel at rest, before its first start. -/
def noChannel : Channel := Channel.reset
/-- A channel beyond its objects. -/
def State.td (s : State) (n : Nat) : Channel := s.treadle.channels.getD n noChannel
/-- Sets a channel. -/
def State.setTd (s : State) (n : Nat) (f : Channel → Channel) : State :=
  { s with treadle := { s.treadle with channels := setAt s.treadle.channels n (f (s.td n)) } }
/-- TD_STATE. -/
def State.tdState (s : State) (n : Nat) : Nat := s.rdN (ix Obj.TD_STATE n)
/-- Sets TD_STATE. -/
def State.setTdState (s : State) (n v : Nat) : State := s.wr (ix Obj.TD_STATE n) v
/-- Holds both PWM outputs low: the zero state of a stopped modulator (R319). -/
def State.pwmLow (s : State) (n : Nat) : State := (s.emit (.pin "TD_PWMA" n 0)).emit (.pin "TD_PWMB" n 0)
/-- Drives TDn_EN, with which the modulator runs and stops (R319, R324, R325). -/
def State.tdEn (s : State) (n : Nat) (v : Bool) : State :=
  let s := (s.setTd n (fun c => { c with en := v })).singular "TD_EN" n v
  if v then s else s.pwmLow n
/-- Drives RLYn. -/
def State.tdRelay (s : State) (n : Nat) (v : Bool) : State := (s.setTd n (fun c => { c with relay := v })).singular "RLY" n v
/-- Enters a step now. -/
def State.tdStep (s : State) (n step : Nat) : State := s.setTd n (fun c => { c with step := step, since := s.clock.now })
/-- Whether a channel has been in a step for a time in ns. -/
def State.tdDue (s : State) (n step ns : Nat) : Bool := (s.td n).step == step && s.ran (s.td n).since ns

/-- The sequence gain of a channel at a release position (R324, R325, R333, R335). -/
def seqGain (s : State) (c : Channel) (k : Nat) : Int :=
  let p := k - c.sample
  if c.step = 13 then
    let r := s.msSamples 20
    let back := s.msSamples 230
    if p < r then c.from_ + roundDiv (-c.from_ * p) r
    else if p < back then 0
    else if p < back + r then roundDiv (c.to_ * (p - back : Nat)) r
    else c.to_
  else if c.len ≤ p then c.to_
  else if c.db then coefOfGain (roundDiv (-20000 * (c.len - p : Nat)) c.len)
  else c.from_ + roundDiv ((c.to_ - c.from_) * p) c.len

/-- Starts a ramp of the sequence gain now from its present value (R324 to R326). -/
def State.rampSeq (s : State) (n : Nat) (to_ : Int) (len : Nat) (db : Bool) : State :=
  let now := seqGain s (s.td n) s.sampleNow
  s.setTd n (fun c => { c with from_ := now, to_ := to_, sample := s.sampleNow, len := len, db := db })

/-- The target of the sequence gain: 0 dB, or -20 dB after a failure (R335). -/
def seqTarget (c : Channel) : Int := if c.retry then coefOfGain (-20000) else unity

/-- A gain in 0.001 dB. -/
def gainDb (g : Int) : Int := if g = unity then 0 else if g = coefOfGain (-20000) then -20000 else gainReading g

/-- The channel's rail (R327). -/
def railOf (s : State) (n : Nat) : Nat := s.rdN (ix Obj.TD_RAIL_SEL n)
/-- Whether a channel's rail is faulty. -/
def railBad (s : State) (n : Nat) : Bool := s.treadle.badRails.contains (railOf s n)

/-- Ends an AC test with a result of 5 (R333). -/
def abortAc (s : State) (n : Nat) : State := if (s.td n).step = 13 then s.wr (ix Obj.AC_RESULT n) 5 else s

/-- Step 0 of R324, with or without the load test; a channel of a faulty rail enters state 8 instead (R326, R327). -/
def startChannel (s : State) (n : Nat) (test retry : Bool) : State :=
  if railBad s n then (s.tdStep n 0).setTdState n 8
  else
    let s := (s.tdEn n true).setTdState n 1
    let k := s.sampleNow
    (s.setTd n (fun c =>
      { c with from_ := 0, to_ := 0, sample := k, len := 0, db := false, first := false, testing := test, retry := retry })).tdStep n 1

/-- The modulator stops and TDn_EN falls; the channel rests in a state. -/
def restChannel (s : State) (n st : Nat) : State := ((s.tdEn n false).tdStep n 0).setTdState n st

/-- A stop request (R325, R326): at once before the relay closes, else from a 20 ms ramp; a running stop goes on, and
a failed load test keeps the state that follows it. -/
def stopChannel (s : State) (n after : Nat) : State :=
  match (s.td n).step with
  | 1 => restChannel s n after
  | 7 | 8 | 9 => s.setTd n (fun c => { c with after := if c.after = 0 then after else c.after })
  | 2 | 3 | 4 | 5 | 6 | 13 =>
    let s := (abortAc s n).rampSeq n 0 (s.msSamples 20) false
    let keep := (s.td n).step = 4 && (s.td n).after ≠ 0
    ((s.setTd n (fun c => { c with after := if keep then c.after else after })).tdStep n 7).setTdState n 4
  | _ => s

/-- Whether channels may start: in service, and no stop for Doff or a start request under way (R338, R434). -/
def tdRuns (s : State) : Bool := s.inService && decide (s.power.doff = 0) && s.power.leaving.isNone

/-! ## The sequences (R324 to R326) -/

/-- TD_START (R324): TD_ENABLE at 1 starts a channel in state 0. -/
def execTdStart (t : Nat) (ch : Fin 32) (s : State) : Result :=
  let s := s.at_ t
  .next (s.whenever (tdRuns s && s.tdState ch == 0 && (s.td ch).step == 0 && s.on (ix Obj.TD_ENABLE ch)) (fun s =>
    startChannel s ch (s.td ch).first false))

/-- TD_RELAY_CLOSE (R324): 50 ms after the start RLYn rises. -/
def execTdRelayClose (t : Nat) (ch : Fin 32) (s : State) : Result :=
  let s := s.at_ t
  .next (s.whenever (s.tdDue ch 1 50000000) (fun s => (s.tdRelay ch true).tdStep ch 2))

/-- The fade-in of step 6 of R324: the gain ramps linearly to its target over 20 ms. -/
def fadeInChannel (s : State) (n : Nat) : State :=
  ((s.rampSeq n (seqTarget (s.td n)) (s.msSamples 20) false).tdStep n 5).setTdState n 3

/-- TD_CONTACTS_SETTLED (R324): after TD_RELAY_SETTLE_MS the test ramps up, or the fade-in starts. -/
def execTdContactsSettled (t : Nat) (ch : Fin 32) (s : State) : Result :=
  let s := s.at_ t
  .next (s.whenever (s.tdDue ch 2 (s.rdN (ix Obj.TD_RELAY_SETTLE_MS ch) * 1000000)) (fun s =>
    if (s.td ch).testing then (s.tdStep ch 3).setTdState ch 2 else fadeInChannel s ch))

/-- A failure (R335): it is counted, and the third latches the channel. Answers the state that follows. -/
def failChannel (s : State) (n : Nat) : State × Nat :=
  let s := (s.bump (ix Obj.TD_OC_FAILS n)).setTd n (fun c => { c with failedAt := s.clock.now })
  if s.rdN (ix Obj.TD_OC_FAILS n) < 3 then (s, 5) else (s.raise Ev.TD_LATCHED n, 6)

/-! ## Sense values (R318, R322) -/

/-- The frequency of TD_SDCLK (R318). -/
def sdclkHz (s : State) : Nat := 256 * (if s.rdN Obj.ENGINE_RATE_RUNNING % 2 = 0 then 44100 else 48000)

/-- TD_SDCLK as TD_SDCLK_DIR has it (R318): driven from SP0, or an input. -/
def driveSdclk (s : State) : State :=
  if s.on Obj.TD_SDCLK_DIR then s.emit (.pin "TD_SDCLK" 0 (-1)) else s.emit (.clock "TD_SDCLK" (sdclkHz s))

/-- Values of the measuring path in a second (R322). -/
def senseRate (s : State) : Nat := sdclkHz s / 128

/-- A resistance in mOhm of a voltage and a current in equal parts of d: v TD_VSENSE_FS_MV over i TD_ISENSE_FS_MA (R322); 0xFFFF_FFFF when
the current lies below 1 mA, of which `one` is the value at d = 1 (R332). -/
def ohms (s : State) (n : Nat) (v i one : Nat) : Nat :=
  let v := v * s.rdN (ix Obj.TD_VSENSE_FS_MV n) * 1000
  let i := i * s.rdN (ix Obj.TD_ISENSE_FS_MA n)
  if i < one then 4294967295 else min 4294967294 (roundNat v i)

/-- TD_DC_TEST_MEASURE (R332): R = v / i at the end of the hold, from the measuring path, is classified. -/
def execTdDcTestMeasure (t : Nat) (ch : Fin 32) (volts amps : BitVec 382) (s : State) : Result :=
  let s := s.at_ t
  .next (s.whenever (s.tdDue ch 3 15000000) (fun s =>
    let r := ohms s ch (slowValue volts.toNat).natAbs (slowValue amps.toNat).natAbs (2 ^ 21)
    let low := decide (r < s.rdN (ix Obj.TD_DC_OHM_MIN ch))
    let high := decide (s.rdN (ix Obj.TD_DC_OHM_MAX ch) < r)
    let cap := decide (s.rd (ix Obj.TD_LOAD_KIND ch) = 1)
    let result : Nat := if low then 2 else if cap then (if high then 1 else 4) else if high then 3 else 1
    let s := ((s.wr (ix Obj.TD_DC_OHM ch) (r : Nat)).wr (ix Obj.TD_LOAD_RESULT ch) (result : Nat)).tdStep ch 4
    match result with
    | 2 =>
      let r := failChannel s ch
      r.1.setTd ch (fun c => { c with after := r.2 })
    | 3 => (s.raise Ev.TD_LOAD_OPEN ch).setTd ch (fun c => { c with after := 0 })
    | 4 => (s.raise Ev.TD_LOAD_DC_PATH ch).setTd ch (fun c => { c with after := 6 })
    | _ => s.setTd ch (fun c => { c with after := 0 })))

/-- TD_TEST_RAMP_DOWN_DONE (R324, R332): the fade-in starts, or a channel that may not run drops its relay. -/
def execTdTestRampDownDone (t : Nat) (ch : Fin 32) (s : State) : Result :=
  let s := s.at_ t
  .next (s.whenever (s.tdDue ch 4 5000000) (fun s =>
    if (s.td ch).after = 0 then fadeInChannel s ch else (s.tdRelay ch false).tdStep ch 9))

/-- TD_SEQUENCE_GAIN_DONE (R324): the 20 ms ramp ends and the channel runs. -/
def execTdSequenceGainDone (t : Nat) (ch : Fin 32) (s : State) : Result :=
  let s := s.at_ t
  .next (s.whenever (s.tdDue ch 5 20000000) (fun s =>
    (s.tdStep ch 6).setTd ch (fun c => { c with cleanSince := s.clock.now })))

/-- TD_STOP (R325, R326): TD_ENABLE at 0, Doff or a start request stops a channel. -/
def execTdStop (t : Nat) (ch : Fin 32) (s : State) : Result :=
  let s := s.at_ t
  .next (s.whenever (!tdRuns s || !s.on (ix Obj.TD_ENABLE ch)) (fun s => stopChannel s ch 0))

/-- TD_GAIN_RAMP_DOWN_DONE (R325): at 20 ms the modulator runs at m = 0. -/
def execTdGainRampDownDone (t : Nat) (ch : Fin 32) (s : State) : Result :=
  let s := s.at_ t
  .next (s.whenever (s.tdDue ch 7 20000000) (fun s => s.tdStep ch 8))

/-- TD_RELAY_OPEN (R325): at 30 ms RLYn falls. -/
def execTdRelayOpen (t : Nat) (ch : Fin 32) (s : State) : Result :=
  let s := s.at_ t
  .next (s.whenever (s.tdDue ch 8 10000000) (fun s => (s.tdRelay ch false).tdStep ch 9))

/-- TD_RELAY_RELEASED (R325, R327): the modulator stops, TDn_EN falls and the channel rests. -/
def execTdRelayReleased (t : Nat) (ch : Fin 32) (s : State) : Result :=
  let s := s.at_ t
  .next (s.whenever (s.tdDue ch 9 (s.rdN (ix Obj.TD_RELAY_RELEASE_MS ch) * 1000000)) (fun s =>
    let after := (s.td ch).after
    restChannel s ch (if after = 8 && !railBad s ch then 0 else after)))

/-! ## Shorts (R334 to R336) -/

/-- TD_OVERCURRENT (R322, R334, R335): a value of the fast path beyond TD_OC_MA drops TDn_EN and the PWM outputs, and the failure counts. -/
def execTdOvercurrent (t : Nat) (ch : Fin 32) (bits : BitVec 31) (s : State) : Result :=
  let s := s.at_ t
  let above := decide (s.rdN (ix Obj.TD_OC_MA ch) * 2 ^ 8 < (fastValue bits.toNat).natAbs * s.rdN (ix Obj.TD_ISENSE_FS_MA ch))
  let s := if (s.td ch).step = 10 ∧ above then s.setTd ch (fun c => { c with highAt := s.clock.now }) else s
  .next (s.whenever ((s.td ch).en && above) (fun s =>
    let s := s.setTd ch (fun c => { c with highAt := s.clock.now })
    let r := failChannel ((abortAc s ch).tdEn ch false) ch
    (r.1.tdStep ch 10).setTdState ch r.2))

/-- RLYn drops after an overcurrent: TD_SHORT is raised and counted (R334). -/
def dropAfterShort (s : State) (n : Nat) : State :=
  (((s.tdRelay n false).tdStep n 0).bump (ix Obj.TD_SHORT_COUNT n)).raise Ev.TD_SHORT n

/-- TD_SHORT (R334): the current has stayed below 500 mA for 1 ms, so RLYn drops. -/
def execTdShort (t : Nat) (ch : Fin 32) (s : State) : Result :=
  let s := s.at_ t
  .next (s.whenever ((s.td ch).step == 10 && s.ran (s.td ch).highAt 1000000) (fun s => dropAfterShort s ch))

/-- TD_RELAY_HOT (R334): after 20 ms without low current RLYn drops anyway. -/
def execTdRelayHot (t : Nat) (ch : Fin 32) (s : State) : Result :=
  let s := s.at_ t
  .next (s.whenever (s.tdDue ch 10 20000000) (fun s => (dropAfterShort s ch).raise Ev.TD_RELAY_HOT ch))

/-- TD_RETRY (R335): 500 ms after a failure the channel starts again with the DC test toward -20 dB. -/
def execTdRetry (t : Nat) (ch : Fin 32) (s : State) : Result :=
  let s := s.at_ t
  .next (s.whenever (s.tdState ch == 5 && (s.td ch).step == 0 && s.ran (s.td ch).failedAt 500000000) (fun s =>
    if tdRuns s && s.on (ix Obj.TD_ENABLE ch) then startChannel s ch true true else s.setTdState ch 0))

/-- TD_GAIN_RECOVER (R335): after 2 s at -20 dB the gain ramps linearly in decibels to 0 dB over 1 s. -/
def execTdGainRecover (t : Nat) (ch : Fin 32) (s : State) : Result :=
  let s := s.at_ t
  .next (s.whenever ((s.td ch).retry && s.tdDue ch 6 2000000000) (fun s =>
    (s.rampSeq ch unity (s.msSamples 1000) true).setTd ch (fun c =>
      { c with retry := false, cleanSince := s.clock.now + 1000000000 })))

/-- TD_OC_FAILS_RESET (R335): after TD_OC_CLEAR_S at 0 dB without a failure TD_OC_FAILS returns to 0. -/
def execTdOcFailsReset (t : Nat) (ch : Fin 32) (s : State) : Result :=
  let s := s.at_ t
  .next (s.whenever (!(s.td ch).retry && (s.td ch).step == 6 &&
      s.ran (s.td ch).cleanSince (s.rdN Obj.TD_OC_CLEAR_S * 1000000000)) (fun s => s.wr (ix Obj.TD_OC_FAILS ch) 0))

/-- A write of 1 to TD_CLEAR in state 6 (R336). -/
def clearChannel (s : State) (n : Nat) : State :=
  ((s.wr (ix Obj.TD_OC_FAILS n) 0).setTdState n 0).setTd n (fun c => { c with first := true })

/-! ## Sense and rail faults (R323, R327) -/

/-- TD_SENSE_FAULT (R323): 64 consecutive bits of a bitstream of a running channel hold one level, so the stage stops. -/
def execTdSenseFault (t : Nat) (ch : Fin 32) (bits : BitVec 64) (s : State) : Result :=
  let s := s.at_ t
  let s := if s.tdState ch = 7 ∧ isStuck 64 bits.toNat then s.setTd ch (fun c => { c with invalidAt := s.clock.now }) else s
  .next (s.whenever ((s.td ch).en && isStuck 64 bits.toNat) (fun s =>
    let s := s.setTd ch (fun c => { c with invalidAt := s.clock.now })
    ((((abortAc s ch).tdEn ch false).tdStep ch 12).setTdState ch 7).raise Ev.TD_SENSE_FAULT ch))

/-- TD_SENSE_RELAY_DROP (R323): RLYn drops 10 ms later. -/
def execTdSenseRelayDrop (t : Nat) (ch : Fin 32) (s : State) : Result :=
  let s := s.at_ t
  .next (s.whenever (s.tdDue ch 12 10000000) (fun s => (s.tdRelay ch false).setTd ch (fun c => { c with step := 0 })))

/-- TD_SENSE_RECOVER (R323): after 1 s of a valid bitstream the channel starts again without a test. -/
def execTdSenseRecover (t : Nat) (ch : Fin 32) (s : State) : Result :=
  let s := s.at_ t
  .next (s.whenever (s.tdState ch == 7 && (s.td ch).step == 0 && s.ran (s.td ch).invalidAt 1000000000) (fun s =>
    if tdRuns s && s.on (ix Obj.TD_ENABLE ch) then startChannel s ch false false else s.setTdState ch 0))

/-- Channels of a rail. -/
def railChannels (s : State) (rail : Nat) : List Nat := (List.range 32).filter (fun n => railOf s n == rail)

/-- Supervision of a rail. -/
def State.rail (s : State) (n : Nat) : Rail := s.treadle.rails.getD n ⟨false, 0, false⟩

/-- The voltage of a rail as its latest bits give it (R322), and on which side of its limits it lies (R327). -/
def senseRail (s : State) (e : Nat × BitVec 382) : State :=
  let v := roundNat ((slowValue e.2.toNat).toNat * s.rdN (ix Obj.RAIL_SENSE_FS_MV e.1)) (2 ^ 21)
  let outside := decide (v < s.rdN (ix Obj.RAIL_UV_MV e.1)) || decide (s.rdN (ix Obj.RAIL_OV_MV e.1) < v)
  let was := s.rail e.1
  let invalid := isStuck slowSpan e.2.toNat
  let since := if outside = was.outside ∧ invalid = was.invalid then was.since else s.clock.now
  { s with treadle := { s.treadle with rails := setAt s.treadle.rails e.1 ⟨outside, since, invalid⟩ } }.wr (ix Obj.RAIL_V e.1) (v : Nat)

/-- TD_RAIL_FAULT (R323, R327): a rail outside its limits for 1 ms, or with an invalid bitstream, stops every channel on it. -/
def execTdRailFault (t : Nat) (rail : Fin 4) (s : State) : Result :=
  let s := s.at_ t
  let faulty := (s.rail rail.val).invalid || ((s.rail rail.val).outside && s.ran (s.rail rail.val).since 1000000)
  .next (s.whenever (!s.treadle.badRails.contains rail.val && faulty) (fun s =>
    let s := { s with treadle := { s.treadle with badRails := s.treadle.badRails ++ [rail.val] } }.raise Ev.TD_RAIL_FAULT rail
    s.each (railChannels s rail) (fun s n => stopChannel s n 8)))

/-- TD_RAIL_RECOVER (R327): after 500 ms inside the limits its channels restart or rest. -/
def execTdRailRecover (t : Nat) (rail : Fin 4) (s : State) : Result :=
  let s := s.at_ t
  let sound := !(s.rail rail.val).invalid && !(s.rail rail.val).outside && s.ran (s.rail rail.val).since 500000000
  .next (s.whenever (s.treadle.badRails.contains rail.val && sound) (fun s =>
    let s := { s with treadle := { s.treadle with badRails := s.treadle.badRails.filter (fun r => r != rail.val) } }
    s.each ((railChannels s rail).filter (fun n => s.tdState n == 8)) (fun s n =>
      if tdRuns s && s.on (ix Obj.TD_ENABLE n) then startChannel s n (s.td n).first false else s.setTdState n 0)))

/-! ## Voice-coil thermal model (R329 to R331) -/

/-- 0.01 degC in the unit of the model's nodes. -/
def centi : Int := 10000000000

/-- Ts of R330 in the model's unit. -/
def attenStart (s : State) (n : Nat) : Int := (s.rd (ix Obj.TH_COIL_LIMIT n) - s.rd (ix Obj.TH_ATTEN_MARGIN n)) * centi

/-- A level source with 5 K of hysteresis below its threshold (R330). -/
def thermalLevel (s : State) (src n : Nat) (above below : Bool) : State :=
  if above then s.rise src n n else if below then s.fall src n else s

/-- Shows the nodes and judges the thresholds (R330). -/
def showThermal (s : State) (n : Nat) : State :=
  let c := s.td n
  let ts := attenStart s n
  let lim := s.rd (ix Obj.TH_COIL_LIMIT n) * centi
  let on := s.on (ix Obj.TH_ENABLE n)
  let s := (s.wr (ix Obj.TH_COIL_T n) (roundDiv c.coil centi.toNat)).wr (ix Obj.TH_MAGNET_T n) (roundDiv c.magnet centi.toNat)
  let s := thermalLevel s Ev.TD_THERMAL_WARN n (on && decide (ts < c.coil)) (!on || decide (c.coil ≤ ts - 500 * centi))
  thermalLevel s Ev.TD_THERMAL_LIMIT n (on && decide (lim ≤ c.coil)) (!on || decide (c.coil ≤ lim - 500 * centi))

/-- Target reduction in 10^-6 dB (R330). -/
def thermalTarget (s : State) (n : Nat) (coil : Int) : Int :=
  let ts := attenStart s n
  let m := s.rd (ix Obj.TH_ATTEN_MARGIN n) * centi
  let most := s.rd (ix Obj.TH_MAX_GR n) * 1000
  if !s.on (ix Obj.TH_ENABLE n) || decide (coil ≤ ts) then 0
  else if ts + m ≤ coil then most
  else roundDiv (most * (coil - ts)) m.toNat

/-- The two nodes after one pick at P in mW (R329). -/
def thermalStep (s : State) (n : Nat) (p coil magnet : Int) : Int × Int :=
  let flow (d : Int) (r : Nat) : Int := roundDiv (d * 1000) (s.rdN (ix r n))
  let pump (x : Int) (c : Nat) : Int := roundDiv (x * (s.pl * 1000 : Nat)) (s.fs * s.rdN (ix c n))
  let coil' := coil + pump (p * 1000000000 - flow (coil - magnet) Obj.TH_RTC) Obj.TH_CTC
  let amb := s.rd (ix Obj.TH_AMBIENT n) * centi
  (coil', magnet + pump (flow (coil' - magnet) Obj.TH_RTC - flow (magnet - amb) Obj.TH_RTM) Obj.TH_CTM)

/-- P in mW (R329): the mean of i v over a pick of the measuring path, a negative mean as 0. -/
def meanPower (s : State) (n : Nat) (vs is : List Int) : Int :=
  let sum := ((vs.zip is).map (fun (p : Int × Int) => p.1 * p.2)).sum
  let full := s.rdN (ix Obj.TD_VSENSE_FS_MV n) * s.rdN (ix Obj.TD_ISENSE_FS_MA n)
  max 0 (roundDiv (sum * full) (2 ^ 42 * 16 * 1000))

/-- One batten of a channel's thermal model at P (R329, R330). -/
def thermalBatten (s : State) (n : Nat) (p : Int) : State :=
  let c := s.td n
  let on := s.on (ix Obj.TH_ENABLE n)
  let x := if on then thermalStep s n p c.coil c.magnet else (c.coil, c.magnet)
  let tgt := thermalTarget s n x.1
  let g := approach c.thermal tgt (if tgt < c.thermal then 100 else 2000) s.pl s.fs
  let s := if on then s.wr (ix Obj.TH_POWER n) p else s
  let s := s.setTd n (fun c => { c with coil := x.1, magnet := x.2, thermal := g })
  showThermal (s.wr (ix Obj.TH_GR n) (roundDiv g 1000)) n

/-- TH_ENABLE has become 1, or the engine has started: both nodes take TH_AMBIENT (R329). -/
def thermalStarts (s : State) (n : Nat) : State :=
  let amb := s.rd (ix Obj.TH_AMBIENT n) * centi
  showThermal (s.setTd n (fun c => { c with coil := amb, magnet := amb })) n

/-- TH_PILOT_MEASURE (R331): each second Re from the 5 Hz amplitudes corrects the coil node. -/
def execThPilotMeasure (t : Nat) (ch : Fin 32) (s : State) : Result :=
  let s := s.at_ t
  let a := (s.td ch).pilot
  .next (s.whenever (s.on (ix Obj.TH_PILOT ch) && decide (senseRate s ≤ a.count)) (fun s =>
    let v := amplitude a.vs a.vc
    let i := amplitude a.is a.ic
    let s := s.setTd ch (fun c => { c with pilot := noSync })
    if i * s.rdN (ix Obj.TD_ISENSE_FS_MA ch) < 10 * a.count * 2 ^ 45 then s
    else
      let re := v * s.rdN (ix Obj.TD_VSENSE_FS_MV ch) * 1000
      let ref := i * s.rdN (ix Obj.TD_ISENSE_FS_MA ch) * s.rdN (ix Obj.TH_RE_REF ch)
      let meas := s.rd (ix Obj.TH_T_REF ch) * centi + roundDiv (((re : Nat) - (ref : Nat) : Int) * 100000000000000000) (ref * 393)
      let s := s.wr (ix Obj.TH_RE_MEAS ch) (ohms s ch v i 1 : Nat)
      showThermal (s.setTd ch (fun c => { c with coil := c.coil + roundDiv (meas - c.coil) 10 })) ch))

/-! ## What a channel makes of a sample (R316, R321, R328) -/

/-- The carrier frequency in Hz (R320). -/
def carrierHz (s : State) (n : Nat) : Nat :=
  (if s.rdN Obj.ENGINE_RATE_RUNNING % 2 = 0 then 352800 else 384000) * (if s.rd (ix Obj.TD_PWM_RATE n) = 1 then 2 else 1)

/-- m_max in 10^-9 (R321). -/
def mMax (s : State) (n : Nat) : Nat := 1000000000 - 2 * s.rdN (ix Obj.TD_MIN_PULSE_NS n) * carrierHz s n

/-- Used points of the sag table: rail in mV and level in 0.001 dB (R328). -/
def sagPoints (s : State) (n : Nat) : List (Nat × Int) :=
  (List.range 8).filterMap (fun j =>
    let w := s.rdN (ix Obj.TD_SAG_POINT n + j)
    if bits w 31 16 = 0 then none else some (bits w 31 16 * 100, signed 16 (bits w 15 0) * 10))

/-- C in 0.001 dB between used points (R328). -/
def sagBetween (v : Nat) : List (Nat × Int) → Int
  | [] => 0
  | [p] => p.2
  | p :: q :: r =>
    if v ≤ p.1 then p.2
    else if v < q.1 then p.2 + roundDiv ((q.2 - p.2) * (v - p.1 : Nat)) (q.1 - p.1)
    else sagBetween v (q :: r)

/-- C of R328 as a fraction of full scale in S8.27. -/
def sagCeiling (s : State) (n : Nat) : Int :=
  let v := s.rdN (ix Obj.RAIL_V (railOf s n))
  match sagPoints s n with
  | [] => min fullScale (roundDiv (fullScale * (mMax s n * v : Nat)) (1000000000 * s.rdN (ix Obj.TD_VOLTS_FS n)))
  | ps => ceilingOf (sagBetween v ps)

/-- The sag gain for one sample: 1 ms toward a lower target, 500 ms toward a higher one (R328). -/
def sagGain (s : State) (n : Nat) (g x : Int) : Int :=
  let c := sagCeiling s n
  let tgt := if (x.natAbs : Int) ≤ c then unity else roundDiv (c * unity) x.natAbs
  approach g tgt (if tgt < g then 1 else 500) 1 s.fs

/-- The DC test signal at a release position, from the instant at which its ramp began (R324, R332). -/
def dcTest (s : State) (n : Nat) (c : Channel) (k : Nat) : Int :=
  let full := roundDiv (fullScale * s.rd Obj.TD_DC_TEST_MV) (s.rdN (ix Obj.TD_VOLTS_FS n))
  let e := min 5000000 ((s.sampleNs k : Int) - s.engineOf c.since).toNat
  if c.step = 3 then roundDiv (full * e) 5000000 else roundDiv (full * (5000000 - e : Nat)) 5000000

/-- The AC test tone at a release position: seven tones of 30 ms with 5 ms ramps (R333). -/
def acTest (s : State) (c : Channel) (k : Nat) : Int :=
  let p := k - c.sample - s.msSamples 20
  let len := s.msSamples 30
  let q := p % len
  let edge := s.msSamples 5
  if k < c.sample + s.msSamples 20 ∨ 7 * len ≤ p then 0
  else
    let x := scale (tone (16000 + 1000 * (p / len)) p s.fs) (coefOfGain (-30000))
    let w := min q (min edge (len - q))
    if edge = 0 then x else roundDiv (x * w) edge

/-- Step 4: audio with its pilot, or the test signal that replaces it (R316, R331 to R333). -/
def stepFour (s : State) (n : Nat) (c : Channel) (k : Nat) (x : Int) : Int :=
  let g := seqGain s c k
  let audio := scale x g
  let audio := if s.on (ix Obj.TH_PILOT n) then
    sat36 (audio + scale (scale (tone 5 k s.fs) (coefOfGain (-50000))) g) else audio
  match c.step with
  | 3 => dcTest s n c k
  | 4 => dcTest s n c k
  | 5 => audio
  | 6 => audio
  | 7 => audio
  | 13 => sat36 (audio + acTest s c k)
  | _ => 0

/-- One sample of a channel at a release position: steps 1 to 6 of R316. Answers the modulation index m in S8.27. -/
def tdSample (n : Nat) (k : Nat) (s : State) (x : Int) : State × Int :=
  let c := s.td n
  let x1 := scale x (coefOfGain (roundDiv c.thermal 1000))
  let g := sagGain s n c.sag x1
  let y := stepFour s n c k (scale x1 g)
  let s := s.setTd n (fun c => { c with sag := g })
  if !c.en then (s, 0)
  else
    let v := s.rdN (ix Obj.RAIL_V (railOf s n))
    let most := roundDiv (fullScale * mMax s n) 1000000000
    let above := decide (fullScale * (mMax s n * v : Nat) < ((y.natAbs * s.rdN (ix Obj.TD_VOLTS_FS n) * 1000000000 : Nat) : Int))
    if above then (s.bump (ix Obj.TD_CLIP_COUNT n), if y < 0 then -most else most)
    else (s, roundDiv (y * s.rd (ix Obj.TD_VOLTS_FS n)) v)

/-- The samples of a channel from a release position on (R316). -/
def tdSamples (n : Nat) : Nat → List Int → State → State × List Int
  | _, [], s => (s, [])
  | k, x :: r, s =>
    let a := tdSample n k s x
    let b := tdSamples n (k + 1) r a.1
    (b.1, a.2 :: b.2)

/-- The duties of TDn_PWMA and TDn_PWMB in 2^-28 for a modulation index in S8.27 (R319): (1 + m) / 2 and (1 - m) / 2. -/
def duties (m : Int) : Int × Int := (2 ^ 27 + m, 2 ^ 27 - m)

/-- What a channel drives in a pick (R319): the duties of its samples, or nothing while its modulator is stopped and both outputs stay low. -/
def drivePwm (s : State) (n pick : Nat) (ms : List Int) : State := if (s.td n).en then s.emit (.pwm n pick (ms.map duties)) else s

/-- Ticks of the measuring path since the beginning of the AC test's tones, at value j of the pick that ends at the batten (R333). -/
def toneTick (s : State) (c : Channel) (j : Nat) : Int :=
  (16 * (s.clock.pick - 1) + j : Nat) - ((c.sample * 16 / s.pl + senseRate s / 50 : Nat) : Int)

/-- Adds the values of a pick to the detections of a channel: the pilot's while it runs (R331), and in the AC test that of the tone whose last 20
ms they lie in (R333). -/
def detect (s : State) (n : Nat) (vs is : List Int) : State :=
  let c := s.td n
  let rate := senseRate s
  let xs := (List.range 16).zip (vs.zip is)
  if c.step = 6 ∧ s.on (ix Obj.TH_PILOT n) then
    s.setTd n (fun c => { c with pilot := xs.foldl (fun a (x : Nat × Int × Int) =>
      syncAdd 5 rate (16 * (s.clock.pick - 1) + x.1) x.2.1 x.2.2 a) c.pilot })
  else if c.step = 13 then
    let tones := xs.foldl (fun (ts : List Sync) (x : Nat × Int × Int) =>
      let k := toneTick s c x.1
      let len := rate * 3 / 100
      let m := k.toNat / len
      if k < 0 ∨ 7 ≤ m ∨ k.toNat % len < rate / 100 then ts
      else setAt ts m (syncAdd (16000 + 1000 * m) rate k.toNat x.2.1 x.2.2 (ts.getD m noSync))) c.tones
    s.setTd n (fun c => { c with tones := tones })
  else if c.pilot.count = 0 then s
  else s.setTd n (fun c => { c with pilot := noSync })

/-- Whether a value of the current in 2^-21 of d reaches 500 mA (R334). -/
def highCurrent (s : State) (n : Nat) (i : Int) : Bool := decide (500 * 2 ^ 21 ≤ i.natAbs * s.rdN (ix Obj.TD_ISENSE_FS_MA n))

/-- What the sense bits of a pick tell of a stopped channel: an invalid bitstream after a sense fault, and a current of 500 mA or more after an
overcurrent, `i` being its values (R323, R334). -/
def senseStopped (s : State) (b : SenseBits) (i : List Int) : State :=
  let c := s.td b.ch
  let stuck := fun (held bits : Nat) => isStuck 2302 (held * 2 ^ 2048 + bits)
  if s.tdState b.ch = 7 && (stuck c.heldV b.voltage.toNat || stuck c.heldI b.current.toNat) then
    s.setTd b.ch (fun c => { c with invalidAt := s.clock.now })
  else if c.step = 10 && i.any (highCurrent s b.ch) then s.setTd b.ch (fun c => { c with highAt := s.clock.now })
  else s

/-- The sense bits of a pick of one channel (R322): its values go to the detections; answers the mean power. -/
def senseChannel (s : State) (b : SenseBits) : State × Int :=
  let c := s.td b.ch
  let vs := slowValues c.heldV b.voltage.toNat
  let is := slowValues c.heldI b.current.toNat
  let p := meanPower s b.ch vs is
  ((senseStopped (detect s b.ch vs is) b is).setTd b.ch (fun c => { c with heldI := heldBits b.current.toNat, heldV := heldBits b.voltage.toNat }), p)

/-- What Treadle does at a batten besides the samples of its destinations: rail voltages, detections, the thermal models, TD_SAG_GR and
TD_SEQ_GAIN (R322, R327 to R330). A running channel that no output feeds modulates silence, its pilot and its tests (R316). -/
def treadleBatten (fed : List Nat) (sense : List SenseBits) (rails : List (Nat × BitVec 382)) (s : State) : State :=
  let s := s.each (rails.filter (fun r => decide (r.1 < 4))) senseRail
  s.each (List.range 32) (fun s n =>
    let r := match sense.find? (fun b => b.ch == n) with
      | some b => senseChannel s b
      | none => (s, 0)
    let s := thermalBatten r.1 n r.2
    let s := if (s.td n).en && !fed.contains n then
        let m := tdSamples n (s.clock.pick * s.pl) (List.replicate s.pl 0) s
        drivePwm m.1 n s.clock.pick m.2
      else s
    let c := s.td n
    (s.wr (ix Obj.TD_SAG_GR n) (gainDb c.sag)).wr (ix Obj.TD_SEQ_GAIN n) (gainDb (seqGain s c s.sampleNow)))

/-! ## Load diagnostics (R333) -/

/-- An accepted write of 1 to AC_RUN (R333). -/
def startAc (s : State) (n : Nat) : State :=
  let g := seqGain s (s.td n) s.sampleNow
  let s := s.setTd n (fun c =>
    { c with from_ := g, to_ := seqTarget c, sample := s.sampleNow, len := 0, db := false, tones := List.replicate 7 noSync })
  (s.tdStep n 13).setTdState n 9

/-- AC_RESULT of seven magnitudes in mOhm (R333). -/
def acResult (s : State) (n : Nat) (z : List Nat) : Nat :=
  if z.any (fun v => decide (v < s.rdN (ix Obj.AC_Z_MIN n))) then 2
  else if z.any (fun v => decide (s.rdN (ix Obj.AC_Z_MAX n) < v)) then 3 else 1

/-- The seven magnitudes of the AC test in mOhm (R333). -/
def acMagnitudes (s : State) (n : Nat) : List Nat :=
  (s.td n).tones.map (fun a => ohms s n (amplitude a.vs a.vc) (amplitude a.is a.ic) (max 1 a.count * 2 ^ 45))

/-- AC_TEST_DONE (R333): after 250 ms the result stands and the gain is back. -/
def execAcTestDone (t : Nat) (ch : Fin 32) (s : State) : Result :=
  let s := s.at_ t
  .next (s.whenever (s.tdDue ch 13 250000000) (fun s =>
    let z := acMagnitudes s ch
    let s := (s.wrV (ix Obj.AC_Z ch) (.bytes (z.flatMap (beBytes 4)))).wr (ix Obj.AC_RESULT ch) (acResult s ch z : Nat)
    ((s.setTd ch (fun c => { c with from_ := c.to_, sample := s.sampleNow, len := 0, cleanSince := s.clock.now })).tdStep ch 6).setTdState
      ch 3))

/-- Diagnostic mode has been left: a running test ends with result 5 and the audio ramps back (R333). -/
def leaveDiag (s : State) (n : Nat) : State := if (s.td n).step = 13 then fadeInChannel (abortAc s n) n else s

/-- A write of TD_PWM_RATE restarts a running channel under R325 then R324. -/
def pwmWritten (s : State) (n : Nat) : State := stopChannel s n 0

/-- A batten at which TD_ENABLE has been applied: the channel stops or starts (R324 to R326). -/
def enableApplied (s : State) (n : Nat) : State :=
  if !s.on (ix Obj.TD_ENABLE n) then stopChannel s n 0 else s

/-- Every channel rests (R338, R440). -/
def channelsRest (s : State) : Bool := (List.range 32).all (fun n => (s.td n).step == 0)

end Machine
end Sys2Proof
end

