-- ==== Sys2Proof/Machine/Selvedge.lean ====
section
/-! DEFINITION. The selvedge path (R128 to R133): one sample of every output, the lockstep's faults, hold and re-seed. -/

namespace Sys2Proof
namespace Machine

/-- Stored results of KIND 0x5 selvedge destinations by release position, reed samples of such streams by release pick, and the
samples computed since the latest batten per output (R298). -/
def selvCell (dest : Nat) : Nat := 2 ^ 33 + dest
def reedCell (dest : Nat) : Nat := 2 ^ 34 + dest
def selvTrace (o : Nat) : Nat := 2 ^ 35 + o

/-- A selvedge output's lockstep state. -/
def State.selv (s : State) (o : Nat) : Selv := (s.graph.selvs.find? (fun v => v.output == o)).getD ⟨o, unity, 0, 0, 0, unity⟩
/-- Sets it. -/
def State.setSelv (s : State) (v : Selv) : State :=
  { s with graph := { s.graph with selvs := s.graph.selvs.filter (fun (x : Selv) => x.output != v.output) ++ [v] } }

/-- Destination of output o in the running plan; 0 unused. -/
def selvDest (s : State) (o : Nat) : Nat := (s.runN (ix Obj.SELV_DEST o)).toNat
/-- Outputs in use. -/
def selvOutputs (s : State) : List Nat := (List.range 64).filter (fun o => selvDest s o != 0)

/-- A Swiska source outside a warp group at input sample k, whose pick has not closed yet (R131): the sample of its cut, or, where that is
missing, the latest one received, held for a sample and then faded out (R220, log entry 232). -/
def selvCut (s : State) (src k : Nat) : Int :=
  let m := idUnit src
  let ch := idChannel src
  let x := s.cutsOf m
  let pos := fun (c : Cut) => cutPosition s m c.seq
  let had := x.kept.filter (fun c => decide (c.chan ≤ ch) && decide (ch < c.chan + c.samples.length) && decide (pos c ≤ k))
  let gain := mapGetD x.gains (ch / 24) 32
  match (sortBy pos had).getLast? with
  | some c => conceal (if pos c = k then gain else gain - (k - pos c - 1)) (cutFade s m k (c.samples.getD (ch - c.chan) 0))
  | none => conceal gain (cutFade s m k (s.lastOf src))

/-- A selvedge source at input sample k (R128, R131). -/
def selvSource (s : State) (src k : Nat) : Int :=
  if idKind src = 5 ∧ (memberOf s 5 (idUnit src)).isNone ∧ (s.wordAt src k).isNone then selvCut s src k else (s.sourceAt src k).1

/-- Steps 1 to 4 of R129 for output o and input sample k: the weighted sum, the gain, and one store. -/
def selvSum (s : State) (o k : Nat) : Int :=
  let acc := (List.range 8).foldl (fun (a : Int) j =>
    let src := (s.runN (ix (Obj.SELV_SOURCE + j) o)).toNat
    if src = 0 then a
    else
      let g := ix (Obj.SELV_SRC_GAIN + j) o
      Machine.mac a (selvSource s src k) (s.ramped g k (coefOfGain (s.numAt s.run g k)))) 0
  (storeScaled acc (s.ramped (ix Obj.SELV_GAIN o) k (selvTarget s s.run o k))).1

/-- Step 5 of R129: the fast limiter with gain g. Answers the result, the gain and whether it acted. -/
def selvLimit (s : State) (o k : Nat) (g : Int) : Int × Int × Bool :=
  let x := selvSum s o k
  limit (ceilingOf (s.numAt s.run (ix Obj.SELV_TEMPLE_CEILING o) k)) g x x
    (s.numAt s.run (ix Obj.SELV_LIMIT_RELEASE_MS o) k).toNat s.fs

/-- Limiter gain after a replay of n input samples from sample k on (R133). -/
def replay (s : State) (o : Nat) : Nat → Nat → Int → Int
  | 0, _, g => g
  | n + 1, k, g => replay s o n (k + 1) (selvLimit s o k g).2.1

/-- The ramp of an output's gain as its twin has it at batten b (R133, R301): a running one goes on from the twin's position; where only the
twin runs one, the gain moves from the twin's value over what is left. -/
def loadRamp (s : State) (o b pos : Nat) (value : Int) : State :=
  let g := ix Obj.SELV_GAIN o
  let k := b * s.pl
  let own := (s.graph.ramps.filter (fun r => r.key == g && decide (r.sample ≤ k) && decide (k < r.sample + r.len))).getLast?
  let rest := s.graph.ramps.filter (fun r => r.key != g)
  match own with
  | some r =>
    let moved := (s.graph.ramps.filter (fun x => x.key == g && decide (r.sample ≤ x.sample))).map (fun x =>
      { x with sample := x.sample + k - pos - r.sample })
    { s with graph := { s.graph with ramps := if pos = 0 then rest else rest ++ moved } }
  | none =>
    let s' := { s with graph := { s.graph with ramps := rest } }
    if pos = 0 then s' else s'.startRamp g k (s.msSamples (s.runN (ix Obj.SELV_RAMP_MS o)).toNat - pos) value (selvTarget s s.run o k)

/-- The gains of an output as the dictionary has them, every ramp at its end (R133). -/
def endRamps (s : State) (o : Nat) : State :=
  { s with graph := { s.graph with ramps := s.graph.ramps.filter (fun r =>
      !(decide (ix Obj.SELV_SRC_GAIN o ≤ r.key) && decide (r.key ≤ ix Obj.SELV_GAIN o))) } }

/-- The re-seed of R133 at sample k: limiter gain and ramps of the paired twin's state at the batten before, replayed since; else the
settings of the dictionary with the lower gain. -/
def reseed (s : State) (o k : Nat) (v : Selv) : State × Int :=
  let b := k / s.pl
  let rec? := s.twin.selv.find? (fun r => r.1 == o && r.2.1 == b)
  match rec?, decide (s.rd Obj.TWIN_STATE = 4) with
  | some r, true =>
    let s := loadRamp s o b r.2.2.2.1 (r.2.2.2.2.1 * 16)
    (s, replay s o (k - b * s.pl) (b * s.pl) (r.2.2.1 * 16))
  | _, _ => (endRamps s o, v.low)

/-- What leaves for one output at input sample k: the live result, a hold, or the crossfade out of it (R132, R133). -/
def selvOut (s : State) (o k : Nat) (f : Option SelvCopy) : State × Int :=
  let v := s.selv o
  let both := match f with | some c => c.parityX && c.parityY | none => false
  let one := match f with | some c => (c.parityX || c.parityY) && !both | none => false
  let bad := match f with | some c => both || (!one && c.differ) | none => false
  let s := if one then ((s.bump Obj.SELV_PARITY_EVENTS).bump (ix Obj.SELV_FAULT_COUNT o)).raise Ev.SELVEDGE_PARITY o else s
  let s := if bad && !both then (s.bump Obj.SELV_MISMATCH_EVENTS).raise Ev.SELVEDGE_MISMATCH o else s
  let s := if bad then s.bump (ix Obj.SELV_FAULT_COUNT o) else s
  let s := if one || bad then s.flag 4 else s
  if bad then
    let low := match f with | some c => min v.gain (max 0 c.low) | none => v.gain
    (s.setSelv { v with phase := 1, pos := (k / s.pl + 1) * s.pl + 2, low := low }, v.lastGood)
  else if v.phase = 1 ∧ k < v.pos then (s, v.lastGood)
  else
    let seed := if v.phase = 1 then reseed s o k v else (s, v.gain)
    let s := seed.1
    let r := selvLimit s o k seed.2
    let s := if r.2.2 then s.bump (ix Obj.SELV_LIMIT_COUNT o) else s
    if v.phase = 0 then (s.setSelv { v with gain := r.2.1, lastGood := r.1 }, r.1)
    else if v.pos + 32 ≤ k then (s.setSelv { v with gain := r.2.1, lastGood := r.1, phase := 0 }, r.1)
    else
      let y := v.lastGood + roundDiv ((r.1 - v.lastGood) * (k - v.pos : Nat)) 32
      (s.setSelv { v with gain := r.2.1, phase := 2 }, y)

/-- Whether selvedge outputs and reeds are silent until a catch-up completes (R304). -/
def State.muted (s : State) : Bool := s.twin.silent

/-- A port output's sample through what acts on all of them: mute and fade-in of a catch-up or a start (R304, R434), and the
fade-out of Doff (R440). -/
def portGain (s : State) (p : Nat) (v : Int) : Int :=
  if s.muted then 0
  else
    let v := fadeIn s.twin.fadeAt (fade10 s) p v
    let d := s.power.doffFade
    if d = 0 ∨ p < d then v else if d + fade10 s ≤ p then 0 else roundDiv (v * (d + fade10 s - p : Nat)) (fade10 s)

/-- A transmitted TDM slot: muted or fading with its port, or fading in as a new slot (R198). -/
def tdmGain (s : State) (u slot p : Nat) (v : Int) : Int :=
  let x := s.port u
  let v := if s.portState u = 3 then v else if s.portState u = 5 then fadeIn x.fadeAt (fade20 s) p v else 0
  fadeIn (mapGetD x.returns (256 + slot) 0) (fade20 s) p v

/-- Whether the slots of a TDM port are sent: those of a slave stop with its clock, and what falls due before it qualifies again is
discarded (R208). -/
def tdmSends (s : State) (u : Nat) : Bool := tdmMaster s u || s.portState u == 3 || s.portState u == 5

/-- Word length of a port output, 0 while it is off. -/
def outWord (s : State) (dest : Nat) : Nat :=
  let u := idUnit dest
  match idKind dest with
  | 1 => if portOn s u && tdmSends s u && bit (s.rdN (portKey u 8)) (idChannel dest) then s.rdN (portKey u 5) else 0
  | 2 => if s.rdN (ix Obj.AES_OUT_SPINDLE u) = 0xFF then 0 else s.rdN (ix Obj.AES_OUT_WORD u)
  | 3 => if s.rdN (ix Obj.MADI_OUT_MODE u) = 0 then 0 else 24
  | _ => 0

/-- One output: compute, then the port word, the Treadle channel or the cut cell of its destination (R129). -/
def selvSample (faults : List SelvCopy) (k : Nat) (s : State) (o : Nat) : State :=
  let r := selvOut s o k (faults.find? (fun c => c.output == o))
  let dest := selvDest s o
  let pos := k + 3
  let s := r.1.putBlock (blockOf (selvTrace o) k [r.2] false)
  let y := if s.muted then 0 else r.2
  match idKind dest with
  | 5 => s.putBlock (blockOf (selvCell dest) pos [y] s.twin.diverged)
  | 8 =>
    let m := tdSample (idUnit dest) pos s r.2
    drivePwm m.1 (idUnit dest) (pos / s.pl) [m.2]
  | kind =>
    let w := outWord s dest
    let d := if bit (s.runN (ix Obj.SELV_OPTIONS o)).toNat 0 && w != 32 then dither dest (pos / s.pl) (pos % s.pl) w else 0
    let y := if kind = 1 then tdmGain s (idUnit dest) (idChannel dest) pos r.2 else r.2
    if w = 0 then s else s.emit (.selvedge o (leave w (portGain s pos y + d)))

/-- Transmit streams with a selvedge destination: their cuts leave sample by sample. -/
def selvStreams (s : State) : List Nat :=
  (((selvOutputs s).map (selvDest s)).filter (fun d => idKind d == 5)).map idUnit |>.eraseDups

/-- Value of a cut channel at a release position: a selvedge result, else the released reed sample. -/
def cutValue (s : State) (m pos ch : Nat) : Int × Bool :=
  let dest := endpoint 5 m ch
  match s.block (selvCell dest) pos with
  | some b => (b.x.getD 0 0, b.degraded)
  | none => match s.block (reedCell dest) (pos / s.pl) with
    | some b => (b.x.getD (pos % s.pl) 0, b.degraded)
    | none => (0, false)

/-- SELVEDGE_SAMPLE (R129 to R133): both copies compute each output from the sample received in the period before; cuts of
streams with selvedge channels leave at their release position (R284). -/
def execSelvedgeSample (t : Nat) (faults : List SelvCopy) (s : State) : Result :=
  let s := s.at_ t
  .next (s.whenever (s.inService && decide (0 < s.sampleNow)) (fun s =>
    let k := s.sampleNow - 1
    let s := s.each (selvOutputs s) (selvSample faults k)
    let s := if s.muted then s
      else s.each ((selvStreams s).filter (fun m => s.on (cutTxKey m 1))) (fun s m => sendCuts s m (k + 1) (cutValue s m (k + 1)))
    let blocks := s.graph.blocks.filter (fun (b : Block) => !(Nat.ble (2 ^ 33) b.id && Nat.blt b.id (2 ^ 34)) || Nat.blt (k + 1) b.pick)
    { s with graph := { s.graph with blocks := blocks } }))

end Machine
end Sys2Proof
end

