-- ==== Sys2Proof/Machine/Message.lean ====
section
/-! DEFINITION. The form of Hapol messages (R344, R345, R346, R351): header, tag and items, and how a message leaves on its
path. -/

namespace Sys2Proof
namespace Machine

/-- A Hapol message taken apart (R344). -/
structure Msg where
  version : Nat
  type : Nat
  reply : Bool
  tagged : Bool
  ackReq : Bool
  length : Nat
  session : Nat
  reqId : Nat
  counter : Nat
  status : Nat
  srcLoom : Nat
  body : List Byte
  tag : List Byte
  deriving DecidableEq, Repr

/-- The 20 header octets. -/
def headerBytes (m : Msg) : List Byte :=
  beBytes 1 m.version ++
    beBytes 1 (m.type * 16 + (if m.reply then 8 else 0) + (if m.tagged then 4 else 0) + (if m.ackReq then 2 else 0)) ++
    beBytes 2 m.length ++ beBytes 4 m.session ++ beBytes 4 m.reqId ++ beBytes 4 m.counter ++ beBytes 2 m.status ++
    beBytes 2 m.srcLoom

/-- Reads the header, body and tag of octets that hold at least a header. -/
def readMsg (b : List Byte) : Msg :=
  let f := field b 1 1
  let len := field b 2 2
  ⟨field b 0 1, f / 16, bit f 3, bit f 2, bit f 1, len, field b 4 4, field b 8 4, field b 12 4, field b 16 2, field b 18 2,
    (b.drop 20).take len, (b.drop (20 + len)).take 16⟩

/-- The octets that a tag covers: the header with TAGGED 1, then the body (R360). -/
def covered (m : Msg) : List Byte := headerBytes { m with tagged := true } ++ m.body

/-- The octets of a message, with a tag under a key when it is tagged. -/
def messageBytes (m : Msg) (key : List Byte) : List Byte :=
  if m.tagged then covered m ++ tag16 key (covered m) else headerBytes m ++ m.body

/-- The length that the header states for the whole message. -/
def statedLength (m : Msg) : Nat := 20 + m.length + (if m.tagged then 16 else 0)

/-- One item of a WRITE or WRITE_TIMED (R350, R351), with the action ID that follows it in a forwarded timed write (R357). -/
structure Item where
  index : Nat
  sub : Nat
  code : Nat
  value : List Byte
  action : Nat
  deriving DecidableEq, Repr

/-- The key an item names. -/
def Item.key (i : Item) : Nat := keyOf i.index i.sub

/-- Items of a body, each followed by `extra` octets; none when the body does not parse. -/
def readItems (extra : Nat) : Nat → List Byte → Option (List Item)
  | _, [] => some []
  | 0, _ => none
  | n + 1, b =>
    let len := field b 4 2
    if b.length < 6 + len + extra then none
    else match readItems extra n (b.drop (6 + len + extra)) with
      | none => none
      | some r => some (⟨field b 0 2, field b 2 1, field b 3 1, (b.drop 6).take len, field b (6 + len) extra⟩ :: r)

/-- The octets of one item. -/
def itemBytes (i : Item) : List Byte :=
  beBytes 2 i.index ++ beBytes 1 i.sub ++ beBytes 1 i.code ++ beBytes 2 i.value.length ++ i.value

/-- The type of an object, for its code and wire form. -/
def State.tyOf (s : State) (k : Nat) : Ty := match s.objRow k with | some r => r.ty | none => .u8

/-- MAC of a network path. -/
def pathMac : Path → Option Nat
  | .udpCp => some 2
  | .rawCp => some 2
  | .udpMp0 => some 0
  | .rawMp0 => some 0
  | .udpMp1 => some 1
  | .rawMp1 => some 1
  | _ => none

/-- Whether a path carries UDP. -/
def pathUdp : Path → Bool
  | .udpCp => true
  | .udpMp0 => true
  | .udpMp1 => true
  | _ => false

/-- SESSION_PATH codes. -/
def pathCode : Path → Nat
  | .udpCp => 1
  | .udpMp0 => 2
  | .udpMp1 => 3
  | .rawCp => 4
  | .rawMp0 => 5
  | .rawMp1 => 6
  | .mailbox => 7
  | .swiska => 0

/-- Whether HAPOL_PATHS enables a path (R345). -/
def State.pathOn (s : State) (p : Path) : Bool :=
  match pathMac p with
  | none => true
  | some m => bit (s.rdN Obj.HAPOL_PATHS) ((if pathUdp p then 0 else 2) + (if m = 2 then 0 else 1))

/-- The frame that carries a message on a network path; none while the IPv4 destination is not resolved. -/
def carriage (s : State) (p : Path) (peer : Nat) (msg : List Byte) : Option (Nat × List Byte) :=
  match pathMac p with
  | none => none
  | some m =>
    if pathUdp p && s.rdN (ix Obj.IP_ADDRESS m) = 0 then none
    else if pathUdp p then
      let port := s.rdN Obj.HAPOL_UDP_PORT
      let ip := peer % 2 ^ 32
      (stationOf s m ip).map (fun d =>
        (m, etherHeader s m d 0x0800 ++ ipv4 s m ip 17 64 0 (udp (s.rdN (ix Obj.IP_ADDRESS m)) ip port port msg)))
    else some (m, etherHeader s m (peer % 2 ^ 48) 0x88B5 ++ msg)

/-- Sends a message to a peer on its path (R345): on the mailbox it joins the reply queue; a BLOCK on a media port is a bulk frame, any other
frame one of control (R225, R229, R234). -/
def State.sendMsg (s : State) (p : Path) (peer : Nat) (msg : List Byte) : State :=
  let s := s.emit (.hapol p peer msg)
  let s := if p = .mailbox then { s with agent := { s.agent with mailbox := s.agent.mailbox ++ [msg] } }.evtFrom s else s
  match carriage s p peer msg with
  | some f => s.send f.1 (if f.1 < 2 && decide (field msg 1 1 / 16 = 6) then 3 else 2) f.2
  | none => s

/-- A bulk block (R268). -/
def bulkBlock (kind seg : Nat) (bytes : List Byte) : BitVec 1024 :=
  makeBlock 1 0x02 (kind * 2 ^ 974 + seg * 2 ^ 942 + beNat (bytes ++ List.replicate (117 - bytes.length) 0))

/-- The 117-octet parts of a message with their numbers. -/
def partsOf : Nat → Nat → List Byte → List (Nat × List Byte)
  | 0, _, _ => []
  | _, _, [] => []
  | n + 1, k, b => (k, b.take 117) :: partsOf n (k + 1) (b.drop 117)

/-- Sends a transfer of another KIND as bulk blocks, numbered from 0 (R268). -/
def State.sendTransfer (s : State) (port kind : Nat) (bytes : List Byte) : State :=
  s.each (partsOf (bytes.length / 117 + 1) 0 bytes) (fun s p => s.sendBlock port 6 (bulkBlock kind p.1 p.2))

/-- Sends a Hapol message as bulk blocks on a Swiska port under a message number (R346). -/
def State.sendBulk (s : State) (port number : Nat) (msg : List Byte) : State :=
  s.each (partsOf 13 0 msg) (fun s p => s.sendBlock port 6 (bulkBlock 0 (number % 2 ^ 24 * 256 + p.1) p.2))

end Machine
end Sys2Proof
end

