-- ==== Sys2Proof/Machine/Twin.lean ====
section
/-! DEFINITION. The twin pair and the authority lease (chapter 12): pairing (R295), forwarding (R297), digests (R298 to R300),
the twin exchange (R301), catch-up (R303, R304), singular outputs (R305, R311), the lease (R307 to R312), handover and drills
(R313 to R315). -/

namespace Sys2Proof
namespace Machine

/-- Changes the twin record. -/
def State.setTwin (s : State) (f : Twin → Twin) : State := { s with twin := f s.twin }
/-- TWIN_STATE. -/
def State.twinState (s : State) : Nat := s.rdN Obj.TWIN_STATE
/-- Sets TWIN_STATE. -/
def State.setTwinState (s : State) (v : Nat) : State := s.wr Obj.TWIN_STATE (v : Nat)
/-- Whether the pair is formed. -/
def State.paired (s : State) : Bool := s.on Obj.TWIN_ENABLE && decide (2 ≤ s.twinState)
/-- Whether the engine holds the lease of a pair. -/
def State.holds (s : State) : Bool := decide (s.rd Obj.LEASE_ROLE ≠ 0)

/-- The shared ranges of R296. -/
def isShared (k : Nat) : Bool :=
  let i := keyIndex k
  (Nat.ble 0x3000 i && Nat.ble i 0x6FFF) || (Nat.ble 0xE010 i && Nat.ble i 0xEFFF)

/-- Ports that carry the twin exchange: trained to the partner and set in TWIN_PORTS (R295). -/
def twinPorts (s : State) : List Nat :=
  (bitsOf (s.rdN Obj.TWIN_PORTS) 6).filter (fun p => s.trained p && s.rd (ix Obj.SW_PARTNER_LOOM p) == s.rd Obj.TWIN_PARTNER)

/-! ## Singular outputs and claims (R222, R305, R306, R365) -/

/-- Level of a GPIO tally output (R222). -/
def tallyLevel (s : State) (n : Nat) : Int := if s.on (ix Obj.GPIO_LEVEL n) != s.on (ix Obj.GPIO_POLARITY n) then 1 else 0

/-- The general-purpose pins at a batten: a tally is driven with the authority, else at high impedance, as an input is (R222). -/
def driveTallies (s : State) : State :=
  s.each (List.range 6) (fun s n =>
    s.emit (.pin "GPIO" n (if s.rd (ix Obj.GPIO_MODE n) = 1 ∧ s.drives then tallyLevel s n else -1)))

/-- The relay and enable outputs: driven, or at high impedance (R305, R311). -/
def driveRelays (s : State) : State :=
  s.each (List.range 32) (fun s n =>
    let level (v : Bool) : Int := if s.drives then (if v then 1 else 0) else -1
    (s.emit (.pin "TD_EN" n (level (s.td n).en))).emit (.pin "RLY" n (level (s.td n).relay)))

/-- CLAIM_TABLE and SESSION_CLAIMS (R365). -/
def showClaims (s : State) : State :=
  let cs := s.agent.claims
  let s := s.each (List.range 128) (fun s j => s.wr (Obj.CLAIM_TABLE + j)
    (match cs[j]? with | some c => ((c.session * 2 ^ 32 + c.first * 65536 + c.last : Nat) : Int) | none => 0))
  s.each s.agent.sessions (fun s x => s.wr (ix Obj.SESSION_CLAIMS x.slot) ((cs.filter (fun c => c.session == x.id)).length : Nat))

/-- Removes claims and raises HAPOL_CLAIM_DROPPED for each (R365). -/
def dropClaims (p : Claim → Bool) (s : State) : State :=
  let gone := s.agent.claims.filter p
  let s := showClaims { s with agent := { s.agent with claims := s.agent.claims.filter (fun c => !p c) } }
  s.each gone (fun s c => s.raise Ev.HAPOL_CLAIM_DROPPED (arg2 c.first c.last))

/-- Whether a claim touches a shared range. -/
def sharedClaim (c : Claim) : Bool :=
  (Nat.ble c.first 0x6FFF && Nat.ble 0x3000 c.last) || (Nat.ble c.first 0xEFFF && Nat.ble 0xE010 c.last)

/-! ## Blocks of the twin exchange (R301) -/

/-- The header fields of a twin-exchange block, as a body. -/
def twinHeader (s : State) (msg pick : Nat) : Nat :=
  msg * 2 ^ 974 + s.loomId * 2 ^ 958 + pick % 2 ^ 64 * 2 ^ 894 + s.twinState * 2 ^ 891 + s.rdN Obj.TWIN_PREFER * 2 ^ 890

/-- Sends a twin-exchange block on every port of the pair. -/
def sendTwin (s : State) (body : Nat) : State :=
  s.each (twinPorts s) (fun s p => s.sendBlock p 3 (makeBlock 1 0x03 body))

/-- Whether a block is a twin-exchange message of a kind from the partner. -/
def fromTwin (s : State) (p msg : Nat) (b : BitVec 1024) : Bool :=
  (twinPorts s).contains p && isBlock 0x03 b && blockBits b 1013 1006 == msg && blockBits b 1005 990 == s.rdN Obj.TWIN_PARTNER

/-- One object of a transfer, as the item of a WRITE (log entry 235). -/
def imageItem (s : State) (k : Nat) (v : Val) : List Byte :=
  let b := wireOf (s.tyOf k) v
  beBytes 2 (keyIndex k) ++ beBytes 1 (keySub k) ++ beBytes 1 (s.tyOf k).code ++ beBytes 2 b.length ++ b

/-- The image of R303 step 1: the shared dictionary objects and the pending timed actions. -/
def imageBytes (s : State) : List Byte :=
  (s.dict.filter (fun (e : Nat × Val) => isShared e.1)).flatMap (fun (e : Nat × Val) => imageItem s e.1 e.2) ++
    s.timed.flatMap (fun a => imageItem s a.key a.val ++ beBytes 4 a.id ++ beBytes 8 a.sample ++ beBytes 2 a.tag)

/-- The state words of R303 step 2: those of every instance, histories apart. -/
def stateBytes (s : State) : List Byte :=
  s.graph.works.flatMap (fun w =>
    beBytes 4 (elemNo w.elem) ++ beBytes 4 w.regs.length ++ w.regs.flatMap (fun x => beBytes 5 (pattern 36 x)))

/-- STATE and PREFER of the partner. A partner that enters a catch-up is sent the image, unless it comes from state 5, and the state words
by the holder (R303). -/
def notePartner (state : Nat) (prefer : Bool) (s : State) : State :=
  let was := s.twin.peerState
  let s := s.setTwin (fun w => { w with peerState := state, peerPrefer := prefer })
  match twinPorts s with
  | p :: _ =>
    s.whenever (s.holds && decide (state = 2) && decide (was ≠ 2)) (fun s =>
      (if was = 5 then s else s.sendTransfer p 1 (imageBytes s)).sendTransfer p 1 (stateBytes s))
  | [] => s

/-- STATE and PREFER in the header of a block of the partner. -/
def noteHeader (b : BitVec 1024) (s : State) : State := notePartner (blockBits b 925 923) (blockBits b 922 922 == 1) s

/-! ## Lease messages sent (R307, R356) -/

/-- D of R308 and R312: the larger of the twins' durations, in ns. -/
def leaseD (s : State) : Nat := max (s.rdN Obj.LEASE_DURATION_MS) s.twin.peerMs * 1000000
/-- G of R309: D times 200 ppm plus 1 ms. -/
def leaseG (s : State) : Nat := leaseD s / 5000 + 1000000
/-- Shows LEASE_GUARD_NS. -/
def showGuard (s : State) : State := s.wr Obj.LEASE_GUARD_NS (leaseG s : Nat)

/-- Raw Hapol path of a MAC. -/
def rawPath (m : Nat) : Path := match m with | 0 => .rawMp0 | 1 => .rawMp1 | _ => .rawCp
/-- Whether TWIN_LEASE_KEY is set. -/
def leaseKeySet (s : State) : Bool := s.on Obj.TWIN_LEASE_KEY_SET
/-- LEASE_PEER_ADDR of a MAC; 0 unused. -/
def peerAddr (s : State) (m : Nat) : Nat := s.rdN (Obj.LEASE_PEER_ADDR + m)
/-- MACs that serve as lease paths. -/
def leaseMacs (s : State) : List Nat := if leaseKeySet s then (List.range 3).filter (fun m => peerAddr s m != 0) else []

/-- A tagged raw message to the partner on every MAC of the lease. -/
def sendPeers (s : State) (type reqId counter : Nat) (body : List Byte) : State :=
  let m : Msg := ⟨1, type, false, true, false, body.length, 0, reqId, counter, 0, s.loomId, body, []⟩
  s.each (leaseMacs s) (fun s n => s.sendMsg (rawPath n) (peerAddr s n) (messageBytes m (s.rdB Obj.TWIN_LEASE_KEY)))

/-- Sends one lease message on every path: as blocks and as Hapol LEASE messages (R301, R307, R356). -/
def sendLease (s : State) (msg epoch seq take : Nat) : State :=
  let d := s.rdN Obj.LEASE_DURATION_MS
  let s := sendTwin s (twinHeader s msg s.clock.pick + epoch % 2 ^ 32 * 2 ^ 858 + seq % 2 ^ 32 * 2 ^ 826 + d * 2 ^ 810 + take % 2 ^ 64 * 2 ^ 746)
  let body := beBytes 1 msg ++ beBytes 1 s.twinState ++ beBytes 1 (s.rdN Obj.TWIN_PREFER) ++ beBytes 1 0 ++ beBytes 4 epoch ++
    beBytes 4 seq ++ beBytes 2 d ++ beBytes 2 0 ++ beBytes 8 s.clock.pick ++ beBytes 8 take
  sendPeers s 7 0 0 body

/-! ## Catch-up and divergence (R300, R303, R304) -/

/-- Enters a step of a catch-up: TWIN_STATE reads 2 through step 3 and 3 in step 4. -/
def catchUp (s : State) (step : Nat) : State :=
  (s.setTwin (fun w => { w with step := step, installed := decide (3 ≤ step), matching := 0 })).setTwinState (if step = 4 then 3 else 2)

/-- Whether the holder may start a planned handover: the standby in state 4 with no fault in its latest digest (R313). -/
def canSwap (s : State) : Bool :=
  s.paired && s.holds && s.twin.handover.isNone && decide (s.twin.peerState = 4) && decide (s.twin.peerFaults = 0)

/-- Whether an action has an external effect: relays, enables and tallies (R149, R305). -/
def isSingular (k : Nat) : Bool :=
  (Nat.ble 0x3600 (keyIndex k) && Nat.ble (keyIndex k) 0x3605 && keySub k == 2) ||
  (Nat.ble 0x6000 (keyIndex k) && Nat.ble (keyIndex k) 0x601F && keySub k == 1)

/-- TAKE_PICK: the first batten at least 12 picks ahead whose pick holds no pending singular timed action (R313). -/
def takePick (s : State) : Nat → Nat → Nat
  | 0, n => n
  | f + 1, n => if s.timed.any (fun a => isSingular a.key && a.sample / s.pl == n) then takePick s f (n + 1) else n

/-- Steps 1 and 2 of a planned handover (R313). -/
def startHandover (s : State) : State :=
  let n := takePick s (s.timed.length + 1) (s.clock.pick + 12)
  let s := (s.setTwin (fun w => { w with handover := some n })).wr Obj.LEASE_ROLE 2
  sendLease s 0x04 (s.rdN Obj.LEASE_EPOCH + 1) s.twin.seq n

/-- The twin flags itself (R300): from the next batten on every output is marked degraded. -/
def flagSelf (s : State) : State :=
  if s.twin.diverged then s
  else
    let s := ((s.bump Obj.TWIN_SELF_FLAGGED).raise Ev.TWIN_DIVERGED 0).setTwinState 5
    let s := s.setTwin (fun w => { w with diverged := true, divergedFrom := s.clock.pick + 1 })
    if s.holds && canSwap s then startHandover s else s

/-- A mismatch in step 4: back to step 2, and after three such returns to step 1 in 10 s (R303). -/
def verifyFails (s : State) : State :=
  let s := s.setTwin (fun w => { w with returns := w.returns + 1 })
  if s.twin.returns < 3 then catchUp s 2
  else
    let s := s.setTwin (fun w => { w with returns := 0, step := 0, failedAt := max 1 s.clock.now })
    (s.setTwinState 2).raise Ev.TWIN_CATCHUP_FAILED 0

/-- Whether this engine takes the standby's place in R300. -/
def judgedStandby (s : State) : Bool :=
  if s.holds then false else if s.twin.peerHolds then true else decide (s.rdN Obj.TWIN_PARTNER < s.loomId)

/-- TWIN_STATE after state 6 (R299): 3 in the verifying step, 5 for a twin that has flagged itself, else 4. -/
def afterLost (s : State) : Nat := if s.twin.step = 4 then 3 else if s.twin.diverged then 5 else 4

/-- Two digests of one batten compared and judged (R299, R300). -/
def compareDigests (s : State) (o p : Digest) : State :=
  let s := s.setTwin (fun w => { w with own := change w.own (fun d => d.pick == o.pick) (fun d => { d with judged := true }) })
  let step := s.twin.step
  let s := if s.twinState = 6 then s.setTwinState (afterLost s) else s
  if o.cloth = p.cloth ∧ o.selv = p.selv then
    let s := s.bump Obj.TWIN_DIGEST_MATCH
    if step = 4 then s.setTwin (fun w => { w with matching := w.matching + 1 }) else s
  else
    let s := s.bump Obj.TWIN_DIGEST_MISMATCH
    if step = 4 then verifyFails s
    else if step ≠ 0 ∨ bit o.faults 7 ∨ bit p.faults 7 then s
    else
      let mine := decide (o.faults ≠ 0)
      let theirs := decide (p.faults ≠ 0)
      let s := if !mine && !theirs then s.bump Obj.TWIN_UNEXPLAINED else s
      if (mine && !theirs) || (mine == theirs && o.second) then flagSelf s else s

/-- CRC-32 of samples as 5 octets each (R298). -/
def digestOf (xs : List Int) : Nat := crc32 (xs.flatMap (fun x => beBytes 5 (pattern 36 x)))

/-- The digest of batten b is formed, sent and compared when the partner's has come (R298, R299). -/
def sendDigest (s : State) (cloth selv : List Int) : State :=
  let b := s.clock.pick
  let w := s.twin
  let faults := w.faults + (if w.diverged && decide (w.divergedFrom ≤ b) then 128 else 0)
  let d : Digest := ⟨b, digestOf cloth, digestOf selv, faults, false, judgedStandby s⟩
  let s := s.setTwin (fun w => { w with faults := 0, own := (w.own ++ [d]).drop (w.own.length - 160), partner := w.partner.drop (w.partner.length - 160) })
  if !s.paired then s
  else
    let s := sendTwin s (twinHeader s 0x01 b + d.cloth * 2 ^ 858 + d.selv * 2 ^ 826 + faults * 2 ^ 810 + s.rdN Obj.TWIN_WRITE_SEQ % 2 ^ 32 * 2 ^ 778)
    match s.twin.partner.find? (fun p => p.pick == b) with
    | some p => compareDigests s d p
    | none => s

/-- The settings of a selvedge output whose CRC its state record carries (R301). -/
def selvSettings (s : State) (o : Nat) : List Byte :=
  (List.range 24).flatMap (fun j => wireOf (s.tyOf (ix Obj.SELV_DEST o + j)) (getIn s.run (ix Obj.SELV_DEST o + j)))

/-- The state record of a selvedge output as it stands (R301). -/
def selvRecord (s : State) (o : Nat) : Nat :=
  let k := s.clock.pick * s.pl
  let g := ix Obj.SELV_GAIN o
  let ramp := (s.graph.ramps.filter (fun r => r.key == g && decide (r.sample ≤ k) && decide (k < r.sample + r.len))).getLast?
  let pos := match ramp with | some r => k - r.sample | none => 0
  pattern 36 ((s.selv o).gain / 16) * 2 ^ 84 + pos % 65536 * 2 ^ 68 +
    pattern 36 (s.ramped g k (selvTarget s s.run o k) / 16) * 2 ^ 32 + crc32 (selvSettings s o)

/-- Sixteen selvedge-state blocks follow each batten of a pair (R301). -/
def sendSelvStates (s : State) : State :=
  if !s.paired then s
  else s.each (List.range 16) (fun s g =>
    sendTwin s (twinHeader s 0x05 s.clock.pick + g * 2 ^ 886 +
      ((List.range 4).map (fun r => selvRecord s (4 * g + r) * 2 ^ (766 - 120 * r))).sum))

/-! ## Taking and releasing the lease (R308 to R311) -/

/-- Whether this engine is the designated taker (R309). -/
def designated (s : State) : Bool :=
  let own := s.on Obj.TWIN_PREFER
  if own != s.twin.peerPrefer then own else decide (s.loomId < s.rdN Obj.TWIN_PARTNER)

/-- The engine releases the lease: AUTHORITY falls and the singular outputs enter high impedance (R311, R365). -/
def releaseLease (s : State) (contended : Bool) : State :=
  let s := (s.wr Obj.LEASE_ROLE 0).setTwin (fun w => { w with releasedAt := s.engineNs, echoed := none, sends := [], handover := none })
  let s := ptpDecideAll (driveTallies (driveRelays (s.emit (.pin "AUTHORITY" 0 0))))
  let s := dropClaims sharedClaim s
  let s := if contended then s.raise Ev.LEASE_CONTENDED 0 else s
  if !s.paired then s
  else if !s.twin.installed then catchUp s 1
  else if s.twinState = 7 then s.setTwinState 4
  else s

/-- The engine takes the lease with an epoch; its singular outputs are driven from batten `first` (R309, R311). A take out of a
catch-up abandons it (R304). -/
def takeLease (s : State) (epoch first : Nat) (silent : Bool) : State :=
  let s := (s.wr Obj.LEASE_ROLE (if silent then 3 else 1)).wr Obj.LEASE_EPOCH (epoch : Nat)
  let s := (s.bump Obj.LEASE_MOVES).raise Ev.LEASE_TAKEN (epoch % 2 ^ 32)
  let abandons := s.twin.step ≠ 0
  let lost := abandons && !s.twin.installed
  let s := s.setTwin (fun w =>
    { w with seenEpoch := max w.seenEpoch epoch, drivesFrom := first, takenAt := max 1 s.clock.now, echoed := none, sends
      := [], take := none, step := 0 })
  let s := ptpDecideAll (s.emit (.pin "AUTHORITY" 0 1))
  let s := if lost then s.each ((instsOf s.run).map (fun e => e.1)) (fun s i => s.raise Ev.STATE_LOST i) else s
  if abandons || (silent && decide (2 ≤ s.twinState)) then s.setTwinState 7 else s

/-! ## Pairing (R295) -/

/-- The failed condition of R295, 1 to 4, or 0; `enabled` and `names` are the partner's TWIN_ENABLE and TWIN_PARTNER. -/
def pairFails (s : State) (enabled : Bool) (names : Nat) : Nat :=
  let partner := s.rdN Obj.TWIN_PARTNER
  if !s.on Obj.TWIN_ENABLE || !enabled then 1
  else if names != s.loomId || partner == 0 || partner == s.loomId then 2
  else if (twinPorts s).isEmpty then 3
  else if !(twinPorts s).any (fun p => (s.link p).coincide && (s.link p).rate == s.rdN Obj.ENGINE_RATE_RUNNING) then 4
  else 0

/-- A failed condition: TWIN_STATE reads 1 (R295). -/
def notAligned (s : State) (n : Nat) : State := ((s.setTwin (fun w => { w with step := 0 })).setTwinState 1).raise Ev.TWIN_NOT_ALIGNED n

/-- TWIN_PAIRED (R295, R303): the conditions hold, so a holder is paired and a twin without the lease starts its catch-up. -/
def execTwinPaired (t : Nat) (enabled : Bool) (names : Nat) (s : State) : Result :=
  let s := s.at_ t
  .next (s.whenever (s.on Obj.TWIN_ENABLE && (s.twinState ≤ 1 || s.twinState == 7)) (fun s =>
    let n := pairFails s enabled names
    if n ≠ 0 then (if s.twinState = 7 then s else notAligned s n)
    else if s.holds then (s.wr Obj.LEASE_ROLE 1).setTwinState 4
    else (catchUp s 1).setTwin (fun w => { w with silent := true, returns := 0 })))

/-- A write of a pairing object (R295): the conditions are judged again; with TWIN_ENABLE at 0 the engine holds the authority. -/
def twinWritten (s : State) : State :=
  let s := showGuard s
  if !s.on Obj.TWIN_ENABLE then
    let s := (s.setTwinState 0).setTwin (fun w => { w with step := 0, silent := false, handover := none, take := none, diverged := false })
    ptpDecideAll (if s.holds then s else (s.wr Obj.LEASE_ROLE 1).emit (.pin "AUTHORITY" 0 1))
  else
    let s := ptpDecideAll s
    let n := pairFails s true s.loomId
    if s.twinState = 7 then s
    else if n ≠ 0 then notAligned s n
    else if s.twinState = 0 then s.setTwinState 1
    else s

/-! ## Digests received (R299, R300) -/

/-- DIGEST (R299 to R301): a partner digest arrives and is compared. -/
def execDigest (t : Nat) (port : Fin 6) (block : BitVec 1024) (s : State) : Result :=
  let s := s.at_ t
  .next (s.whenever (s.paired && fromTwin s port 0x01 block) (fun s =>
    let b := blockBits block 989 926
    let d : Digest := ⟨b, blockBits block 921 890, blockBits block 889 858, blockBits block 857 842 % 512, false, false⟩
    let s := (noteHeader block s).setTwin (fun w =>
      { w with missing := 0, peerFaults := d.faults, partner := w.partner.filter (fun p => p.pick != b) ++ [d] })
    match s.twin.own.find? (fun o => o.pick == b && (!o.judged || s.twinState == 6)) with
    | some o => compareDigests s o d
    | none => s))

/-- TWIN_DIGEST_MISSING (R299): the partner's digest has not arrived by batten b + TWIN_DIGEST_WAIT. -/
def execTwinDigestMissing (t pick : Nat) (s : State) : Result :=
  let s := s.at_ t
  .next (s.whenever (s.paired && decide (pick + s.rdN Obj.TWIN_DIGEST_WAIT ≤ s.clock.pick) &&
      s.twin.own.any (fun o => o.pick == pick && !o.judged)) (fun s =>
    (s.bump Obj.TWIN_DIGEST_MISSING).setTwin (fun w =>
      { w with missing := w.missing + 1, matching := 0, own := change w.own (fun o => o.pick == pick) (fun o => { o with
        judged := true }) })))

/-- TWIN_EXCHANGE_LOST (R299): after 64 consecutive missing digests TWIN_STATE reads 6. -/
def execTwinExchangeLost (t : Nat) (s : State) : Result :=
  let s := s.at_ t
  .next (s.whenever (decide (64 ≤ s.twin.missing) && [3, 4, 5].contains s.twinState) (fun s =>
    (s.setTwinState 6).raise Ev.TWIN_EXCHANGE_LOST 0))

/-! ## Catch-up (R303) -/

/-- The joiner's queue from the holder's actions. -/
def takeActions (s : State) (acts : List SentAction) : State :=
  (s.each acts (fun s a => s.issue a.id)).setActions
    (acts.map (fun a => ⟨a.id, a.key, a.val, a.sample, s.engineNs, a.late, a.tag, 0, a.direct, false, false⟩))

/-- CATCHUP_IMAGE_DONE (R303): the shared image is applied, compiled and loaded, waiting writes follow, and step 2 starts. -/
def execCatchupImageDone (t : Nat) (image : List (Nat × Val)) (acts : List SentAction) (s : State) : Result :=
  let s := s.at_ t
  .next (s.whenever (decide (s.twin.step = 1)) (fun s =>
    let keep := s.dict.filter (fun (e : Nat × Val) => !isShared e.1)
    let s := { s with dict := (image.filter (fun e => isShared e.1)).foldl (fun d e => putIn d e.1 e.2) keep }
    let s := match compile s (graphOf s.dict) with
      | .ok p => switchPlan s p
      | .error _ => s
    let s := takeActions s acts
    let s := s.setActions (s.agent.actions ++ s.twin.waiting)
    (catchUp s 2).setTwin (fun w => { w with waiting := [], gap := false })))

/-- Longest history item of the running graph in samples: delay lines and FIR histories (R303). -/
def longestHistory (s : State) : Nat :=
  ((instsOf s.run).map (fun e => if [0x20, 0x21, 0x30].contains e.2 then historyLen s.run e.1 s.fs else 0)).foldl max 0

/-- CATCHUP_CLOSING (R303): the joiner installs the last state words, the timed-action queue and WRITE_SEQ, and the fill starts. -/
def execCatchupClosing (t seq : Nat) (words : List (Nat × List Int)) (acts : List SentAction) (s : State) : Result :=
  let s := s.at_ t
  .next (s.whenever (decide (s.twin.step = 2)) (fun s =>
    let works := s.graph.works.map (fun (w : Work) =>
      match words.find? (fun e => e.1 == elemNo w.elem) with | some e => { w with regs := e.2 } | none => w)
    let s := takeActions ({ s with graph := { s.graph with works := works } }.wr Obj.TWIN_WRITE_SEQ (seq : Nat)) acts
    let fill := roundNat (longestHistory s * 1000000000) s.fs
    ((catchUp s 3).setTwin (fun w => { w with fillUntil := s.clock.now + fill, gap := false })).wr
      Obj.TWIN_FILL_MS ((fill + 999999) / 1000000 : Nat)))

/-- TWIN_FILL_DONE (R303): the longest history item has been rewritten. -/
def execTwinFillDone (t : Nat) (s : State) : Result :=
  let s := s.at_ t
  .next (s.whenever (decide (s.twin.step = 3) && decide (s.twin.fillUntil ≤ s.clock.now)) (fun s =>
    (catchUp s 4).wr Obj.TWIN_FILL_MS 0))

/-- TWIN_VERIFIED (R303, R304): after 64 consecutive matching digests the twin is paired; its next batten starts its outputs. -/
def execTwinVerified (t : Nat) (s : State) : Result :=
  let s := s.at_ t
  .next (s.whenever (decide (s.twin.step = 4) && decide (64 ≤ s.twin.matching)) (fun s =>
    let s := s.setTwin (fun w =>
      { w with step := 0, returns := 0, diverged := false })
    (s.setTwinState 4).bump Obj.TWIN_CATCHUP_COUNT))

/-- CATCHUP_RESTART (R303): 10 s after a failed catch-up it starts again from step 1. -/
def execCatchupRestart (t : Nat) (s : State) : Result :=
  let s := s.at_ t
  .next (s.whenever (decide (s.twin.failedAt ≠ 0) && s.ran s.twin.failedAt 10000000000 && s.paired) (fun s =>
    (catchUp s 1).setTwin (fun w => { w with failedAt := 0 })))

/-- A twin that was silent through its catch-up starts sending at a batten, with a 10 ms fade-in (R304). -/
def startsSending (s : State) : State :=
  s.whenever (s.twin.silent && decide (s.twin.step = 0) && (s.holds || decide (s.twinState = 4))) (fun s =>
    s.setTwin (fun w => { w with silent := false, fadeAt := s.clock.pick * s.pl }))

/-- What a twin does at each batten: a diverged twin without the lease starts its catch-up (R300, R303). -/
def twinBatten (s : State) : State :=
  let w := s.twin
  let s := if w.step = 3 then s.wr Obj.TWIN_FILL_MS ((w.fillUntil - s.clock.now + 999999) / 1000000 : Nat) else s
  if s.paired && w.diverged && s.twinState == 5 && !s.holds && w.step == 0 && w.failedAt == 0 then catchUp s (if w.gap then 1 else 2) else s

/-- SELVEDGE_STATE (R133, R301): the twin's selvedge state of a batten is kept for a re-seed. -/
def execSelvedgeState (t : Nat) (port : Fin 6) (block : BitVec 1024) (s : State) : Result :=
  let s := s.at_ t
  .next (s.whenever (s.paired && fromTwin s port 0x05 block) (fun s =>
    let b := blockBits block 989 926
    let g := blockBits block 921 918
    let recs := (List.range 4).map (fun r =>
      let x := blockBits block (917 - 120 * r) (798 - 120 * r)
      (4 * g + r, b, signed 36 (bits x 119 84), bits x 83 68, signed 36 (bits x 67 32), bits x 31 0))
    (noteHeader block s).setTwin (fun w => { w with selv := w.selv.filter (fun e => e.1 / 4 != g) ++ recs })))

/-! ## Lease messages received (R307 to R312, R356) -/

/-- Whether a lease message is a second copy of one received (R307, R356). -/
def secondCopy (s : State) (msg : Nat) (m : LeaseMsg) : Bool :=
  s.twin.seen.contains (msg, m.epoch, m.seq, if msg = 3 then m.pick else 0)

/-- Whether the field network's conditions of R356 hold. -/
def networkAccepts (s : State) (msg : Nat) (m : LeaseMsg) : Bool :=
  let mac := m.path - 6
  let last := s.twin.netPicks.find? (fun e => e.1 == mac)
  m.tagGood && m.peer == peerAddr s mac && m.peer != 0 &&
    decide (m.pick ≤ s.clock.pick + 12000) && decide (s.clock.pick ≤ m.pick + 12000) &&
    (match last with | some e => decide (e.2.1 < m.pick) || (e.2.1 == m.pick && e.2.2 != msg) | none => true) &&
    (msg == 3 || decide (s.twin.seenEpoch ≤ m.epoch))

/-- The common part of a received lease message: copies, conditions, and what it tells of the partner. Answers whether it counts. -/
def leaseArrives (s : State) (msg : Nat) (m : LeaseMsg) : State × Bool :=
  let net := decide (6 ≤ m.path)
  if !s.on Obj.TWIN_ENABLE || secondCopy s msg m then (s, false)
  else if net && !leaseKeySet s then (s, false)
  else if net && !networkAccepts s msg m then (s.bump Obj.HAPOL_AUTH_FAILS, false)
  else if !net && !(twinPorts s).contains m.path then (s, false)
  else
    let differs := msg != 4 && decide (m.durationMs ≠ s.rdN Obj.LEASE_DURATION_MS)
    let now := s.engineNs
    let seen := ((msg, m.epoch, m.seq, if msg = 3 then m.pick else 0) :: s.twin.seen).take 32
    let picks := if net then (m.path - 6, m.pick, msg) :: s.twin.netPicks.filter (fun e => e.1 != m.path - 6) else s.twin.netPicks
    let alive := if 3 ≤ m.state ∧ m.state ≤ 7 then now else s.twin.aliveAt
    let ms := if msg = 4 then s.twin.peerMs else m.durationMs
    let epoch := if msg = 3 then s.twin.seenEpoch else max s.twin.seenEpoch m.epoch
    let s := s.setTwin (fun w => { w with seen := seen, netPicks := picks, heardAt := now, aliveAt := alive })
    let s := notePartner m.state m.prefer (s.setTwin (fun w => { w with peerMs := ms, seenEpoch := epoch }))
    (showGuard (if differs then s.raise Ev.LEASE_PARAM_MISMATCH m.durationMs else s), true)

/-- LEASE_MESSAGE_TX (R307): every LEASE_RENEW_MS a renew or standby message leaves on every path. -/
def execLeaseMessageTx (t : Nat) (s : State) : Result :=
  let s := s.at_ t
  .next (s.whenever (s.paired && s.ran s.twin.sentAt (s.rdN Obj.LEASE_RENEW_MS * 1000000)) (fun s =>
    let s := s.setTwin (fun w => { w with sentAt := s.clock.now })
    if s.holds then
      let n := (s.twin.seq + 1) % 2 ^ 32
      let s := s.setTwin (fun w => { w with seq := n, sends := ((n, s.engineNs) :: w.sends).take 256 })
      sendLease s 0x02 (s.rdN Obj.LEASE_EPOCH) n 0
    else sendLease s 0x03 s.twin.latest.1 s.twin.latest.2 0))

/-- LEASE_RENEW (R309, R310, R312): a renewal arrives; an engine that also holds the lease may yield. -/
def execLeaseRenew (t : Nat) (m : LeaseMsg) (s : State) : Result :=
  let s := s.at_ t
  let present := decide (s.twin.seenEpoch ≤ m.epoch)
  let r := leaseArrives s 2 m
  .next (if !r.2 then r.1
    else
      let s := r.1.setTwin (fun w => { w with peerHolds := true })
      if s.holds then
        let own := s.rdN Obj.LEASE_EPOCH
        if own < m.epoch ∨ (own = m.epoch ∧ !designated s ∧ !List.contains [1, 2] m.state) then releaseLease s true else s
      else if present then (s.setTwin (fun w => { w with renewAt := s.engineNs, latest := (m.epoch, m.seq) })).wr Obj.LEASE_EPOCH (m.epoch : Nat)
      else s)

/-- LEASE_STANDBY (R308, R312): a standby message echoes a renewal and moves the holder's deadline. -/
def execLeaseStandby (t : Nat) (m : LeaseMsg) (s : State) : Result :=
  let s := s.at_ t
  let r := leaseArrives s 3 m
  .next (if !r.2 then r.1
    else
      let s := r.1.setTwin (fun w => { w with peerHolds := false })
      match s.twin.sends.find? (fun e => e.1 == m.seq) with
      | some e =>
        if !s.holds || m.epoch != s.rdN Obj.LEASE_EPOCH then s
        else
          let s := s.setTwin (fun w => { w with echoed := some (max e.2 (w.echoed.getD 0)) })
          if s.twinState = 7 ∧ 3 ≤ m.state then (s.setTwinState 4).wr Obj.LEASE_ROLE 1 else s
      | none => s)

/-- LEASE_HANDOVER (R313): the standby is told to take at TAKE_PICK with the next epoch. -/
def execLeaseHandover (t : Nat) (m : LeaseMsg) (s : State) : Result :=
  let s := s.at_ t
  let present := decide (s.twin.seenEpoch ≤ m.epoch)
  let r := leaseArrives s 4 m
  .next (if r.2 && present && !r.1.holds then r.1.setTwin (fun w => { w with take := some (m.takePick, m.epoch), peerHolds := true }) else r.1)

/-- LEASE_RELEASE (R308): at T = send stamp of E + D the holder releases, or keeps the lease alone when the partner is silent. -/
def execLeaseRelease (t : Nat) (s : State) : Result :=
  let s := s.at_ t
  .next (match s.twin.echoed with
    | none => s
    | some e =>
      let d := leaseD s
      s.whenever (s.on Obj.TWIN_ENABLE && s.holds && past s.engineNs (e + d)) (fun s =>
        if e + d - d / 2 ≤ s.twin.aliveAt then releaseLease s false
        else ((s.setTwin (fun w => { w with echoed := none })).wr Obj.LEASE_ROLE 3).setTwinState 7))

/-- LEASE_TAKEN (R309): after D + G of silence, or of no renewal for the designated taker, the engine takes the lease. -/
def execLeaseTaken (t : Nat) (s : State) : Result :=
  let s := s.at_ t
  let w := s.twin
  let dg := leaseD s + leaseG s
  let now := s.engineNs
  let silent := past now (max w.heardAt w.startAt + dg)
  let named := decide (3 ≤ s.twinState) && decide (w.step = 0) && designated s && past now (max w.renewAt (max w.startAt w.releasedAt) + dg)
  .next (s.whenever (s.on Obj.TWIN_ENABLE && !s.holds && decide (w.startAt + s.rdN Obj.LEASE_START_WAIT_MS * 1000000 ≤ now) && (silent || named))
    (fun s => takeLease s (w.seenEpoch + 1) (s.clock.pick + 1) silent))

/-- What a batten at or after TAKE_PICK does (R313): the holder releases, and a standby that received the handover takes. -/
def handsOver (s : State) : State :=
  let s := match s.twin.handover with
    | some n => if n ≤ s.clock.pick then releaseLease s false else s
    | none => s
  match s.twin.take with
  | some r => if r.1 ≤ s.clock.pick ∧ !s.holds then takeLease s r.2 (r.1 + 1) false else s
  | none => s

/-- TAKE_PICK (R313): the batten of a planned handover has come. -/
def execTakePick (t : Nat) (s : State) : Result := .next (handsOver (s.at_ t))

/-- LEASE_DRILL (R315): once the drill interval has passed, the holder starts a planned handover. -/
def execLeaseDrill (t : Nat) (s : State) : Result :=
  let s := s.at_ t
  let h := s.rdN Obj.LEASE_DRILL_INTERVAL_H
  .next (s.whenever (decide (0 < h) && s.holds && canSwap s && decide (s.fabric.quietUntil ≤ s.clock.now) &&
      decide (time80Ns (s.rdN Obj.LEASE_DRILL_LAST) + h * 3600000000000 ≤ s.engineNs)) (fun s =>
    startHandover (s.wr Obj.LEASE_DRILL_LAST (time80 s.engineNs : Nat))))

/-- SINGULAR_READBACK (R314): within 10 ms of a take the driven levels are read back; a difference hands the lease back. -/
def execSingularReadback (t : Nat) (differs : Bool) (s : State) : Result :=
  let s := s.at_ t
  .next (s.whenever (decide (s.twin.takenAt ≠ 0) && s.holds) (fun s =>
    let s := s.setTwin (fun w => { w with takenAt := 0 })
    if !differs then s
    else
      let s := s.raise Ev.SINGULAR_READBACK 0
      if canSwap s then startHandover s else s))

/-! ## Forwarded writes (R297, R357) -/

/-- The pick at which a holder applies an untimed write: the first batten TWIN_WRITE_LEAD_PICKS after its arrival (R297). -/
def leadPick (s : State) : Nat :=
  let lead := s.rdN Obj.TWIN_WRITE_LEAD_PICKS
  let due := s.engineNs + lead * s.pickNs
  let n := s.clock.pick + lead
  if due ≤ s.battenNs n then n else n + 1

/-- Sends a WRITE_TIMED of forwarded items at a pick and offset, with IDs for a timed write (R297, R357). -/
def forward (s : State) (items : List (Item)) (pick offset tag : Nat) (timed : Bool) : State :=
  if !(s.paired && s.holds) then s
  else
    let s := s.bump Obj.TWIN_WRITE_SEQ
    let n := s.rdN Obj.TWIN_WRITE_SEQ
    let body := beBytes 4 (tag * 65536 + offset * 256 + 5) ++ beBytes 2 0 ++ beBytes 8 pick ++
      items.flatMap (fun i => itemBytes i ++ (if timed then beBytes 4 i.action else []))
    match twinPorts s with
    | p :: _ => s.sendBulk p n (messageBytes ⟨1, 3, false, false, false, body.length, 0, n, 0, 0, s.loomId, body, []⟩ [])
    | [] => sendPeers s 3 n n body

/-- One item of a forwarded write in the standby: at the holder's pick and offset, or `now`, from the next batten on (R297). -/
def takeForwarded (pick offset tag : Nat) (timed now : Bool) (s : State) (i : Item) : State :=
  let v := readWire (s.tyOf i.key) i.value
  let a : Action := ⟨if timed then i.action else 0, i.key, v, if now then (s.clock.pick + 1) * s.pl else pick * s.pl + offset,
    s.engineNs, if now then 3 else 1, tag, 0, !timed, false, false⟩
  let s := s.issue a.id
  if s.twin.step = 1 then s.setTwin (fun w => { w with waiting := w.waiting ++ [a] })
  else s.setActions (s.agent.actions ++ [a])

/-- Removes queued actions by ID or tag, counted as discarded (R147). -/
def removeActions (p : Action → Bool) (s : State) : State :=
  let gone := s.timed.filter p
  (s.setActions (s.agent.actions.filter (fun a => a.direct || !p a))).bump Obj.TIMED_DISCARDED gone.length

/-- A forwarded message in the standby: its items in the order of TWIN_WRITE_SEQ; a late or missing one flags the twin, whose catch-up starts
anew (R297, R300, R303). -/
def forwarded (s : State) (seq pick offset tag : Nat) (timed : Bool) (items : List Item) : State :=
  let last := s.rdN Obj.TWIN_WRITE_SEQ
  let gap := decide (last + 1 < seq)
  let late := decide (pick ≤ s.clock.pick)
  let s := (s.wr Obj.TWIN_WRITE_SEQ (max last seq : Nat)).setTwin (fun w => { w with gap := w.gap || gap })
  let s := s.each items (fun s i =>
    if i.key = Obj.TIMED_CANCEL then removeActions (fun a => a.id == field i.value 0 4) s
    else if i.key = Obj.TIMED_CANCEL_TAG then removeActions (fun a => a.tag == field i.value 0 2) s
    else takeForwarded pick offset tag timed (gap || late) s i)
  if (gap || late) && s.twin.step != 1 then
    ((flagSelf (s.flag 6)).setTwin (fun w => { w with step := 0 })).setTwinState 5
  else s

end Machine
end Sys2Proof
end

