-- ==== Sys2Proof/Machine/Identity.lean ====
section
/-! DEFINITION. Debug access and the TAP (R447 to R456), signed firmware (R457 to R461), the watchdogs of the cores (R368) and
the scrubber's words (R417). -/

namespace Sys2Proof
namespace Machine

/-! ## Debug scopes (R448 to R456) -/

/-- Scopes that stand granted without reopening (R448). -/
def standingScope (s : State) : Nat :=
  if s.on Obj.FIELD_LOCKED then 0 else if s.power.stage = 15 then 0x1F else 0x0F

/-- DEBUG_SCOPE reports the scopes in force (R448, R455). -/
def showScope (s : State) : State := s.wr Obj.DEBUG_SCOPE (Nat.lor (standingScope s) s.dbg.scope : Nat)

/-- The end of a grant (R455): its scope is withdrawn and DEBUG_CLOSED names it. -/
def endGrant (s : State) : State :=
  if s.dbg.scope = 0 then s
  else (showScope { s with dbg := { s.dbg with scope := 0, session := 0, expiry := 0 } }).raise Ev.DEBUG_CLOSED s.dbg.scope

/-- The end of a session ends the grant that it opened (R455). -/
def endGrantOf (session : Nat) (s : State) : State := if s.dbg.session = session then endGrant s else s

/-- Whether OP 0x10 to 0x12 are locked out (R454). -/
def debugLocked (s : State) : Bool := decide (s.dbg.lockoutUntil ≠ 0)

/-- Status of a wanted scope: reserved bits RANGE, FABRIC outside fallback STATE (R451). -/
def scopeStatus (s : State) (scope : Nat) : Nat :=
  if debugLocked s then Status.STATE
  else if 32 ≤ scope then Status.RANGE
  else if bit scope 4 && decide (s.power.stage ≠ 15) then Status.STATE
  else Status.OK

/-- Octets cut or filled with zeros to a length. -/
def sizedBytes (n : Nat) (b : List Byte) : List Byte := (b ++ List.replicate n 0).take n

/-- OP 0x10 (R452): a new nonce that replaces any outstanding one, for the scope asked. -/
def debugNonce (s : State) (scope : Nat) : State :=
  { s with
    dbg := { s.dbg with nonce := sizedBytes 16 (Config.nonce s.fresh), asked := scope, replyAt := s.clock.now }
    fresh := s.fresh + 1 }

/-- A failed answer or password (R454): the third in a row locks OP 0x10 to 0x12 out for 600 s. -/
def debugFailed (s : State) (op : Nat) : State :=
  let n := s.rdN Obj.DEBUG_FAILS + 1
  let s := (s.wr Obj.DEBUG_FAILS (n : Nat)).raise Ev.DEBUG_AUTH_FAIL (arg2 op n)
  if 3 ≤ n then { s with dbg := { s.dbg with lockoutUntil := s.clock.now + 600000000000 } } else s

/-- A grant (R454, R455): it replaces the scope held before it, lasts DEBUG_HOLD_S and clears the count of failures. -/
def debugGrant (s : State) (session scope : Nat) : State :=
  let s := { s with dbg := { s.dbg with
    scope := scope, session := session, expiry := s.clock.now + s.rdN Obj.DEBUG_HOLD_S * 1000000000 } }
  ((showScope s).wr Obj.DEBUG_FAILS 0).raise Ev.DEBUG_OPENED scope

/-- Whether an answer under OP 0x11 passes: the outstanding nonce, the scope of the request, in time, and the tag (R452). -/
def answerGood (s : State) (scope : Nat) (tag : List Byte) : Bool :=
  !s.dbg.nonce.isEmpty && scope == s.dbg.asked && !s.overdue (s.dbg.replyAt + 60000000000) &&
    tag == tag16 Config.debugKey.toList (s.dbg.nonce ++ Config.dieId ++ beBytes 2 scope)

/-- Whether a password under OP 0x12 passes (R453). -/
def passwordGood (s : State) (scope : Nat) (password : List Byte) : Bool :=
  !s.dbg.oemHash.isEmpty && sha256 (password ++ Config.dieId) == s.dbg.oemHash &&
    Nat.land scope (s.rdN Obj.OEM_PW_SCOPE) == scope

/-- The instant at which a grant expires, in engine time (R450). -/
def expiryTime (s : State) : Nat := time80 (s.engineOf s.dbg.expiry)

/-- FIELD_LOCK blown (R449): every granted scope is withdrawn, the standing ones included. -/
def blowFieldLock (s : State) : State :=
  if s.on Obj.FIELD_LOCKED then s
  else
    let held := s.rdN Obj.DEBUG_SCOPE
    let s := { s.wr Obj.FIELD_LOCKED 1 with dbg := { s.dbg with scope := 0, session := 0, expiry := 0 } }
    (showScope s).raise Ev.DEBUG_CLOSED held

/-- DEBUG_EXPIRY (R455): DEBUG_HOLD_S after the grant. -/
def execDebugExpiry (t : Nat) (s : State) : Result :=
  let s := s.at_ t
  .next (s.whenever (decide (s.dbg.scope ≠ 0) && decide (s.dbg.expiry ≤ s.clock.now)) endGrant)

/-- DEBUG_LOCKOUT_END (R454): after 600 s the count restarts. -/
def execDebugLockoutEnd (t : Nat) (s : State) : Result :=
  let s := s.at_ t
  .next (s.whenever (debugLocked s && decide (s.dbg.lockoutUntil ≤ s.clock.now)) (fun s =>
    { s.wr Obj.DEBUG_FAILS 0 with dbg := { s.dbg with lockoutUntil := 0 } }))

/-- Halts or resumes a core (R456). -/
def setHalted (s : State) (core : Nat) (v : Bool) : State :=
  { s with power := { s.power with halted := setAt s.power.halted core v } }

/-- DEBUG_CORE_HALT (R456): under HALT a core stops; core B's halt releases the lease at that instant. -/
def execDebugCoreHalt (t : Nat) (core : Fin 2) (s : State) : Result :=
  let s := s.at_ t
  .next (s.whenever (bit (s.rdN Obj.DEBUG_SCOPE) 1 && !s.power.halted.getD core.val false) (fun s =>
    let s := setHalted s core.val true
    if core.val = 1 && s.on Obj.TWIN_ENABLE && s.holds then releaseLease s false else s))

/-- The TAP instruction in force, by number, and the scope bit that grants it (R448, R451). -/
def tapCode : Tap → Nat × Option Nat
  | .bypass => (0, none)
  | .idcode => (1, none)
  | .extest => (2, some 0)
  | .samplePreload => (3, some 0)
  | .intest => (4, some 0)
  | .halt => (5, some 1)
  | .creelRead => (6, some 2)
  | .creelWrite => (7, some 3)
  | .fabric => (8, some 4)

/-- What the TAP's data register captures: IDCODE under R447, nothing under BYPASS. -/
def tapCapture (code : Nat) : Int := if code = 1 then 0x1483656B else 0

/-- TAP_INSTRUCTION (R447, R448): an instruction whose scope is not granted acts as BYPASS. -/
def execTapInstruction (t : Nat) (ins : Tap) (s : State) : Result :=
  let s := s.at_ t
  let c := tapCode ins
  let code := match c.2 with
    | none => c.1
    | some b => if bit (s.rdN Obj.DEBUG_SCOPE) b then c.1 else 0
  .next ({ s with dbg := { s.dbg with tap := code } }.emit (.pin "TAP" code (tapCapture code)))

/-! ## Firmware images (R457 to R461) -/

def imageKey (b : List Byte) : Nat := field b 6 1
def imageVersion (b : List Byte) : Nat := field b 8 4
def imageSec (b : List Byte) : Nat := field b 12 2
/-- The identity of an image: the first 8 bytes of its signature (R458). -/
def imageId (b : List Byte) : List Byte := (b.drop 192).take 8

/-- Whether MAGIC, FORMAT and BODY_LENGTH of an image hold, and its fields lie in their ranges (R457, R458). -/
def imageFormed (b : List Byte) : Bool :=
  decide (256 ≤ b.length) && decide (b.length ≤ 16777216) && field b 0 4 == 0x4B574C59 && field b 4 2 == 1 &&
    decide (imageKey b ≤ 3) && decide (imageSec b ≤ 64) && decide (field b 16 4 ≤ 16776960) && field b 16 4 + 256 == b.length

/-- FW_SLOT_STATE of an image (R458): 0 empty, 1 valid, 2 invalid, 3 revoked or below the floor. -/
def imageState (s : State) (b : List Byte) : Nat :=
  if b.isEmpty then 0
  else if !imageFormed b || !Config.imageValid b (imageKey b) then 2
  else if bit (s.rdN Obj.FW_KEY_REVOKE) (imageKey b) || decide (imageSec b < s.rdN Obj.FW_MIN_SEC) then 3
  else 1

/-- The image in a flash slot. -/
def slotImage (s : State) (n : Nat) : List Byte := if n = 0 then s.power.slot0 else s.power.slot1

/-- Whether a slot is being programmed. -/
def slotBusy (s : State) (n : Nat) : Bool := match s.power.programming with | some (k, _) => k == n | none => false

/-- Sets the image of a flash slot. -/
def putSlot (s : State) (n : Nat) (b : List Byte) : State :=
  if n = 0 then { s with power := { s.power with slot0 := b } } else { s with power := { s.power with slot1 := b } }

/-- The objects of a slot. -/
def showSlot (s : State) (n : Nat) : State :=
  let b := slotImage s n
  let st := if slotBusy s n then 4 else imageState s b
  let read := st == 1 || st == 3
  let s := s.wr (ix Obj.FW_SLOT_STATE n) (st : Nat)
  let s := s.wr (ix Obj.FW_SLOT_VERSION n) (if read then imageVersion b else 0 : Nat)
  let s := s.wr (ix Obj.FW_SLOT_SEC n) (if read then imageSec b else 0 : Nat)
  s.wr (ix Obj.FW_SLOT_KEY n) (if read then imageKey b else 0 : Nat)

/-- The objects of both slots. -/
def showSlots (s : State) : State := showSlot (showSlot s 0) 1

/-- The slot that FW_IMAGE programs: the one that is not running (R460); the one that is not preferred when neither runs. -/
def spareSlot (s : State) : Nat :=
  match s.rdN Obj.FW_RUNNING_SLOT with
  | 0 => 1
  | 1 => 0
  | _ => 1 - s.rdN Obj.FW_PREFERRED_SLOT

/-- A valid image begins to be programmed (R460). -/
def startProgramming (s : State) (b : List Byte) : State :=
  let n := spareSlot s
  (showSlots { s with power := { s.power with programming := some (n, b) } }).wr Obj.FW_PROGRESS 0

/-- START_REQUEST ends programming, and the slot reads 0 (R460). -/
def endProgramming (s : State) : State :=
  match s.power.programming with
  | none => s
  | some (n, _) =>
    let s := putSlot { s with power := { s.power with programming := none } } n []
    ((showSlots s).wr Obj.FW_PROGRESS 0).raise Ev.FW_PROGRAMMED (arg2 n 0)

/-- A slot cut off by a loss of power or a reset reads 2 at the next start (R460). -/
def cutProgramming (s : State) : State :=
  match s.power.programming with
  | none => s
  | some (n, _) => putSlot { s with power := { s.power with programming := none } } n [0]

/-- FW_PROGRAMMED (R460, R462): programming ends, done or abandoned. -/
def execFwProgrammed (t : Nat) (done : Bool) (s : State) : Result :=
  let s := s.at_ t
  match s.power.programming with
  | none => .next s
  | some (n, b) =>
    if done then
      let s := putSlot { s with power := { s.power with programming := none } } n b
      .next (((showSlots s).wr Obj.FW_PROGRESS 100).raise Ev.FW_PROGRAMMED (arg2 n 1))
    else .next (endProgramming s)

/-- Whether FW_SEC_COMMIT is refused (R461). -/
def secCommitRefused (s : State) : Bool :=
  let run := s.rdN Obj.FW_RUNNING_SLOT
  let other := slotImage s (1 - run)
  decide (2 ≤ run) || decide (s.power.stage ≠ 5) ||
    (imageState s other == 1 && decide (imageSec other < imageSec (slotImage s run)))

/-- FW_SEC_COMMIT (R461): the fused floor rises to the SEC_VERSION of the running image. -/
def secCommit (s : State) : State :=
  let sec := imageSec (slotImage s (s.rdN Obj.FW_RUNNING_SLOT))
  showSlots (s.wr Obj.FW_MIN_SEC (max (s.rdN Obj.FW_MIN_SEC) sec : Nat))

/-- Whether a write of FW_KEY_REVOKE is refused: it would revoke the running image's key, or all four (R461). -/
def revokeRefused (s : State) (v : Nat) : Bool :=
  let keys := Nat.lor (s.rdN Obj.FW_KEY_REVOKE) (v % 16)
  keys == 15 || bit (v % 16) s.power.runKey

/-- FW_KEY_REVOKE blows key bits; a blown bit stays (R461). -/
def revokeKeys (s : State) (v : Nat) : State :=
  showSlots (s.wr Obj.FW_KEY_REVOKE (Nat.lor (s.rdN Obj.FW_KEY_REVOKE) (v % 16) : Nat))

/-! ## Core restarts (R368) -/

/-- Restarts of a core within the latest 60 s. -/
def recentRestarts (s : State) (core : Nat) : List (Nat × Nat) :=
  s.power.restarts.filter (fun (r : Nat × Nat) => r.1 == core && decide (s.clock.now < r.2 + 60000000000))

/-- A core restarts from work RAM (R368): the Heddle enters recovery; core A abandons its compile; core B releases the lease;
the third restart within 60 s holds the engine and makes the next start cold. -/
def restartCore (s : State) (core : Nat) : State :=
  let recent := recentRestarts s core ++ [(core, s.clock.now)]
  let others := s.power.restarts.filter (fun (r : Nat × Nat) => r.1 != core)
  let third := decide (3 ≤ recent.length)
  let power := { s.power with
    restarting := setAt s.power.restarting core (max 1 s.clock.now)
    restarts := others ++ recent
    halted := setAt s.power.halted core false
    held := s.power.held || third
    coreFailed := s.power.coreFailed || third }
  let s := { s with power := power }
  let s := (s.bump (Obj.CORE_RESTART_COUNT + core)).raise Ev.CORE_RESTARTED core
  let s := enterLatch s
  let s := if core = 0 && s.graph.compiling.isSome then
      { s with graph := { s.graph with compiling := none, live := [] } }.wr Obj.GRAPH_STATUS 1
    else s
  let s := if core = 1 && s.on Obj.TWIN_ENABLE && s.holds then releaseLease s false else s
  if third then s.raise Ev.CORE_FAILED core else s

/-- Whether a core may restart: it runs firmware and is not halted under HALT (R456). -/
def mayRestart (s : State) (core : Nat) : Bool :=
  (s.power.stage == 4 || s.power.stage == 5 || (s.power.stage == 15 && core == 0)) &&
    s.power.restarting.getD core 0 == 0 && !(s.power.halted.getD core false && bit (s.rdN Obj.DEBUG_SCOPE) 1)

/-! ## The scrubber's words (R417) -/

/-- The value that a dictionary object is reloaded with: the saved image for RWS, its default otherwise. -/
def reloadValue (s : State) (k : Nat) : State :=
  let saved := match s.objRow k with
    | some r => if r.access = .rws || r.access = .wo then mapGet s.power.saved k else none
    | none => none
  match saved with
  | some v => s.wrV k v
  | none => { s with dict := mapDel s.dict k }

/-- A word of a delay line takes the preceding sample of the line (R417): position `pos` of pin 0, newest first. -/
def rewriteLine (s : State) (i pos : Nat) : State :=
  match s.workOf i with
  | none => s
  | some w =>
    let line := w.hist.headD []
    if pos < line.length then s.setWork i { w with hist := setAt w.hist 0 (setAt line pos (line.getD (pos + 1) 0)) } else s

/-- SCRUB_WORD (R417): the scrubber repairs, counts or reports what it finds in a word. `key` names the instance, the
dictionary object or the core whose word it is, `double` an uncorrectable pair. -/
def execScrubWord (t : Nat) (st : Store) (tier key pos : Nat) (double : Bool) (s : State) : Result :=
  let s := s.at_ t
  .next (s.whenever (s.power.stage == 5 || s.power.stage == 4) (fun s =>
    match st with
    | .delayLine =>
      ((rewriteLine (s.bumpSat (parityKey tier)) key pos).bumpSat Obj.SCRUB_REWRITES).raise Ev.SCRUB_UNCORRECTABLE ((tier - 1) % 5 + 1)
    | .otherState => (s.bumpSat (parityKey tier)).raise Ev.SCRUB_UNCORRECTABLE ((tier - 1) % 5 + 1)
    | .coef =>
      if double then
        match s.workOf key with
        | some _ => { s with graph := { s.graph with badCoefs := s.graph.badCoefs ++ [key] } }
        | none => (s.bumpSat Obj.ECC_COEF_UNCORR).raise Ev.COEF_UNCORRECTABLE key
      else (s.bumpSat Obj.ECC_COEF_CORR).bumpSat Obj.SCRUB_REWRITES
    | .dict =>
      if double then ((reloadValue s key).bumpSat Obj.ECC_DICT_UNCORR).raise Ev.DICT_UNCORRECTABLE (keyIndex key)
      else (s.bumpSat Obj.ECC_DICT_CORR).bumpSat Obj.SCRUB_REWRITES
    | .workRam =>
      if double then
        let s := s.bumpSat Obj.ECC_WRAM_UNCORR
        if mayRestart s (key % 2) then restartCore s (key % 2) else s
      else (s.bumpSat Obj.ECC_WRAM_CORR).bumpSat Obj.SCRUB_REWRITES))

end Machine
end Sys2Proof
end

