-- ==== Sys2Proof/Machine/Start.lean ====
section
/-! DEFINITION. Power, reset, starts, failed starts and fallback (R343, R368, R422 to R438, R469) and the wakes of Doff (R441
to R443). -/

namespace Sys2Proof
namespace Machine

/-! ## What survives (R343, R364, R425, R431, R432) -/

/-- Access of an object in a copy of the dictionary. -/
def accessOf (d : Map Val) (k : Nat) : Option Access :=
  if isParam k then (slotRow (typeIn d (paramInst k)) (paramSlot k)).map (fun r => r.access) else (rowOf k).map (fun r => r.access)

/-- Whether a key belongs to the key objects 0xD100 to 0xD109 (R364). -/
def isKeyObject (k : Nat) : Bool := Nat.ble 0xD100 (keyIndex k) && Nat.ble (keyIndex k) 0xD109

/-- Fused values (R445, R449, R453, R461). -/
def isFuse (k : Nat) : Bool :=
  k == Obj.FIELD_LOCKED || k == Obj.OEM_PW_SCOPE || k == Obj.FW_MIN_SEC || k == Obj.FW_KEY_REVOKE

/-- Objects of the retained record and lifetime counts (R343, R431, R435). -/
def isLasting (k : Nat) : Bool :=
  (Nat.ble Obj.SHUTTLE_RATING k && Nat.blt k (Obj.SHUTTLE_RATING + 54)) || (Nat.ble Obj.MEND_LAST k && Nat.blt k (Obj.MEND_LAST + 9)) ||
    [Obj.RESERVE_HARNESS, Obj.RETIRED_HARNESSES, Obj.AGING_STRESS_H, Obj.AGING_SERVICE_H, Obj.START_FAILS_WARM, Obj.START_FAILS_COLD,
      Obj.START_COUNT, Obj.DICT_SAVE_COUNT].contains k || (List.range 6).any (fun p => ix Obj.SW_EQ_STORED_LOOM p == k)

/-- Counts since the latest cold start: first key and number of indices. -/
def sinceCold : List (Nat × Nat) := [
  (Obj.MISSED_BATTEN_COUNT, 1), (Obj.REWEAVE_MOVES_DONE, 1), (Obj.TIME_STEP_COUNT, 1), (Obj.REF_CAND_DISQ_COUNT, 24),
  (Obj.REF_SWITCH_COUNT, 1), (Obj.LINK_DOWN_COUNT, 3), (Obj.SW_DOWN_COUNT, 6), (Obj.LEASE_MOVES, 1), (Obj.TD_SHORT_COUNT, 32),
  (Obj.CORE_RESTART_COUNT, 1), (Obj.CORE_RESTART_COUNT + 1, 1), (Obj.VCORE_STEP_COUNT, 1), (Obj.DOFF_COUNT, 1)]

/-- Whether a key counts since the latest cold start. -/
def isSinceCold (k : Nat) : Bool :=
  sinceCold.any (fun (b : Nat × Nat) =>
    keySub k == keySub b.1 && Nat.ble (keyIndex b.1) (keyIndex k) && Nat.blt (keyIndex k) (keyIndex b.1 + b.2))

/-- Whether the dictionary store holds an object's value through a reset (R6, R425, R432). -/
def isStored (d : Map Val) (k : Nat) : Bool :=
  match accessOf d k with
  | some .rw => true
  | some .rwt => true
  | _ => false

/-- What of the dictionary outlives a reset of all but the always-on domain. -/
def afterReset (d : Map Val) : Map Val :=
  d.filter (fun (e : Nat × Val) =>
    isFuse e.1 || isLasting e.1 || isSinceCold e.1 || e.1 == Obj.BOOT_STRAPS || isStored d e.1)

/-- What outlives a reset of everything: the fuses and the record in flash. -/
def afterPower (d : Map Val) : Map Val := d.filter (fun (e : Nat × Val) => isFuse e.1 || isLasting e.1)

/-- What a cold start keeps beside the saved image: no RW or RWT value, no count since cold start (R430 step 6). -/
def afterCold (d : Map Val) : Map Val :=
  d.filter (fun (e : Nat × Val) => isFuse e.1 || (!isSinceCold e.1 && !isStored d e.1))

/-- The values that the saved image holds: RWS objects and the keys (R343, R364). -/
def savedPart (d : Map Val) : Map Val :=
  d.filter (fun (e : Nat × Val) => isKeyObject e.1 || accessOf d e.1 == some .rws)

/-- Writes the saved image (R343). -/
def saveImage (s : State) : State :=
  let s := { s with power := { s.power with saved := savedPart s.dict, dirtySince := 0 } }
  (s.wr Obj.DICT_SAVE_PENDING 0).bump Obj.DICT_SAVE_COUNT

/-- The saved image as a start reads it: after DICT_RESTORE_DEFAULTS only the keys and LOOM_ID are left (R343). -/
def restoreSaved (s : State) : State :=
  let saved := if s.power.restoreDefaults then s.power.saved.filter (fun (e : Nat × Val) => isKeyObject e.1 || e.1 == Obj.LOOM_ID)
    else s.power.saved
  { s with
    power := { s.power with saved := saved, restoreDefaults := false }
    dict := saved.foldl (fun (d : Map Val) (e : Nat × Val) => putIn d e.1 e.2) s.dict }

/-- DICT_SAVE (R343): the accepted RWS writes are in the saved image within 2 s. -/
def execDictSave (t : Nat) (s : State) : Result :=
  let s := s.at_ t
  .next (s.whenever (decide (s.rd Obj.DICT_SAVE_PENDING ≠ 0)) saveImage)

/-! ## Reset (R425, R469) -/

/-- The other pins at reset (R466): outputs low, GPIO and TD_SDCLK inputs, and EVT_N high. -/
def restPins (s : State) : State :=
  if s.power.stage = 0 then s
  else
    let s := s.each (List.range 6) (fun s n => ((s.emit (.pin "TIMING_OUT" n 0)).emit (.pin "GPIO" n (-1))).emit (.pin "SW_TXCK" n 0))
    (s.emit (.pin "TD_SDCLK" 0 (-1))).emit (.pin "EVT_N" 0 1)

/-- The pins that a reset drives low within 1 us (R425); a closed relay is `held` for 10 ms, or low at once (log entry 116). -/
def resetPins (held : Bool) (s : State) : State :=
  let s := s.each (List.range 32) (fun s n =>
    let s := if (s.td n).en then (s.emit (.pin "TD_EN" n 0)).pwmLow n else s
    if (s.td n).relay then s.emit (if held then .pinLater "RLY" n 0 (s.clock.now + 10000000) else .pin "RLY" n 0) else s)
  let s := if s.rd Obj.REFST_CODE = 7 then s else s.emit (.pin "REFST" 0 7)
  restPins (s.emit (.pin "AUTHORITY" 0 0))

/-- Whether a source is a wake source, kept by the always-on part of the Heddle (R394, R442). -/
def isWake (p : Pend) : Bool := Nat.ble 0x1F0 p.source

/-- What a reset of everything but the always-on domain leaves (R425): engine time runs on and the dictionary store keeps its
contents. -/
def rimReset (s : State) : State :=
  let power := { s.power with
    stage := 0, hostLen := 0, hostAsked := false, doff := 0, doffFade := 0, wakeArmed := false, leaving := none, restarting := [0, 0], restarts := [],
    halted := [false, false], held := false, running := [], runKey := 4 }
  { State.reset with
    pending := s.pending
    sent := s.sent
    fresh := s.fresh
    clock := { s.foldSlew.clock with step := 0, set := none, slewing := 0, stepped := false }
    dict := afterReset s.dict
    heddle := { Heddle.reset with pend := s.heddle.pend.filter isWake }
    creel := { Creel.reset with mem := s.creel.mem }
    governor := { Governor.reset with vout := s.governor.vout, lastIout := s.governor.lastIout, stressFrac := s.governor.stressFrac, agedAt := s.governor.agedAt }
    dbg := { Debug.reset with oemHash := s.dbg.oemHash }
    power := power
    ref := { Reference.reset with retainedControl := s.ref.retainedControl }
    links := s.links.map (fun (l : Link) => { Link.reset with stored := l.stored }) }

/-- Resets everything but the always-on domain (R425). Every grant of debug access ends (R455). -/
def resetRim (held : Bool) (s : State) : State :=
  let closed := s.dbg.scope
  let s := showScope (rimReset (resetPins held (cutProgramming s)))
  if closed = 0 then s else s.raise Ev.DEBUG_CLOSED closed

/-- The reset of RESET_N, which leaves closed relays held for 10 ms (R425). -/
def resetEngine (s : State) : State := resetRim true s

/-- Resets everything, the always-on domain included (R425): engine time is 0 and the wake latch clears. Flash and fuses
stay. -/
def resetAll (s : State) : State :=
  let s := resetRim false s
  { s with
    clock := State.reset.clock
    dict := afterPower s.dict
    heddle := Heddle.reset
    governor := { Governor.reset with stressFrac := s.governor.stressFrac }
    power := { s.power with
      coreEn := false, corePg := false, wakeLatch := false, releasedAt := 0, coreEnAt := 0, doffAt := 0, dirtySince := 0, recordAt := 0 }
    creel := Creel.reset }

/-- CORE_EN falls: power good falls with the rail, and what stands on VDD_CORE is lost. -/
def dropCore (s : State) : State :=
  { s with power := { s.power with coreEn := false, corePg := false }, creel := { s.creel with mem := [] } }.emit (.pin "CORE_EN" 0 0)

/-! ## The boot ROM (R373, R375, R428 to R430, R458, R459) -/

/-- BOOT_SRC and BOOT_COLD (R426). -/
def bootSrc (s : State) : Nat := s.rdN Obj.BOOT_STRAPS % 4
def bootCold (s : State) : Bool := bit (s.rdN Obj.BOOT_STRAPS) 2

/-- The flash slot that the boot ROM boots from: the preferred one, else the other (R459). -/
def bootSlot (s : State) : Option Nat :=
  let p := s.rdN Obj.FW_PREFERRED_SLOT % 2
  if imageState s (slotImage s p) = 1 then some p
  else if imageState s (slotImage s (1 - p)) = 1 then some (1 - p)
  else none

/-- The host's image in work RAM from 0x2000_0000, none for a length beyond 16,777,216 (R428). -/
def hostImage (s : State) : List Byte :=
  if 16777216 < s.power.hostLen then [] else (List.range s.power.hostLen).map (fun i => memRead s.creel.mem (0x20000000 + i))

/-- The kind of a start by R429: 2 fallback, 0 cold, 1 warm, with the image that flash would boot. -/
def startKind (s : State) : Nat :=
  let other := match bootSlot s with
    | some n => bootSrc s == 0 && imageId (slotImage s n) != s.power.retainedImage
    | none => false
  if decide (2 ≤ bootSrc s) || (s.rdN Obj.START_FAILS_COLD == 3 && !s.power.attempt) then 2
  else if s.power.attempt || bootCold s || !s.power.retainedValid || other || s.power.wantCold || s.power.coreFailed || s.power.restoreDefaults ||
      s.rdN Obj.START_FAILS_WARM == 3 then 0
  else 1

/-- Counts an attempt of a kind in the record (R435). -/
def countAttempt (s : State) (kind : Nat) : State :=
  let k := if kind = 0 then Obj.START_FAILS_COLD else Obj.START_FAILS_WARM
  s.wr k (min 3 (s.rd k + 1))

/-- Fallback (R436): the minimal image of the boot ROM on core A. -/
def enterFallback (s : State) : State :=
  let s := { s with power := { s.power with stage := 15, attempt := false } }
  let s := ((s.wr Obj.START_KIND 2).wr Obj.FW_RUNNING_SLOT 3).wr Obj.FW_RUNNING_VERSION 0
  showScope (s.raise Ev.FALLBACK_ENTERED (s.rdN Obj.START_FAIL_STAGE))

/-- The verified image runs (R430 steps 2 to 4): BOOT_REMAP and BOOT_LOCK are set, core B is released, and VCORE_HOME_MV is
written. -/
def runImage (s : State) (slot : Nat) (b : List Byte) : State :=
  let s := { s with
    power := { s.power with stage := 4, running := imageId b, runKey := imageKey b }
    creel := { s.creel with remap := true, lock := true } }
  let s := (s.wr Obj.FW_RUNNING_SLOT (slot : Nat)).wr Obj.FW_RUNNING_VERSION (imageVersion b : Nat)
  showSlots (commandVout s (s.rdN Obj.VCORE_HOME_MV))

/-- Core A leaves reset in the boot ROM (R423 step 4): it loads the image of a flash slot, or waits for the host's (R428,
R459). -/
def bootProceeds (s : State) : State :=
  if s.rd Obj.START_KIND = 2 then enterFallback s
  else
    let s := { s with power := { s.power with stage := 2 } }
    if bootSrc s ≠ 0 then s
    else match bootSlot s with
      | none => s
      | some n =>
        let s := if n = s.rdN Obj.FW_PREFERRED_SLOT % 2 then s else s.raise Ev.FW_SLOT_FALLBACK n
        runImage s n (slotImage s n)

/-- Whether nothing holds the engine in reset. -/
def released (s : State) : Bool := s.power.rails && s.power.porst && s.power.resetN && !s.power.thermtrip

/-- The release of reset (R423, R425, R429): the kind of the start is chosen and counted, the saved image read, the bobbins
emptied, and CORE_EN rises `delay` ns later. -/
def releaseReset (s : State) (cause delay : Nat) : State :=
  if !released s then s
  else
    let cause := if s.power.coreFailed && cause != 0 then 4 else cause
    let kind := startKind s
    let s := restoreSaved s
    let s := (s.wr Obj.START_CAUSE (cause : Nat)).wr Obj.START_KIND (kind : Nat)
    let s := if kind = 2 then s else countAttempt s kind
    let s := resetBobbins (showScope s)
    let s := showSlots s
    let rose := !s.power.coreEn
    let s := { s with power := { s.power with
      cause := cause, releasedAt := s.clock.now, wantCold := false, coreFailed := false, coreEn := true,
      coreEnAt := if rose then s.clock.now + delay else s.power.coreEnAt } }
    let s := if !rose then s
      else s.emit (if delay = 0 then .pin "CORE_EN" 0 1 else .pinLater "CORE_EN" 0 1 (s.clock.now + delay))
    if s.power.corePg then bootProceeds s else s

/-- A failed start (R435, R437): the engine resets as by RESET_N; the single attempt leads back to fallback. -/
def failStart (s : State) : State :=
  let stage := s.power.stage
  let kind := s.rdN Obj.START_KIND
  let attempt := s.power.attempt
  let s := { s with power := { s.power with failed := some (kind, stage), attempt := false } }
  let s := (resetEngine s).wr Obj.START_FAIL_STAGE (stage : Nat)
  let s := if attempt then s.wr Obj.START_FAILS_COLD 3 else s
  releaseReset s 3 0

/-- Whether a start is under way: released, and neither in service nor in fallback nor in Doff. -/
def starting (s : State) : Bool :=
  released s && decide (s.power.stage < 5) && s.power.coreEn && decide (s.rd Obj.START_KIND ≠ 2)

/-- POWER_UP (R423 step 0): the always-on rails become valid; the always-on domain is held in reset. -/
def execPowerUp (t : Nat) (s : State) : Result :=
  let s := s.at_ t
  .next (s.whenever (!s.power.rails) (fun s =>
    ({ s with power := { s.power with rails := true } }.wr Obj.REFST_CODE 7).emit (.pin "REFST" 0 7)))

/-- PORST_N_RISE (R423 steps 1 and 2, R425, R426, R437): straps are sampled, engine time starts from 0 and a start begins; `flash` names
the images of a flash that the integrator has fitted since. -/
def execPorstNRise (t straps : Nat) (flash : Option (List Byte × List Byte)) (s : State) : Result :=
  let s := s.at_ t
  .next (s.whenever (s.power.rails && !s.power.porst) (fun s =>
    let s := { s with clock := State.reset.clock, power := { s.power with porst := true } }
    let s := match flash with
      | some f => { s with power := { s.power with slot0 := f.1, slot1 := f.2 } }
      | none => s
    let s := s.wr Obj.BOOT_STRAPS (straps % 8 : Nat)
    let s := { s with power := { s.power with attempt := decide (s.rdN Obj.START_FAILS_COLD = 3) } }
    releaseReset s 0 100000))

/-- PORST_N_FALL (R425): everything is reset, the always-on domain included; RLYn goes low at once. -/
def execPorstNFall (t : Nat) (s : State) : Result :=
  let s := s.at_ t
  .next (s.whenever s.power.porst (fun s =>
    let s := resetAll s
    ({ s with power := { s.power with porst := false } }.wr Obj.REFST_CODE 7).emit (.pin "REFST" 0 7)))

/-- RESET_N_FALL (R425, R443): all but the always-on domain is reset; in Doff it is a wake, at which CORE_EN rises. -/
def execResetNFall (t : Nat) (s : State) : Result :=
  let s := s.at_ t
  .next (s.whenever (s.power.porst && s.power.resetN) (fun s =>
    let wakes := decide (s.power.doff = 3)
    let s := resetEngine s
    let s := { s with power := { s.power with resetN := false } }
    if wakes then { s with power := { s.power with coreEn := true, coreEnAt := s.clock.now } }.emit (.pin "CORE_EN" 0 1) else s))

/-- RESET_N_RISE (R425, R437): a start with cause 1; straps are not sampled again. -/
def execResetNRise (t : Nat) (s : State) : Result :=
  let s := s.at_ t
  .next (s.whenever (s.power.porst && !s.power.resetN) (fun s =>
    let s := { s with power := { s.power with resetN := true, attempt := decide (s.rdN Obj.START_FAILS_COLD = 3) } }
    releaseReset s 1 0))

/-- CORE_PG_RISE (R423 step 3): the boot ROM runs. -/
def execCorePgRise (t : Nat) (s : State) : Result :=
  let s := s.at_ t
  .next (s.whenever (s.power.coreEn && !s.power.corePg && decide (s.power.coreEnAt ≤ s.clock.now) &&
      !(starting s && s.overdue (s.power.coreEnAt + 50000000))) (fun s =>
    let s := { s with power := { s.power with corePg := true }, governor := { s.governor with agedAt := s.clock.now } }
    if released s then bootProceeds s else s))

/-- CORE_PG_TIMEOUT (R423): power good has not risen 50 ms after CORE_EN, so CORE_EN drops and the start has failed. -/
def execCorePgTimeout (t : Nat) (s : State) : Result :=
  let s := s.at_ t
  .next (s.whenever (starting s && !s.power.corePg && s.overdue (s.power.coreEnAt + 50000000)) (fun s => failStart (dropCore s)))

/-- CORE_PG_FALL (R469): as a fall of RESET_N with cause 1; CORE_EN drops and rises again after 100 ms. -/
def execCorePgFall (t : Nat) (s : State) : Result :=
  let s := s.at_ t
  .next (s.whenever s.power.corePg (fun s =>
    if !s.power.coreEn then { s with power := { s.power with corePg := false } }
    else
      releaseReset (dropCore (resetEngine s)) 1 100000000))

/-- THERMTRIP (R407, R408): a sensor at +125 degC: the Treadle outputs go low, THERMTRIP_N goes low, and the engine is held in
reset until power is removed. -/
def execThermtrip (t : Nat) (s : State) : Result :=
  let s := s.at_ t
  .next (s.whenever (s.power.corePg && !s.power.thermtrip) (fun s =>
    let s := resetEngine s
    { s with power := { s.power with thermtrip := true } }.emit (.pin "THERMTRIP_N" 0 0)))

/-- POWER_LOSS (R424, R408, R460): the rails fall at any instant; flash and fuses stay, a save leaves one valid copy, a slot
being programmed is cut off, and a trip, which no reset releases, is released (R475). -/
def execPowerLoss (t : Nat) (s : State) : Result :=
  let s := s.at_ t
  .next (s.whenever s.power.rails (fun s =>
    let s := resetAll s
    { s with power := { s.power with rails := false, porst := false, thermtrip := false } }))

/-! ## The host's image (R428) -/

/-- Verification of the host's image once its length has been written (R428, R458): a valid image runs; a record of another image
makes the start cold. -/
def verifyHost (s : State) : State :=
  if !s.power.hostAsked || s.power.stage != 2 then s
  else
    let s := { s with power := { s.power with hostAsked := false } }
    let b := hostImage s
    if bootSrc s ≠ 1 ∨ imageState s b ≠ 1 then s
    else
      let s := if s.rd Obj.START_KIND = 1 ∧ imageId b ≠ s.power.retainedImage then
          countAttempt ((s.wr Obj.START_KIND 0).wr Obj.START_FAILS_WARM (s.rd Obj.START_FAILS_WARM - 1)) 0
        else s
      runImage s 2 b

/-- BOOT_IMAGE_LEN (R428): a master writes the length of the host's image, which starts verification. -/
def execBootImageLen (t : Nat) (m : Master) (v : Nat) (s : State) : Result :=
  .next (verifyHost (creelAccess m 0x2040C004 true v (s.at_ t)).1)

/-- CREEL_WRITE (R376, R380, R428): words through the creel bridge; a partial word is discarded with code 4. -/
def execCreelWrite (t addr : Nat) (data : List Byte) (s : State) : Result :=
  let s := s.at_ t
  .next (s.whenever (hostPortUp s) (fun s => verifyHost (bridgeWrites addr data s)))

/-- CREEL_TRANSACTION (R369 to R374): the requests of one creel cycle and those that wait are arbitrated and served. -/
def execCreelTransaction (t : Nat) (reqs : List (Master × CreelOp)) (s : State) : Result :=
  .next (verifyHost (arbitrate (s.at_ t) reqs))

/-! ## The steps to service (R430, R433, R435) -/

/-- Whether all shuttles of a harness pass its self-test: no error, and a new rating of 360 Mop/s or more (R410). -/
def testPasses (s : State) (h : Nat) (r : SelfTest) : Bool :=
  r.pass.all (fun b => b) && ((shuttlesOf s h).zip r.speeds).all (fun e => decide (360 ≤ newRating s e.1 (slowing s e.1 e.2)))

/-- The cold self-test of all nine harnesses (R410, R430 step 8): ratings, and H8 as the reserve; a failed harness is retired
and the reserve takes its place (R117, R118). A harness that was retired before stays so, whatever its test shows (R118). -/
def testHarnesses (rs : List SelfTest) (s : State) : State :=
  let was := s.rdN Obj.RETIRED_HARNESSES
  let s := s.each ((List.range 9).zip rs) (fun s p =>
    let shs := shuttlesOf s p.1
    let s := s.each (shs.zip p.2.speeds) rateShuttle
    let good := (shs.zip p.2.pass).filter (fun (q : Nat × Bool) => passes s q.2 q.1)
    let ok := decide (good.length = shs.length) && !bit was p.1
    let s := s.wr (Obj.MEND_LAST + p.1) (time80 s.engineNs : Nat)
    if ok then (setHarness s p.1 (if p.1 = 8 then 1 else 0)).wr (Obj.MEND_RESULT + p.1) 1
    else
      let s := (setHarness s p.1 4).wr (Obj.MEND_RESULT + p.1) 2
      s.each shs (fun s sh => s.wr (Obj.SHUTTLE_RATING + sh) 0))
  let bad := (List.range 9).filter (fun h => s.harnessState h == 4 || bit was h)
  let s := s.each bad (fun s h => setHarness s h 4)
  let s := s.wr Obj.RETIRED_HARNESSES ((bad.map (fun h => 2 ^ h)).sum : Nat)
  let s := if bad.isEmpty then s.wr Obj.RESERVE_HARNESS 8
    else (if s.harnessState 8 = 1 then setHarness s 8 0 else s).wr Obj.RESERVE_HARNESS 0xFF
  agingAhead s (List.range 54)

/-- Harness states of a warm start, from the record (R430 step 8, R431). -/
def recallHarnesses (s : State) : State :=
  let retired := s.rdN Obj.RETIRED_HARNESSES
  s.each (List.range 9) (fun s h =>
    setHarness s h (if bit retired h then 4 else if s.rdN Obj.RESERVE_HARNESS = h then 1 else 0))

/-- The graph compiled at a start (R430 step 12): it runs, or the engine starts with none; every element starts from cleared
state (R80). -/
def startGraph (s : State) : State :=
  let d := graphOf s.dict
  let s := match compile s d with
    | .ok p => (switchPlan s p).wr Obj.GRAPH_GENERATION (s.rd Obj.GRAPH_GENERATION)
    | .error e => graphRefused s e
  let graph := { s.graph with
    fades := [], tails := [], shifts := [], ramps := [], past := [], olds := [], loads := [],
    works := s.graph.works.map (fun (w : Work) => { w with start := (s.clock.pick + 1) * s.pl, next := s.clock.pick + 1 }) }
  { s with graph := graph }

/-- The rim at a start: audio ports, streams, reference slots, spindles, timing outputs and enabled Swiska ports begin anew. -/
def startRim (s : State) : State :=
  let s := s.each (List.range 16) (fun s p => tdmWritten s p)
  let s := s.each ((List.range 12).map (fun p => p + 16)) (fun s p => s.setPortState p (if portOn s p then 1 else 0))
  let s := s.each (List.range 256) (fun s n => if s.on (rxKey n 1) then restartRx s n else s)
  let s := s.each (List.range 64) (fun s m => if s.on (cutKey m 1) then restartCuts s m else s)
  let s := s.each slots (fun s k => if s.candType k = 0 then s else ptpSlotWritten (candWritten s k) k)
  let s := s.wr Obj.REF_SELECTED (s.oscillator.getD 0xFF : Nat)
  let s := s.wr Obj.SP_HOLD_TIMER_S (holdTimer (s.rdN Obj.SP_HOLD_SPEC_PPB) (s.rdN Obj.XO_DRIFT) : Nat)
  let s := s.each [2, 3, 4, 5, 6, 7] (fun s n => if s.rd (ix Obj.SP_SOURCE n) = 0 then s else spWritten s n)
  let s := s.each (List.range 6) (fun s k => if s.rdN (ix Obj.OUT_SPINDLE k) = 0xFF then s else outputStarts s k)
  let s := s.each (List.range 6) (fun s p => if s.on (ix Obj.SW_ENABLE p) then swStart s p else s)
  showStreams (showLoads s)

/-- SP1 starts in free-run: at the nominal frequency corrected by XO_OFFSET_PPB, or at the control value of the record (R430
step 14). -/
def startSpindles (s : State) : State :=
  let nominal := s.rd Obj.XO_OFFSET_PPB * 1000
  let warm := if s.rd Obj.START_KIND = 1 then s.ref.retainedControl else none
  let v := warm.getD nominal
  { s with ref := { s.ref with warmControl := warm } }.each [0, 1] (fun s n => s.wr (ix Obj.SP_CONTROL n) v)

/-- The lease at a start (R309, R433): a paired engine starts as standby and searches. -/
def startTwin (s : State) : State :=
  let s := s.setTwin (fun w => { w with startAt := s.engineNs, fadeAt := s.nextSample, installed := true })
  if s.on Obj.TWIN_ENABLE then showGuard ((s.wr Obj.LEASE_ROLE 0).setTwinState 1)
  else (showGuard (s.wr Obj.LEASE_ROLE 1)).emit (.pin "AUTHORITY" 0 1)

/-- Reaching stage 5 (R430 step 15, R435). -/
def enterService (s : State) : State :=
  let kind := s.rdN Obj.START_KIND
  let failed := s.power.failed
  let found := s.power.retainedValid
  let power := { s.power with
    stage := 5, attempt := false, failed := none, retainedValid := true, retainedImage := s.power.running, recordAt := s.clock.now }
  let s := { s with power := power }
  let s := ((s.wr Obj.START_FAILS_WARM 0).wr Obj.START_FAILS_COLD 0).bump Obj.START_COUNT
  let s := s.wr Obj.START_TIME_MS ((s.clock.now - s.power.releasedAt) / 1000000 : Nat)
  let s := s.wr Obj.RETAINED_VALID (if found then 1 else 0)
  let s := s.raise Ev.START_DONE (arg2 kind (s.rdN Obj.START_CAUSE))
  let s := match failed with
    | some f => s.raise Ev.START_RETRIED (arg2 f.1 f.2)
    | none => s
  showScope (showReference (enterFiltered s))

/-- Transfers per microsecond of a data rate. -/
def ddrMts : DdrRate → Nat
  | .mts6400 => 6400
  | .mts5500 => 5500
  | .mts4266 => 4266

/-- What LPDDR5 training found (R106, R430 step 9, R435): two channels of 32 bits carry 8 octets in a transfer, of which 60 % are the
budget. -/
def ddrTrained (s : State) : DdrTraining → State
  | .trained mib rate => (s.wr Obj.DDR_FITTED_MIB (mib : Nat)).wr Obj.DDR_BW_BUDGET (ddrMts rate * 8 * 60 / 100 : Nat)
  | .failed channel => ((s.wr Obj.DDR_FITTED_MIB 0).wr Obj.DDR_BW_BUDGET 0).raise Ev.DDR_TRAIN_FAILED channel.val

/-- Whether stage 5 is later than 60 s after the release of reset for a cold start, 20 s for a warm one (R435). -/
def startOverdue (s : State) : Bool :=
  s.overdue (s.power.releasedAt + (if s.rd Obj.START_KIND = 0 then 60000000000 else 20000000000))

/-- A cold start trains its links from SW_TX_PRESET: no stored equalization is left (R430 step 13). -/
def forgetTaps (s : State) : State :=
  { s with links := s.links.map (fun (l : Link) => { l with stored := [] }) }.each (List.range 6) (fun s p =>
    s.wr (ix Obj.SW_EQ_STORED_LOOM p) 0)

/-- START_DONE (R430, R433, R435): the steps of the start complete. `ddr` is what LPDDR5 training found, `selfTests` the
harness self-tests of a cold start. -/
def execStartDone (t : Nat) (ddr : DdrTraining) (selfTests : List SelfTest) (s : State) : Result :=
  let s := s.at_ t
  let cold := s.rd Obj.START_KIND = 0
  let bad := (((List.range 9).zip selfTests).filter (fun (e : Nat × SelfTest) => !testPasses s e.1 e.2)).length
  .next (s.whenever (s.power.stage == 4 && (s.rd Obj.START_KIND != 0 || decide (bad ≤ 1)) && s.coreRuns 0 && s.coreRuns 1 &&
      !startOverdue s) (fun s =>
    let s := if cold then forgetTaps { s with dict := afterCold s.dict } else s
    let s := s.wr Obj.ENGINE_RATE_RUNNING (s.rd Obj.ENGINE_RATE)
    let s := { s with clock := { s.clock with pick := s.sampleNow / s.pl } }
    let s := (s.wr Obj.PICK_COUNT (s.clock.pick : Nat)).wr Obj.BATTEN_TIME (time80 (s.battenNs s.clock.pick) : Nat)
    let s := s.each (List.range 32) (fun s n => s.wr (ix Obj.TD_ENABLE n) (s.rd (ix Obj.TD_AUTOSTART n)))
    let s := showBudgets (if cold then testHarnesses selfTests s else recallHarnesses s)
    let s := ddrTrained s ddr
    let s := startRim (startGraph (startSpindles s))
    let s := s.each (List.range 32) thermalStarts
    enterService (driveSdclk (showReserve (startTwin s)))))

/-- START_TIMEOUT (R435): stage 5 not reached within 60 s of a cold, 20 s of a warm start. -/
def execStartTimeout (t : Nat) (s : State) : Result :=
  let s := s.at_ t
  .next (s.whenever (starting s && startOverdue s) failStart)

/-- START_FAILED (R435): no valid image, an invalid host image, or more than one harness that fails its self-test. -/
def execStartFailed (t : Nat) (c : StartFault) (s : State) : Result :=
  let s := s.at_ t
  let comes := match c with
    | .imageInvalid => s.power.stage == 2 && bootSrc s == 0 && (bootSlot s).isNone
    | .hostImage => s.power.stage == 2 && bootSrc s == 1 && s.power.hostLen != 0 && !s.power.hostAsked && imageState s (hostImage s) != 1
    | .selfTest => s.power.stage == 4 && s.rd Obj.START_KIND == 0
  .next (s.whenever comes failStart)

/-- CORE_RESTARTED (R368, R435, R456): a watchdog ran 10 ms without a restart; before stage 5 the start fails. -/
def execCoreRestarted (t : Nat) (core : Fin 2) (s : State) : Result :=
  let s := s.at_ t
  .next (s.whenever (mayRestart s core.val) (fun s =>
    let s := restartCore s core.val
    if s.power.stage = 4 then failStart s else s))

/-! ## The record (R431) and START_REQUEST (R434) -/

/-- Writes the retained record (R431), with the mean control value of the latest 60 s. -/
def writeRecord (s : State) : State :=
  let latest := (s.ref.history.filter (fun (h : Nat × Int) => decide (s.clock.now < h.1 + 60000000000))).map (fun (h : Nat × Int) => h.2)
  { s with
    ref := { s.ref with retainedControl := if latest.isEmpty then s.ref.retainedControl else some (meanOf latest) }
    power := { s.power with recordAt := s.clock.now, retainedValid := true, retainedImage := s.power.running } }

/-- The end of a START_REQUEST (R434): the image and the record are written, and the engine resets itself as by RESET_N. -/
def leaveService (s : State) (cold : Bool) : State :=
  let s := writeRecord (saveImage s)
  releaseReset (resetEngine { s with power := { s.power with wantCold := cold } }) 2 0

/-- A write of START_REQUEST (R434, R437, R460): in service programming ends, every running channel stops and the lease is released; the
fade-out and the reset follow at battens. In fallback the engine resets at once, for the single attempt when the start is cold. -/
def requestStart (s : State) (cold : Bool) : State :=
  if s.power.stage = 15 then
    releaseReset (resetEngine (endProgramming { s with power := { s.power with wantCold := cold, attempt := cold } })) 2 0
  else if s.power.stage ≠ 5 then leaveService (endProgramming s) cold
  else match s.power.leaving with
    | some p => { s with power := { s.power with leaving := some (cold, p.2) } }
    | none =>
      let s := endProgramming { s with power := { s.power with leaving := some (cold, s.clock.now) } }
      let s := s.each (List.range 32) (fun s n => stopChannel s n 0)
      if s.on Obj.TWIN_ENABLE && s.holds then releaseLease s false else s

/-- A START_REQUEST at a batten (R434): once every channel rests the port outputs fade out over 10 ms, and then, at the latest 300 ms after
the write, the engine leaves. -/
def leaveBatten (s : State) : State :=
  match s.power.leaving with
  | none => s
  | some (cold, since) =>
    let faded := s.power.doffFade != 0 && decide (s.power.doffFade + s.msSamples 10 ≤ s.sampleNow)
    if faded || s.ran since 300000000 then leaveService s cold
    else if s.power.doffFade = 0 && channelsRest s then
      { s with power := { s.power with doffFade := max 1 (s.clock.pick * s.pl) } }
    else s

/-! ## The record and the wakes (R431, R439 to R443) -/

/-- RETAINED_RECORD_WRITE (R431): every 600 s while SP1 is locked. -/
def execRetainedRecordWrite (t : Nat) (s : State) : Result :=
  let s := s.at_ t
  .next (s.whenever (s.power.stage == 5 && s.rd Obj.TIME_STATE == 2 && s.ran s.power.recordAt 600000000000) writeRecord)

/-- A wake from Doff (R443): CORE_EN rises and a start with cause 5 begins. -/
def leaveDoff (s : State) : State := releaseReset { s with power := { s.power with doff := 0, wakeArmed := false } } 5 0

/-- An enabled wake source from step 0 of Doff entry on (R441 to R443): its record is pending, the latch is set, and in Doff the
engine wakes. -/
def wake (s : State) (src : Nat) : State :=
  let s := s.raise src 0
  let s := if s.rdN Obj.WAKE_CAUSE = 0xFFFF then s.wr Obj.WAKE_CAUSE (src : Nat) else s
  let s := { s with power := { s.power with wakeLatch := true } }
  if s.power.doff = 3 then leaveDoff s else s

/-- Whether wake sources are armed (R440). -/
def armed (s : State) : Bool := decide (2 ≤ s.power.doff) && released s

/-- WAKE_TIMER (R442): the first instant of engine time at or after DOFF_WAKE_TIME. -/
def execWakeTimer (t : Nat) (s : State) : Result :=
  let s := s.at_ t
  let at_ := s.rdN Obj.DOFF_WAKE_TIME
  .next (s.whenever (armed s && at_ != 0 && decide (time80Ns at_ ≤ s.engineNs)) (fun s => wake s Ev.WAKE_TIMER))

/-- WAKE_IN (R442): a rising edge of an enabled wake input, held for 1 us. -/
def execWakeIn (t : Nat) (n : Fin 4) (s : State) : Result :=
  let s := s.at_ t
  .next (s.whenever (armed s && bit (s.rdN Obj.DOFF_WAKE_IN) n.val) (fun s => wake s (Ev.WAKE_IN0 + n.val)))

/-- WAKE_CP_LINK (R253, R442): a change of CP's link state. -/
def execWakeCpLink (t : Nat) (s : State) : Result :=
  let s := s.at_ t
  .next (s.whenever (armed s && s.on Obj.WAKE_ON_LINK) (fun s =>
    let s := if s.power.wakeLatch then s else s.wr Obj.WAKE_MATCH (Nat.lor (s.rdN Obj.WAKE_MATCH) 256 : Nat)
    wake s Ev.WAKE_CP_LINK))

/-- FRAME_RX (R223, R229, R252, R253): a frame at a MAC. From Doff entry on CP passes good frames to the wake filters too, and in
Doff to nothing else; frames after the waking one are discarded. -/
def execFrameRx (t : Nat) (mac : Fin 3) (f : EthFrame) (s : State) : Result :=
  let s := s.at_ t
  let m := mac.val
  let hits := if armed s && m == 2 && f.fcsGood && !f.codeError then wakeMatches s f.octets else []
  let s := if s.power.doff < 3 && (s.power.stage == 5 || s.power.stage == 4 || s.power.stage == 15) then frameRx m f s else s
  match hits with
  | [] => .next s
  | first :: _ =>
    let s := if s.power.wakeLatch then s
      else (s.wr Obj.WAKE_MATCH ((hits.map (fun n => 2 ^ n)).sum : Nat)).wrV Obj.WAKE_FRAME (.bytes f.octets)
    let s := s.each (hits.drop 1) (fun s n => s.raise (Ev.WAKE_FILTER0 + n) 0)
    .next (wake s (Ev.WAKE_FILTER0 + first))

end Machine
end Sys2Proof
end

