-- ==== Sys2Proof/Machine/Session.lean ====
section
/-! DEFINITION. Hapol sessions and what belongs to them (R354, R358, R362, R363, R365): rights, claims, subscriptions, their
objects, and the end of a session. -/

namespace Sys2Proof
namespace Machine

/-- Changes the agent. -/
def State.setAgent (s : State) (f : Agent → Agent) : State := { s with agent := f s.agent }

/-- Whether the firmware that serves Hapol runs (R368, R436, R456). -/
def agentRuns (s : State) : Bool := (s.power.stage == 4 || s.power.stage == 5 || s.power.stage == 15) && s.coreRuns 0

/-- A session by its ID. -/
def sessionOf (s : State) (id : Nat) : Option Session := s.agent.sessions.find? (fun x => x.id == id)

/-- Changes a session. -/
def State.setSession (s : State) (id : Nat) (f : Session → Session) : State :=
  s.setAgent (fun a => { a with sessions := change a.sessions (fun x => x.id == id) f })

/-- Whether a session is open: untagged, or proved (R359). -/
def isOpen (x : Session) : Bool := x.proved

/-- HAPOL_SESSIONS_USED. -/
def showSessions (s : State) : State := s.wr Obj.HAPOL_SESSIONS_USED ((s.agent.sessions.filter isOpen).length : Nat)

/-- SESSION_SUBS of a session. -/
def showSubs (s : State) (id : Nat) : State :=
  match sessionOf s id with
  | some x => s.wr (ix Obj.SESSION_SUBS x.slot) ((s.agent.subs.filter (fun u => u.session == id)).length : Nat)
  | none => s

/-- The objects of an open session. -/
def showSession (s : State) (x : Session) : State :=
  let s := s.wr (ix Obj.SESSION_ID x.slot) (x.id : Nat)
  let s := s.wr (ix Obj.SESSION_PATH x.slot) (pathCode x.path : Nat)
  let s := s.wr (ix Obj.SESSION_PEER x.slot) (x.peer : Nat)
  let s := s.wr (ix Obj.SESSION_RIGHTS x.slot) (x.rights : Nat)
  showSessions (s.wr (ix Obj.SESSION_KEY_ID x.slot) (x.keyId : Nat))

/-- Lowest free session slot (R359). -/
def freeSlot (s : State) : Option Nat := (List.range 32).find? (fun n => !s.agent.sessions.any (fun x => x.slot == n))

/-! ## The field-network bobbin (R354) -/

/-- Field records for which no session is left to acknowledge leave the bobbin (R354). -/
def freeRecords (s : State) : State :=
  let done := (s.heddle.fieldWait.filter (fun e => e.2.isEmpty)).map (fun (e : Nat × List Nat) => e.1)
  if done.isEmpty then s
  else
    let s := { s with heddle := { s.heddle with fieldWait := s.heddle.fieldWait.filter (fun e => !e.2.isEmpty) } }
    s.putBobbin 3 (s.heddle.bobbin3.filter (fun r => !done.contains r.seq))

/-- A session no longer has to acknowledge the field records that satisfy p. -/
def unwait (id : Nat) (p : Nat → Bool) (s : State) : State :=
  let wait := s.heddle.fieldWait.map (fun (e : Nat × List Nat) => if p e.1 then (e.1, e.2.filter (fun i => i != id)) else e)
  freeRecords { s with heddle := { s.heddle with fieldWait := wait } }

/-- Whether a session holds an events subscription. -/
def hearsEvents (s : State) (id : Nat) : Bool := s.agent.subs.any (fun u => u.session == id && u.events)

/-- Once a session holds no events subscription, it has nothing to acknowledge. -/
def eventsEnd (s : State) (id : Nat) : State :=
  if hearsEvents s id then s
  else unwait id (fun _ => true) (s.setAgent (fun a => { a with notifies := a.notifies.filter (fun n => n.session != id) }))

/-! ## The end of a session (R363) -/

/-- A session ends: its claims, subscriptions and transfers go, its objects clear, and a grant that it opened ends (R363, R455).
Its timed actions stay queued. -/
def endSession (id : Nat) (s : State) : State :=
  match sessionOf s id with
  | none => s
  | some x =>
    let s := s.setAgent (fun a =>
      { a with
        sessions := a.sessions.filter (fun y => y.id != id)
        claims := a.claims.filter (fun c => c.session != id)
        subs := a.subs.filter (fun u => u.session != id)
        xfers := a.xfers.filter (fun f => f.session != id) })
    let s := { s with dict := (List.range 7).foldl (fun (d : Map Val) (n : Nat) => mapDel d (ix Obj.SESSION_ID x.slot + n)) s.dict }
    endGrantOf id (eventsEnd (showClaims (showSessions s)) id)

/-- Every session ends (R363). -/
def endSessions (s : State) : State := s.each (s.agent.sessions.map (fun x => x.id)) (fun s id => endSession id s)

/-- SESSION_IDLE (R363): no accepted message for HAPOL_SESSION_IDLE_S. -/
def execSessionIdle (t session : Nat) (s : State) : Result :=
  let s := s.at_ t
  .next (match sessionOf s session with
    | some x => s.whenever (agentRuns s && s.overdue (x.lastAt + s.rdN Obj.HAPOL_SESSION_IDLE_S * 1000000000)) (endSession session)
    | none => s)

/-! ## Rights and ownership (R358, R362, R365) -/

/-- Rights of a writer: those of its session, or of its path without one. On failure the status: AUTH_REQUIRED or
SESSION_UNKNOWN. -/
def writerRights (s : State) (w : Writer) : Except Nat Nat :=
  if w.session = 0 then
    match w.path with
    | .mailbox => if s.on Obj.HAPOL_AUTH_MAILBOX then .error Status.AUTH_REQUIRED else .ok 3
    | .swiska => .error Status.AUTH_REQUIRED
    | _ => if s.on Obj.HAPOL_AUTH_NET then .error Status.AUTH_REQUIRED else .ok 1
  else match sessionOf s w.session with
    | some x => if isOpen x then .ok x.rights else .error Status.SESSION_UNKNOWN
    | none => .error Status.SESSION_UNKNOWN

/-- Whether an index lies in a claim. -/
def inClaim (c : Claim) (i : Nat) : Bool := Nat.ble c.first i && Nat.ble i c.last

/-- Whether another session has claimed the range of a key (R365). -/
def ownedByOther (s : State) (w : Writer) (k : Nat) : Bool :=
  s.agent.claims.any (fun c => inClaim c (keyIndex k) && c.session != w.session)

/-- Session slot that SESSION_CLOSE names. -/
def closeSlot (k : Nat) : Nat := keyIndex k - keyIndex Obj.SESSION_CLOSE

/-- Session in a slot; 0 none. -/
def slotSession (s : State) (slot : Nat) : Nat :=
  match s.agent.sessions.find? (fun x => x.slot == slot && isOpen x) with | some x => x.id | none => 0

/-- Whether a key is SESSION_CLOSE of a slot. -/
def isClose (k : Nat) : Bool := keySub k == 8 && Nat.ble 0xC610 (keyIndex k) && Nat.ble (keyIndex k) 0xC62F

/-- Rights that a write of a key needs (R358, R363, R365). -/
def rightsNeeded (s : State) (w : Writer) (k : Nat) : Nat :=
  if isClose k then (if w.session != 0 && slotSession s (closeSlot k) == w.session then 0 else 3)
  else if Nat.ble 0xD000 (keyIndex k) && Nat.ble (keyIndex k) 0xDFFF then 3
  else if k = Obj.HAPOL_CLAIM_BREAK then 3
  else if k = Obj.HAPOL_CLAIM ∨ k = Obj.HAPOL_RELEASE then 2
  else 1

/-- The check of rights, ownership and authority for a write of a key (R296, R350, R358, R365). -/
def mayWrite (s : State) (w : Writer) (k : Nat) : Nat :=
  match writerRights s w with
  | .error e => e
  | .ok r =>
    if r < rightsNeeded s w k then Status.RIGHTS
    else if ownedByOther s w k then Status.NOT_OWNER
    else if isShared k && s.on Obj.TWIN_ENABLE && !s.holds then Status.NOT_AUTHORITY
    else Status.OK

/-! ## Claims (R365) -/

/-- First and last index of a claim value. -/
def claimFirst (v : Nat) : Nat := v / 65536
def claimLast (v : Nat) : Nat := v % 65536

/-- The check of HAPOL_CLAIM (R365): a claim needs a session, an ordered range without another session's claim, room, and, in a
shared range of a pair, the lease. -/
def claimStatus (s : State) (w : Writer) (v : Nat) : Nat :=
  let c : Claim := ⟨w.session, claimFirst v, claimLast v⟩
  if w.session = 0 then Status.STATE
  else if c.last < c.first then Status.RANGE
  else if s.agent.claims.any (fun o => o.session != w.session && Nat.ble o.first c.last && Nat.ble c.first o.last) then Status.CLAIMED
  else if 128 ≤ s.agent.claims.length ∨ 16 ≤ (s.agent.claims.filter (fun o => o.session == w.session)).length then Status.STATE
  else if sharedClaim c && s.on Obj.TWIN_ENABLE && !s.holds then Status.NOT_AUTHORITY
  else Status.OK

/-- HAPOL_CLAIM: the range belongs to the session; a claim that it already holds stands once. -/
def takeClaim (s : State) (session v : Nat) : State :=
  let c : Claim := ⟨session, claimFirst v, claimLast v⟩
  if s.agent.claims.contains c then s else showClaims (s.setAgent (fun a => { a with claims := a.claims ++ [c] }))

/-- HAPOL_RELEASE: the writer's own claim of exactly that range goes. -/
def releaseClaim (s : State) (session v : Nat) : State :=
  showClaims (s.setAgent (fun a => { a with claims := a.claims.filter (fun c => c != ⟨session, claimFirst v, claimLast v⟩) }))

/-- HAPOL_CLAIM_BREAK: any claim of exactly that range goes, and HAPOL_CLAIM_DROPPED is raised. -/
def breakClaim (s : State) (v : Nat) : State := dropClaims (fun c => c.first == claimFirst v && c.last == claimLast v) s

end Machine
end Sys2Proof
end

