-- ==== Sys2Proof/Machine/Relations.lean ====
section
/-! DEFINITION. What a written value may not break (R39, R52, R138, R147, R152, R160, R172, R183, R195, R202, R218, R225, R235,
R236, R240, R244, R287, R291, R293, R312, R313, R331, R333, R336, R365, R394, R434, R439, R449, R453, R459 to R461): relations
with other objects, with the graph and with the state of the engine, and their status codes (R488). Each check judges
the state `n` that the write would leave beside the state `s` that it meets. -/

namespace Sys2Proof
namespace Machine

/-- OK when a condition holds, else a status. -/
def need (c : Bool) (e : Nat) : Nat := if c then Status.OK else e

/-- The first status of a list that is not OK. -/
def firstBad : List Nat → Nat
  | [] => Status.OK
  | e :: r => if e = Status.OK then firstBad r else e

/-- The number of a unit whose objects stand at `first`, `first + 1`, ... when an index lies in their range. -/
def unitAt (i first count : Nat) : Option Nat := if first ≤ i ∧ i < first + count then some (i - first) else none

/-- The check of the unit that an index belongs to; OK outside the range. -/
def forUnit (i first count : Nat) (f : Nat → Nat) : Nat :=
  match unitAt i first count with
  | some u => f u
  | none => Status.OK

/-! ## References, spindles and timing outputs -/

/-- Units of a source type of REF_CAND_SOURCE (R151). -/
def candUnits (type : Nat) : Nat :=
  match type with | 0 => 256 | 1 => 3 | 2 => 6 | 3 => 2 | 4 => 2 | 5 => 8 | 6 => 4 | 7 => 1 | _ => 0

/-- Whether a value names a source that exists. -/
def candOk (v : Nat) : Bool := decide (v / 256 ≤ 7) && decide (v % 256 < candUnits (v / 256))

/-- The rates that a MADI output mode admits (R202). -/
def madiRateOk (mode mHz : Nat) : Bool :=
  match mode with
  | 0 => true
  | 1 => decide (28000000 ≤ mHz) && decide (mHz ≤ 54000000)
  | 2 => nominalOf mHz == 2 || nominalOf mHz == 3
  | _ => nominalOf mHz == 4 || nominalOf mHz == 5

/-- Whether a MADI output suits the rate of its spindle. -/
def madiFits (n : State) (u : Nat) : Bool :=
  madiRateOk (n.rdN (ix Obj.MADI_OUT_MODE u)) (spindleRate n (n.rdN (ix Obj.MADI_OUT_SPINDLE u)))

/-- Whether the pulse width of a timing output suits its rate (R183). -/
def outFits (n : State) (k : Nat) : Bool := widthFits (outRate n k) (n.rdN (ix Obj.OUT_WIDTH_NS k))

/-- Whether the bit clock and the masks of a TDM port suit its slots (R195). -/
def tdmFits (n : State) (p : Nat) : Bool :=
  let slotCount := n.rdN (ix Obj.TDM_SLOTS p)
  bclkFits slotCount (portRate n p) && decide (n.rdN (ix Obj.TDM_RX_MASK p) < 2 ^ slotCount) &&
    decide (n.rdN (ix Obj.TDM_TX_MASK p) < 2 ^ slotCount)

/-- Candidates (R151, R152, R160), spindles (R172) and timing outputs (R183). -/
def relReference (s n : State) (i p v : Nat) : Nat :=
  firstBad [
    need (!(i == 0x2003 || i == 0x2004) || decide (n.rd Obj.REF_SOFT_PPB < n.rd Obj.REF_HARD_PPB)) Status.CONFLICT,
    forUnit i 0x2100 24 (fun k => firstBad [
      need (!(p == 1) || candOk v) Status.RANGE,
      need (!(p == 1 || p == 2 || p == 9) || s.selected != k) Status.STATE]),
    forUnit i 0x2200 8 (fun _ => firstBad [
      need (!(p == 2) || v == 0 || s.candType (v - 1) != 0) Status.CONFLICT,
      need (!(p == 3) || ((List.range 6).all (outFits n) && (List.range 4).all (madiFits n) && (List.range 16).all (tdmFits n)))
        Status.CONFLICT]),
    forUnit i 0x2400 6 (fun k => need (!(p == 1 || p == 3) || outFits n k) Status.CONFLICT)]

/-! ## Audio ports -/

/-- Whether a value of WG_MEMBER names a unit: 0, or a port or stream as a whole (R218). The number of the unit is not checked, which is
the model's choice (log entry 259). -/
def memberOk (v : Nat) : Bool := v == 0 || (decide (1 ≤ idKind v) && decide (idKind v ≤ 5) && idChannel v == 0xFFF)

/-- Whether a unit stands in a group other than g. -/
def inOtherGroup (s : State) (g v : Nat) : Bool :=
  v != 0 && (List.range 32).any (fun h => h != g && (List.range 32).any (fun m => s.rdN (ix Obj.WG_MEMBER h + m) == v))

/-- TDM ports (R194, R195), MADI outputs (R202) and warp groups (R218). -/
def relPorts (s n : State) (i p v : Nat) : Nat :=
  firstBad [
    forUnit i 0x3000 16 (fun u => firstBad [
      need (!(p == 3) || !tdmMaster s u) Status.STATE,
      need (tdmFits n u) Status.CONFLICT]),
    forUnit i 0x3208 4 (fun u => need (madiFits n u) Status.CONFLICT),
    forUnit i 0x3400 32 (fun g =>
      if 3 ≤ p then firstBad [need (memberOk v) Status.RANGE, need (!inOtherGroup s g v) Status.CONFLICT] else Status.OK)]

/-! ## MACs and streams -/

/-- Identifiers of outside sources or destinations that a copy names (R46, R97, R128). -/
def namedIds (d : Map Val) (asDest : Bool) : List Nat :=
  let ports := ((asrcPorts d).filter (fun (q : Nat × Nat) => decide (shapeOf d q.1 Par.ASRC_DIR = if asDest then 1 else 0))).map
    (fun (q : Nat × Nat) => q.2)
  (if asDest then (edgesOf d).map (fun (e : Edge) => e.dest) ++ (List.range 64).map (fun o => (Val.int (getIn d (ix Obj.SELV_DEST o))).toNat)
   else sourcesOf d ++ selvSources d) ++ ports

/-- Whether the running graph names no channel of a stream at or beyond a count (R244, R294). -/
def channelsCover (s : State) (asDest : Bool) (kind unit count : Nat) : Bool :=
  (namedIds s.run asDest).all (fun i => !(idKind i == kind && idUnit i == unit) || decide (idChannel i < count))

/-- Whether a netmask is contiguous (R224). -/
def contiguous (v : Nat) : Bool := (List.range 33).any (fun n => v + 2 ^ n == 2 ^ 32)

/-- Whether MAC_MODE suits the MAC: RGMII on CP, the others on media ports. -/
def macModeOk (m v : Nat) : Bool := v == 0 || (if m = 2 then v == 4 else decide (v ≤ 3))

/-- The bulk priority differs from those of media and PTP (R225). -/
def prioOk (n : State) (m : Nat) : Bool :=
  n.rd (ix Obj.PFC_PRIORITY m) != n.rd (ix Obj.PCP_MEDIA m) && n.rd (ix Obj.PFC_PRIORITY m) != n.rd (ix Obj.PCP_PTP m)

/-- Whether a receive destination is unset, multicast, or the own address of the leg's MAC (R240). -/
def rxDestOk (s : State) (leg v : Nat) : Bool := v == 0 || isMulticast v || v == s.rdN (ix Obj.IP_ADDRESS leg)

/-- Channel count of a stream against its format, rate and packet time (R235). -/
def channelsOk (n : State) (tx : Bool) (u : Nat) : Bool :=
  let x := streamSet n tx u 0 0
  decide (x.getD 2 0 ≤ maxChannels (x.getD 1 0) (x.getD 3 0) (x.getD 4 0)) && (x.getD 1 0 != 2 || decide (x.getD 2 0 % 2 = 0))

/-- The limits of a media stream (R235, R236, R240, R244). -/
def relStream (s n : State) (tx : Bool) (u p v : Nat) : Nat :=
  firstBad [
    need (!(tx && p == 9) || decide (v % 2 = 0)) Status.RANGE,
    need (!(!tx && (p == 7 || p == 8)) || rxDestOk s (p - 7) v) Status.RANGE,
    need (!(p == 2 || p == 3 || p == 4 || p == 5) || channelsOk n tx u) Status.CONFLICT,
    need (!(p == 1 || p == 3) || decide (channelsUsed n tx 0 0 ≤ 2048)) Status.CONFLICT,
    need (!(decide (1 ≤ p) && decide (p ≤ 6) && n.on (streamKey tx u)) || bandwidthFits n 0 0) Status.CONFLICT,
    need (!(p == 3) || channelsCover s tx 4 u v) Status.CONFLICT,
    need (tx || !rxClash n u 0 0) Status.CONFLICT]

/-- MACs (R224, R225, R236) and media streams. -/
def relNetwork (s n : State) (i p v : Nat) : Nat :=
  firstBad [
    forUnit i 0xC000 3 (fun m => firstBad [
      need (!(p == 1) || macModeOk m v) Status.RANGE,
      need (!(p == 1) || bandwidthFits n 0 0) Status.CONFLICT,
      need (!(p == 4) || contiguous v) Status.RANGE,
      need (!(p == 7 || p == 8 || p == 9) || prioOk n m) Status.CONFLICT]),
    forUnit i 0xC400 256 (fun u => relStream s n false u p v),
    forUnit i 0xC500 256 (fun u => relStream s n true u p v)]

/-! ## Swiska -/

/-- Whether the selected reference stands on a Swiska port (R293). -/
def referenceOn (s : State) (port : Nat) : Bool :=
  s.selected != 0xFF && s.candType s.selected == 2 && s.candUnit s.selected == port

/-- Swiska ports (R283, R293) and streams (R287, R291, R294). -/
def relSwiska (s n : State) (i p v : Nat) : Nat :=
  firstBad [
    forUnit i 0xB000 6 (fun u => need (!(p == 5) || v == 0 || !referenceOn s u) Status.STATE),
    need (!(i == 0xB030 || i == 0xB031) || decide (n.rd Obj.SW_EQF_TRAINED < n.rd Obj.SW_EQF_WARN)) Status.CONFLICT,
    forUnit i 0xB400 64 (fun u => firstBad [
      need (!(p == 1 || p == 2) || loadFits n 0 0) Status.CONFLICT,
      need (!(p == 4) || channelsCover s true 5 u v) Status.CONFLICT]),
    forUnit i 0xB500 64 (fun u => firstBad [
      need (!cutClash n u 0 0) Status.CONFLICT,
      need (!(p == 4) || channelsCover s false 5 u v) Status.CONFLICT])]

/-! ## Twins and Treadle -/

/-- The lease (R312, R313). -/
def relTwin (s n : State) (i v : Nat) : Nat :=
  firstBad [
    need (!(i == 0x7021 || i == 0x7022) || decide (3 * n.rd Obj.LEASE_RENEW_MS ≤ n.rd Obj.LEASE_DURATION_MS)) Status.CONFLICT,
    need (!(i == 0x7026 && v == 1) || canSwap s) Status.LEASE_SWAP_REFUSED]

/-- Voltages of the used points of a sag table, in order (R328). -/
def sagVolts (n : State) (ch : Nat) : List Nat :=
  ((List.range 8).map (fun j => n.rdN (ix Obj.TD_SAG_POINT ch + j) / 65536)).filter (fun v => v != 0)

/-- Whether numbers rise strictly. -/
def rising : List Nat → Bool
  | a :: b :: r => decide (a < b) && rising (b :: r)
  | _ => true

/-- Whether the level of a sag point lies in its range. -/
def sagLevelOk (v : Nat) : Bool :=
  v / 65536 == 0 || (decide (-6000 ≤ signed 16 (v % 65536)) && decide (signed 16 (v % 65536) ≤ 0))

/-- Treadle channels (R328 to R333, R336). -/
def relTreadle (s n : State) (i p v : Nat) : Nat :=
  firstBad [
    forUnit i 0x6000 32 (fun c => firstBad [
      need (!(decide (0x20 ≤ p) && decide (p ≤ 0x27)) || sagLevelOk v) Status.RANGE,
      need (!(decide (0x20 ≤ p) && decide (p ≤ 0x27)) || rising (sagVolts n c)) Status.CONFLICT,
      need (!(p == 0x0D || p == 0x0E) || decide (n.rd (ix Obj.TD_DC_OHM_MIN c) < n.rd (ix Obj.TD_DC_OHM_MAX c))) Status.CONFLICT,
      need (!(p == 0x0C) || !(v == 1 && n.on (ix Obj.TH_PILOT c))) Status.CONFLICT,
      need (!(p == 0x11 && v == 1) || s.tdState c == 6) Status.STATE]),
    forUnit i 0x6040 4 (fun r =>
      need (!(p == 2 || p == 3) || decide (n.rd (ix Obj.RAIL_UV_MV r) < n.rd (ix Obj.RAIL_OV_MV r))) Status.CONFLICT),
    forUnit i 0x6100 32 (fun c => firstBad [
      need (!(p == 0x11 && v == 1) || n.rd (ix Obj.TD_LOAD_KIND c) != 1) Status.CONFLICT,
      need (!(p == 6 || p == 7 || p == 8) ||
        decide (n.rd (ix Obj.TH_ATTEN_MARGIN c) < n.rd (ix Obj.TH_COIL_LIMIT c) - n.rd (ix Obj.TH_AMBIENT c))) Status.CONFLICT]),
    forUnit i 0x6200 32 (fun c => firstBad [
      need (!(p == 1 || p == 2) || decide (n.rd (ix Obj.AC_Z_MIN c) < n.rd (ix Obj.AC_Z_MAX c))) Status.CONFLICT,
      need (!(p == 5 && v == 1) || (s.tdState c == 3 && s.on Obj.TD_DIAG_MODE)) Status.STATE])]

/-! ## The agent, time, starts and firmware -/

/-- Whether a session may cancel an action: it inserted it, or it owns the target's range (R147). An action
inserted without a session has session 0, which every writer without a session shares: the model's choice (log entry 256). -/
def mayCancel (s : State) (session : Nat) (a : Action) : Bool :=
  a.session == session || s.agent.claims.any (fun c => inClaim c (keyIndex a.key) && c.session == session)

/-- Whether an action ID has been issued since the latest start (R140, R147). -/
def issued (s : State) (id : Nat) : Bool := id != 0 && (s.agent.wrapped || decide (id < s.agent.nextAction))

/-- The answer to TIMED_CANCEL (R147). -/
def cancelStatus (s : State) (w : Writer) (id : Nat) : Nat :=
  if !issued s id then Status.RANGE
  else match s.timed.find? (fun a => a.id == id) with
    | none => Status.TOO_LATE
    | some a => need (mayCancel s w.session a) Status.NOT_OWNER

/-- Whether a wake source of R442 is enabled (R439). -/
def wakeEnabled (s : State) : Bool :=
  (List.range 8).any (fun f => s.on (ix Obj.WAKE_ENABLE f)) || s.on Obj.WAKE_ON_LINK || s.rd Obj.DOFF_WAKE_TIME != 0 ||
    s.rd Obj.DOFF_WAKE_IN != 0

/-- Whether firmware is being programmed (R460). -/
def programs (s : State) : Bool := s.power.programming.isSome

/-- Starts, Doff and identity (R434, R436, R439, R449, R453, R459 to R461). -/
def relStart (s : State) (k v : Nat) (b : List Byte) : Nat :=
  firstBad [
    need (!(k == Obj.START_REQUEST && s.power.stage == 15) || v == 2) Status.STATE,
    need (!(k == Obj.DOFF_REQUEST && v == 1) || (s.power.stage == 5 && wakeEnabled s && !programs s)) Status.STATE,
    need (!(k == Obj.FIELD_LOCK_BLOW) || v == 0x4C4F434B) Status.RANGE,
    need (!(k == Obj.OEM_PW_SET) || decide (field b 32 2 < 32)) Status.RANGE,
    need (!(k == Obj.OEM_PW_SET) || s.dbg.oemHash.isEmpty) Status.STATE,
    need (!(k == Obj.FW_PREFERRED_SLOT) || imageState s (slotImage s v) == 1) Status.STATE,
    need (!(k == Obj.FW_PREFERRED_SLOT) || !slotBusy s v) Status.STATE,
    need (!(k == Obj.FW_IMAGE) || (!programs s && imageState s b == 1)) Status.STATE,
    need (!(k == Obj.FW_SEC_COMMIT && v == 1) || !secCommitRefused s) Status.STATE,
    need (!(k == Obj.FW_KEY_REVOKE) || !revokeRefused s v) Status.STATE]

/-- The graph, time, the agent and events (R39, R52, R64, R138, R147, R183, R365, R394). -/
def relAgent (s n : State) (w : Writer) (k v : Nat) : Nat :=
  firstBad [
    need (!(k == Obj.GRAPH_COMMIT) || !(s.rd Obj.GRAPH_STATUS == 2 || s.rd Obj.GRAPH_STATUS == 3)) Status.STATE,
    need (!(k == Obj.ENGINE_RATE) || (List.range 6).all (fun o =>
      s.rdN (ix Obj.OUT_SPINDLE o) != 0 || widthFits (rateHz v * 1000) (s.rdN (ix Obj.OUT_WIDTH_NS o)))) Status.CONFLICT,
    need (!(k == Obj.SLACK_WARN_PERMILLE || k == Obj.SLACK_ALARM_PERMILLE) ||
      decide (n.rd Obj.SLACK_ALARM_PERMILLE < n.rd Obj.SLACK_WARN_PERMILLE)) Status.CONFLICT,
    if k = Obj.TWILL_REQUEST then twillStatus s v else Status.OK,
    need (!(k == Obj.TIME_SET) || s.rd Obj.TIME_STATE == 0) Status.STATE,
    if k = Obj.TIMED_CANCEL then cancelStatus s w v else Status.OK,
    need (!(Nat.ble 0x9000 (keyIndex k) && Nat.ble (keyIndex k) 0x91FF && keySub k == 4 && v == 1) || isLevel (keyIndex k - 0x9000))
      Status.RANGE,
    if k = Obj.HAPOL_CLAIM then claimStatus s w v else Status.OK]

/-- Every relation that a write of a key must keep, by the area of its index (R485). -/
def relation (s n : State) (w : Writer) (k : Nat) (v : Val) : Nat :=
  let i := keyIndex k
  let p := keySub k
  let x := (Val.int v).toNat
  match i / 4096 with
  | 2 => relReference s n i p x
  | 3 => relPorts s n i p x
  | 6 => relTreadle s n i p x
  | 7 => relTwin s n i x
  | 11 => relSwiska s n i p x
  | 12 => firstBad [relNetwork s n i p x, relAgent s n w k x]
  | 1 => relStart s k x (Val.octets v)
  | 13 => relStart s k x (Val.octets v)
  | _ => relAgent s n w k x

end Machine
end Sys2Proof
end

