-- ==== Sys2Proof/Machine/Writes.lean ====
section
/-! DEFINITION. Writes of dictionary objects (R4, R50, R53, R63, R76 to R78, R297, R342, R350, R488): what a write is answered,
what it changes at once and what it leaves to an action, and the commands that are writes of one object. -/

namespace Sys2Proof
namespace Machine

/-! ## The answer to a write (R340 to R342, R350, R436, R439, R488) -/

/-- Whether the engine serves an index (R436): in fallback only the areas that R436 lists; from Doff entry on no write (R439). -/
def serves (s : State) (k : Nat) (writes : Bool) : Bool :=
  let i := keyIndex k
  let listed := (Nat.ble 0x1000 i && Nat.ble i 0x1FFF) || (Nat.ble 0xC000 i && Nat.ble i 0xC0FF) ||
    (Nat.ble 0xC600 i && Nat.ble i 0xC6FF) || (Nat.ble 0xD000 i && Nat.ble i 0xDFFF)
  (s.power.stage != 15 || listed) && !(writes && (decide (2 ≤ s.power.doff) || (s.power.doff == 1 && decide (s.power.doffPick ≤ s.clock.pick))))

/-- Objects that are read-only for some units of a writable row: SP0 and SP1, CP's PFC_PRIORITY, the media ports' PHY delays. -/
def readOnlyUnit (k : Nat) : Bool :=
  let i := keyIndex k
  let p := keySub k
  ((i == 0x2200 || i == 0x2201) && (p == 2 || p == 3)) || (i == 0x2200 && p == 6) || k == Obj.PFC_PRIORITY + 512 ||
    ((i == 0xC040 || i == 0xC041) && (p == 7 || p == 8))

/-- Type and range of a value for its object (R341, R342, and the object's own value checks). -/
def valueStatus (s : State) (k : Nat) (r : Row) (v : Val) : Nat :=
  if isParam k && paramSlot k != 0 then paramStatus s s.dict (paramInst k) (paramSlot k) v
  else
    let st := rowStatus r v
    if st ≠ Status.OK then st
    else if k = Obj.CONTRIB_SET then contribStatus s (Val.int v).toNat
    else if Nat.ble 0x4720 (keyIndex k) && Nat.ble (keyIndex k) 0x472F then contribListStatus s (Val.octets v)
    else Status.OK

/-- The value that a write stores: reserved bits left out, and the firmware's targets of an event source kept (R4, R394). -/
def storedValue (k : Nat) (r : Row) (v : Val) : Val :=
  let v := masked r.range v
  if Nat.ble 0x9000 (keyIndex k) && Nat.ble (keyIndex k) 0x91FF && keySub k == 1 then .num (Nat.lor (Val.int v).toNat 3 % 16 : Nat)
  else v

/-- The checks of R350 in order, up to the access of a writable object. `pre` is what the item's type code and length gave. -/
def writeStatus (s : State) (w : Writer) (k pre : Nat) (v : Val) : Nat :=
  if !serves s k true then Status.STATE
  else match s.objRow k with
    | none => if isParam k || indexDefined (keyIndex k) then Status.UNKNOWN_SUB else Status.UNKNOWN_INDEX
    | some r =>
      let st := valueStatus s k r v
      let n := s.wrV k (storedValue k r v)
      firstBad [
        pre,
        need (st != Status.TYPE_MISMATCH) Status.TYPE_MISMATCH,
        need (r.access != .ro && !readOnlyUnit k) Status.READ_ONLY,
        st,
        relation s n w k (storedValue k r v),
        mayWrite s w k]

/-! ## What a write changes -/

/-- Stores a value, and marks it unsaved when it belongs to the saved image (R343, R364). -/
def storeValue (s : State) (k : Nat) (v : Val) : State :=
  match s.objRow k with
  | some r => if k = Obj.FW_KEY_REVOKE then s else match r.access with
    | .rws => (s.wrV k v).markSave
    | .rw => s.wrV k v
    | .rwt => s.wrV k v
    | _ => s
  | none => s

/-- Runs f for the unit that an index belongs to. -/
def State.unit (s : State) (i first count : Nat) (f : State → Nat → State) : State :=
  match unitAt i first count with
  | some u => f s u
  | none => s

/-- Runs f when a condition holds. -/
def State.if_ (s : State) (c : Bool) (f : State → State) : State := if c then f s else s

/-- After a write in 0x2000 to 0x2FFF (R152, R156, R172, R178, R186, R189, R192). `old` is the number before the write. -/
def followReference (old : Nat) (i p : Nat) (s : State) : State :=
  let s := s.unit i 0x2100 24 (fun s k =>
    if p = 1 ∨ p = 2 ∨ p = 9 then ptpSlotWritten (candWritten s k) k
    else if p = 4 then s.wr (ix Obj.REF_CAND_QUALITY k) (s.candQuality k : Nat) else s)
  let s := s.if_ (i == 0x2302 || i == 0x2303) (fun s =>
    s.wr Obj.SP_HOLD_TIMER_S (holdTimer (s.rdN Obj.SP_HOLD_SPEC_PPB) (s.rdN Obj.XO_DRIFT) : Nat))
  let s := s.unit i 0x2200 8 (fun s k =>
    if p = 2 then spWritten (followEdges s) k
    else if p = 3 then
      outputsOn ((spWritten (followEdges s) k).each ((List.range 16).filter (fun u => tdmMaster s u && s.rdN (portKey u 2) == k)) tdmWritten) k
    else s)
  let s := s.unit i 0x2400 6 (fun s k =>
    if p = 1 then outputStarts s k else if p = 2 ∨ p = 3 then showEdges s k else if p = 4 ∨ p = 5 then alignWritten (followEdges s) k else s)
  s.unit i 0x2500 3 (fun s m => if p = 2 then gmDomainWritten s m old else if p ≤ 4 then ptpDecide s m false else s)

/-- An input port is switched on or off: it mutes in two steps and searches, or rests (R203, R206). -/
def inputWritten (s : State) (u : Nat) : State :=
  let s := stopInput s u
  s.setPortState u (if portOn s u then 1 else 0)

/-- After a write in 0x3000 to 0x3FFF (R198, R203, R222). -/
def followPorts (old new : Nat) (i p : Nat) (s : State) : State :=
  let s := s.unit i 0x3000 16 (fun s u =>
    if p ≤ 6 then tdmWritten s u else if p = 7 then maskWritten s u old new
    else s.each ((List.range 16).filter (fun c => bit new c && !bit old c)) (fun s c =>
      s.setPort u (fun x => { x with returns := mapSet x.returns (256 + c) s.nextSample })))
  let s := s.unit i 0x3100 8 (fun s u => if p = 1 then inputWritten s (16 + u) else s)
  let s := s.unit i 0x3200 4 (fun s u => if p = 1 then inputWritten s (24 + u) else s)
  s.unit i 0x3600 6 (fun s _ => driveTallies s)

/-- A transmit stream starts or restarts: its channels return with a 20 ms fade-in (R244, R294). -/
def restartTx (s : State) (n : Nat) : State :=
  { s with net := { s.net with restarts := mapSet s.net.restarts n s.nextSample } }

/-- After a write of a media stream object (R235, R236, R244). -/
def streamWritten (s : State) (tx : Bool) (u p : Nat) : State :=
  let restarts := p == 1 || (s.on (streamKey tx u) && decide (2 ≤ p) && decide (p ≤ 15))
  let s := if !restarts then s else if tx then restartTx s u else restartRx s u
  let s := if tx && p == 1 then s.wr (txKey u 0x12) (if s.on (txKey u 1) then 1 else 0) else s
  let s := if !tx && decide (p ≤ 0x0D) then s.each [0, 1] sendReports else s
  if p ≤ 6 then showStreams s else s

/-- A write of PTP_PROFILE loads the message intervals and the announce timeout of its profile (R257). -/
def profileWritten (s : State) (m : Nat) : State :=
  let s := s.wr (ix Obj.PTP_SYNC_LOG m) (-3)
  let s := s.wr (ix Obj.PTP_ANNOUNCE_LOG m) (if s.rd (ix Obj.PTP_PROFILE m) = 1 then 1 else -2)
  (s.wr (ix Obj.PTP_ANNOUNCE_TIMEOUT m) 3).wr (ix Obj.PTP_DELAY_REQ_LOG m) (-3)

/-- After a write in 0xC000 to 0xC5FF (R224, R226, R236, R244, R255, R257). -/
def followNetwork (i p : Nat) (s : State) : State :=
  let s := s.unit i 0xC000 3 (fun s m =>
    if p = 1 then showStreams (if s.linkUp m then macDown s m else s)
    else if p = 3 ∨ p = 4 ∨ p = 6 then showStreams (addressWritten s m) else s)
  let s := s.unit i 0xC040 3 (fun s m => if p = 1 then profileWritten s m else s)
  let s := s.if_ (i == 0xC01F) showStats
  let s := s.unit i 0xC400 256 (fun s u => streamWritten s false u p)
  s.unit i 0xC500 256 (fun s u => streamWritten s true u p)

/-- After a write in 0xB000 to 0xBFFF (R279, R282, R291 to R294). -/
def followSwiska (old new : Nat) (i p : Nat) (s : State) : State :=
  let s := s.unit i 0xB000 6 (fun s u =>
    if p = 1 then enableWritten s u
    else if p = 5 then loopbackWritten s u old
    else if p = 7 ∧ new = 1 then retrainWritten s u else s)
  let s := s.unit i 0xB400 64 (fun s m =>
    showLoads (if p = 1 || (s.on (cutTxKey m 1) && decide (p ≤ 4)) then restartTx s (256 + m) else s))
  s.unit i 0xB500 64 (fun s m => if p = 1 || (s.on (cutKey m 1) && decide (p ≤ 4)) then restartCuts s m else s)

/-- After a write in 0x6000 to 0x6FFF (R320, R329, R333, R336). -/
def followTreadle (new : Nat) (i p : Nat) (s : State) : State :=
  let s := s.unit i 0x6000 32 (fun s c =>
    if p = 3 then pwmWritten s c else if p = 0x11 ∧ new = 1 then clearChannel s c else s)
  let s := s.unit i 0x6100 32 (fun s c => if p = 1 ∧ new = 1 then thermalStarts s c else s)
  let s := s.unit i 0x6200 32 (fun s c => if p = 5 ∧ new = 1 then startAc s c else s)
  let s := s.if_ (i == 0x6051 && s.inService) driveSdclk
  s.if_ (i == 0x6050 && new == 0) (fun s => s.each (List.range 32) leaveDiag)

/-- The cancels of R147. -/
def cancelWritten (s : State) (session k v : Nat) : State :=
  if k = Obj.TIMED_CANCEL then removeActions (fun a => a.id == v) s
  else removeActions (fun a => a.tag == v && mayCancel s session a) s

/-- GRAPH_COMMIT (R50, R52): 1 compiles a copy of the edit copy, 2 resets the edit copy to the running plan. -/
def commitWritten (s : State) (v : Nat) : State :=
  if v = 1 then { s with graph := { s.graph with compiling := some (graphOf s.dict), live := [] } }.wr Obj.GRAPH_STATUS 2
  else { s with dict := withGraph s.dict s.run }.wr Obj.GRAPH_STATUS 0

/-- SLACK_CLEAR of 1 (R38): the slack minima are back at all ones. -/
def clearSlack (s : State) : State :=
  (s.wr Obj.PICK_SLACK_MIN 0xFFFFFFFF).each (List.range 54) (fun s sh => s.wr (Obj.SHUTTLE_SLACK_MIN + sh) 0xFFFFFFFF)

/-- A key object takes its 32 bytes; zeros clear it (R364). -/
def keyWritten (s : State) (k : Nat) (b : List Byte) : State :=
  let set := b.any (fun x => x != 0)
  let s := { s with dict := if set then mapSet s.dict k (.bytes b) else mapDel s.dict k }.markSave
  s.wr (if k = Obj.TWIN_LEASE_KEY then Obj.TWIN_LEASE_KEY_SET else k + 2) (if set then 1 else 0)

/-- Commands of the agent, of time and of the graph that write one object. -/
def commandWritten (s : State) (session k v : Nat) : State :=
  if k = Obj.GRAPH_COMMIT then commitWritten s v
  else if k = Obj.SLACK_CLEAR then s.if_ (v == 1) clearSlack
  else if k = Obj.TIME_SET then { s with clock := { s.clock with set := some (time80Ns v) } }
  else if k = Obj.TIMED_CANCEL ∨ k = Obj.TIMED_CANCEL_TAG then cancelWritten s session k v
  else if k = Obj.PLACE_QUIET then showQuiet (quietWritten s v)
  else if k = Obj.HAPOL_CLAIM then takeClaim s session v
  else if k = Obj.HAPOL_RELEASE then releaseClaim s session v
  else if k = Obj.HAPOL_CLAIM_BREAK then breakClaim s v
  else if isClose k then s.if_ (v == 1) (endSession (slotSession s (closeSlot k)))
  else if k = Obj.LEASE_SWAP then s.if_ (v == 1) startHandover
  else if k = Obj.OUTPUT_COUNT_CLEAR then s.if_ (v == 1) clearOutputCounts
  else if k = Obj.DICT_RESTORE_DEFAULTS then s.if_ (v == 1) (fun s => { s with power := { s.power with restoreDefaults := true } })
  else if k = Obj.START_REQUEST then requestStart s (v == 2)
  else if k = Obj.DOFF_REQUEST then s.if_ (v == 1) (fun s => { s with power := { s.power with
      doff := max 1 s.power.doff, doffPick := if s.power.doff = 0 then s.clock.pick + 1 else s.power.doffPick } })
  else if k = Obj.FIELD_LOCK_BLOW then blowFieldLock s
  else if k = Obj.FW_SEC_COMMIT then s.if_ (v == 1) secCommit
  else if k = Obj.FW_KEY_REVOKE then revokeKeys s v
  else s

/-- Commands that carry octets (R364, R453, R460). -/
def blobWritten (s : State) (k : Nat) (b : List Byte) : State :=
  if k = Obj.OEM_PW_SET then { s with dbg := { s.dbg with oemHash := b.take 32 } }.wr Obj.OEM_PW_SCOPE (field b 32 2 : Nat)
  else if k = Obj.FW_IMAGE then startProgramming s b
  else if k = Obj.TWIN_LEASE_KEY ∨ (isKeyObject k ∧ keySub k = 1) then keyWritten s k b
  else s

/-- After a write in 0x7000 to 0x8FFF (R295, R312, R419). -/
def followOther (new : Nat) (i p : Nat) (s : State) : State :=
  let s := s.if_ (Nat.ble 0x7000 i && Nat.ble i 0x7002) twinWritten
  let s := s.if_ (i == 0x7021) showGuard
  s.unit i 0x8000 7 (fun s m => if p = 7 || p = 8 || (p == 9 && new == 1) then monReset m s else s)

/-- What a write that acts at once does (R342): the value is stored, and what hangs on it follows. -/
def effect (session k : Nat) (v : Val) (s : State) : State :=
  let old := s.rdN k
  let new := (Val.int v).toNat
  let i := keyIndex k
  let p := keySub k
  let s := s.if_ (k == Obj.TIME_SLEW_PPB) State.foldSlew
  let s := s.if_ (k == Obj.ALIGN_SLEW_PPB) foldEdges
  let s := blobWritten (commandWritten (storeValue s k v) session k new) k (Val.octets v)
  match i / 4096 with
  | 1 => s.if_ (k == Obj.LOOM_ID) loomWritten
  | 2 => followReference old i p s
  | 3 => followPorts old new i p s
  | 6 => followTreadle new i p s
  | 7 => followOther new i p s
  | 8 => followOther new i p s
  | 11 => followSwiska old new i p s
  | 12 => followNetwork i p s
  | _ => s

/-! ## Graph objects (R50, R53, R76 to R78) -/

/-- Whether a parameter slot is a staged slot (R78). -/
def isStaged (type p : Nat) : Bool :=
  (type == 0x10 && decide (0x12 ≤ p) && decide (p ≤ 0x21)) || (type == 0x11 && decide (7 ≤ p) && decide (p ≤ 10)) ||
    (type == 0x20 && p == 3) || (type == 0x21 && p == 2) || (type == 0x50 && p == 4)

/-- Whether a staged write changes the running plan's staged set too (R78, R489). -/
def stagedLive (s : State) (i : Nat) : Bool := s.inBoth i && s.sameShape i

/-- MTR_CLEAR of 1 (R95): the peak hold and the count of overs return to their defaults. -/
def clearMeter (s : State) (i : Nat) : State :=
  { s with dict := mapDel (mapDel s.dict (paramKey i Par.MTR_PEAK_HOLD)) (paramKey i Par.MTR_OVER_COUNT) }

/-- A write of OBJ_INSTANCE: another type frees the parameters of the old one (R76). -/
def instanceWritten (s : State) (k : Nat) (v : Val) : State :=
  let i := (keyIndex k - keyIndex Obj.OBJ_INSTANCE) * 128 + keySub k - 1
  let kept := if typeIn s.dict i = (Val.int v).toNat / 65536 then s.dict
    else s.dict.filter (fun (e : Nat × Val) => !(isParam e.1 && paramInst e.1 == i))
  edited { s with dict := putIn kept k v }

/-- A write of a graph object of access RW or WO (R50, R77, R78, R95). -/
def graphWritten (s : State) (k : Nat) (v : Val) : State :=
  if isParam k then
    let i := paramInst k
    let p := paramSlot k
    let type := typeIn s.dict i
    if type = 0x60 ∧ p = Par.MTR_CLEAR then (if v = .num 1 then clearMeter s i else s)
    else if isStaged type p then
      let live := stagedLive s i
      let s := gainsTaken (s.wrV k v) k
      if !live then edited s
      else if (s.swapOf i).isSome then
        { s with graph := { s.graph with waiting := s.graph.waiting ++ [⟨0, k, v, 0, s.receipt, 1, 0, 0, true, true, false⟩] } }
      else
        let s := noteLive (s.wrRun k v) k v
        if type = 0x21 then stagedWritten s i else s
    else edited (s.wrV k v)
  else if Nat.ble 0x4400 (keyIndex k) && Nat.ble (keyIndex k) 0x447F then instanceWritten s k v
  else edited (s.wrV k v)

/-- Whether a live write of a graph object changes the running plan (R53, R61, R77, R130, R489). -/
def runTakes (s : State) (k : Nat) (v : Val) : Bool :=
  let i := keyIndex k
  if isParam k then
    let j := paramInst k
    s.inBoth j && paramStatus s s.run j (paramSlot k) v == Status.OK &&
      (match v with | .bytes _ => s.sameShape j | .num _ => true)
  else if Nat.ble 0x4660 i && Nat.ble i 0x467F then (edgesOf s.run).any (fun e => e.entry == (i - 0x4660) * 128 + keySub k - 1)
  else if Nat.ble 0x4C00 i && Nat.ble i 0x4C3F then (selvOutputs s).contains (i - 0x4C00)
  else liveNow s k v

/-- Access of an object as it stands. -/
def State.accessTo (s : State) (k : Nat) : Access := match s.objRow k with | some r => r.access | none => .ro

/-- Objects whose written value is in force from the next start only (R30, R343, R393, R401, R324, R459). -/
def fromNextStart (k : Nat) : Bool :=
  [Obj.ENGINE_RATE, Obj.VCORE_HOME_MV, Obj.FW_PREFERRED_SLOT, Obj.DICT_RESTORE_DEFAULTS].contains k ||
    (Nat.ble 0x9400 (keyIndex k) && Nat.ble (keyIndex k) 0x9403 && keySub k == 1) ||
    (Nat.ble 0x6000 (keyIndex k) && Nat.ble (keyIndex k) 0x601F && keySub k == 2)

/-- APPLIED of an accepted write (R350). -/
def appliedOf (s : State) (k : Nat) (v : Val) : Nat :=
  if fromNextStart k then 2
  else if !isGraph s.dict k && k != Obj.CONTRIB_SET then 0
  else match s.accessTo k with
    | .rwt => if runTakes s k v then 0 else 1
    | .wo => 0
    | _ => if isParam k && isStaged (typeIn s.dict (paramInst k)) (paramSlot k) && stagedLive s (paramInst k) then 0 else 1

/-! ## An accepted write -/

/-- Whether a shared write of this engine is led and forwarded: the holder of a formed pair (R297). -/
def leads (s : State) (k : Nat) : Bool := isShared k && s.paired && s.holds

/-- Whether a write acts on arrival whatever the pair does: the cancels (R147). -/
def isCancel (k : Nat) : Bool := k == Obj.TIMED_CANCEL || k == Obj.TIMED_CANCEL_TAG

/-- A direct write of an object of access RWT (R18, R53, R63): the edit copy takes it at once, the running engine at offset 0 of
the next pick. -/
def directWritten (s : State) (session k : Nat) (v : Val) : State :=
  if isGraph s.dict k || k == Obj.CONTRIB_SET then
    let takes := runTakes s k v
    let s := editSet s k v
    if takes then s.direct session k v true else edited s
  else
    let s := if k = Obj.TWILL_REQUEST then preload s ((Val.int v).toNat % 16384) else s
    s.direct session k v

/-- A direct action of a pair's holder at its lead pick (R297). -/
def ledWrite (s : State) (session k : Nat) (v : Val) : State :=
  { s with agent := { s.agent with actions := s.agent.actions ++
      [⟨0, k, v, leadPick s * s.pl, s.receipt, 1, 0, session, true, false, false⟩] } }

/-- What an accepted write does (R63, R147, R297, R342). -/
def applyWrite (s : State) (w : Writer) (k : Nat) (v : Val) : State :=
  if isCancel k then effect w.session k v s
  else if leads s k then ledWrite s w.session k v
  else match s.accessTo k with
    | .rwt => directWritten s w.session k v
    | _ => if isGraph s.dict k then graphWritten s k v else effect w.session k v s

/-- One item of a write: the state after it, its status and APPLIED. -/
def writeItem (s : State) (w : Writer) (k pre : Nat) (v : Val) : State × Nat × Nat :=
  let st := writeStatus s w k pre v
  if st ≠ Status.OK then (s, st, 0xFF)
  else
    let v := match s.objRow k with | some r => storedValue k r v | none => v
    (applyWrite s w k v, Status.OK, appliedOf s k v)

/-- The item of a forwarded write (R297, R357). -/
def itemOf (s : State) (k : Nat) (v : Val) (action : Nat) : Item :=
  ⟨keyIndex k, keySub k, (s.tyOf k).code, wireOf (s.tyOf k) v, action⟩

/-- Forwards the shared items and cancels of an accepted untimed write, in one message (R297). -/
def forwardWrite (s : State) (before : State) (items : List (Nat × Val)) : State :=
  let shared := items.filter (fun (e : Nat × Val) => leads before e.1)
  if shared.isEmpty then s else forward s (shared.map (fun (e : Nat × Val) => itemOf before e.1 e.2 0)) (leadPick before) 0 0 false

/-- The items of one WRITE in order, each judged where the one before it left the engine. -/
def writeItems (w : Writer) : List (Nat × Nat × Val) → State → State × List (Nat × Nat)
  | [], s => (s, [])
  | (k, pre, v) :: r, s =>
    let a := writeItem s w k pre v
    let b := writeItems w r a.1
    (b.1, (a.2.1, a.2.2) :: b.2)

/-- One WRITE (R350): its items are applied together or not at all. Answers status and APPLIED per item. -/
def writeAll (s : State) (w : Writer) (items : List (Nat × Nat × Val)) : State × List (Nat × Nat) :=
  let r := writeItems w items s
  if r.2.all (fun (e : Nat × Nat) => e.1 == Status.OK) then
    (forwardWrite r.1 s (items.map (fun (e : Nat × Nat × Val) => (e.1, e.2.2))), r.2)
  else (s, r.2.map (fun (e : Nat × Nat) => if e.1 = Status.OK then (Status.ATOMIC, 0xFF) else e))

/-- A write of one object that reaches the agent at local instant t; without a running agent nothing comes of it. -/
def writeOne (t : Nat) (w : Writer) (k : Nat) (v : Val) (s : State) : State :=
  let s := s.at_ t
  if !agentRuns s then s
  else
    let r := writeAll s w [(k, Status.OK, v)]
    let e := r.2.headD (Status.OK, 0)
    r.1.emit (.answer k e.1 e.2)

/-! ## The commands that are writes of one object -/

/-- OBJECT_WRITE (R342): any object. -/
def execObjectWrite (t : Nat) (w : Writer) (key : Nat) (v : Val) (s : State) : Result := .next (writeOne t w key v s)

/-- SLACK_CLEAR (R38). -/
def execSlackClear (t : Nat) (w : Writer) (v : Nat) (s : State) : Result := .next (writeOne t w Obj.SLACK_CLEAR (.num v) s)

/-- GRAPH_COMMIT (R50, R52): a write of 1. -/
def execGraphCommit (t : Nat) (w : Writer) (s : State) : Result := .next (writeOne t w Obj.GRAPH_COMMIT (.num 1) s)

/-- DISCARD_EDITS (R50, R52): a write of 2 to GRAPH_COMMIT. -/
def execDiscardEdits (t : Nat) (w : Writer) (s : State) : Result := .next (writeOne t w Obj.GRAPH_COMMIT (.num 2) s)

/-- CONTRIB_SET (R53, R59). -/
def execContribSet (t : Nat) (w : Writer) (v : Nat) (s : State) : Result := .next (writeOne t w Obj.CONTRIB_SET (.num v) s)

/-- TWILL_REQUEST (R64, R65). -/
def execTwillRequest (t : Nat) (w : Writer) (v : Nat) (s : State) : Result := .next (writeOne t w Obj.TWILL_REQUEST (.num v) s)

/-- LD_RUN (R95) of instance i. -/
def execLdRun (t : Nat) (w : Writer) (i v : Nat) (s : State) : Result := .next (writeOne t w (paramKey i Par.LD_RUN) (.num v) s)

/-- MTR_CLEAR (R95) of instance i. -/
def execMtrClear (t : Nat) (w : Writer) (i v : Nat) (s : State) : Result :=
  .next (writeOne t w (paramKey i Par.MTR_CLEAR) (.num v) s)

/-- PLACE_QUIET (R101). -/
def execPlaceQuiet (t : Nat) (w : Writer) (v : Nat) (s : State) : Result := .next (writeOne t w Obj.PLACE_QUIET (.num v) s)

/-- TIME_SET (R138). -/
def execTimeSet (t : Nat) (w : Writer) (v : Nat) (s : State) : Result := .next (writeOne t w Obj.TIME_SET (.num v) s)

/-- TIMED_CANCEL (R147). -/
def execTimedCancel (t : Nat) (w : Writer) (v : Nat) (s : State) : Result := .next (writeOne t w Obj.TIMED_CANCEL (.num v) s)

/-- TIMED_CANCEL_TAG (R147). -/
def execTimedCancelTag (t : Nat) (w : Writer) (v : Nat) (s : State) : Result := .next (writeOne t w Obj.TIMED_CANCEL_TAG (.num v) s)

/-- SP_SOURCE_WRITE (R172): SP_SOURCE, or SP_RATE, of a spindle. -/
def execSpSourceWrite (t : Nat) (w : Writer) (sp : Fin 8) (rate : Bool) (v : Nat) (s : State) : Result :=
  .next (writeOne t w (ix (if rate then Obj.SP_RATE else Obj.SP_SOURCE) sp.val) (.num v) s)

/-- ALIGN_OFFSET_WRITE (R186): ALIGN_OFFSET_NS, or ALIGN_SOURCE, of a timing output. -/
def execAlignOffsetWrite (t : Nat) (w : Writer) (k : Fin 6) (source : Bool) (v : Int) (s : State) : Result :=
  .next (writeOne t w (ix (if source then Obj.ALIGN_SOURCE else Obj.ALIGN_OFFSET_NS) k.val) (.num v) s)

/-- PTP_GM_DOMAIN_WRITE (R192). -/
def execPtpGmDomainWrite (t : Nat) (w : Writer) (mac : Fin 3) (v : Nat) (s : State) : Result :=
  .next (writeOne t w (ix Obj.PTP_GM_DOMAIN mac.val) (.num v) s)

/-- TDM_CONFIG_WRITE (R195, R198): sub-index 1 to 6 of a TDM port. -/
def execTdmConfigWrite (t : Nat) (w : Writer) (port : Fin 16) (sub v : Nat) (s : State) : Result :=
  .next (writeOne t w (keyOf (0x3000 + port.val) (sub % 256)) (.num v) s)

/-- TDM_MASK_WRITE (R195, R198): the receive or transmit mask of a TDM port. -/
def execTdmMaskWrite (t : Nat) (w : Writer) (port : Fin 16) (tx : Bool) (v : Nat) (s : State) : Result :=
  .next (writeOne t w (ix (if tx then Obj.TDM_TX_MASK else Obj.TDM_RX_MASK) port.val) (.num v) s)

/-- IP_ADDRESS_WRITE (R224): address, netmask or VLAN of a MAC, by sub-index. -/
def execIpAddressWrite (t : Nat) (w : Writer) (mac : Fin 3) (sub v : Nat) (s : State) : Result :=
  .next (writeOne t w (keyOf (0xC000 + mac.val) (sub % 256)) (.num v) s)

/-- STREAM_WRITE (R236, R240, R244): an object of a media stream. -/
def execStreamWrite (t : Nat) (w : Writer) (key : Nat) (v : Int) (s : State) : Result := .next (writeOne t w key (.num v) s)

/-- NET_STATS_SNAPSHOT (R255). -/
def execNetStatsSnapshot (t : Nat) (w : Writer) (v : Nat) (s : State) : Result :=
  .next (writeOne t w Obj.NET_STATS_SNAPSHOT (.num v) s)

/-- SW_ENABLE (R279). -/
def execSwEnable (t : Nat) (w : Writer) (port : Fin 6) (v : Nat) (s : State) : Result :=
  .next (writeOne t w (ix Obj.SW_ENABLE port.val) (.num v) s)

/-- SW_LOOPBACK (R292, R293). -/
def execSwLoopback (t : Nat) (w : Writer) (port : Fin 6) (v : Nat) (s : State) : Result :=
  .next (writeOne t w (ix Obj.SW_LOOPBACK port.val) (.num v) s)

/-- SW_RETRAIN (R282). -/
def execSwRetrain (t : Nat) (w : Writer) (port : Fin 6) (v : Nat) (s : State) : Result :=
  .next (writeOne t w (ix Obj.SW_RETRAIN port.val) (.num v) s)

/-- LEASE_SWAP (R313). -/
def execLeaseSwap (t : Nat) (w : Writer) (v : Nat) (s : State) : Result := .next (writeOne t w Obj.LEASE_SWAP (.num v) s)

/-- AC_RUN (R333). -/
def execAcRun (t : Nat) (w : Writer) (ch : Fin 32) (v : Nat) (s : State) : Result :=
  .next (writeOne t w (ix Obj.AC_RUN ch.val) (.num v) s)

/-- TD_CLEAR (R336). -/
def execTdClear (t : Nat) (w : Writer) (ch : Fin 32) (v : Nat) (s : State) : Result :=
  .next (writeOne t w (ix Obj.TD_CLEAR ch.val) (.num v) s)

/-- TD_PWM_RATE_WRITE (R320). -/
def execTdPwmRateWrite (t : Nat) (w : Writer) (ch : Fin 32) (v : Nat) (s : State) : Result :=
  .next (writeOne t w (ix Obj.TD_PWM_RATE ch.val) (.num v) s)

/-- TD_DIAG_MODE_WRITE (R333). -/
def execTdDiagModeWrite (t : Nat) (w : Writer) (v : Nat) (s : State) : Result := .next (writeOne t w Obj.TD_DIAG_MODE (.num v) s)

/-- SESSION_CLOSE (R363) of a session slot. -/
def execSessionClose (t : Nat) (w : Writer) (slot : Fin 32) (v : Nat) (s : State) : Result :=
  .next (writeOne t w (ix Obj.SESSION_CLOSE slot.val) (.num v) s)

/-- HAPOL_CLAIM (R365). -/
def execHapolClaim (t : Nat) (w : Writer) (v : Nat) (s : State) : Result := .next (writeOne t w Obj.HAPOL_CLAIM (.num v) s)

/-- HAPOL_RELEASE (R365). -/
def execHapolRelease (t : Nat) (w : Writer) (v : Nat) (s : State) : Result := .next (writeOne t w Obj.HAPOL_RELEASE (.num v) s)

/-- HAPOL_CLAIM_BREAK (R365). -/
def execHapolClaimBreak (t : Nat) (w : Writer) (v : Nat) (s : State) : Result :=
  .next (writeOne t w Obj.HAPOL_CLAIM_BREAK (.num v) s)

/-- DICT_RESTORE_DEFAULTS (R343). -/
def execDictRestoreDefaults (t : Nat) (w : Writer) (v : Nat) (s : State) : Result :=
  .next (writeOne t w Obj.DICT_RESTORE_DEFAULTS (.num v) s)

/-- MON_CLEAR (R419) of a monitor. -/
def execMonClear (t : Nat) (w : Writer) (m : Fin 7) (v : Nat) (s : State) : Result :=
  .next (writeOne t w (ix Obj.MON_CLEAR m.val) (.num v) s)

/-- MON_HIST_CONFIG_WRITE (R419): MON_HIST_BASE, or MON_HIST_WIDTH, of a monitor. -/
def execMonHistConfigWrite (t : Nat) (w : Writer) (m : Fin 7) (width : Bool) (v : Int) (s : State) : Result :=
  .next (writeOne t w (ix (if width then Obj.MON_HIST_WIDTH else Obj.MON_HIST_BASE) m.val) (.num v) s)

/-- OUTPUT_COUNT_CLEAR (R420). -/
def execOutputCountClear (t : Nat) (w : Writer) (v : Nat) (s : State) : Result :=
  .next (writeOne t w Obj.OUTPUT_COUNT_CLEAR (.num v) s)

/-- START_REQUEST of 1 (R434). -/
def execStartRequestWarm (t : Nat) (w : Writer) (s : State) : Result := .next (writeOne t w Obj.START_REQUEST (.num 1) s)

/-- START_REQUEST of 2 (R434, R437). -/
def execStartRequestCold (t : Nat) (w : Writer) (s : State) : Result := .next (writeOne t w Obj.START_REQUEST (.num 2) s)

/-- DOFF_REQUEST (R439). -/
def execDoffRequest (t : Nat) (w : Writer) (v : Nat) (s : State) : Result := .next (writeOne t w Obj.DOFF_REQUEST (.num v) s)

/-- FIELD_LOCK_BLOW (R449). -/
def execFieldLockBlow (t : Nat) (w : Writer) (v : Nat) (s : State) : Result := .next (writeOne t w Obj.FIELD_LOCK_BLOW (.num v) s)

/-- OEM_PW_SET (R453). -/
def execOemPwSet (t : Nat) (w : Writer) (b : List Byte) (s : State) : Result := .next (writeOne t w Obj.OEM_PW_SET (.bytes b) s)

/-- FW_IMAGE (R460): the end of a write transfer of a whole image. -/
def execFwImage (t : Nat) (w : Writer) (image : List Byte) (s : State) : Result :=
  .next (writeOne t w Obj.FW_IMAGE (.bytes image) s)

/-- FW_SEC_COMMIT (R461). -/
def execFwSecCommit (t : Nat) (w : Writer) (v : Nat) (s : State) : Result := .next (writeOne t w Obj.FW_SEC_COMMIT (.num v) s)

/-- FW_KEY_REVOKE (R461). -/
def execFwKeyRevoke (t : Nat) (w : Writer) (v : Nat) (s : State) : Result := .next (writeOne t w Obj.FW_KEY_REVOKE (.num v) s)

end Machine
end Sys2Proof
end

