-- ==== Sys2Proof/Machine/Actions.lean ====
section
/-! DEFINITION. Timed and direct actions handed to their targets at a batten (R18 step 3, R66, R137, R142 to R146, R149). -/

namespace Sys2Proof
namespace Machine

/-- An action whose target is gone or no longer admits its value: discarded, counted and raised (R146). Direct writes have ID 0. -/
def orphan (s : State) (a : Action) : State := (s.bump Obj.TIMED_ORPHANED).raise Ev.TIMED_ORPHANED a.id

/-- Counts an action that takes effect: at its instant, or late (R143). Direct writes count nowhere (R146). -/
def countTaken (s : State) (a : Action) (late : Bool) : State :=
  if a.direct || a.late == 3 then s else if late then countLate s a else s.bump Obj.TIMED_APPLIED

/-- The edit copy takes an action's value unless it did so when the write came (R50). -/
def editTakes (s : State) (a : Action) : State := if a.edited then s else editSet s a.key a.val

/-- An action on an instance whose swap is running waits and counts as late (R66, R146). -/
def waitForSwap (s : State) (a : Action) (late : Bool) : State :=
  if !a.direct && !late && discardsLate s a then countLate s a
  else
    let s := if a.direct then s else countLate s a
    { s with graph := { s.graph with waiting := s.graph.waiting ++ [{ a with direct := true }] } }

/-- Access of a parameter slot in a copy; a slot that its type does not have counts as read only. -/
def slotAccess (d : Map Val) (k : Nat) : Access :=
  match slotRow (typeIn d (paramInst k)) (paramSlot k) with | some r => r.access | none => .ro

/-- Whether an action goes to a live parameter (R77, R146): one of the edit copy; one of the running plan, for an action that
was inserted while both copies had it; or one of an instance that the edit copy no longer has. -/
def isLiveParam (s : State) (a : Action) : Bool :=
  isParam a.key && (slotAccess s.dict a.key == .rwt || ((!a.direct || a.edited) && slotAccess s.run a.key == .rwt) ||
    typeIn s.dict (paramInst a.key) == 0)

/-- Whether the running instance still admits an action's value (R146, R489). A write of an instance whose type differs between the copies
goes to the edit copy only (R77). -/
def runAdmits (s : State) (a : Action) : Bool :=
  let i := paramInst a.key
  slotAccess s.run a.key == .rwt && paramStatus s s.run i (paramSlot a.key) a.val == Status.OK &&
    (s.inBoth i || typeIn s.dict i == 0) &&
    (match a.val with | .bytes _ => s.sameShape i || !s.inBoth i | .num _ => true)

/-- A live parameter at sample k (R66, R77, R146, R489). The edit copy takes the value where it has the instance too. -/
def handParam (s : State) (a : Action) (k : Nat) (late : Bool) : State :=
  let i := paramInst a.key
  let p := paramSlot a.key
  if (s.swapOf i).isSome then waitForSwap s a late
  else if runAdmits s a then
    let t := liveSet s a.key k a.val
    countTaken (if s.inBoth i then editTakes t a else t) a late
  else
    let onlyEdit := if s.inBoth i then a.direct || paramStatus s s.run i p a.val == Status.OK else true
    if onlyEdit && !a.edited && paramStatus s s.dict i p a.val == Status.OK then countTaken (edited (editTakes s a)) a late
    else orphan s a

/-- A ROUTE, CONTRIB_SET or BUS_LEVEL action acts as an untimed write that arrives at its sample (R53, R146).
Between bullets 1 and 3 of R146 the model decides as log entry 255 says, its own choice. -/
def handGraph (s : State) (a : Action) (k : Nat) (late : Bool) : State :=
  let n := (Val.int a.val).toNat
  if liveNow s a.key a.val then countTaken (editTakes (liveSet s a.key k a.val) a) a late
  else if a.key = Obj.CONTRIB_SET ∧ contribStatus s n ≠ Status.OK then orphan s a
  else
    let s := countTaken (edited (editTakes s a)) a late
    if a.direct then s else s.raise Ev.TIMED_NOT_LIVE a.id

/-- A temple ceiling or a selvedge parameter (R61, R130, R146). -/
def handOutput (s : State) (a : Action) (k : Nat) (late : Bool) : State :=
  if runTakes s a.key a.val then countTaken (editTakes (liveSet s a.key k a.val) a) a late
  else if a.edited then orphan s a
  else countTaken (edited (editTakes s a)) a late

/-- A twill request at its sample (R64 to R66): counted when its swap starts. -/
def handTwill (s : State) (a : Action) (k : Nat) (late : Bool) : State :=
  if typeIn s.run ((Val.int a.val).toNat % 16384) = 0 then orphan s a
  else
    let s := twillDue s a k
    if s.graph.twills.any (fun t => t.phase == 2 && t.ask == a) then countTaken s a late else s

/-- An object outside the graph (R149, R222, R336): it takes the value, and what hangs on it follows. -/
def handOther (s : State) (a : Action) (late : Bool) : State :=
  let s := effect a.session a.key a.val s
  let s := s.unit (keyIndex a.key) 0x6000 32 (fun s c => if keySub a.key = 1 then enableApplied s c else s)
  countTaken s a late

/-- Whether an object is a route, a bus level or CONTRIB_SET, whose writes are judged for liveness (R53). -/
def judgedLive (k : Nat) : Bool :=
  let i := keyIndex k
  (Nat.ble 0x4600 i && Nat.ble i 0x461F) || (Nat.ble 0x4700 i && Nat.ble i 0x470F) || k == Obj.CONTRIB_SET

/-- Hands one action to its target at sample k (R142, R146); one whose target the running plan has lost since its insertion is orphaned.
Actions of a forwarded write may name objects of any access (R297). -/
def hand (s : State) (a : Action) (k : Nat) (late : Bool) : State :=
  if a.gone then orphan s a
  else if a.key = Obj.TWILL_REQUEST then handTwill s a k late
  else if judgedLive a.key then handGraph s a k late
  else if isLiveParam s a then handParam s a k late
  else if !isGraph s.dict a.key then (if isParam a.key then orphan s a else handOther s a late)
  else if s.accessTo a.key != .rwt then countTaken (graphWritten s a.key a.val) a late
  else handOutput s a k late

/-- Whether an action has reached its batten n: its pick has come, and its insertion is not after the batten (R143, R150). -/
def dueAt (s : State) (n : Nat) (a : Action) : Bool :=
  decide (a.sample / s.pl ≤ n) && !past a.stamp (s.battenNs n)

/-- Whether an action that is due counts as late (R137, R143): a step has skipped its pick, or it came after its opening batten. -/
def lateAt (s : State) (n : Nat) (a : Action) : Bool :=
  !a.direct && ((s.clock.stepped && decide (a.sample / s.pl < n)) || past a.stamp (s.battenNs (a.sample / s.pl)))

/-- The sample at which an action that is due at batten n acts (R143): its own, or offset 0 of the pick that opens. -/
def actsAt (s : State) (n : Nat) (a : Action) : Nat := if lateAt s n a then n * s.pl else max a.sample (n * s.pl)

/-- Whether a key is a length or a law by which other objects change: it holds for every change of its sample (R145). -/
def isLength (d : Map Val) (k : Nat) : Bool :=
  k == Obj.ROUTE_FADE_MS || k == Obj.ROUTE_FADE_LAW || (Nat.ble 0x4C00 (keyIndex k) && Nat.ble (keyIndex k) 0x4C3F && keySub k == 0x15) ||
    (isParam k && ((typeIn d (paramInst k) == 0x01 && paramSlot k == Par.TRIM_RAMP_MS) ||
      (typeIn d (paramInst k) == 0x30 && paramSlot k == Par.DELAY_FADE_MS)))

/-- Actions in the order in which they act at batten n (R137, R145): by sample, lengths first within one sample, then in insertion order;
after a step, skipped ones in order of instant. -/
def actOrder (s : State) (n : Nat) (due : List (Bool × Action)) : List (Bool × Action) :=
  let due := sortBy (fun (e : Bool × Action) => e.2.stamp) due
  let due := sortBy (fun (e : Bool × Action) => if isLength s.dict e.2.key then 0 else 1) due
  let due := if s.clock.stepped then sortBy (fun (e : Bool × Action) => min e.2.sample (n * s.pl)) due else due
  sortBy (fun (e : Bool × Action) => actsAt s n e.2) due

/-- What is due at batten n: writes whose twill swap has ended, marked, and the queue's actions (R66, R143). -/
def dueOrder (s : State) (n : Nat) : List (Bool × Action) :=
  let ready := s.graph.waiting.filter (fun (a : Action) => (s.swapOf (paramInst a.key)).isNone)
  actOrder s n (ready.map (fun a => (true, a)) ++ (s.agent.actions.filter (dueAt s n)).map (fun a => (false, a)))

/-- Hands over every action that is due at batten n (R18 step 3, R143). Writes that waited for a twill swap act in insertion order with
the others (R66); the edit copy takes them again, as the swap has set its active slots (R64). -/
def handOver (s : State) (n : Nat) : State :=
  let due := dueOrder s n
  let rest := s.graph.waiting.filter (fun (a : Action) => (s.swapOf (paramInst a.key)).isSome)
  let s := ({ s with graph := { s.graph with waiting := rest } }).setActions (s.agent.actions.filter (fun a => !dueAt s n a))
  s.each due (fun s e =>
    let a := e.2
    let late := lateAt s n a
    if late && discardsLate s a then countLate s a
    else hand (if e.1 && isParam a.key && s.inBoth (paramInst a.key) then editSet s a.key a.val else s) a (actsAt s n a) late)

/-- An arrival on the 8 ns point of the batten that has just opened is in time for it (R143, R150). -/
def handNow (s : State) : State := if s.agent.actions.any (dueAt s s.clock.pick) then handOver s s.clock.pick else s

end Machine
end Sys2Proof
end

