-- ==== Sys2Proof/Machine/Service.lean ====
section
/-! DEFINITION. What the Hapol agent does with an admitted message (R349 to R355, R359, R450 to R455): READ, WRITE, WRITE_TIMED,
SUBSCRIBE, BLOCK and CHALLENGE bodies. Each service answers the state, the status and the reply body. -/

namespace Sys2Proof
namespace Machine

/-- What a service answers: the state after it, the header STATUS and the reply body. -/
abbrev Served := State × Nat × List Byte

/-- The header STATUS: the status of the first item that is not OK (R366). -/
def firstRefused (sts : List Nat) : Nat := (sts.find? (fun st => st != Status.OK)).getD Status.OK

/-! ## READ (R139, R349) -/

/-- Readings that are formed when a read is served: engine time, times left and times elapsed (R101, R139, R171, R303). -/
def refresh (s : State) : State :=
  let s := s.wr Obj.ENGINE_TIME (time80 s.engineNs : Nat)
  let s := showQuiet s
  let s := if s.rd Obj.TIME_STATE = 3 then
      s.each [0, 1] (fun s n => s.wr (ix Obj.SP_HOLD_ELAPSED_S n) ((s.clock.now - s.ref.holdSince) / 1000000000 : Nat)) else s
  let s := s.each s.ref.auxHold (fun s h => s.wr (ix Obj.SP_HOLD_ELAPSED_S h.1) ((s.clock.now - h.2.1) / 1000000000 : Nat))
  if s.twin.step = 3 then s.wr Obj.TWIN_FILL_MS ((s.twin.fillUntil - s.clock.now + 999999) / 1000000 : Nat) else s

/-- One item of a READ: status, type code and value octets (R349). -/
def readItem (s : State) (k : Nat) : Nat × Nat × List Byte :=
  if !serves s k false then (Status.STATE, 0, [])
  else match s.objRow k with
    | none => (if isParam k || indexDefined (keyIndex k) then Status.UNKNOWN_SUB else Status.UNKNOWN_INDEX, 0, [])
    | some r => if r.access = .wo then (Status.WRITE_ONLY, r.ty.code, []) else (Status.OK, r.ty.code, wireOf r.ty (s.valueOf k))

/-- The octets of an item of a READ reply. -/
def readItemBytes (k status code : Nat) (v : List Byte) : List Byte :=
  beBytes 2 (keyIndex k) ++ beBytes 1 (keySub k) ++ beBytes 1 code ++ beBytes 2 status ++ beBytes 2 v.length ++ v

/-- The items of a READ reply, `used` octets standing before them: an item fits when its header and value leave 8 octets for each
later one (R349). Answers the statuses and the octets. -/
def readItemsFrom (s : State) : Nat → List Nat → List Nat × List Byte
  | _, [] => ([], [])
  | used, k :: rest =>
    let i := readItem s k
    let fits := decide (used + 8 + i.2.2.length + 8 * rest.length ≤ 1400)
    let b := if fits then readItemBytes k i.1 i.2.1 i.2.2 else readItemBytes k Status.TOO_LARGE i.2.1 []
    let r := readItemsFrom s (used + b.length) rest
    ((if fits then i.1 else Status.TOO_LARGE) :: r.1, b ++ r.2)

/-- The keys that a READ body names; none when it does not parse. -/
def readKeys (body : List Byte) : Option (List Nat) :=
  let n := body.length / 4
  if body.length % 4 ≠ 0 ∨ n = 0 ∨ 64 < n then none
  else some ((List.range n).map (fun j => keyOf (field body (4 * j) 2) (field body (4 * j + 2) 1)))

/-- READ (R349): the values of one batten. -/
def serveRead (s : State) (m : Msg) : Served :=
  match readKeys m.body with
  | none => (s, Status.MALFORMED, [])
  | some ks =>
    let s := refresh s
    let r := readItemsFrom s 0 ks
    (s, firstRefused r.1, r.2)

/-! ## WRITE (R350) -/

/-- The items of a body, 1 to 64 of them. -/
def someItems (extra : Nat) (body : List Byte) : Option (List Item) :=
  match readItems extra 64 body with
  | some [] => none
  | r => r

/-- What an item's type code and length give: OK, or TYPE_MISMATCH against its object (R341). -/
def codeStatus (s : State) (i : Item) : Nat :=
  match s.objRow i.key with
  | none => Status.OK
  | some r => if i.code = r.ty.code ∧ (r.ty.octets = true ∨ i.value.length = r.ty.size) then Status.OK else Status.TYPE_MISMATCH

/-- The value of an item as its object's type reads it. -/
def itemValue (s : State) (i : Item) : Val := readWire (s.tyOf i.key) i.value

/-- The lease holder's LOOM_ID, after the items of a reply in which one reports NOT_AUTHORITY (R296, R350). -/
def holderBytes (s : State) (sts : List Nat) : List Byte :=
  if sts.contains Status.NOT_AUTHORITY then beBytes 2 (s.rdN Obj.TWIN_PARTNER) else []

/-- WRITE (R350): its items are applied together or not at all. -/
def serveWrite (s : State) (w : Writer) (m : Msg) : Served :=
  match someItems 0 m.body with
  | none => (s, Status.MALFORMED, [])
  | some items =>
    let r := writeAll s w (items.map (fun i => (i.key, codeStatus s i, itemValue s i)))
    let sts := r.2.map (fun (e : Nat × Nat) => e.1)
    let body := (items.zip r.2).flatMap (fun (e : Item × Nat × Nat) =>
      beBytes 2 e.1.index ++ beBytes 1 e.1.sub ++ beBytes 1 e.2.2 ++ beBytes 2 e.2.1)
    let refusals := sts.filter (fun st => st != Status.ATOMIC)
    (r.1, firstRefused refusals, body ++ holderBytes s sts)

/-! ## WRITE_TIMED (R140, R141, R144, R297, R351) -/

/-- The check of one item at insertion: only objects of access RWT take a timed write (R140). -/
def timedStatus (s : State) (w : Writer) (i : Item) : Nat :=
  let pre := codeStatus s i
  match s.objRow i.key with
  | some r => if serves s i.key true && pre == Status.OK && r.access != .rwt then Status.NOT_TIMED else writeStatus s w i.key pre (itemValue s i)
  | none => writeStatus s w i.key pre (itemValue s i)

/-- The sample that a control word and an instant select, or RANGE (R134, R140, R141, R351). -/
def timedSample (s : State) (control : Nat) (instant : List Byte) : Except Nat Nat :=
  let form := bits control 1 0
  let offset := bits control 15 8
  if bits control 3 2 = 3 ∨ 2 ≤ form then .error Status.RANGE
  else if form = 0 then
    let v := beNat instant
    if time80Valid v then .ok (s.sampleAt (time80Ns v)) else .error Status.RANGE
  else if field instant 0 2 ≠ 0 ∨ s.pl ≤ offset then .error Status.RANGE
  else .ok (field instant 2 8 * s.pl + offset)

/-- Inserts one accepted timed action (R140, R297). On a pair's holder an insertion later than its lead is late at once: it is
discarded, or counted and applied at the lead pick. -/
def insertTimed (s : State) (session sample late tag : Nat) (e : Nat × Val) : State :=
  let s := if e.1 = Obj.TWILL_REQUEST then preload s ((Val.int e.2).toNat % 16384) else s
  let opening := s.battenNs (sample / s.pl)
  let lead := s.rdN Obj.TWIN_WRITE_LEAD_PICKS * s.pickNs
  if leads s e.1 && past (s.engineNs + lead) opening then
    let id := s.agent.nextAction
    let s := s.insert e.1 e.2 (leadPick s * s.pl) 3 tag session
    let s := countLate s ⟨id, e.1, e.2, sample, 0, late, tag, session, false, false, false⟩
    if late = 2 ∨ (late = 0 ∧ s.rd Obj.TIMED_LATE_POLICY = 1) then s.setActions (s.agent.actions.filter (fun a => a.id != id || a.direct))
    else s
  else s.insert e.1 e.2 sample late tag session

/-- Whether a timed write on a pair's holder has missed its lead and is discarded (R297). -/
def missesLead (s : State) (sample late : Nat) : Bool :=
  past (s.engineNs + s.rdN Obj.TWIN_WRITE_LEAD_PICKS * s.pickNs) (s.battenNs (sample / s.pl)) &&
    (late == 2 || (late == 0 && s.rd Obj.TIMED_LATE_POLICY == 1))

/-- The sample at which a pair applies a timed write (R297). -/
def pairSample (s : State) (sample : Nat) : Nat :=
  if past (s.engineNs + s.rdN Obj.TWIN_WRITE_LEAD_PICKS * s.pickNs) (s.battenNs (sample / s.pl)) then leadPick s * s.pl else sample

/-- Reply items of a WRITE_TIMED: status and action ID (R351). -/
def timedBody (items : List Item) (sts ids : List Nat) : List Byte :=
  (items.zip (sts.zip ids)).flatMap (fun (e : Item × Nat × Nat) =>
    beBytes 2 e.1.index ++ beBytes 1 e.1.sub ++ beBytes 1 0 ++ beBytes 2 e.2.1 ++ beBytes 4 e.2.2)

/-- Why the queue or the instant refuses a whole WRITE_TIMED, or OK (R140, R141, R144). -/
def timedRefusal (s : State) (control : Nat) (instant : List Byte) (n : Nat) : Nat :=
  match timedSample s control instant with
  | .error e => e
  | .ok k => s.insertStatus k (n - 1)

/-- The accepted items of a WRITE_TIMED enter the queue in their order, and a pair's holder forwards them (R297, R351). -/
def insertAll (s : State) (w : Writer) (sample control : Nat) (items : List Item) : State :=
  let late := bits control 3 2
  let tag := bits control 31 16
  let ids := (List.range items.length).map (fun j => (s.agent.nextAction + j - 1) % 4294967295 + 1)
  let shared := (items.zip ids).filter (fun (e : Item × Nat) => leads s e.1.key)
  let k := pairSample s sample
  let t := s.each items (fun s i => insertTimed s w.session sample late tag (i.key, itemValue s i))
  if shared.isEmpty || missesLead s sample late then t
  else forward t (shared.map (fun (e : Item × Nat) => { e.1 with action := e.2 })) (k / s.pl) (k % s.pl) tag true

/-- WRITE_TIMED (R351): all of its items become timed actions, or none. -/
def serveTimed (s : State) (w : Writer) (m : Msg) : Served :=
  let control := field m.body 0 4
  let instant := (m.body.drop 4).take 10
  if m.body.length < 14 then (s, Status.MALFORMED, [])
  else match someItems 0 (m.body.drop 14) with
    | none => (s, Status.MALFORMED, [])
    | some items =>
      let zeros := items.map (fun _ => 0)
      let sts := items.map (timedStatus s w)
      if sts.any (fun st => st != Status.OK) then
        let shown := sts.map (fun st => if st = Status.OK then Status.ATOMIC else st)
        (s, firstRefused sts, timedBody items shown zeros ++ holderBytes s sts)
      else
        let st := timedRefusal s control instant items.length
        if st ≠ Status.OK then (s, st, timedBody items (items.map (fun _ => st)) zeros)
        else match timedSample s control instant with
          | .error e => (s, e, [])
          | .ok k =>
            let ids := (List.range items.length).map (fun j => (s.agent.nextAction + j - 1) % 4294967295 + 1)
            (insertAll s w k control items, Status.OK, timedBody items zeros ids)

/-! ## SUBSCRIBE (R352) -/

/-- Whether a SUBSCRIBE body names intervals in their ranges. -/
def intervalsOk (b : List Byte) : Bool :=
  let min_ := field b 6 2
  let period := field b 8 2
  Nat.ble 10 min_ && Nat.ble min_ 60000 && (period == 0 || (Nat.ble 100 period && Nat.ble period 60000))

/-- Whether the engine or the session holds all the subscriptions it may. -/
def subsFull (s : State) (session : Nat) : Bool :=
  decide (4096 ≤ s.agent.subs.length) || decide (512 ≤ (s.agent.subs.filter (fun u => u.session == session)).length)

/-- Adds a subscription and answers its ID. -/
def addSub (s : State) (u : Sub) : Served :=
  let s := s.setAgent (fun a => { a with subs := a.subs ++ [u], nextSub := if u.id = 4294967295 then 1 else u.id + 1 })
  (showSubs s u.session, Status.OK, beBytes 4 u.id)

/-- SUBSCRIBE with OP 1 (R352): a value subscription of an object that can be read. -/
def serveSubValue (s : State) (m : Msg) : Served :=
  let b := m.body
  let k := keyOf (field b 2 2) (field b 4 1)
  let i := readItem s k
  if m.session = 0 then (s, Status.SESSION_UNKNOWN, [])
  else if b.length ≠ 12 then (s, Status.MALFORMED, [])
  else if !intervalsOk b then (s, Status.RANGE, [])
  else if i.1 ≠ Status.OK then (s, i.1, [])
  else if subsFull s m.session then (s, Status.BUSY, [])
  else addSub s ⟨s.agent.nextSub, m.session, false, k, field b 6 2, field b 8 2, i.2.2, s.clock.now, false⟩

/-- SUBSCRIBE with OP 2 (R352): an events subscription. -/
def serveSubEvents (s : State) (m : Msg) : Served :=
  if m.session = 0 then (s, Status.SESSION_UNKNOWN, [])
  else if m.body.length ≠ 12 then (s, Status.MALFORMED, [])
  else if subsFull s m.session then (s, Status.BUSY, [])
  else addSub s ⟨s.agent.nextSub, m.session, true, 0, 0, 0, [], s.clock.now, false⟩

/-- SUBSCRIBE with OP 0 (R352): the session's own subscription goes. -/
def serveSubRemove (s : State) (m : Msg) : Served :=
  let id := field m.body 2 4
  if m.session = 0 then (s, Status.SESSION_UNKNOWN, [])
  else if m.body.length ≠ 12 then (s, Status.MALFORMED, [])
  else if !s.agent.subs.any (fun u => u.id == id && u.session == m.session) then (s, Status.RANGE, [])
  else
    let s := s.setAgent (fun a => { a with subs := a.subs.filter (fun u => u.id != id) })
    (eventsEnd (showSubs s m.session) m.session, Status.OK, beBytes 4 id)

/-! ## BLOCK (R355) -/

/-- A transfer of the writer's session. -/
def xferOf (s : State) (session id : Nat) (write : Bool) : Option Xfer :=
  s.agent.xfers.find? (fun x => x.id == id && x.session == session && x.write == write)

/-- The 24 octets that begin a BLOCK reply. -/
def blockHead (op k xfer offset total crc : Nat) : List Byte :=
  beBytes 1 op ++ beBytes 1 0 ++ beBytes 2 (keyIndex k) ++ beBytes 1 (keySub k) ++ beBytes 3 0 ++ beBytes 4 xfer ++ beBytes 4 offset ++
    beBytes 4 total ++ beBytes 4 crc

/-- The object that a BLOCK body names. -/
def blockKey (b : List Byte) : Nat := keyOf (field b 2 2) (field b 4 1)

/-- Whether a total length can be the length of an object (R341, R489). -/
def lengthOk (s : State) (k total : Nat) : Bool :=
  match s.objRow k with
  | some r => (match r.range with | .len n => total == n | _ => true) && decide (total ≤ 16777216) &&
      (!isParam k || total == (Val.octets (s.valueOf k)).length)
  | none => false

/-- A write-begin is checked like a WRITE of the object, its value apart (R355). -/
def beginStatus (s : State) (w : Writer) (k total : Nat) : Nat :=
  if !serves s k true then Status.STATE
  else match s.objRow k with
    | none => if isParam k || indexDefined (keyIndex k) then Status.UNKNOWN_SUB else Status.UNKNOWN_INDEX
    | some r => firstBad [
        need (r.ty.octets && lengthOk s k total) Status.TYPE_MISMATCH,
        need (r.access != .ro) Status.READ_ONLY,
        mayWrite s w k,
        need (decide (s.agent.xfers.length < 8) && !s.agent.xfers.any (fun x => x.write && x.key == k)) Status.BUSY]

/-- Opens a transfer under the next ID. -/
def openXfer (s : State) (x : Xfer) : State :=
  s.setAgent (fun a => { a with xfers := a.xfers ++ [x], nextXfer := if x.id = 4294967295 then 1 else x.id + 1 })

/-- Ends a transfer. -/
def dropXfer (s : State) (id : Nat) : State := s.setAgent (fun a => { a with xfers := a.xfers.filter (fun x => x.id != id) })

/-- write-begin (R355). -/
def serveWriteBegin (s : State) (w : Writer) (m : Msg) : Served :=
  let b := m.body
  let k := blockKey b
  let total := field b 16 4
  let id := s.agent.nextXfer
  if b.length < 24 then (s, Status.MALFORMED, [])
  else
    let st := beginStatus s w k total
    if st ≠ Status.OK then (s, st, blockHead 1 k 0 0 total (field b 20 4) ++ holderBytes s [st])
    else
      (openXfer s ⟨id, m.session, k, true, total, field b 20 4, [], s.clock.now, w⟩, Status.OK, blockHead 1 k id 0 total (field b 20 4))

/-- The value that the segments of a transfer make up, in order of offset. -/
def joined (x : Xfer) : List Byte := (sortBy (fun (p : Nat × List Byte) => p.1) x.parts).flatMap (fun (p : Nat × List Byte) => p.2)

/-- The last segment of a write transfer has come (R355): the CRC is checked and the whole value applied as one WRITE. -/
def finishXfer (s : State) (x : Xfer) (head : List Byte) : Served :=
  let v := joined x
  let s := dropXfer s x.id
  if crc32 v ≠ x.crc then (s, Status.BLOCK_ERROR, head)
  else
    let r := writeAll s x.writer [(x.key, Status.OK, .bytes v)]
    let e := r.2.headD (Status.OK, 0)
    (r.1, e.1, head ++ beBytes 2 (keyIndex x.key) ++ beBytes 1 (keySub x.key) ++ beBytes 1 e.2 ++ beBytes 2 e.1 ++ holderBytes s [e.1])

/-- write-data (R355): every segment but the last carries 1,024 octets. -/
def serveWriteData (s : State) (m : Msg) : Served :=
  let b := m.body
  let id := field b 8 4
  let offset := field b 12 4
  let data := b.drop 24
  let head := blockHead 2 (blockKey b) id offset 0 0
  if b.length < 24 ∨ 1024 < data.length then (s, Status.MALFORMED, [])
  else match xferOf s m.session id true with
    | none => (s, Status.BLOCK_ERROR, head)
    | some x =>
      if offset % 1024 ≠ 0 ∨ x.total < offset ∨ data.length ≠ min 1024 (x.total - offset) then (s, Status.BLOCK_ERROR, head)
      else
        let y := { x with parts := x.parts.filter (fun p => p.1 != offset) ++ [(offset, data)], lastAt := s.clock.now }
        let s := s.setAgent (fun a => { a with xfers := change a.xfers (fun z => z.id == id) (fun _ => y) })
        if (y.parts.map (fun p => p.2.length)).sum = y.total then finishXfer s y head else (s, Status.OK, head)

/-- read-begin (R355): the value is copied at once. -/
def serveReadBegin (s : State) (w : Writer) (m : Msg) : Served :=
  let k := blockKey m.body
  let id := s.agent.nextXfer
  if m.body.length < 24 then (s, Status.MALFORMED, [])
  else
    let i := readItem s k
    let st := firstBad [i.1, need (s.tyOf k).octets Status.TYPE_MISMATCH, need (decide (s.agent.xfers.length < 8)) Status.BUSY]
    if st ≠ Status.OK then (s, st, blockHead 3 k 0 0 0 0)
    else
      let v := i.2.2
      (openXfer s ⟨id, m.session, k, false, v.length, crc32 v, [(0, v)], s.clock.now, w⟩, Status.OK, blockHead 3 k id 0 v.length (crc32 v))

/-- read-data (R355): one segment of the copy. -/
def serveReadData (s : State) (m : Msg) : Served :=
  let id := field m.body 8 4
  let offset := field m.body 12 4
  let head := blockHead 4 (blockKey m.body) id offset 0 0
  if m.body.length < 24 then (s, Status.MALFORMED, [])
  else match xferOf s m.session id false with
    | none => (s, Status.BLOCK_ERROR, head)
    | some x =>
      if offset % 1024 ≠ 0 ∨ x.total < offset then (s, Status.BLOCK_ERROR, head)
      else
        let s := s.setAgent (fun a => { a with xfers := change a.xfers (fun z => z.id == id) (fun z => { z with lastAt := s.clock.now }) })
        (s, Status.OK, head ++ ((joined x).drop offset).take 1024)

/-- abort (R355): the transfer ends. -/
def serveAbort (s : State) (m : Msg) : Served :=
  let id := field m.body 8 4
  let head := blockHead 5 (blockKey m.body) id 0 0 0
  if m.body.length < 24 then (s, Status.MALFORMED, [])
  else if !s.agent.xfers.any (fun x => x.id == id && x.session == m.session) then (s, Status.BLOCK_ERROR, head)
  else (dropXfer s id, Status.OK, head)

/-! ## CHALLENGE for sessions (R359) -/

/-- Body of a reply to open: OP, status, SESSION, RIGHTS and Ne. -/
def openBody (st session rights : Nat) (ne : List Byte) : List Byte :=
  beBytes 1 1 ++ beBytes 2 st ++ beBytes 4 session ++ beBytes 1 rights ++ sizedBytes 16 ne

/-- Whether a path asks for authentication (R359, R362). -/
def authOn (s : State) (p : Path) : Bool := s.on (if p = .mailbox then Obj.HAPOL_AUTH_MAILBOX else Obj.HAPOL_AUTH_NET)

/-- Status of an open (R359). -/
def openStatus (s : State) (p : Path) (kid want : Nat) : Nat :=
  let key := ix Obj.HAPOL_KEY kid
  firstBad [
    need (decide (want ≤ 3) && (decide (kid ≤ 7) || kid == 0xFF)) Status.RANGE,
    need (kid != 0xFF || !authOn s p) Status.AUTH_REQUIRED,
    need (kid == 0xFF || s.on (key + 2)) Status.AUTH_REQUIRED,
    need (kid == 0xFF || decide (want ≤ s.rdN (key + 1))) Status.RIGHTS,
    need (freeSlot s).isSome Status.BUSY]

/-- A session ID that no session has: the part draws it (R359). -/
def newSessionId (s : State) : Nat :=
  let base := Config.sessionId s.agent.nextSession
  let ids := (List.range 34).map (fun j => (base + j) % 4294967296)
  (ids.find? (fun i => i != 0 && (sessionOf s i).isNone)).getD 1

/-- open (R359 steps 1 to 3): an untagged session is open at once; a keyed one waits for its prove. -/
def openSession (s : State) (e : Envelope) (kid want : Nat) (nh : List Byte) : Served :=
  let id := newSessionId s
  let slot := (freeSlot s).getD 0
  let keyed := kid != 0xFF
  let ne := if keyed then sizedBytes 16 (Config.nonce s.fresh) else []
  let sk := if keyed then hmac (s.rdB (ix Obj.HAPOL_KEY kid)) (nh ++ ne ++ beBytes 4 id) else []
  let rights := if keyed then want else min want 2
  let x : Session := ⟨slot, id, e.path, e.peer, rights, kid, sk, !keyed, 0, 0, s.clock.now, []⟩
  let s := { s with fresh := s.fresh + 1 }.setAgent (fun a => { a with sessions := a.sessions ++ [x], nextSession := a.nextSession + 1 })
  (if keyed then s else showSession s x, Status.OK, openBody Status.OK id rights ne)

/-- Body of a reply to prove. -/
def proveBody (st rights : Nat) : List Byte := beBytes 1 2 ++ beBytes 2 st ++ beBytes 1 rights
/-- Body of a reply to close, or to the close of debug access. -/
def closeBody (op st : Nat) : List Byte := beBytes 1 op ++ beBytes 2 st

/-! ## CHALLENGE for debug access (R450 to R455) -/

/-- Body of a reply under OP 0x11 or 0x12 (R450). -/
def grantBody (op st scope expiry : Nat) : List Byte := beBytes 1 op ++ beBytes 2 st ++ beBytes 2 scope ++ beBytes 10 expiry

/-- OP 0x10 (R452). -/
def serveDebugRequest (s : State) (rights : Nat) (m : Msg) : Served :=
  let scope := field m.body 2 2
  if m.body.length ≠ 4 then (s, Status.MALFORMED, [])
  else
    let st := firstBad [need (decide (3 ≤ rights)) Status.RIGHTS, scopeStatus s scope]
    if st ≠ Status.OK then (s, st, beBytes 1 0x10 ++ beBytes 2 st ++ List.replicate 32 0)
    else
      let s := debugNonce s scope
      (s, Status.OK, beBytes 1 0x10 ++ beBytes 2 0 ++ s.dbg.nonce ++ sizedBytes 16 Config.dieId)

/-- A grant, or a failure, and its reply (R450, R454). -/
def debugOutcome (s : State) (session op scope : Nat) (good : Bool) : Served :=
  if good then
    let s := debugGrant s session scope
    (s, Status.OK, grantBody op Status.OK scope (expiryTime s))
  else (debugFailed s op, Status.AUTH_REQUIRED, grantBody op Status.AUTH_REQUIRED 0 0)

/-- OP 0x11 (R452): a nonce serves one answer. -/
def serveDebugAnswer (s : State) (rights : Nat) (m : Msg) : Served :=
  let scope := field m.body 2 2
  if m.body.length ≠ 20 then (s, Status.MALFORMED, [])
  else
    let st := firstBad [need (decide (3 ≤ rights)) Status.RIGHTS, scopeStatus s scope]
    if st ≠ Status.OK then (s, st, grantBody 0x11 st 0 0)
    else debugOutcome { s with dbg := { s.dbg with nonce := [] } } m.session 0x11 scope (answerGood s scope (m.body.drop 4))

/-- OP 0x12 (R453): the password is taken on the mailbox or in a tagged session only. -/
def serveDebugPassword (s : State) (rights : Nat) (p : Path) (m : Msg) : Served :=
  let scope := field m.body 2 2
  if m.body.length ≠ 20 then (s, Status.MALFORMED, [])
  else
    let st := firstBad [need (p == .mailbox || m.tagged) Status.AUTH_REQUIRED, need (decide (3 ≤ rights)) Status.RIGHTS, scopeStatus s scope]
    if st ≠ Status.OK then (s, st, grantBody 0x12 st 0 0)
    else debugOutcome s m.session 0x12 scope (passwordGood s scope (m.body.drop 4))

/-- OP 0x13 (R455): the grant ends. -/
def serveDebugClose (s : State) (rights : Nat) (m : Msg) : Served :=
  if m.body.length ≠ 4 then (s, Status.MALFORMED, [])
  else if rights < 3 then (s, Status.RIGHTS, closeBody 0x13 Status.RIGHTS)
  else (endGrant s, Status.OK, closeBody 0x13 Status.OK)

end Machine
end Sys2Proof
end

