-- ==== Sys2Proof/Machine/Hapol.lean ====
section
/-! DEFINITION. The Hapol agent (R344 to R348, R352 to R357, R360 to R363): how a message is checked, admitted and answered, the
notifications it sends, forwarded writes, and core restarts (R368) with the queue that waits through them. -/

namespace Sys2Proof
namespace Machine

/-- The requests that the table gives rows, by TYPE and OP. -/
inductive Kind where
  | read | write | timed | subValue | subEvents | subRemove | ack | writeBegin | writeData | readBegin | readData | abort
  | open_ | prove | close | debugRequest | debugAnswer | debugPassword | debugClose | forwarded | lease
  deriving DecidableEq, Repr

/-- The request that a message is, if its TYPE and OP name one (R344, R352, R355, R357, R359, R450). -/
def kindOf (m : Msg) : Option Kind :=
  let op := field m.body 0 1
  match m.type with
  | 1 => some .read
  | 2 => some .write
  | 3 => if m.srcLoom ≠ 0 ∧ m.session = 0 then some .forwarded else some .timed
  | 4 => match op with | 0 => some .subRemove | 1 => some .subValue | 2 => some .subEvents | _ => none
  | 5 => if m.reply then some .ack else none
  | 6 => match op with
    | 1 => some .writeBegin | 2 => some .writeData | 3 => some .readBegin | 4 => some .readData | 5 => some .abort | _ => none
  | 7 => some .lease
  | 8 => match op with
    | 0x01 => some .open_ | 0x02 => some .prove | 0x03 => some .close | 0x10 => some .debugRequest | 0x11 => some .debugAnswer
    | 0x12 => some .debugPassword | 0x13 => some .debugClose | _ => none
  | _ => none

/-! ## The checks of the header (R344) -/

/-- Whether a path carries raw frames, whose padding LENGTH cuts off (R345). -/
def rawFrames : Path → Bool
  | .rawCp => true
  | .rawMp0 => true
  | .rawMp1 => true
  | .swiska => true
  | _ => false

/-- Status of a message's header: MALFORMED or UNSUPPORTED at the first check that fails, else OK (R344). -/
def headerStatus (p : Path) (b : List Byte) : Nat :=
  let m := readMsg b
  let n := if rawFrames p then min b.length (statedLength m) else b.length
  if m.version ≠ 1 then Status.UNSUPPORTED
  else if n ≠ statedLength m ∨ 1400 < m.length then Status.MALFORMED
  else if m.type = 0 ∨ 8 < m.type then Status.UNSUPPORTED
  else Status.OK

/-! ## Replies (R345, R348, R360) -/

/-- Sends a message of a session to its peer, tagged with the session's next counter when it has a key (R360). `x` is the session as
it stood when the request came. -/
def sendAs (s : State) (path : Path) (peer : Nat) (x : Option Session) (m : Msg) : State :=
  match x with
  | some x =>
    if x.proved && !x.key.isEmpty then
      let c := (match sessionOf s x.id with | some y => y.ownCounter | none => x.ownCounter) + 1
      let s := s.setSession x.id (fun y => { y with ownCounter := c })
      s.sendMsg path peer (messageBytes { m with tagged := true, counter := c } x.key)
    else s.sendMsg path peer (messageBytes { m with tagged := false, counter := 0 } [])
  | none => s.sendMsg path peer (messageBytes { m with tagged := false, counter := 0 } [])

/-- Answers a request on its path, to its source (R345). A BUSY is counted. -/
def answer (s : State) (e : Envelope) (x : Option Session) (type session reqId status : Nat) (body : List Byte) : State :=
  let s := if status = Status.BUSY then s.bump Obj.HAPOL_BUSY_REPLIES else s
  sendAs s e.path e.peer x ⟨1, type, true, false, false, body.length, session, reqId, 0, status, s.loomId, body, []⟩

/-- Keeps a reply among the session's last 16 (R348). -/
def keepReply (s : State) (session : Nat) (r : Nat × Nat × Nat × List Byte) : State :=
  s.setSession session (fun x => { x with replies := (r :: x.replies.filter (fun q => q.1 != r.1)).take 16 })

/-! ## Admission (R360 to R363) -/

/-- A message whose tag or counter fails is dropped and counted (R361). -/
def authFail (s : State) (e : Envelope) : State :=
  (s.bump Obj.HAPOL_AUTH_FAILS).raise Ev.HAPOL_AUTH_FAIL (arg2 (pathCode e.path) (e.peer % 65536))

/-- Whether a tagged message verifies under a session key with a counter above the last accepted one (R360, R361). -/
def tagGood (x : Session) (m : Msg) : Bool := m.tag == tag16 x.key (covered m) && decide (x.hostCounter < m.counter)

/-- What admission answers: dropped without reply, refused with a status, or admitted with rights. -/
inductive Admit where
  | drop
  | refuse (status : Nat)
  | ok (rights : Nat)
  deriving DecidableEq, Repr

/-- Whether a message is a READ whose items all lie in the identity area (R362, R446). -/
def readsIdentity (m : Msg) : Bool :=
  m.type == 1 && (match readKeys m.body with
    | some ks => ks.all (fun k => Nat.ble 0x1000 (keyIndex k) && Nat.ble (keyIndex k) 0x10FF)
    | none => false)

/-- Admission of a message (R361 to R363). -/
def letIn (s : State) (e : Envelope) (m : Msg) : Admit :=
  if m.session = 0 then
    if m.tagged then .drop
    else match writerRights s ⟨e.path, 0⟩ with
      | .ok r => .ok r
      | .error st => if readsIdentity m then .ok 0 else .refuse st
  else match sessionOf s m.session with
    | none => .refuse Status.SESSION_UNKNOWN
    | some x =>
      if !x.proved then .refuse Status.SESSION_UNKNOWN
      else if x.key.isEmpty then (if m.tagged then .drop else .ok x.rights)
      else if !m.tagged then .refuse Status.AUTH_REQUIRED
      else if tagGood x m then .ok x.rights else .drop

/-- An accepted message keeps its session alive and moves the host's counter (R360, R363). -/
def touch (s : State) (m : Msg) : State :=
  s.setSession m.session (fun x => { x with lastAt := s.clock.now, hostCounter := if m.tagged then m.counter else x.hostCounter })

/-! ## Acknowledgements (R354) -/

/-- A NOTIFY reply acknowledges the event records of its REQ_ID. -/
def acked (s : State) (m : Msg) : State :=
  match s.agent.notifies.find? (fun n => n.session == m.session && n.req == m.reqId) with
  | none => s
  | some n =>
    let s := s.setAgent (fun a => { a with notifies := a.notifies.filter (fun q => !(q.session == m.session && q.req == m.reqId)) })
    unwait m.session (fun q => n.records.any (fun r => r.seq == q)) s

/-! ## Sessions (R359) -/

/-- open: never tagged, since it opens the session. -/
def takeOpen (s : State) (e : Envelope) (m : Msg) : State :=
  let kid := field m.body 1 1
  let want := field m.body 2 1
  if m.body.length ≠ 20 then answer s e none 8 0 m.reqId Status.MALFORMED []
  else
    let st := openStatus s e.path kid want
    if st ≠ Status.OK then answer s e none 8 0 m.reqId st (openBody st 0 0 [])
    else
      let r := openSession s e kid want (m.body.drop 4)
      answer r.1 e none 8 (field r.2.2 3 4) m.reqId Status.OK r.2.2

/-- prove: it opens the keyed session, or leaves none. -/
def takeProve (s : State) (e : Envelope) (m : Msg) : State :=
  let refuse (s : State) (st : Nat) := answer s e none 8 m.session m.reqId st (proveBody st 0)
  match sessionOf s m.session with
  | none => refuse s Status.SESSION_UNKNOWN
  | some x =>
    if x.proved then refuse s Status.STATE
    else if !m.tagged then refuse (endSession x.id s) Status.AUTH_REQUIRED
    else if !tagGood x m || m.body.length ≠ 1 then authFail (endSession x.id s) e
    else
      let s := touch (s.setSession x.id (fun y => { y with proved := true })) m
      let s := showSession s x
      answer s e (sessionOf s x.id) 8 x.id m.reqId Status.OK (proveBody Status.OK x.rights)

/-- close: the session ends. -/
def takeClose (s : State) (e : Envelope) (m : Msg) : State :=
  match letIn s e m with
  | .drop => authFail s e
  | .refuse st => answer s e none 8 m.session m.reqId st (closeBody 3 st)
  | .ok _ =>
    let x := sessionOf s m.session
    if x.isNone then answer s e none 8 m.session m.reqId Status.SESSION_UNKNOWN (closeBody 3 Status.SESSION_UNKNOWN)
    else endSession m.session (answer (touch s m) e x 8 m.session m.reqId Status.OK (closeBody 3 Status.OK))

/-! ## Forwarded writes (R297, R357) -/

/-- Whether a forwarded message is accepted by the standby: on Swiska from a port of the pair; on the field network from the peer's
address, with the pair key's tag, and in order. -/
def forwardAccepted (s : State) (e : Envelope) (m : Msg) : Bool :=
  s.on Obj.TWIN_ENABLE && !s.holds && decide (m.srcLoom = s.rdN Obj.TWIN_PARTNER) && decide (s.rdN Obj.TWIN_WRITE_SEQ < m.reqId) &&
  (match e.path with
    | .swiska => (twinPorts s).contains e.peer && !m.tagged
    | .mailbox => false
    | p =>
      match pathMac p with
      | none => false
      | some mac => !pathUdp p && leaseKeySet s && m.tagged && decide (peerAddr s mac ≠ 0) && e.peer == peerAddr s mac &&
          m.counter == m.reqId && m.tag == tag16 (s.rdB Obj.TWIN_LEASE_KEY) (covered m))

/-- A forwarded write or cancel (R357): items of a timed write each carry the holder's action ID. -/
def takeForwardedMsg (s : State) (e : Envelope) (m : Msg) : State :=
  let s := if e.path = .swiska then s.setAgent (fun a => { a with joining := a.joining.filter (fun j => j.1 != e.peer) }) else s
  if !forwardAccepted s e m then (if e.path = .swiska then s else authFail s e)
  else
    let control := field m.body 0 4
    let pick := field m.body 6 8
    let b := m.body.drop 14
    match readItems 0 1400 b, readItems 4 1400 b with
    | some is, _ => forwarded s m.reqId pick (bits control 15 8) (bits control 31 16) false is
    | none, some is => forwarded s m.reqId pick (bits control 15 8) (bits control 31 16) true is
    | none, none => s

/-! ## The pipeline (R344, R347, R348) -/

/-- What an admitted request is served with. -/
def serveBody (k : Kind) (s : State) (e : Envelope) (rights : Nat) (m : Msg) : Served :=
  let w : Writer := ⟨e.path, m.session⟩
  match k with
  | .read => serveRead s m
  | .write => serveWrite s w m
  | .timed => serveTimed s w m
  | .subValue => serveSubValue s m
  | .subEvents => serveSubEvents s m
  | .subRemove => serveSubRemove s m
  | .writeBegin => serveWriteBegin s w m
  | .writeData => serveWriteData s m
  | .readBegin => serveReadBegin s w m
  | .readData => serveReadData s m
  | .abort => serveAbort s m
  | .debugRequest => serveDebugRequest s rights m
  | .debugAnswer => serveDebugAnswer s rights m
  | .debugPassword => serveDebugPassword s rights e.path m
  | .debugClose => serveDebugClose s rights m
  | _ => (s, Status.OK, [])

/-- An admitted request is served once: a repeated REQ_ID of a session gets the stored reply (R348). -/
def serveOnce (k : Kind) (s : State) (e : Envelope) (rights : Nat) (m : Msg) : State :=
  let x := sessionOf s m.session
  match x.bind (fun y => y.replies.find? (fun r => r.1 == m.reqId)) with
  | some r => answer s e x r.2.1 m.session m.reqId r.2.2.1 r.2.2.2
  | none =>
    let r := serveBody k s e rights m
    let s := keepReply r.1 m.session (m.reqId, m.type, r.2.1, r.2.2)
    answer s e x m.type m.session m.reqId r.2.1 r.2.2

/-- A request of a kind: admitted, then served (R361, R362). Swiska carries forwarded writes alone (R346), and a reply answers no
request unless it acknowledges a NOTIFY. -/
def serveKind (k : Kind) (s : State) (e : Envelope) (m : Msg) : State :=
  match k with
  | .lease => s
  | .forwarded => takeForwardedMsg s e m
  | _ =>
    if e.path = .swiska ∨ (m.reply && k != .ack) then s
    else match k with
      | .open_ => takeOpen s e m
      | .prove => takeProve s e m
      | .close => takeClose s e m
      | _ =>
        match letIn s e m with
        | .drop => authFail s e
        | .refuse st => if m.reply then s else answer s e (sessionOf s m.session) m.type m.session m.reqId st []
        | .ok rights => if k = .ack then acked (touch s m) m else serveOnce k (touch s m) e rights m

/-- A message whose OP names no request does not parse (R352, R355, R359). -/
def serveNone (s : State) (e : Envelope) (m : Msg) : State :=
  if e.path = .swiska ∨ m.reply then s
  else match letIn s e m with
    | .drop => authFail s e
    | .refuse st => answer s e (sessionOf s m.session) m.type m.session m.reqId st []
    | .ok _ => answer (touch s m) e (sessionOf s m.session) m.type m.session m.reqId Status.MALFORMED []

/-- The agent takes a message (R344): the checks of its header in order, then the request that it is. `want` names the row of the
command; none takes any request. -/
def takeMessage (want : Option Kind) (s : State) (e : Envelope) : State :=
  let s := if e.path = .mailbox then { s with creel := { s.creel with busy := false } } else s
  if e.msg.length < 20 then s.bump Obj.HAPOL_MALFORMED
  else
    let m := readMsg e.msg
    let st := headerStatus e.path e.msg
    if st ≠ Status.OK then (if e.path = .swiska then s else answer s e (sessionOf s m.session) m.type m.session m.reqId st [])
    else match kindOf m with
      | none => serveNone s e m
      | some k => if want = none ∨ want = some k then serveKind k s e m else s

/-- Whether a message on a path reaches the agent (R224, R345). -/
def reaches (s : State) (p : Path) : Bool :=
  s.pathOn p && (match pathMac p with | some m => !pathUdp p || decide (s.rdN (ix Obj.IP_ADDRESS m) ≠ 0) | none => true)

/-- Whether messages wait because core A restarts or is halted (R368, R456). -/
def agentWaits (s : State) : Bool :=
  (s.power.stage == 4 || s.power.stage == 5 || s.power.stage == 15) && !s.power.held && !s.coreRuns 0

/-- Order of the paths for messages of one stamp (R347). -/
def pathOrder (p : Path) : Nat :=
  match pathMac p with
  | some m => m
  | none => if p = .mailbox then 3 else 4

/-- The messages that waited are served in the order of their stamps, then of their paths (R347, R368); what they insert is stamped at their
receipt (R150). -/
def serveQueue (s : State) : State :=
  let q := sortBy (fun (e : Nat × Envelope) => grid8 e.1 * 5 + pathOrder e.2.path) s.agent.queue
  let s := (s.setAgent (fun a => { a with queue := [] })).each q (fun s e =>
    takeMessage none (s.setAgent (fun a => { a with received := some e.1 })) e.2)
  s.setAgent (fun a => { a with received := none })

/-- A message reaches the agent (R347): it is served after those that wait, or waits; with 256 waiting it is answered with BUSY. Without
firmware a mailbox message waits in its buffer. -/
def takeIn (want : Option Kind) (e : Envelope) (s : State) : State :=
  let boxed := e.path == .mailbox
  if agentRuns s then handNow (takeMessage want (if s.agent.queue.isEmpty then s else serveQueue s) e)
  else if !agentWaits s && !boxed then s
  else if s.agent.queue.length < 256 then
    { s.setAgent (fun a => { a with queue := a.queue ++ [(s.engineNs, e)] }) with creel := { s.creel with busy := s.creel.busy || boxed } }
  else
    let m := readMsg e.msg
    answer s e (sessionOf s m.session) m.type m.session m.reqId Status.BUSY []

/-- A message arrives on a path that is open (R345). On the mailbox it needs the request buffer (R381). -/
def receive (t : Nat) (want : Kind) (e : Envelope) (s : State) : State :=
  let s := s.at_ t
  if !reaches s e.path then s
  else if e.path = .mailbox ∧ !hostPortUp s then s
  else if e.path = .mailbox ∧ s.creel.busy then { s with creel := { s.creel with overrun := true } }
  else takeIn (some want) e s

/-- MBX_WRITE (R381): one Hapol message for the mailbox, discarded with MBX_OVERRUN when the buffer is taken, its length differs from what
arrived, or it exceeds 1,436 bytes; the latter two also count as malformed. The agent takes any other. -/
def execMbxWrite (t : Nat) (sent : List Byte) (s : State) : Result :=
  let s := s.at_ t
  .next (s.whenever (hostPortUp s) (fun s =>
    let n := sent.length - 2
    let l := field sent 0 2
    let bad := decide (sent.length < 2) || decide (l ≠ n) || decide (1436 < l) || decide (1436 < n)
    if bad then { s with creel := { s.creel with overrun := true } }.bump Obj.HAPOL_MALFORMED
    else if s.creel.busy then { s with creel := { s.creel with overrun := true } }
    else takeIn none ⟨.mailbox, 0, sent.drop 2⟩ s))

/-! ## Notifications (R353, R354) -/

/-- Sends a NOTIFY to a session (R353, R354). -/
def sendNotify (s : State) (x : Session) (req : Nat) (ack : Bool) (body : List Byte) : State :=
  sendAs s x.path x.peer (some x) ⟨1, 5, false, false, ack, body.length, x.id, req, 0, 0, s.loomId, body, []⟩

/-- Takes the next REQ_ID of the engine. -/
def nextReq (s : State) : Nat × State :=
  (s.agent.nextNotify, s.setAgent (fun a => { a with nextNotify := if a.nextNotify = 4294967295 then 1 else a.nextNotify + 1 }))

/-- The body of an event NOTIFY (R354). -/
def eventBody (rs : List Record) : List Byte := beBytes 1 1 ++ beBytes 1 rs.length ++ beBytes 2 0 ++ rs.flatMap recordBytes

/-- Sends event records to a session, to be acknowledged. -/
def notifyEvents (s : State) (id : Nat) (rs : List Record) : State :=
  match sessionOf s id with
  | none => s
  | some x =>
    let r := nextReq s
    let n : Notify := ⟨id, r.1, rs, s.clock.now, 0⟩
    let s := r.2.setAgent (fun a => { a with notifies := a.notifies ++ [n] })
    if agentRuns s then sendNotify s x r.1 true (eventBody rs) else s

/-- A subscription's entry of a value NOTIFY: its ID, the sampling batten and the item of its object (R353). -/
def valueEntry (s : State) (u : Sub) : List Byte :=
  let i := readItem s u.key
  let fits := decide (i.2.2.length ≤ 1376)
  beBytes 4 u.id ++ beBytes 8 s.clock.pick ++
    (if fits then readItemBytes u.key i.1 i.2.1 i.2.2 else readItemBytes u.key Status.TOO_LARGE i.2.1 [])

/-- Packs entries into bodies of at most 1,400 octets and 255 entries. -/
def packEntries : List (List Byte) → Nat → List Byte → List (Nat × List Byte)
  | [], 0, _ => []
  | [], n, b => [(n, b)]
  | e :: r, n, b => if 0 < n ∧ (1396 < b.length + e.length ∨ n = 255) then (n, b) :: packEntries r 1 e else packEntries r (n + 1) (b ++ e)

/-- Sends the values of subscriptions of one session (R353). -/
def notifyValues (s : State) (id : Nat) (us : List Sub) : State :=
  match sessionOf s id with
  | none => s
  | some x =>
    let s := s.each (packEntries (us.map (valueEntry s)) 0 []) (fun s p =>
      let r := nextReq s
      sendNotify r.2 x r.1 false (beBytes 1 0 ++ beBytes 1 p.1 ++ beBytes 2 0 ++ p.2))
    let sent (u : Sub) : Bool := us.any (fun q => q.id == u.id)
    let now := s.clock.now
    let last (u : Sub) := (readItem s u.key).2.2
    s.setAgent (fun a => { a with subs := change a.subs sent (fun u => { u with last := last u, lastAt := now, noted := true }) })

/-- The value subscriptions at a batten (R353): those whose value has changed are sent once MIN_MS has passed. -/
def sampleSubs (s : State) : State :=
  if !agentRuns s then s
  else
    let due := s.agent.subs.filter (fun u =>
      !u.events && (readItem s u.key).2.2 != u.last && (!u.noted || s.ran u.lastAt (u.minMs * 1000000)))
    s.each (due.map (fun u => u.session)).eraseDups (fun s id => notifyValues s id (due.filter (fun u => u.session == id)))

/-- NOTIFY_PERIOD (R353): PERIOD_MS has passed without a notification. -/
def execNotifyPeriod (t sub : Nat) (s : State) : Result :=
  let s := s.at_ t
  match s.agent.subs.find? (fun u => u.id == sub && !u.events) with
  | some u => .next (s.whenever (agentRuns s && decide (0 < u.periodMs) && s.ran u.lastAt (u.periodMs * 1000000)) (fun s =>
      notifyValues s u.session [u]))
  | none => .next s

/-- NOTIFY_TIMEOUT (R354): the NOTIFY is sent again with its REQ_ID; after the retries the events subscription goes. -/
def execNotifyTimeout (t session req : Nat) (s : State) : Result :=
  let s := s.at_ t
  match s.agent.notifies.find? (fun n => n.session == session && n.req == req), sessionOf s session with
  | some n, some x =>
    .next (s.whenever (agentRuns s && s.overdue (n.sentAt + s.rdN Obj.HAPOL_NOTIFY_TIMEOUT_MS * 1000000)) (fun s =>
      if n.tries < s.rdN Obj.HAPOL_NOTIFY_RETRIES then
        let s := s.setAgent (fun a =>
          { a with notifies := change a.notifies (fun q => q == n) (fun q => { q with sentAt := s.clock.now, tries := q.tries + 1 }) })
        sendNotify s x req true (eventBody n.records)
      else
        let s := s.setAgent (fun a => { a with subs := a.subs.filter (fun u => !(u.session == session && u.events)) })
        (eventsEnd (showSubs s session) session).raise Ev.HAPOL_SUBSCRIBER_LOST (session % 65536)))
  | _, _ => .next s

/-- BOBBIN_CLAIM (R354, R389): the Heddle claims for the host or the field network while the bobbin has room. A field record goes to
every session that is subscribed to events. -/
def execBobbinClaim (t : Nat) (field : Bool) (s : State) : Result :=
  let s := s.at_ t
  let target := if field then 3 else 2
  if s.bobbinFull target || !field then .next (match claimOrCount s target with | some r => r.1 | none => s)
  else match claim s 3 with
    | none => .next s
    | some (s, _) =>
      let ids := (s.agent.sessions.map (fun x => x.id)).filter (hearsEvents s)
      match s.heddle.bobbin3.getLast? with
      | none => .next s
      | some r =>
        let s := freeRecords { s with heddle := { s.heddle with fieldWait := s.heddle.fieldWait ++ [(r.seq, ids)] } }
        .next (s.each ids (fun s id => notifyEvents s id [r]))

/-! ## The messages of the table -/

/-- READ (R349). -/
def execRead (t : Nat) (e : Envelope) (s : State) : Result := .next (receive t .read e s)
/-- WRITE (R350). -/
def execWrite (t : Nat) (e : Envelope) (s : State) : Result := .next (receive t .write e s)
/-- WRITE_TIMED (R351). -/
def execWriteTimed (t : Nat) (e : Envelope) (s : State) : Result := .next (receive t .timed e s)
/-- SUBSCRIBE_VALUE (R352). -/
def execSubscribeValue (t : Nat) (e : Envelope) (s : State) : Result := .next (receive t .subValue e s)
/-- SUBSCRIBE_EVENTS (R352). -/
def execSubscribeEvents (t : Nat) (e : Envelope) (s : State) : Result := .next (receive t .subEvents e s)
/-- SUBSCRIBE_REMOVE (R352). -/
def execSubscribeRemove (t : Nat) (e : Envelope) (s : State) : Result := .next (receive t .subRemove e s)
/-- NOTIFY_ACK (R354). -/
def execNotifyAck (t : Nat) (e : Envelope) (s : State) : Result := .next (receive t .ack e s)
/-- BLOCK_WRITE_BEGIN (R355). -/
def execBlockWriteBegin (t : Nat) (e : Envelope) (s : State) : Result := .next (receive t .writeBegin e s)
/-- BLOCK_WRITE_DATA (R355). -/
def execBlockWriteData (t : Nat) (e : Envelope) (s : State) : Result := .next (receive t .writeData e s)
/-- BLOCK_READ_BEGIN (R355). -/
def execBlockReadBegin (t : Nat) (e : Envelope) (s : State) : Result := .next (receive t .readBegin e s)
/-- BLOCK_READ_DATA (R355). -/
def execBlockReadData (t : Nat) (e : Envelope) (s : State) : Result := .next (receive t .readData e s)
/-- BLOCK_ABORT (R355). -/
def execBlockAbort (t : Nat) (e : Envelope) (s : State) : Result := .next (receive t .abort e s)
/-- CHALLENGE_OPEN (R359). -/
def execChallengeOpen (t : Nat) (e : Envelope) (s : State) : Result := .next (receive t .open_ e s)
/-- CHALLENGE_PROVE (R359). -/
def execChallengeProve (t : Nat) (e : Envelope) (s : State) : Result := .next (receive t .prove e s)
/-- CHALLENGE_CLOSE (R363). -/
def execChallengeClose (t : Nat) (e : Envelope) (s : State) : Result := .next (receive t .close e s)
/-- DEBUG_REQUEST (R452). -/
def execDebugRequest (t : Nat) (e : Envelope) (s : State) : Result := .next (receive t .debugRequest e s)
/-- DEBUG_ANSWER (R452). -/
def execDebugAnswer (t : Nat) (e : Envelope) (s : State) : Result := .next (receive t .debugAnswer e s)
/-- DEBUG_PASSWORD (R453). -/
def execDebugPassword (t : Nat) (e : Envelope) (s : State) : Result := .next (receive t .debugPassword e s)
/-- DEBUG_CLOSE (R455). -/
def execDebugClose (t : Nat) (e : Envelope) (s : State) : Result := .next (receive t .debugClose e s)
/-- FORWARDED_WRITE (R297, R357). -/
def execForwardedWrite (t : Nat) (e : Envelope) (s : State) : Result := .next (receive t .forwarded e s)

/-- BLOCK_IDLE (R355): a transfer idle for 5 s is discarded. -/
def execBlockIdle (t xfer : Nat) (s : State) : Result :=
  let s := s.at_ t
  match s.agent.xfers.find? (fun x => x.id == xfer) with
  | some x => .next (s.whenever (s.overdue (x.lastAt + 5000000000)) (fun s => dropXfer s xfer))
  | none => .next s

/-! ## The end of a core restart or halt (R368, R385, R456) -/

/-- CORE_RESTART_DONE (R368): the core's duties resume, the Heddle filters again once both cores run, and core A serves what waited. -/
def execCoreRestartDone (t : Nat) (core : Fin 2) (s : State) : Result :=
  let s := s.at_ t
  .next (s.whenever (decide (s.power.restarting.getD core.val 0 ≠ 0) && !s.power.held) (fun s =>
    let s := { s with power := { s.power with restarting := setAt s.power.restarting core.val 0 } }
    let s := if s.power.stage = 5 ∧ s.power.restarting.all (fun n => n == 0) then enterFiltered s else s
    if core.val = 0 && agentRuns s then serveQueue s else s))

/-- DEBUG_CORE_RESUME (R456): under HALT a halted core runs again, and core A serves what waited. -/
def execDebugCoreResume (t : Nat) (core : Fin 2) (s : State) : Result :=
  let s := s.at_ t
  .next (s.whenever (bit (s.rdN Obj.DEBUG_SCOPE) 1) (fun s =>
    let s := setHalted s core.val false
    if core.val = 0 && agentRuns s then serveQueue s else s))

end Machine
end Sys2Proof
end

