-- ==== Sys2Proof/Machine/Standby.lean ====
section
/-! DEFINITION. Assessments (R157, R406, R414, R418), what follows a refused leave (R86, R280, R283, R399), and Doff (R439 to
R443). -/

namespace Sys2Proof
namespace Machine

/-! ## ASSESSMENT (R157) -/

/-- CORNER_FACTOR (R414): F_VT (1 - D_now) / (1 - D_eol), with the medians over the shuttles that are not retired. -/
def cornerFactor (s : State) : Nat :=
  let shs := (List.range 54).filter (fun sh => !bit (s.rdN Obj.RETIRED_HARNESSES) (sh / 6))
  let now := (median (shs.map (fun sh => s.rd (Obj.AGING_NOW_PERMILLE + sh)))).toNat
  let eol := (median (shs.map (fun sh => s.rd (Obj.AGING_EOL_PERMILLE + sh)))).toNat
  roundNat (vtFactor s.governor.vout (s.rd Obj.TJ_NOW) * (1000 - now)) (max 1 (1000 - eol))

/-- P_base and the granted draw in mW (R418). -/
def drawMw (s : State) : Int := s.governor.pBase + (s.unitsOut * 50 * s.governor.vout / 1000 : Nat)

/-- The monitors that each assessment samples (R418). -/
def sampleMonitors (s : State) : State :=
  let s := s.wr Obj.CORNER_FACTOR (cornerFactor s : Nat)
  monSample 5 (s.rd Obj.CORNER_FACTOR) (monSample 3 (drawMw s) (monSample 2 (s.governor.lastIout : Nat)
    (monSample 1 (s.governor.vout : Nat) (monSample 0 (s.rd Obj.TJ_NOW) s))))

/-- Temperatures at an assessment (R406, R407): TJ_HIGH stops a running self-test (R411). -/
def assessHeat (sensors : List Int) (s : State) : State :=
  let s := readSensors sensors s
  if s.stands Ev.TJ_HIGH 0 then mendTooHot s else s

/-- ASSESSMENT (R157): once for each multiple of 125 ms, from its first batten on, candidates are measured and judged and the selection is
made; the sensors, ports, streams and monitors follow. Core B must run (R368). -/
def execAssessment (t : Nat) (env : AssessEnv) (s : State) : Result :=
  let s := s.at_ t
  .next (s.whenever (s.power.stage == 5 && s.coreRuns 1 && decide (s.ref.assessed ≠ assessmentNo s + 1)) (fun s =>
    let s := assessReference env.freq env.tracked (followEdges s)
    let s := assessControl env.timeOffset env.spError s
    let s := ptpDecideAll (showReference (assessSpindles s))
    let s := assessHeat env.sensors s
    let s := s.each (List.range 28) (fun s p => measurePort p s)
    let s := s.each (List.range 256) assessStream
    sampleMonitors s))

/-! ## Refused leave (R399) -/

/-- What follows a refusal for its requester: training waits a second (R280), an adaptation burst asks again (R283), a
reload fails (R86); moves and drains ask again at their own battens (R110, R120), voltage steps and scrub bursts when they next fall
due. -/
def refusalFollows (s : State) (r : Request) : State :=
  match r.kind with
  | 2 => if r.owner < 16 then swRefused s r.owner else s.askLeave 2 r.units r.owner
  | 5 => loadRefused s r.owner
  | _ => s

/-- LETOFF_MAX_WAIT (R399): a request that has waited LETOFF_MAX_WAIT_MS is refused. -/
def execLetoffMaxWait (t id : Nat) (s : State) : Result :=
  let s := s.at_ t
  match s.governor.waiting.find? (fun r => r.id == id) with
  | none => .next s
  | some r =>
    .next (s.whenever (s.coreRuns 1 && s.overdue (r.asked + s.rdN Obj.LETOFF_MAX_WAIT_MS * 1000000)) (fun s =>
      let waiting := s.governor.waiting.filter (fun q => q.id != id)
      let s := refuse { s with governor := { s.governor with waiting := waiting } } r
      refusalFollows (s.wr Obj.LETOFF_WAITING (waiting.length : Nat)) r))

/-! ## Doff entry (R440) -/

/-- The engine gives up the authority (R440 step 1): it releases the lease of a pair, or, alone, AUTHORITY falls. -/
def dropAuthority (s : State) : State := if s.holds then releaseLease s false else s

/-- DOFF_ENTRY (R439, R440 steps 0 and 1): at the batten at which the request takes effect, the wake latch is cleared and armed, the
action queue empties, sessions and the debug grant end, every channel stops and the lease is released. -/
def execDoffEntry (t : Nat) (s : State) : Result :=
  let s := s.at_ t
  .next (s.whenever (s.power.doff == 1 && s.power.stage == 5 && decide (s.power.doffPick ≤ s.clock.pick)) (fun s =>
    let power := { s.power with doff := 2, doffAt := s.clock.now, doffFade := 0, wakeArmed := true, wakeLatch := false }
    let s := ({ s with power := power }.wr Obj.WAKE_CAUSE 0xFFFF).setActions []
    let s := endGrant (endSessions s)
    let s := s.each (List.range 32) (fun s n => stopChannel s n 0)
    dropAuthority s))

/-- Step 3 of the entry (R440): port outputs start their 10 ms fade-out, media and Swiska transmission stop, and MP0, MP1 and every
Swiska link go down. It starts at the first batten from 38 ms on at which every channel rests. -/
def doffFades (s : State) : State :=
  if s.power.doff != 2 || s.power.doffFade != 0 || !channelsRest s || !s.ran s.power.doffAt 38000000 then s
  else
    let s := { s with power := { s.power with doffFade := max 1 (s.clock.pick * s.pl) } }
    let s := s.each [0, 1] (fun s m => if s.linkUp m then macDown s m else s)
    s.each ((List.range 6).filter (fun p => s.swState p != 0)) (fun s p => swStop (if s.trained p then linkDown s p else s) p)

/-- The wake latch was set in time (R441): the engine returns to service without a reset; outputs fade in, links train and
channels start again, with the DC test (R338). -/
def abortDoff (s : State) : State :=
  let s := { s with power := { s.power with doff := 0, doffFade := 0, wakeArmed := false, wakeLatch := false } }
  let s := s.raise Ev.SLEEP_ABORTED_WAKE (s.rdN Obj.WAKE_CAUSE)
  let s := s.setTwin (fun w => { w with fadeAt := s.nextSample })
  let s := s.each ((List.range 6).filter (fun p => s.on (ix Obj.SW_ENABLE p))) swStart
  let s := s.each (List.range 32) (fun s n => s.setTd n (fun c => { c with first := true }))
  ptpDecideAll (if s.on Obj.TWIN_ENABLE then s else (s.wr Obj.LEASE_ROLE 1).emit (.pin "AUTHORITY" 0 1))

/-- Doff (R440 step 6): CORE_EN falls; what is not in the always-on domain or the dictionary store is lost. -/
def enterDoff (s : State) : State :=
  let at_ := s.power.doffAt
  let s := dropCore (resetEngine (s.bump Obj.DOFF_COUNT))
  showReference { s with power := { s.power with doff := 3, doffAt := at_, wakeArmed := true } }

/-- DOFF_LATCH_SAMPLE (R440 steps 4 to 6, R441): the image and the record are written, and the wake latch is sampled. -/
def execDoffLatchSample (t : Nat) (s : State) : Result :=
  let s := s.at_ t
  .next (s.whenever (s.power.doff == 2 && s.power.doffFade != 0 && s.ran s.power.doffAt 48000000 &&
      decide (s.power.doffFade + s.msSamples 10 ≤ s.sampleNow)) (fun s =>
    let s := writeRecord (saveImage s)
    if s.power.wakeLatch then abortDoff s else enterDoff s))

end Machine
end Sys2Proof
end

