-- ==== Sys2Proof/Machine/Batten.lean ====
section
/-! DEFINITION. The batten (R18) and the step of engine time that may follow it (R136 to R138): the judgement of the deadline
(R37 to R44), the release of the cloth beam through temple and dither (R33, R60 to R62), the closing of the warp slots (R11),
the handing of changes, the moves, and what other units do at each batten. -/

namespace Sys2Proof
namespace Machine

/-! ## The deadline (R37 to R44) -/

/-- Whether a fault move holds an instance, so that it completes nothing (R43, R116). -/
def held (s : State) (e : Nat) : Bool := s.fabric.moves.any (fun m => m.inst == e && m.kind == 1)

/-- Elements whose pick is due at batten n and has not completed (R41); the second instances of twill swaps follow their
first. -/
def lateElems (s : State) (n : Nat) : List Nat :=
  (s.graph.works.filter (fun (w : Work) =>
    let e := elemNo w.elem
    !(Nat.ble 16384 e && Nat.blt e 65536) && decide (s.deadline e w.next ≤ n) && !held s e)).map (fun w => elemNo w.elem)

/-- Shuttles that did not finish: those whose late element had every input it needs. -/
def lateShuttles (s : State) (late : List Nat) : List Nat :=
  ((late.filter (fun e => match s.workOf e with
    | some w => s.fed e w
    | none => false)).map s.shuttleOf).filter (fun sh => decide (sh < 54)) |>.eraseDups

/-- Holds the pins of an element for its next pick, which it leaves behind with its state unchanged (R41 to R43). -/
def holdNext (s : State) (e : Nat) (fade : Bool) : State :=
  match s.workOf e with
  | some w => (s.each (pinsOf (s.copyFor w) e) (fun s id => s.holdPin w.next fade id)).setWork e { w with next := w.next + 1 }
  | none => s

/-- Holds every pick of an element that is due at batten n. -/
def holdLate (n : Nat) (s : State) (e : Nat) : State :=
  s.each (List.range 16) (fun s _ => match s.workOf e with
    | some w => if s.deadline e w.next ≤ n then holdNext s e false else s
    | none => s)

/-- Until a fault-moved object produces output again, its pins hold and fade out pick by pick (R43). -/
def holdMoving (n : Nat) (s : State) : State :=
  s.each ((s.fabric.moves.filter (fun m => m.kind == 1)).map (fun m => m.inst)) (fun s i =>
    s.each (List.range 16) (fun s _ => match s.workOf i with
      | some w => if w.next < n then holdNext s i true else s
      | none => s))

/-- Steps 4 and 5 of R41: the batten is counted, MISSED_BATTEN names the shuttles, and they are withdrawn. -/
def missed (s : State) (shuttles : List Nat) : State :=
  let s := (s.bump Obj.MISSED_BATTEN_COUNT).flag 1
  let s := if shuttles.isEmpty then s.raise Ev.MISSED_BATTEN 54 else s.each shuttles (fun s sh => s.raise Ev.MISSED_BATTEN sh)
  if shuttles.isEmpty then s else withdrawShuttles s shuttles

/-- One slack of a shuttle in ns enters its minimum (R38). -/
def noteShuttle (s : State) (sh : Nat) (slack : Nat) : State :=
  if sh < 54 && decide ((slack : Int) < s.rd (Obj.SHUTTLE_SLACK_MIN + sh)) then s.wr (Obj.SHUTTLE_SLACK_MIN + sh) (slack : Nat) else s

/-- Slack from a finish time to the batten, in steps of 10 ns (R38). -/
def slackOf (s : State) (finish : Nat) : Nat := (s.clock.now - finish) / 10 * 10

/-- Whether pick slack lies below a threshold in permille of the pick period (R38). -/
def slackBelow (s : State) (slack permille : Nat) : Bool := decide (slack * 1000 < permille * s.pickNs)

/-- What the engine does with the pick slack of a batten (R38, R40, R404, R418). -/
def actOnSlack (s : State) (slack : Nat) : State :=
  let s := s.wr Obj.PICK_SLACK_LAST (slack : Nat)
  let s := if (slack : Int) < s.rd Obj.PICK_SLACK_MIN then s.wr Obj.PICK_SLACK_MIN (slack : Nat) else s
  let s := monSample 4 ((slack * 1000 / max 1 s.pickNs : Nat) : Int) s
  let warn := slackBelow s slack (s.rdN Obj.SLACK_WARN_PERMILLE)
  let alarm := slackBelow s slack (s.rdN Obj.SLACK_ALARM_PERMILLE)
  let ample := !s.stands Ev.SLACK_WARN 0 && !slackBelow s slack (2 * s.rdN Obj.SLACK_WARN_PERMILLE)
  let f := s.fabric
  let fabric := { f with
    warnBelow := if warn then f.warnBelow + 1 else 0
    warnAbove := if warn then 0 else f.warnAbove + 1
    alarmAbove := if alarm then 0 else f.alarmAbove + 1
    ampleSince := if ample then f.ampleSince else s.clock.now }
  let s := { s with fabric := fabric }
  if alarm then askStep (s.rise Ev.SLACK_ALARM 0 slack) else s

/-- The slack of batten n (R37): from the finish times of the deadlines that fall there, `done` that of the last write of the reed, the mix
accumulators or the temple, if any was due; none due leaves a whole pick period, a missed deadline leaves none. -/
def measureSlack (n : Nat) (shuttles : List Nat) (anyLate : Bool) (done : Option Nat) (s : State) : State :=
  let due := s.fabric.finish.filter (fun (p : Nat × Nat × Nat) => decide (p.2.2 ≤ n)) ++
    (match done with | some f => [(54, min f s.clock.now, n)] | none => [])
  let rest := s.fabric.finish.filter (fun (p : Nat × Nat × Nat) => !decide (p.2.2 ≤ n))
  let slacks := shuttles.map (fun sh => (sh, 0)) ++ due.map (fun (p : Nat × Nat × Nat) => (p.1, slackOf s p.2.1))
  let lowest := (sortBy (fun (p : Nat × Nat) => p.2) slacks).head?
  let slowest := (sortBy (fun (p : Nat × Nat) => p.2) (slacks.filter (fun p => decide (p.1 < 54)))).head?
  let fabric := { s.fabric with finish := rest, slowest := match slowest with | some p => p.1 | none => 54 }
  let s := { s with fabric := fabric }
  let s := s.each slacks (fun s p => noteShuttle s p.1 p.2)
  actOnSlack s (if anyLate then 0 else match lowest with | some p => p.2 | none => s.pickNs)

/-! ## Release of the cloth beam (R18 step 1, R33, R41, R60 to R62) -/

/-- The outputs that a batten releases, in ascending DEST_ID: those of the running plan, then removed ones that still fade out at
their old offset (R70). -/
def outputs (s : State) : List (Edge × Map Val × Nat) :=
  let now := (outputsOf s.run).map (fun e => (e, s.run, entryOffset s.graph.plan e))
  let gone := (s.graph.shifts.filter (fun h => !now.any (fun x => x.1.dest == h.dest))).filterMap (fun h =>
    let m := s.copyBefore h.sample
    ((outputsOf m).find? (fun e => e.dest == h.dest)).map (fun e => (e, m, h.old)))
  sortBy (fun (x : Edge × Map Val × Nat) => x.1.dest) (now ++ gone)

/-- Moves in shadow whose shadow run missed at batten n (R44). -/
def missedShadows (missed : List Nat) (s : State) : List Move :=
  s.fabric.moves.filter (fun m => m.phase == 4 && missed.contains m.inst)

/-- The deadline of batten n: shadow copies stand in for the old placement (R44), what is late is held, and slack is measured. -/
def judgeDeadline (env : BattenEnv) (n : Nat) (s : State) : State :=
  let late := lateElems s n
  let shadows := ((missedShadows env.shadowMissed s).map (fun m => m.dst)).filter (fun sh => decide (sh < 54))
  let shuttles := (lateShuttles s late ++ shadows).eraseDups
  let s := s.each (inOrder (s.fabric.moves.filter (fun m => m.phase == 4))) (judgeShadow env.shadowMissed env.shadowFail n)
  let s := s.each late (holdLate n)
  let any := !late.isEmpty || !env.fabricLate.isEmpty || !shadows.isEmpty
  let s := measureSlack n shuttles any (if (outputs s).isEmpty then none else some env.fabricDone) s
  if any then missed s shuttles else s

/-- The sample of an output for a release position at an offset in picks: from the stores, through its crossfade. -/
def clothAt (s : State) (dest off p : Nat) : Int := if p < off * s.pl then 0 else s.destAt s.run dest (p - off * s.pl)

/-- The sample of an output at a release position, through the fade of a changed offset (R70). The fade counts release
positions from the one at which the first sample of the new plan is due. -/
def clothSample (s : State) (dest off p : Nat) : Int :=
  match s.graph.shifts.find? (fun h => h.dest == dest) with
  | none => clothAt s dest off p
  | some h =>
    let first := h.sample + off * s.pl
    if h.old = off ∨ first + h.len ≤ p then clothAt s dest off p
    else if p < first then clothAt s dest h.old p
    else
      let o := oldWeight h.law (p - first) h.len
      let w := newWeight h.law (p - first) h.len
      sumParts (fun j => if j = 0 then clothAt s dest h.old p else clothAt s dest off p) [⟨0, o.1, o.2⟩, ⟨1, w.1, w.2⟩]

/-- The payload and flag bits that a bit-transparent output carries at a release position (R24, R213). -/
def payloadAt (s : State) (dest off p : Nat) : Int × Nat :=
  let k := p - off * s.pl
  let src := match (s.feed s.run dest k).getLast? with | some x => x.src | none => 0
  let bare := if (s.wordAt (bareOf src) k).isSome then (s.sourceAt (bareOf src) k).1 else (s.sourceAt src k).1
  if p < off * s.pl then (0, 0) else (bare, (s.sourceAt (flagsOf src) k).1.toNat)

/-- The temple over samples (R61): results, the last gain, and how often the first branch acted. -/
def temple (s : State) (m : Map Val) (entryNo off first : Nat) (g : Int) (xs : List Int) : List Int × Int × Nat :=
  ((List.range xs.length).zip xs).foldl (fun (a : List Int × Int × Nat) (x : Nat × Int) =>
    let c := ceilingOf (s.numAt m (entry Obj.TEMPLE_CEILING entryNo) (first + x.1 - off * s.pl))
    let r := limit c a.2.1 x.2 x.2 (s.rdN Obj.TEMPLE_RELEASE_MS) s.fs
    (a.1 ++ [r.1], r.2.1, a.2.2 + (if r.2.2 then 1 else 0))) ([], g, 0)

/-- Whether a destination passes no temple: a Swiska channel (R60) or a bit-transparent route (R24). -/
def bypasses (e : Edge) : Bool := idKind e.dest == 5 || (outputKind (idKind e.dest) && e.cls == 4)

/-- Whether the samples that an output releases are degraded (R41, R43, R300). -/
def degradedOut (s : State) (n dest off : Nat) : Bool :=
  (s.feeds s.run dest (n - off)).any (fun src => s.degradedIn src (n - off)) || (s.twin.diverged && decide (s.twin.divergedFrom ≤ n))

/-- Whether a sample of an output's pick did not complete (R41): its own write is late, or the last write of an element that feeds it was due
at this batten and missed. -/
def incomplete (s : State) (n : Nat) (late : List Nat) (x : Edge × Map Val × Nat) : Bool :=
  let off := x.2.2
  late.contains x.1.dest ||
    (s.feeds x.2.1 x.1.dest (n - off)).any (fun src => match sourceElem src with
      | some e => mapGetD s.graph.plan.due e 2 == off && (match s.block src (n - off) with | some b => b.missed | none => false)
      | none => false)

/-- Words with a parity error that an output reads from the beams for a pick (R28). -/
def badOutput (s : State) (m : Map Val) (dest pick : Nat) : Nat :=
  ((s.feeds m dest pick).map (fun src => if madeSource src then 0 else
    ((List.range s.pl).filter (fun o => s.badWord src (pick * s.pl + o))).length)).sum

/-- One output's samples at batten n, after the temple: its last released sample at every position when they did not complete
(R41). Answers the samples and whether they are degraded. -/
def released1 (s : State) (n : Nat) (late : List Nat) (x : Edge × Map Val × Nat) : State × List Int × Bool :=
  let dest := x.1.dest
  let off := x.2.2
  let o := s.outOf dest
  let first := n * s.pl
  if incomplete s n late x then (s, List.replicate s.pl o.last, true)
  else
    let s := s.parityMet 5 (badOutput s x.2.1 dest (n - off))
    let ps := (List.range s.pl).map (fun i => first + i)
    let degraded := degradedOut s n dest off
    if bypasses x.1 then
      let ys := ps.map (fun p => if x.1.cls = 4 then (payloadAt s dest off p).1 else clothSample s dest off p)
      (s.setOut { o with last := ys.getLastD 0 }, ys, degraded)
    else
      let r := temple s x.2.1 x.1.entry off first o.gain (ps.map (clothSample s dest off))
      let s := if r.2.2 = 0 then s else s.bumpSat (entry Obj.TEMPLE_ACT_COUNT x.1.entry) r.2.2
      (s.setOut { o with gain := r.2.1, last := r.1.getLastD 0 }, r.1, degraded)

/-- Port words of samples at release positions: gain, dither, conversion (R23, R62). -/
def portWords (s : State) (n dest w : Nat) (dithered : Bool) (ys : List Int) : List Int :=
  ((List.range ys.length).zip ys).map (fun (y : Nat × Int) =>
    let p := n * s.pl + y.1
    let v := if idKind dest = 1 then tdmGain s (idUnit dest) (idChannel dest) p y.2 else y.2
    let d := if dithered && w != 32 then dither dest n y.1 w else 0
    leave w (portGain s p v + d))

/-- Words of a bit-transparent output: the 24 audio bits with the flag bits above them (R24); an AES3 subframe B takes its block
start from subframe A when that is bit-transparent too (R214). -/
def transparentWords (s : State) (n dest off : Nat) (ys : List Int) : List Int :=
  ((List.range ys.length).zip ys).map (fun (y : Nat × Int) =>
    let p := n * s.pl + y.1
    let flags := (payloadAt s dest off p).2
    let a := endpoint 2 (idUnit dest) 0
    let flags := if idKind dest = 2 && idChannel dest = 1 && (edgesOf s.run).any (fun e => e.dest == a && e.cls == 4)
      then setBit flags 5 (bit (payloadAt s a off p).2 5) else flags
    ((flags * 2 ^ 24 + pattern 24 (leave 24 (portGain s p y.2)) : Nat) : Int))

/-- Key of the history of an output ASRC instance (R217). -/
def asrcOutKey (port : Nat) : Nat := 2 ^ 36 + port

/-- Rate in mHz at which a port output sends. -/
def sendRate (s : State) (port : Nat) : Nat :=
  match idKind port with
  | 1 => portRate s (idUnit port)
  | 2 => spindleRate s (s.rdN (ix Obj.AES_OUT_SPINDLE (idUnit port)))
  | 3 => spindleRate s (s.rdN (ix Obj.MADI_OUT_SPINDLE (idUnit port)))
  | _ => 0

/-- Frames of a rate that start within pick n. -/
def framesIn (s : State) (n rate : Nat) : List Nat :=
  let upTo := fun (m : Nat) => (m * s.pl * rate + s.fs * 1000 - 1) / (s.fs * 1000)
  let a := upTo n
  let b := upTo (n + 1)
  (List.range (b - a)).map (fun j => a + j)

/-- Samples of an output ASRC instance leave on the clock of its port channel (R97, R217); `d` is the copy that holds the instance (R70). -/
def sendAsrc (s : State) (d : Map Val) (n i : Nat) (dithered : Bool) (ys : List Int) (degraded : Bool) : State :=
  let port := shapeOf d i Par.ASRC_PORT
  if idKind port = 4 then
    s.each ((List.range ys.length).zip ys) (fun s y =>
      txPut s port (n * s.pl + y.1) (fadeIn (mapGetD s.net.restarts (idUnit port) 0) (fade20 s) (n * s.pl + y.1) y.2) degraded)
  else
    let s := s.each ys (fun s y => s.rawPut (asrcOutKey port) y)
    let w := outWord s port
    if w = 0 then s
    else
      let hist := mapGetD s.io.raw (asrcOutKey port) []
      let frames := framesIn s n (sendRate s port)
      let words := ((List.range frames.length).zip frames).map (fun (f : Nat × Nat) =>
        let j := f.2
        let p := j * s.fs * 1000 / max 1 (sendRate s port)
        let d := if dithered && w != 32 then dither port n f.1 w else 0
        let v := match (List.range 256).find? (fun c => s.rdN (entry Obj.ASRC_CHAN_INSTANCE c) == i) with
          | some c => asrcGate s c p (asrcResult hist j) (asrcResult hist (j - 1))
          | none => 0
        let v := if idKind port = 1 then tdmGain s (idUnit port) (idChannel port) p v else v
        leave w (portGain s p v + d))
      s.emit (.audio port n words degraded)

/-- Sends one output's samples of pick n to its port, stream, cut cell or channel. -/
def deliver (s : State) (n : Nat) (x : Edge × Map Val × Nat) (ys : List Int) (degraded : Bool) : State :=
  let dest := x.1.dest
  let u := idUnit dest
  let dithered := ditheredEntry x.2.1 x.1.entry
  match idKind dest with
  | 4 =>
    let s := s.each ((List.range ys.length).zip ys) (fun s y =>
      let p := n * s.pl + y.1
      let v := fadeIn (mapGetD s.net.restarts u 0) (fade20 s) p y.2
      txPut s dest p (if dithered && x.1.cls != 4 then v + dither dest n y.1 (mediaWord s u) else v) degraded)
    if x.1.cls = 4 then s.each (List.range ys.length) (fun s o =>
      txPut s (flagsOf dest) (n * s.pl + o) (((payloadAt s dest x.2.2 (n * s.pl + o)).2 : Nat) : Int) false) else s
  | 5 =>
    let ys := ((List.range ys.length).zip ys).map (fun (y : Nat × Int) =>
      fadeIn (mapGetD s.net.restarts (256 + u) 0) (fade20 s) (n * s.pl + y.1) y.2)
    s.putBlock (blockOf (reedCell dest) n ys degraded)
  | 6 => sendAsrc s x.2.1 n u dithered ys degraded
  | 8 =>
    let m := tdSamples u (n * s.pl) ys s
    drivePwm m.1 u n m.2
  | _ =>
    let w := outWord s dest
    if w = 0 then s
    else s.emit (.audio dest n (if x.1.cls = 4 then transparentWords s n dest x.2.2 ys else portWords s n dest w dithered ys) degraded)

/-- Cuts of the streams without selvedge channels leave with the release (R284, R285). -/
def releaseCuts (s : State) (n : Nat) : State :=
  let byPick := (List.range 64).filter (fun m => s.on (cutTxKey m 1) && !(selvStreams s).contains m)
  if s.muted then s
  else s.each byPick (fun s m => s.each (List.range s.pl) (fun s o => sendCuts s m (n * s.pl + o) (cutValue s m (n * s.pl + o))))

/-- Generated channel-status blocks of the AES3 and MADI outputs whose 192-frame boundary lies in pick n (R200, R202). -/
def sendStatus (s : State) (n : Nat) : State :=
  let clear := fun (dest : Nat) => !(edgesOf s.run).any (fun e => e.dest == dest && e.cls == 4)
  let due := fun (dest : Nat) => (framesIn s n (sendRate s dest)).any (fun j => j % 192 == 0)
  let aes := (List.range 16).map (fun c => endpoint 2 (c / 2) (c % 2))
  let madi := (List.range 4).flatMap (fun u => (List.range (madiChannels (s.rdN (ix Obj.MADI_OUT_MODE u)))).map (fun c => endpoint 3 u c))
  s.each ((aes ++ madi).filter (fun d => outWord s d != 0 && clear d && due d)) (fun s d =>
    let host := idKind d == 2 && s.rd (ix Obj.AES_OUT_CS_MODE (idUnit d)) == 1
    let body := if host then (s.rdB (ix Obj.AES_OUT_CS (idUnit d))).take 23 else statusBody (sendRate s d) (outWord s d)
    s.emit (.status d (body ++ [crcc body])))

/-- Writes a cloth-beam slot (R11, R32). -/
def putCloth (s : State) (b : Block) : State := { s with graph := { s.graph with cloth := s.graph.cloth ++ [b] } }

/-- Releases every due cloth-beam slot (R18 step 1): the rim sends what the slot holds. Answers the released S8.27 samples in ascending
DEST_ID (R298). -/
def releaseCloth (late : List Nat) (n : Nat) (s : State) : State × List Int :=
  let r := (outputs s).foldl (fun (a : State × List Int) x =>
    let y := released1 a.1 n late x
    let b := blockOf x.1.dest n y.2.1 y.2.2
    (deliver (putCloth y.1 b) n x b.x y.2.2, a.2 ++ b.x)) ((s, []) : State × List Int)
  (sendStatus (releaseCuts r.1 n) n, r.2)

/-! ## Closing the warp slots (R11, R18 step 2) -/

/-- A sample of an input ASRC channel: resampled while it is locked, from the fade-in of its port on; muted in two steps after a
fault (R97, R206, R216). -/
def asrcSample (s : State) (c : Nat) (hist : List Int) (p : Nat) : Int := asrcGate s c p (asrcResult hist p) (asrcResult hist (p - 1))

/-- A block of each input ASRC instance for the pick that closes (R97); channels whose clock is qualified start to acquire. -/
def readAsrc (s : State) (pick : Nat) : State :=
  s.each (List.range 256) (fun s c =>
    let s := wakeAsrc s c
    let i := s.rdN (entry Obj.ASRC_CHAN_INSTANCE c)
    if !(asrcPorts s.run).any (fun (p : Nat × Nat) => p.1 == i) || shapeOf s.run i Par.ASRC_DIR == 1 then s
    else
      let hist := mapGetD s.io.raw (shapeOf s.run i Par.ASRC_PORT) []
      let x := (List.range s.pl).map (fun o => asrcSample s c hist (pick * s.pl + o))
      let port := shapeOf s.run i Par.ASRC_PORT
      let degraded := idKind port == 4 && (s.rx (idUnit port)).degradedAt / s.pl == pick && decide ((s.rx (idUnit port)).degradedAt ≠ 0)
      s.putBlock (blockOf (endpoint 6 i 0) pick x degraded))

/-- A warp-beam slot that is opened again at batten n, four picks later, goes to the stores as blocks (R32, R33). -/
def handSlot (n : Nat) (s : State) : State :=
  if n < 4 then s
  else
    let first := (n - 4) * s.pl
    let gone := s.graph.warp.filter (fun w => decide (w.sample < first + s.pl))
    let kept := ((gone.map (fun w => w.src)).eraseDups).map (fun src =>
      let ws := gone.filter (fun w => w.src == src)
      (⟨src, n - 4, (List.range s.pl).map (fun o => match ws.find? (fun w => w.sample == first + o) with
        | some w => w.word
        | none => toWord 0), ws.any (fun w => w.degraded), false⟩ : Block))
    { s with graph := { s.graph with
        warp := s.graph.warp.filter (fun w => decide (first + s.pl ≤ w.sample))
        kept := s.graph.kept ++ kept } }

/-- The slots of pick n - 1 close: Swiska streams are read, ASRC channels resampled, class buffers drained. -/
def closeSlots (n : Nat) (s : State) : State :=
  let s := s.each [0, 1, 2] State.serveMac
  let s := s.each (List.range 6) (fun s p => (idleDue s p).serveSwiska p)
  if n = 0 then s else drainBuffers (handSlot n (readAsrc (readCuts s (n - 1)) (n - 1)))

/-! ## What does not depend on the graph -/

/-- Levels of the GPIO balls (R222). -/
def readGpio (mask : Nat) (s : State) : State :=
  s.each (List.range 6) (fun s g => s.wr (ix Obj.GPIO_IN g) (if bit mask g then 1 else 0))

/-- Selvedge samples computed since the latest batten, in ascending output number and sample order, which leave their store
(R298). -/
def takeTraces (s : State) : State × List Int :=
  let isTrace := fun (b : Block) => Nat.ble (2 ^ 35) b.id && Nat.blt b.id (2 ^ 35 + 64)
  let bs := s.graph.blocks.filter isTrace
  let xs := (List.range 64).flatMap (fun o => (sortBy (fun (b : Block) => b.pick) (bs.filter (fun b => b.id == selvTrace o))).flatMap (fun b => b.x))
  ({ s with graph := { s.graph with blocks := s.graph.blocks.filter (fun b => !isTrace b) } }, xs)

/-- The governor's refusals and grants reach their requesters (R398, R399). -/
def runGovernor (s : State) : State :=
  let r := governorBatten s
  let s := r.1.each r.2 refusalFollows
  let s := s.each (List.range 6) (fun s p => swAskAgain (if s.granted 2 p then swGranted s p else s) p)
  loadsGranted s

/-- Sources whose samples a running or a recent crossfade or tail still needs (R70). -/
def neededSources (s : State) (n : Nat) : List Nat :=
  (s.graph.fades.filter (fun f => !f.tap && decide (n * s.pl < f.sample + f.len + 16 * s.pl))).flatMap (fun f => f.old.map (fun p => p.src)) ++
    (s.graph.tails.map (fun t => t.src)) ++
    (s.graph.shifts.filter (fun h => decide (n * s.pl < h.sample + h.len + 16 * s.pl))).flatMap (fun h =>
      ((edgesOf (s.copyBefore h.sample)).filter (fun e => e.dest == h.dest)).map (fun e => e.src))

/-- What no later pick can read leaves its store: blocks 16 picks back, cloth-beam slots four picks back, ended fades, tails and offsets,
and elements that were removed and are read no more (R12, R32, R70); the ASRC channel of a faded instance is free (R97). -/
def prune (n : Nat) (s : State) : State :=
  let back := (n - 16) * s.pl
  let keep := fun (w : Work) =>
    ((neededSources s n).filterMap sourceElem).flatMap (upstream (linksOf (s.copyBefore (w.left - 1))))
  let works := s.graph.works.filter (fun w => w.left == 0 || (keep w).contains (elemNo w.elem))
  let shifts := s.graph.shifts.filter (fun h => decide (back < h.sample + h.len + h.old * s.pl + s.pl))
  let graph := { s.graph with
    blocks := s.graph.blocks.filter (fun b => Nat.ble (2 ^ 33) b.id && Nat.blt b.id (2 ^ 34) || decide (n ≤ b.pick + 16))
    kept := s.graph.kept.filter (fun b => decide (n ≤ b.pick + 16))
    cloth := s.graph.cloth.filter (fun b => decide (n ≤ b.pick + 3))
    olds := s.graph.olds.filter (fun c => decide (back ≤ c.1) || works.any (fun w => w.left == c.1 + 1) || shifts.any (fun h => h.sample == c.1))
    past := s.graph.past.filter (fun p => decide (back ≤ p.sample))
    fades := s.graph.fades.filter (fun f => !(f.ended && f.deferred.isNone && decide (f.sample + f.len ≤ back)))
    tails := s.graph.tails.filter (fun t => decide (back < t.sample + t.len))
    shifts := shifts
    works := works }
  let ends := decide (shifts.length < s.graph.shifts.length)
  let s := { s with graph := graph }
  let s := if ends then assignAsrc s s.run else s
  (s.wr Obj.REED_SOURCES_USED ((sourcesInUse s s.run).length : Nat)).wr Obj.REED_DESTS_USED ((destsInUse s s.run).length : Nat)

/-- The batten opens: engine time, the pick counter and BATTEN_TIME (R30, R135, R139). -/
def openBatten (s : State) : State :=
  let n := s.clock.pick + 1
  let s := { s with clock := { s.clock with now := max s.clock.now (s.localOf (s.battenNs n)), pick := n } }
  (s.wr Obj.PICK_COUNT (n : Nat)).wr Obj.BATTEN_TIME (time80 (s.battenNs n) : Nat)

/-- Steps 3 and 4 of R18 at batten n, then the placement's and the governor's own work. -/
def changesAndMoves (env : BattenEnv) (n : Nat) (s : State) : State :=
  let s := { s with graph := { s.graph with reload := [] } }
  let bad := s.graph.badCoefs.eraseDups
  let s := { s with graph := { s.graph with badCoefs := [] } }.each bad (fun s i => match s.workOf i with | some w => s.coefLost i w | none => s)
  let s := startWaiting (handOver s n) (n * s.pl)
  let s := { s with clock := { s.clock with stepped := false } }
  let s := movesBatten env.overflowLost s
  let s := s.each (env.speeds.filter (fun e => decide (e.1 < 54))) measureSpeed
  let s := holdMoving n s
  let s := if s.stands Ev.OVERCOMMITTED 0 then s.flag 8 else s
  showGuests (runGovernor s)

/-- What the outputs and the twin do at batten n (R222, R298, R301, R311, R327). -/
def unitsAtBatten (env : BattenEnv) (n : Nat) (cloth : List Int) (s : State) : State :=
  let fed := (outputsOf s.run).filter (fun e => idKind e.dest == 8)
  let s := treadleBatten (fed.map (fun e => idUnit e.dest) ++ ((selvOutputs s).map (selvDest s)).filterMap (fun d =>
    if idKind d = 8 then some (idUnit d) else none)) env.sense env.rails s
  let s := driveTallies (readGpio env.gpio s)
  let s := if s.twin.drivesFrom = n then driveRelays s else s
  let s := startsSending s
  let s := showReference s
  let r := takeTraces s
  let s := sendSelvStates (sendDigest r.1 cloth r.2)
  twinBatten s

/-- BATTEN (R18): the cloth beam is released, the warp slots close, changes are handed to their objects and moves switch; slack is
measured, and what other rules place at a batten follows. -/
def execBatten (env : BattenEnv) (s : State) : Result :=
  let s := s.at_ 0
  .next (s.whenever s.inService (fun s =>
    let s := handsOver (openBatten s)
    let n := s.clock.pick
    let s := judgeDeadline env n s
    let r := releaseCloth env.fabricLate n s
    let s := closeSlots n (takeGrouping r.1)
    let s := changesAndMoves env n s
    let s := unitsAtBatten env n r.2 s
    let s := readAll s n
    let s := doffFades s
    let s := if agentRuns s && !s.agent.queue.isEmpty then serveQueue s else s
    leaveBatten (sampleSubs (prune n s))))

/-! ## A step of engine time (R136 to R138) -/

/-- A pick or sample number moved by a signed count; 0, which stands for none, stays. -/
def moved (d : Int) (k : Nat) : Nat := if k = 0 then 0 else ((k : Int) + d).toNat

/-- The graph's samples and picks renumbered: a step moves no sample phase (R136). -/
def renumberGraph (d pl : Int) (g : Graph) : Graph :=
  let k := fun (x : Nat) => ((x : Int) + d * pl).toNat
  let p := fun (x : Nat) => ((x : Int) + d).toNat
  { g with
    past := g.past.map (fun x => { x with sample := k x.sample })
    ramps := g.ramps.map (fun x => { x with sample := k x.sample })
    fades := g.fades.map (fun x => { x with sample := k x.sample })
    tails := g.tails.map (fun x => { x with sample := k x.sample })
    shifts := g.shifts.map (fun x => { x with sample := k x.sample })
    twills := g.twills.map (fun x => { x with start := k x.start })
    works := g.works.map (fun x => { x with next := p x.next, start := k x.start, left := if x.left = 0 then 0 else k (x.left - 1) + 1 })
    olds := g.olds.map (fun x => (k x.1, x.2))
    louds := g.louds.map (fun x => { x with runFrom := k x.runFrom })
    warp := g.warp.map (fun x => { x with sample := k x.sample })
    kept := g.kept.map (fun x => { x with pick := p x.pick })
    cloth := g.cloth.map (fun x => { x with pick := p x.pick })
    blocks := g.blocks.map (fun x => { x with pick := if Nat.ble (2 ^ 33) x.id && !(Nat.ble (2 ^ 34) x.id && Nat.blt x.id (2 ^ 35)) then k x.pick else p x.pick })
    outs := g.outs.map (fun x => { x with sample := k x.sample })
    selvs := g.selvs.map (fun x => { x with pos := k x.pos }) }

/-- Pick numbers of moves, evictions and deadlines renumbered. -/
def renumberFabric (d : Int) (f : Fabric) : Fabric :=
  let p := fun (x : Nat) => ((x : Int) + d).toNat
  { f with
    moves := f.moves.map (fun m => { m with planned := p m.planned })
    finish := f.finish.map (fun x => (x.1, x.2.1, p x.2.2))
    guests := f.guests.map (fun x => { x with ends := moved d x.ends })
    evictions := f.evictions.map (fun x => (x.1, p x.2.1, x.2.2)) }

/-- First samples of fades on ports, groups and ASRC channels renumbered. -/
def renumberPorts (k : Int) (io : Ports) : Ports :=
  { io with
    ports := io.ports.map (fun x => { x with fadeAt := moved k x.fadeAt, pos := moved k x.pos, written := moved k x.written,
                                             returns := x.returns.map (fun e => (e.1, moved k e.2)) })
    groups := io.groups.map (fun x => { x with fadeAt := moved k x.fadeAt, muteAt := moved k x.muteAt })
    waiting := io.waiting.map (fun x => { x with read := moved k x.read })
    asrcFade := io.asrcFade.map (fun e => (e.1, moved k e.2)) }

/-- First samples of fades and released samples of streams renumbered. -/
def renumberNet (k : Int) (x : Net) : Net :=
  { x with
    rx := x.rx.map (fun r => { r with fadeAt := moved k r.fadeAt, degradedAt := moved k r.degradedAt, latest := none, paces := [] })
    tx := x.tx.map (fun e => (e.1, e.2.map (fun (q : Nat × Int × Bool) => (((q.1 : Int) + k).toNat, q.2))))
    restarts := x.restarts.map (fun e => (e.1, moved k e.2)) }

/-- Stamps of engine time, assessments and edges renumbered by a step of d picks, ns in engine time (R136, R187): no edge of an output
moves. -/
def renumberReference (s : State) (d ns : Int) : Reference :=
  let r := s.ref
  let later := assessmentNo { s with clock := { s.clock with offset := s.clock.offset + ns } }
  let m := fun (x : Nat) => moved ((later : Int) - assessmentNo s) x
  let at_ := fun (x : Nat) => ((x : Int) + ns).toNat
  { r with
    decidedAt := moved d r.decidedAt
    lockPick := moved d r.lockPick
    assessed := m r.assessed
    cands := r.cands.map (fun c => { c with offsets := c.offsets.map (fun o => (m o.1, o.2)) })
    pulses := r.pulses.map (fun ps => ps.map at_)
    edgesAt := (r.edgesAt.1, at_ r.edgesAt.2)
    aligns := r.aligns.map (fun a => { a with anchor := a.anchor + d * s.pl * 1000000000000000000000 }) }

/-- Everything that runs on the sample or pick axis keeps its distance to the batten when engine time steps by d picks; the timed
actions keep their instants (R136, R137). -/
def renumber (s : State) (d : Int) : State :=
  let k := d * s.pl
  let ns := ((s.battenNs ((s.clock.pick : Int) + d).toNat : Nat) : Int) - (s.battenNs s.clock.pick : Nat)
  let actions := s.agent.actions.map (fun (a : Action) =>
    { a with stamp := ((a.stamp : Int) + ns).toNat, sample := if a.direct then ((a.sample : Int) + k).toNat else a.sample })
  let governor := { s.governor with stepPick := moved d s.governor.stepPick }
  let ref := renumberReference s d ns
  let twin := { s.twin with
    fadeAt := moved k s.twin.fadeAt, divergedFrom := moved d s.twin.divergedFrom, drivesFrom := moved d s.twin.drivesFrom }
  let treadle := { s.treadle with channels := s.treadle.channels.map (fun c => { c with sample := moved k c.sample }) }
  { s with
    graph := renumberGraph d s.pl s.graph
    fabric := renumberFabric d s.fabric
    io := renumberPorts k s.io
    net := renumberNet k s.net
    cuts := s.cuts.map (fun c => { c with fadeAt := moved k c.fadeAt })
    agent := { s.agent with actions := actions }
    governor := governor
    ref := ref
    twin := twin
    treadle := treadle
    power := { s.power with doffFade := moved k s.power.doffFade, doffPick := moved d s.power.doffPick }
    clock := { s.clock with offset := s.clock.offset + ns, pick := ((s.clock.pick : Int) + d).toNat } }

/-- The pick whose batten is nearest an instant, the later one midway (R138). -/
def nearestPick (s : State) (ns : Nat) : Nat := (2 * ns * s.fs + s.pl * 1000000000) / (2 * s.pl * 1000000000)

/-- The signed step in picks that waits for a batten: a written time before a measured offset. -/
def stepAsked (s : State) : Int :=
  match s.clock.set with
  | some ns => (nearestPick s ns : Int) - s.clock.pick
  | none => s.clock.step

/-- TIME_STEPPED (R136 to R138): engine time and the pick counter step by whole picks at the next batten, which the BATTEN that follows
opens under its new number. Pending actions whose picks were skipped are late there. -/
def execTimeStepped (t : Nat) (s : State) : Result :=
  let s := s.at_ t
  .next (s.whenever (s.clock.set.isSome || decide (s.clock.step ≠ 0)) (fun s =>
    let d := stepAsked s
    let s := { s with clock := { s.clock with step := 0, set := none } }
    if d = 0 then s
    else
      let s := renumber s d
      let s := { s with clock := { s.clock with stepped := true } }
      let n := s.clock.pick
      let s := (s.wr Obj.PICK_COUNT (n : Nat)).wr Obj.BATTEN_TIME (time80 (s.battenNs n) : Nat)
      (s.bump Obj.TIME_STEP_COUNT).raise Ev.TIME_STEPPED (pattern 32 d)))

end Machine
end Sys2Proof
end

