-- ==== Sys2Proof/Machine/Dispatch.lean ====
section
/-! DEFINITION. Every command to its meaning, one arm per row of spec/opcode_table.json. -/

namespace Sys2Proof
namespace Machine

/-- What a command does to the engine, its queue apart. -/
def exec (i : Instr) (s : State) : Host.Outcome State Fault Refusal :=
  match i with
  | .batten env => Sys2Proof.Machine.execBatten env s
  | .taskComplete t e f => Sys2Proof.Machine.execTaskComplete t e f s
  | .slackWarn t => Sys2Proof.Machine.execSlackWarn t s
  | .slackWarnClear t => Sys2Proof.Machine.execSlackWarnClear t s
  | .slackAlarmClear t => Sys2Proof.Machine.execSlackAlarmClear t s
  | .slackClear t w v => Sys2Proof.Machine.execSlackClear t w v s
  | .graphCommit t w => Sys2Proof.Machine.execGraphCommit t w s
  | .discardEdits t w => Sys2Proof.Machine.execDiscardEdits t w s
  | .compileDone t => Sys2Proof.Machine.execCompileDone t s
  | .graphSwitch t => Sys2Proof.Machine.execGraphSwitch t s
  | .objectWrite t w key v => Sys2Proof.Machine.execObjectWrite t w key v s
  | .contribSet t w v => Sys2Proof.Machine.execContribSet t w v s
  | .twillRequest t w v => Sys2Proof.Machine.execTwillRequest t w v s
  | .twillDone t j => Sys2Proof.Machine.execTwillDone t j s
  | .routeFadeEnd t dest => Sys2Proof.Machine.execRouteFadeEnd t dest s
  | .routeDeferredApply t dest => Sys2Proof.Machine.execRouteDeferredApply t dest s
  | .delayFadeEnd t j => Sys2Proof.Machine.execDelayFadeEnd t j s
  | .trimRampEnd t j => Sys2Proof.Machine.execTrimRampEnd t j s
  | .genCrossfadeEnd t j => Sys2Proof.Machine.execGenCrossfadeEnd t j s
  | .selvRampEnd t o => Sys2Proof.Machine.execSelvRampEnd t o s
  | .firpLoadDone t j => Sys2Proof.Machine.execFirpLoadDone t j s
  | .ldRun t w j v => Sys2Proof.Machine.execLdRun t w j v s
  | .loudnessUpdate t j => Sys2Proof.Machine.execLoudnessUpdate t j s
  | .mtrClear t w j v => Sys2Proof.Machine.execMtrClear t w j v s
  | .reweaveBulkCopyDone t j logged => Sys2Proof.Machine.execReweaveBulkCopyDone t j logged s
  | .reweaveAbandoned t j => Sys2Proof.Machine.execReweaveAbandoned t j s
  | .faultMoveStart t j readable => Sys2Proof.Machine.execFaultMoveStart t j readable s
  | .mendDrainStart t => Sys2Proof.Machine.execMendDrainStart t s
  | .mendSelfTest t h => Sys2Proof.Machine.execMendSelfTest t h s
  | .mendSelfTestDone t h r => Sys2Proof.Machine.execMendSelfTestDone t h r s
  | .placeQuiet t w v => Sys2Proof.Machine.execPlaceQuiet t w v s
  | .placeQuietEnd t => Sys2Proof.Machine.execPlaceQuietEnd t s
  | .overflowEvict t j => Sys2Proof.Machine.execOverflowEvict t j s
  | .overflowEvictFailed t j => Sys2Proof.Machine.execOverflowEvictFailed t j s
  | .guestEvictEnd t p => Sys2Proof.Machine.execGuestEvictEnd t p s
  | .selvedgeSample t faults => Sys2Proof.Machine.execSelvedgeSample t faults s
  | .assessment t env => Sys2Proof.Machine.execAssessment t env s
  | .refRate t slot => Sys2Proof.Machine.execRefRate t slot s
  | .refDisagreeClear t a b => Sys2Proof.Machine.execRefDisagreeClear t a b s
  | .refCandQualified t slot => Sys2Proof.Machine.execRefCandQualified t slot s
  | .successorPrequalified t => Sys2Proof.Machine.execSuccessorPrequalified t s
  | .refWtrExpired t => Sys2Proof.Machine.execRefWtrExpired t s
  | .refCandLost t slot => Sys2Proof.Machine.execRefCandLost t slot s
  | .refSwitched t offset => Sys2Proof.Machine.execRefSwitched t offset s
  | .holdover t => Sys2Proof.Machine.execHoldover t s
  | .buildoutSteerDone t offset => Sys2Proof.Machine.execBuildoutSteerDone t offset s
  | .slewDone t => Sys2Proof.Machine.execSlewDone t s
  | .timeLocked t => Sys2Proof.Machine.execTimeLocked t s
  | .timeStepped t => Sys2Proof.Machine.execTimeStepped t s
  | .timeSet t w v => Sys2Proof.Machine.execTimeSet t w v s
  | .xoOffsetUpdate t => Sys2Proof.Machine.execXoOffsetUpdate t s
  | .timedCancel t w v => Sys2Proof.Machine.execTimedCancel t w v s
  | .timedCancelTag t w v => Sys2Proof.Machine.execTimedCancelTag t w v s
  | .spSourceWrite t w sp rate v => Sys2Proof.Machine.execSpSourceWrite t w sp rate v s
  | .spAcquired t sp => Sys2Proof.Machine.execSpAcquired t sp s
  | .spHoldoverOos t sp => Sys2Proof.Machine.execSpHoldoverOos t sp s
  | .syncInPulse t p => Sys2Proof.Machine.execSyncInPulse t p s
  | .alignCheck t => Sys2Proof.Machine.execAlignCheck t s
  | .alignSlewDone t k => Sys2Proof.Machine.execAlignSlewDone t k s
  | .alignLost t p => Sys2Proof.Machine.execAlignLost t p s
  | .alignOffsetWrite t w k source v => Sys2Proof.Machine.execAlignOffsetWrite t w k source v s
  | .ptpMessageRx t mac m => Sys2Proof.Machine.execPtpMessageRx t mac m s
  | .ptpMessageTx t mac m => Sys2Proof.Machine.execPtpMessageTx t mac m s
  | .ptpHoldoverClass t => Sys2Proof.Machine.execPtpHoldoverClass t s
  | .ptpGmDomainWrite t w mac v => Sys2Proof.Machine.execPtpGmDomainWrite t w mac v s
  | .portFrame t port f => Sys2Proof.Machine.execPortFrame t port f s
  | .clockStop t port => Sys2Proof.Machine.execClockStop t port s
  | .lockLoss t port c => Sys2Proof.Machine.execLockLoss t port c s
  | .portErrorLockLoss t port => Sys2Proof.Machine.execPortErrorLockLoss t port s
  | .portRelocked t port => Sys2Proof.Machine.execPortRelocked t port s
  | .portFadeInDone t port => Sys2Proof.Machine.execPortFadeInDone t port s
  | .tdmConfigWrite t w port sub v => Sys2Proof.Machine.execTdmConfigWrite t w port sub v s
  | .tdmMaskWrite t w port tx v => Sys2Proof.Machine.execTdmMaskWrite t w port tx v s
  | .nonaudioClear t port ch => Sys2Proof.Machine.execNonaudioClear t port ch s
  | .asrcAcquired t ch => Sys2Proof.Machine.execAsrcAcquired t ch s
  | .sampleInstant t => Sys2Proof.Machine.execSampleInstant t s
  | .frameRx t mac f => Sys2Proof.Machine.execFrameRx t mac f s
  | .macLinkUp t mac => Sys2Proof.Machine.execMacLinkUp t mac s
  | .macLinkDown t mac => Sys2Proof.Machine.execMacLinkDown t mac s
  | .ipAddressWrite t w mac sub v => Sys2Proof.Machine.execIpAddressWrite t w mac sub v s
  | .pauseRepeat t => Sys2Proof.Machine.execPauseRepeat t s
  | .controlBufferLow t => Sys2Proof.Machine.execControlBufferLow t s
  | .pfcRepeat t mac => Sys2Proof.Machine.execPfcRepeat t mac s
  | .bulkBufferLow t mac => Sys2Proof.Machine.execBulkBufferLow t mac s
  | .pauseQuantaExpire t mac => Sys2Proof.Machine.execPauseQuantaExpire t mac s
  | .mediaPacketTx t stream => Sys2Proof.Machine.execMediaPacketTx t stream s
  | .msRxRestart t stream => Sys2Proof.Machine.execMsRxRestart t stream s
  | .msRxSilent t stream => Sys2Proof.Machine.execMsRxSilent t stream s
  | .streamWrite t w key v => Sys2Proof.Machine.execStreamWrite t w key v s
  | .netStatsSnapshot t w v => Sys2Proof.Machine.execNetStatsSnapshot t w v s
  | .swEnable t w port v => Sys2Proof.Machine.execSwEnable t w port v s
  | .swClockLock t port ppb => Sys2Proof.Machine.execSwClockLock t port ppb s
  | .swBlockLock t port lane phys inverted => Sys2Proof.Machine.execSwBlockLock t port lane phys inverted s
  | .swMarkerLock t port skew => Sys2Proof.Machine.execSwMarkerLock t port skew s
  | .swTrainStepTimeout t port lane => Sys2Proof.Machine.execSwTrainStepTimeout t port lane s
  | .swTrainFailed t port => Sys2Proof.Machine.execSwTrainFailed t port s
  | .swTrainRetry t port => Sys2Proof.Machine.execSwTrainRetry t port s
  | .swLinkDown t port c => Sys2Proof.Machine.execSwLinkDown t port c s
  | .trainingRestart t port => Sys2Proof.Machine.execTrainingRestart t port s
  | .alignmentMarker t port block corrected failed => Sys2Proof.Machine.execAlignmentMarker t port block corrected failed s
  | .alignmentMarkerTx t port => Sys2Proof.Machine.execAlignmentMarkerTx t port s
  | .trainingBlock t port block => Sys2Proof.Machine.execTrainingBlock t port block s
  | .idleBlock t port block => Sys2Proof.Machine.execIdleBlock t port block s
  | .audioCut t port block => Sys2Proof.Machine.execAudioCut t port block s
  | .bulkBlock t port block => Sys2Proof.Machine.execBulkBlock t port block s
  | .testPattern t port block => Sys2Proof.Machine.execTestPattern t port block s
  | .swPickDecide t port => Sys2Proof.Machine.execSwPickDecide t port s
  | .swPickChanged t port => Sys2Proof.Machine.execSwPickChanged t port s
  | .swEqfUpdate t port lane o1 o2 o3 e => Sys2Proof.Machine.execSwEqfUpdate t port lane o1 o2 o3 e s
  | .swEqfLow t port lane => Sys2Proof.Machine.execSwEqfLow t port lane s
  | .adaptationBurstEnd t port => Sys2Proof.Machine.execAdaptationBurstEnd t port s
  | .swLoopback t w port v => Sys2Proof.Machine.execSwLoopback t w port v s
  | .swRetrain t w port v => Sys2Proof.Machine.execSwRetrain t w port v s
  | .twinPaired t enabled names => Sys2Proof.Machine.execTwinPaired t enabled names s
  | .digest t port block => Sys2Proof.Machine.execDigest t port block s
  | .twinDigestMissing t pick => Sys2Proof.Machine.execTwinDigestMissing t pick s
  | .twinExchangeLost t => Sys2Proof.Machine.execTwinExchangeLost t s
  | .catchupImageDone t image acts => Sys2Proof.Machine.execCatchupImageDone t image acts s
  | .catchupClosing t seq words acts => Sys2Proof.Machine.execCatchupClosing t seq words acts s
  | .twinFillDone t => Sys2Proof.Machine.execTwinFillDone t s
  | .twinVerified t => Sys2Proof.Machine.execTwinVerified t s
  | .catchupRestart t => Sys2Proof.Machine.execCatchupRestart t s
  | .forwardedWrite t env => Sys2Proof.Machine.execForwardedWrite t env s
  | .leaseMessageTx t => Sys2Proof.Machine.execLeaseMessageTx t s
  | .leaseRenew t m => Sys2Proof.Machine.execLeaseRenew t m s
  | .leaseStandby t m => Sys2Proof.Machine.execLeaseStandby t m s
  | .leaseHandover t m => Sys2Proof.Machine.execLeaseHandover t m s
  | .selvedgeState t port block => Sys2Proof.Machine.execSelvedgeState t port block s
  | .leaseRelease t => Sys2Proof.Machine.execLeaseRelease t s
  | .leaseTaken t => Sys2Proof.Machine.execLeaseTaken t s
  | .takePick t => Sys2Proof.Machine.execTakePick t s
  | .leaseSwap t w v => Sys2Proof.Machine.execLeaseSwap t w v s
  | .leaseDrill t => Sys2Proof.Machine.execLeaseDrill t s
  | .singularReadback t differs => Sys2Proof.Machine.execSingularReadback t differs s
  | .tdStart t ch => Sys2Proof.Machine.execTdStart t ch s
  | .tdRelayClose t ch => Sys2Proof.Machine.execTdRelayClose t ch s
  | .tdContactsSettled t ch => Sys2Proof.Machine.execTdContactsSettled t ch s
  | .tdDcTestMeasure t ch volts amps => Sys2Proof.Machine.execTdDcTestMeasure t ch volts amps s
  | .tdTestRampDownDone t ch => Sys2Proof.Machine.execTdTestRampDownDone t ch s
  | .tdSequenceGainDone t ch => Sys2Proof.Machine.execTdSequenceGainDone t ch s
  | .tdStop t ch => Sys2Proof.Machine.execTdStop t ch s
  | .tdGainRampDownDone t ch => Sys2Proof.Machine.execTdGainRampDownDone t ch s
  | .tdRelayOpen t ch => Sys2Proof.Machine.execTdRelayOpen t ch s
  | .tdRelayReleased t ch => Sys2Proof.Machine.execTdRelayReleased t ch s
  | .tdOvercurrent t ch bits => Sys2Proof.Machine.execTdOvercurrent t ch bits s
  | .tdShort t ch => Sys2Proof.Machine.execTdShort t ch s
  | .tdRelayHot t ch => Sys2Proof.Machine.execTdRelayHot t ch s
  | .tdRetry t ch => Sys2Proof.Machine.execTdRetry t ch s
  | .tdGainRecover t ch => Sys2Proof.Machine.execTdGainRecover t ch s
  | .tdOcFailsReset t ch => Sys2Proof.Machine.execTdOcFailsReset t ch s
  | .tdSenseFault t ch bits => Sys2Proof.Machine.execTdSenseFault t ch bits s
  | .tdSenseRelayDrop t ch => Sys2Proof.Machine.execTdSenseRelayDrop t ch s
  | .tdSenseRecover t ch => Sys2Proof.Machine.execTdSenseRecover t ch s
  | .tdRailFault t rail => Sys2Proof.Machine.execTdRailFault t rail s
  | .tdRailRecover t rail => Sys2Proof.Machine.execTdRailRecover t rail s
  | .thPilotMeasure t ch => Sys2Proof.Machine.execThPilotMeasure t ch s
  | .acRun t w ch v => Sys2Proof.Machine.execAcRun t w ch v s
  | .acTestDone t ch => Sys2Proof.Machine.execAcTestDone t ch s
  | .tdClear t w ch v => Sys2Proof.Machine.execTdClear t w ch v s
  | .tdPwmRateWrite t w ch v => Sys2Proof.Machine.execTdPwmRateWrite t w ch v s
  | .tdDiagModeWrite t w v => Sys2Proof.Machine.execTdDiagModeWrite t w v s
  | .read t env => Sys2Proof.Machine.execRead t env s
  | .write t env => Sys2Proof.Machine.execWrite t env s
  | .writeTimed t env => Sys2Proof.Machine.execWriteTimed t env s
  | .subscribeValue t env => Sys2Proof.Machine.execSubscribeValue t env s
  | .subscribeEvents t env => Sys2Proof.Machine.execSubscribeEvents t env s
  | .subscribeRemove t env => Sys2Proof.Machine.execSubscribeRemove t env s
  | .notifyPeriod t sub => Sys2Proof.Machine.execNotifyPeriod t sub s
  | .notifyAck t env => Sys2Proof.Machine.execNotifyAck t env s
  | .notifyTimeout t session req => Sys2Proof.Machine.execNotifyTimeout t session req s
  | .blockWriteBegin t env => Sys2Proof.Machine.execBlockWriteBegin t env s
  | .blockWriteData t env => Sys2Proof.Machine.execBlockWriteData t env s
  | .blockReadBegin t env => Sys2Proof.Machine.execBlockReadBegin t env s
  | .blockReadData t env => Sys2Proof.Machine.execBlockReadData t env s
  | .blockAbort t env => Sys2Proof.Machine.execBlockAbort t env s
  | .blockIdle t xfer => Sys2Proof.Machine.execBlockIdle t xfer s
  | .challengeOpen t env => Sys2Proof.Machine.execChallengeOpen t env s
  | .challengeProve t env => Sys2Proof.Machine.execChallengeProve t env s
  | .challengeClose t env => Sys2Proof.Machine.execChallengeClose t env s
  | .debugRequest t env => Sys2Proof.Machine.execDebugRequest t env s
  | .debugAnswer t env => Sys2Proof.Machine.execDebugAnswer t env s
  | .debugPassword t env => Sys2Proof.Machine.execDebugPassword t env s
  | .debugClose t env => Sys2Proof.Machine.execDebugClose t env s
  | .debugExpiry t => Sys2Proof.Machine.execDebugExpiry t s
  | .debugLockoutEnd t => Sys2Proof.Machine.execDebugLockoutEnd t s
  | .debugCoreHalt t core => Sys2Proof.Machine.execDebugCoreHalt t core s
  | .tapInstruction t ins => Sys2Proof.Machine.execTapInstruction t ins s
  | .sessionIdle t session => Sys2Proof.Machine.execSessionIdle t session s
  | .sessionClose t w slot v => Sys2Proof.Machine.execSessionClose t w slot v s
  | .hapolClaim t w v => Sys2Proof.Machine.execHapolClaim t w v s
  | .hapolRelease t w v => Sys2Proof.Machine.execHapolRelease t w v s
  | .hapolClaimBreak t w v => Sys2Proof.Machine.execHapolClaimBreak t w v s
  | .dictSave t => Sys2Proof.Machine.execDictSave t s
  | .dictRestoreDefaults t w v => Sys2Proof.Machine.execDictRestoreDefaults t w v s
  | .writeCfg t b => Sys2Proof.Machine.execWriteCfg t b s
  | .readStatus t clocked => Sys2Proof.Machine.execReadStatus t clocked s
  | .creelWrite t addr data => Sys2Proof.Machine.execCreelWrite t addr data s
  | .creelRead t addr words fillers => Sys2Proof.Machine.execCreelRead t addr words fillers s
  | .mbxWrite t sent => Sys2Proof.Machine.execMbxWrite t sent s
  | .mbxRead t clocked => Sys2Proof.Machine.execMbxRead t clocked s
  | .evtRead t max clocked => Sys2Proof.Machine.execEvtRead t max clocked s
  | .readId t clocked => Sys2Proof.Machine.execReadId t clocked s
  | .creelTransaction t reqs => Sys2Proof.Machine.execCreelTransaction t reqs s
  | .creelLockBroken t m => Sys2Proof.Machine.execCreelLockBroken t m s
  | .bootCtrlWrite t m v => Sys2Proof.Machine.execBootCtrlWrite t m v s
  | .bootImageLen t m v => Sys2Proof.Machine.execBootImageLen t m v s
  | .crlDdrSegWrite t m reg v => Sys2Proof.Machine.execCrlDdrSegWrite t m reg v s
  | .coreRestarted t core => Sys2Proof.Machine.execCoreRestarted t core s
  | .coreRestartDone t core => Sys2Proof.Machine.execCoreRestartDone t core s
  | .filteredLevelChange t source => Sys2Proof.Machine.execFilteredLevelChange t source s
  | .hedClaim t core => Sys2Proof.Machine.execHedClaim t core s
  | .bobbinClaim t field => Sys2Proof.Machine.execBobbinClaim t field s
  | .letoffOverrun t id => Sys2Proof.Machine.execLetoffOverrun t id s
  | .letoffMaxWait t id => Sys2Proof.Machine.execLetoffMaxWait t id s
  | .readVout t word => Sys2Proof.Machine.execReadVout t word s
  | .readIout t word => Sys2Proof.Machine.execReadIout t word s
  | .statusWord t word => Sys2Proof.Machine.execStatusWord t word s
  | .pmbAlertN t => Sys2Proof.Machine.execPmbAlertN t s
  | .vcoreNotSettled t => Sys2Proof.Machine.execVcoreNotSettled t s
  | .vcoreStepDown t => Sys2Proof.Machine.execVcoreStepDown t s
  | .pmbusRetry t good => Sys2Proof.Machine.execPmbusRetry t good s
  | .thermtrip t => Sys2Proof.Machine.execThermtrip t s
  | .agingHour t => Sys2Proof.Machine.execAgingHour t s
  | .scrubWord t st tier key pos double => Sys2Proof.Machine.execScrubWord t st tier key pos double s
  | .scrubBurst t words => Sys2Proof.Machine.execScrubBurst t words s
  | .monClear t w m v => Sys2Proof.Machine.execMonClear t w m v s
  | .monHistConfigWrite t w m width v => Sys2Proof.Machine.execMonHistConfigWrite t w m width v s
  | .outputCountClear t w v => Sys2Proof.Machine.execOutputCountClear t w v s
  | .powerUp t => Sys2Proof.Machine.execPowerUp t s
  | .porstNRise t straps flash => Sys2Proof.Machine.execPorstNRise t straps flash s
  | .porstNFall t => Sys2Proof.Machine.execPorstNFall t s
  | .resetNFall t => Sys2Proof.Machine.execResetNFall t s
  | .resetNRise t => Sys2Proof.Machine.execResetNRise t s
  | .corePgRise t => Sys2Proof.Machine.execCorePgRise t s
  | .corePgTimeout t => Sys2Proof.Machine.execCorePgTimeout t s
  | .corePgFall t => Sys2Proof.Machine.execCorePgFall t s
  | .startDone t ddr selfTests => Sys2Proof.Machine.execStartDone t ddr selfTests s
  | .startTimeout t => Sys2Proof.Machine.execStartTimeout t s
  | .startRequestWarm t w => Sys2Proof.Machine.execStartRequestWarm t w s
  | .startRequestCold t w => Sys2Proof.Machine.execStartRequestCold t w s
  | .retainedRecordWrite t => Sys2Proof.Machine.execRetainedRecordWrite t s
  | .doffRequest t w v => Sys2Proof.Machine.execDoffRequest t w v s
  | .doffEntry t => Sys2Proof.Machine.execDoffEntry t s
  | .doffLatchSample t => Sys2Proof.Machine.execDoffLatchSample t s
  | .wakeTimer t => Sys2Proof.Machine.execWakeTimer t s
  | .wakeIn t n => Sys2Proof.Machine.execWakeIn t n s
  | .wakeCpLink t => Sys2Proof.Machine.execWakeCpLink t s
  | .fieldLockBlow t w v => Sys2Proof.Machine.execFieldLockBlow t w v s
  | .oemPwSet t w b => Sys2Proof.Machine.execOemPwSet t w b s
  | .fwImage t w image => Sys2Proof.Machine.execFwImage t w image s
  | .fwProgrammed t done => Sys2Proof.Machine.execFwProgrammed t done s
  | .fwSecCommit t w v => Sys2Proof.Machine.execFwSecCommit t w v s
  | .fwKeyRevoke t w v => Sys2Proof.Machine.execFwKeyRevoke t w v s
  | .startFailed t c => Sys2Proof.Machine.execStartFailed t c s
  | .powerLoss t => Sys2Proof.Machine.execPowerLoss t s
  | .ptpAnnounceTimeout t mac => Sys2Proof.Machine.execPtpAnnounceTimeout t mac s
  | .debugCoreResume t core => Sys2Proof.Machine.execDebugCoreResume t core s

end Machine
end Sys2Proof
end

