-- ==== Sys2Proof/Safety.lean ====
section
/-! DEFINITION. What counts as a sound state of the engine, in the terms that statements use. -/

namespace Sys2Proof
namespace Machine

/-- Every command that waits has its operands within the ranges of its rule. -/
def QueueOk (s : State) : Prop := s.pending.all Instr.wellFormed = true

/-- The creel's memory is in its canonical form: addresses rise, and no listed byte equals what an unlisted one reads as. -/
def MemoryOk (s : State) : Prop := Memory.wf s.creel.mem = true

/-- The invariant that every step keeps. -/
def State.Inv (s : State) : Prop := QueueOk s ∧ MemoryOk s

/-- The states that a list of commands passes through, one command a step; a stop would end the list. -/
def runAll (s : State) : List Instr → Option State
  | [] => some s
  | c :: rest => match exec c s with
    | .next t => runAll t rest
    | .fault _ => none
    | .refused _ => none

end Machine
end Sys2Proof
end

