-- ==== Sys2Proof/Certificates/Slice0/Obligations.lean ====
section
/-! DEFINITION. The statements for the provers. In each statement q is the state with the command in front, s the same state at the
command's instant; the rules stand in OBLIGATIONS.json. -/

namespace Sys2Proof
namespace Machine

/-- The Hapol requests among the commands: when the message arrives, what it asks, and the message (R344). -/
def messageOf : Instr → Option (Nat × Kind × Envelope)
  | .read t e => some (t, .read, e)
  | .write t e => some (t, .write, e)
  | .writeTimed t e => some (t, .timed, e)
  | .subscribeValue t e => some (t, .subValue, e)
  | .subscribeEvents t e => some (t, .subEvents, e)
  | .subscribeRemove t e => some (t, .subRemove, e)
  | .blockWriteBegin t e => some (t, .writeBegin, e)
  | .blockWriteData t e => some (t, .writeData, e)
  | .blockReadBegin t e => some (t, .readBegin, e)
  | .blockReadData t e => some (t, .readData, e)
  | .blockAbort t e => some (t, .abort, e)
  | .debugRequest t e => some (t, .debugRequest, e)
  | .debugAnswer t e => some (t, .debugAnswer, e)
  | .debugPassword t e => some (t, .debugPassword, e)
  | .debugClose t e => some (t, .debugClose, e)
  | .notifyAck t e => some (t, .ack, e)
  | .challengeOpen t e => some (t, .open_, e)
  | .challengeProve t e => some (t, .prove, e)
  | .challengeClose t e => some (t, .close, e)
  | .forwardedWrite t e => some (t, .forwarded, e)
  | _ => none

/-- The engine as a message finds it: at its instant, with what waited before it served, and with the mailbox free again when it
came that way (R381, R456). -/
def taken (t : Nat) (e : Envelope) (q : State) : State :=
  let s := if (q.at_ t).agent.queue.isEmpty then q.at_ t else serveQueue (q.at_ t)
  if e.path = .mailbox then { s with creel := { s.creel with busy := false } } else s

/-- A message that reaches a running agent and whose header passes (R344, R345); a message by the mailbox needs the port up and
the mailbox free. -/
def arrives (t : Nat) (k : Kind) (e : Envelope) (q : State) : Prop :=
  reaches (q.at_ t) e.path = true ∧ agentRuns (q.at_ t) = true ∧
  (e.path = .mailbox → hostPortUp (q.at_ t) = true ∧ (q.at_ t).creel.busy = false) ∧
  20 ≤ e.msg.length ∧ headerStatus e.path e.msg = Status.OK ∧ kindOf (readMsg e.msg) = some k

/-- The commands that write one object: when, the writer, the object and the value (R342). -/
def writeOf : Instr → Option (Nat × Writer × Nat × Val)
  | .objectWrite t w key v => some (t, w, key, v)
  | .slackClear t w v => some (t, w, Obj.SLACK_CLEAR, .num v)
  | .graphCommit t w => some (t, w, Obj.GRAPH_COMMIT, .num 1)
  | .discardEdits t w => some (t, w, Obj.GRAPH_COMMIT, .num 2)
  | .contribSet t w v => some (t, w, Obj.CONTRIB_SET, .num v)
  | .twillRequest t w v => some (t, w, Obj.TWILL_REQUEST, .num v)
  | .ldRun t w i v => some (t, w, paramKey i Par.LD_RUN, .num v)
  | .mtrClear t w i v => some (t, w, paramKey i Par.MTR_CLEAR, .num v)
  | .placeQuiet t w v => some (t, w, Obj.PLACE_QUIET, .num v)
  | .timeSet t w v => some (t, w, Obj.TIME_SET, .num v)
  | .timedCancel t w v => some (t, w, Obj.TIMED_CANCEL, .num v)
  | .timedCancelTag t w v => some (t, w, Obj.TIMED_CANCEL_TAG, .num v)
  | .spSourceWrite t w sp rate v => some (t, w, keyOf (0x2200 + sp.val) (if rate then 3 else 2), .num v)
  | .alignOffsetWrite t w k source v => some (t, w, keyOf (0x2400 + k.val) (if source then 4 else 5), .num v)
  | .ptpGmDomainWrite t w mac v => some (t, w, keyOf (0x2500 + mac.val) 2, .num v)
  | .tdmConfigWrite t w port sub v => some (t, w, keyOf (0x3000 + port.val) (sub % 256), .num v)
  | .tdmMaskWrite t w port tx v => some (t, w, keyOf (0x3000 + port.val) (if tx then 8 else 7), .num v)
  | .ipAddressWrite t w mac sub v => some (t, w, keyOf (0xC000 + mac.val) (sub % 256), .num v)
  | .streamWrite t w key v => some (t, w, key, .num v)
  | .netStatsSnapshot t w v => some (t, w, Obj.NET_STATS_SNAPSHOT, .num v)
  | .swEnable t w port v => some (t, w, keyOf (0xB000 + port.val) 1, .num v)
  | .swLoopback t w port v => some (t, w, keyOf (0xB000 + port.val) 5, .num v)
  | .swRetrain t w port v => some (t, w, keyOf (0xB000 + port.val) 7, .num v)
  | .leaseSwap t w v => some (t, w, Obj.LEASE_SWAP, .num v)
  | .acRun t w ch v => some (t, w, keyOf (0x6200 + ch.val) 5, .num v)
  | .tdClear t w ch v => some (t, w, keyOf (0x6000 + ch.val) 0x11, .num v)
  | .tdPwmRateWrite t w ch v => some (t, w, keyOf (0x6000 + ch.val) 3, .num v)
  | .tdDiagModeWrite t w v => some (t, w, Obj.TD_DIAG_MODE, .num v)
  | .sessionClose t w slot v => some (t, w, ix Obj.SESSION_CLOSE slot.val, .num v)
  | .hapolClaim t w v => some (t, w, Obj.HAPOL_CLAIM, .num v)
  | .hapolRelease t w v => some (t, w, Obj.HAPOL_RELEASE, .num v)
  | .hapolClaimBreak t w v => some (t, w, Obj.HAPOL_CLAIM_BREAK, .num v)
  | .dictRestoreDefaults t w v => some (t, w, Obj.DICT_RESTORE_DEFAULTS, .num v)
  | .monClear t w m v => some (t, w, keyOf (0x8000 + m.val) 9, .num v)
  | .monHistConfigWrite t w m width v => some (t, w, keyOf (0x8000 + m.val) (if width then 8 else 7), .num v)
  | .outputCountClear t w v => some (t, w, Obj.OUTPUT_COUNT_CLEAR, .num v)
  | .startRequestWarm t w => some (t, w, Obj.START_REQUEST, .num 1)
  | .startRequestCold t w => some (t, w, Obj.START_REQUEST, .num 2)
  | .doffRequest t w v => some (t, w, Obj.DOFF_REQUEST, .num v)
  | .fieldLockBlow t w v => some (t, w, Obj.FIELD_LOCK_BLOW, .num v)
  | .oemPwSet t w b => some (t, w, Obj.OEM_PW_SET, .bytes b)
  | .fwImage t w image => some (t, w, Obj.FW_IMAGE, .bytes image)
  | .fwSecCommit t w v => some (t, w, Obj.FW_SEC_COMMIT, .num v)
  | .fwKeyRevoke t w v => some (t, w, Obj.FW_KEY_REVOKE, .num v)
  | _ => none

/-- The commands that may change a byte of the creel's memory: writes of a master, and what takes the core rail or the always-on
rails away. -/
def writesCreelMemory : Instr → Bool
  | .creelWrite .. => true
  | .creelTransaction .. => true
  | .creelLockBroken .. => true
  | .corePgTimeout .. => true
  | .corePgFall .. => true
  | .doffLatchSample .. => true
  | .powerLoss .. => true
  | .porstNFall .. => true
  | _ => false

/-- The commands that return engine time to 0: the two edges of PORST_N and a loss of the always-on rails (R425). -/
def restartsTime : Instr → Bool
  | .porstNRise .. => true
  | .porstNFall .. => true
  | .powerLoss .. => true
  | _ => false

/-- The commands that move the pick counter: a batten (R30), a step of engine time (R136), the end of a start and a restart of time. -/
def movesPick : Instr → Bool
  | .batten .. => true
  | .timeStepped .. => true
  | .startDone .. => true
  | c => restartsTime c

/-- How far a source stands after the one last claimed for its target at its priority, in ascending order with a wrap from 0x1FF to
0x000 (R388): 0 for the next one. -/
def after (s : State) (p : Pend) : Nat :=
  (p.source + 512 - (lastClaimed s.heddle p.target (s.prioOf p.source) + 1) % 512) % 512

end Machine
end Sys2Proof

open Sys2Proof Sys2Proof.Machine

/-- In the conditions of their rules BATTEN moves the engine to the next pick and keeps queue and memory, TASK_COMPLETE computes
the element and records its finish against its deadline, SLACK_WARN is raised again and plans a rebalance off the slowest
shuttle, and the slack events clear. -/
def Obligations.DeadlineCommandsComplete : Prop :=
  (∀ (env : BattenEnv) (q : State), q.inService = true →
      ∃ u, exec (.batten env) q = .next u ∧ u.clock.pick = q.clock.pick + 1 ∧ u.pending = q.pending ∧
        u.creel.mem = q.creel.mem ∧ q.clock.now ≤ u.clock.now) ∧
  (∀ (t : Nat) (e : Elem) (f : TaskFaults) (w : Work) (q : State), let s := q.at_ t;
      s.workOf (elemNo e) = some w →
      s.power.stage = 5 →
      s.canComplete (elemNo e) w = true →
      ∃ u, exec (.taskComplete t e f) q = .next u ∧ (u.shuttleOf (elemNo e), s.clock.now, u.deadline (elemNo e) w.next) ∈ u.fabric.finish) ∧
  (∀ (t b tier : Nat) (w : Work) (q : State), let s := q.at_ t;
      s.workOf (65536 + b) = some w →
      s.power.stage = 5 →
      s.canComplete (65536 + b) w = true →
      s.badReads (s.copyFor w) (65536 + b) w.next = 0 →
      exec (.taskComplete t (.bus b) ⟨[], tier, 0, false⟩) q = .next ((s.computeBus b w).finishAt ((s.computeBus b w).shuttleOf (65536 + b)) ((s.computeBus b w).deadline (65536 + b) w.next))) ∧
  (∀ (t : Nat) (q : State), let s := q.at_ t;
      64 ≤ s.fabric.warnBelow →
      exec (.slackWarn t) q = .next (let v := { s with fabric := { s.fabric with warnBelow := 0 } }.rise Ev.SLACK_WARN 0 0; if v.fabric.slowest < 54 then offload v.fabric.slowest true v else v)) ∧
  (∀ (t : Nat) (q : State), let s := q.at_ t;
      64 ≤ s.fabric.warnAbove →
      exec (.slackWarnClear t) q = .next (s.fall Ev.SLACK_WARN 0)) ∧
  (∀ (t : Nat) (q : State), let s := q.at_ t;
      64 ≤ s.fabric.alarmAbove →
      exec (.slackAlarmClear t) q = .next ({ s with governor := { s.governor with atMaxRaised := false } }.fall Ev.SLACK_ALARM 0))

/-- With core A running and a graph being compiled, COMPILE_DONE shows a refused graph as GRAPH_STATUS 4 with its error, makes
an accepted one ready as GRAPH_STATUS 3 and plans its moves and loads, or gives the guests notice when the graph fits only
without them; it leaves the running plan. -/
def Obligations.CompileCompletes : Prop :=
  (∀ (t : Nat) (d : Map Val) (e : Nat × Nat × Nat) (q : State), let s := q.at_ t;
      s.graph.compiling = some d →
      s.coreRuns 0 = true →
      compile s d = .error e →
      (e.1 ≠ 0x07 ∨ s.fabric.guests = []) →
      exec (.compileDone t) q = .next (graphRefused s e)) ∧
  (∀ (t : Nat) (d : Map Val) (p : Plan) (q : State), let s := q.at_ t;
      s.graph.compiling = some d →
      s.coreRuns 0 = true →
      compile s d = .ok p →
      exec (.compileDone t) q = .next (planCommit ((({ s with graph := { s.graph with compiling := none, ready := some p, loads := loadedInsts s p }, fabric := { s.fabric with commitWaits := false } } : State).each (loadedInsts s p) startLoad).wr Obj.GRAPH_STATUS 3))) ∧
  (∀ (t : Nat) (d : Map Val) (p : Plan) (e : Nat × Nat × Nat) (q : State), let s := q.at_ t;
      s.graph.compiling = some d →
      s.coreRuns 0 = true →
      compile s d = .error e →
      e.1 = 0x07 →
      s.fabric.guests ≠ [] →
      compile { s with fabric := { s.fabric with guests := [] } } d = .ok p →
      ∃ u, exec (.compileDone t) q = .next u ∧ u.graph.ready = some p ∧ u.fabric.commitWaits = true ∧ u.graph.compiling = none ∧ (∀ x ∈ u.fabric.guests, x.ends ≠ 0)) ∧
  (∀ (t : Nat) (d : Map Val) (q : State), let s := q.at_ t;
      s.graph.compiling = some d →
      s.coreRuns 0 = true →
      ∃ u, exec (.compileDone t) q = .next u ∧ u.graph.compiling = none ∧ u.run = s.run ∧ u.graph.plan = s.graph.plan)

/-- When every commit move has passed and every load is complete GRAPH_SWITCH puts the ready plan in force: nothing is ready any
more, the running copy is that of the plan in force, and GRAPH_STATUS tells whether the edit copy differs from it. -/
def Obligations.GraphSwitchCompletes : Prop :=
  (∀ (t : Nat) (p : Plan) (r : Map Nat × List Holding) (q : State), let s := q.at_ t;
      s.graph.ready = some p →
      maySwitch s p = true →
      settled s p = .ok r →
      exec (.graphSwitch t) q = .next (showMoves (switchPlan s { p with place := r.1, items := r.2 }))) ∧
  (∀ (t : Nat) (p : Plan) (q : State), let s := q.at_ t;
      s.graph.ready = some p →
      maySwitch s p = true →
      ∃ u, exec (.graphSwitch t) q = .next u ∧ u.graph.ready = none ∧ u.run = u.graph.plan.dict ∧ (u.rd Obj.GRAPH_STATUS = 0 ∨ u.rd Obj.GRAPH_STATUS = 1))

/-- A swap whose crossfade has run ends with the staged set active and no swap left, a load in state 2 ends in state 3 without
its leave, and a loudness block whose last sample is released takes its energy into the window and updates the momentary, the
short-term and in a run the integrated value. -/
def Obligations.SwapAndLoadComplete : Prop :=
  (∀ (t i : Nat) (tw : Twill) (w : Work) (q : State), let s := q.at_ t;
      s.swapOf i = some tw →
      s.workOf i = some w →
      tw.start + twillLen s tw ≤ w.next * s.pl →
      ∃ u, exec (.twillDone t i) q = .next u ∧ u = endTwill s i ∧ u.swapOf i = none) ∧
  (∀ (t i : Nat) (q : State), let s := q.at_ t;
      loadState s i = 2 →
      ∃ u, exec (.firpLoadDone t i) q = .next u ∧ loadState u i = 3 ∧ u.granted 5 i = false ∧ i ∉ u.graph.loads) ∧
  (∀ (t i : Nat) (q : State) (w : Work) (b : Int), let s := q.at_ t; let l := loudOf s i; let size := loudBlock s.fs;
      let last := w.start + (l.total + 1) * size; let four := ((b :: l.energies).take 30).take 4;
      let momentary := loudnessOf (four.foldl (fun (a : Int) x => a + x) 0) (4 * size);
      s.workOf i = some w → typeIn s.run i = 0x61 → w.regs[8 * shapeOf s.run i Par.LD_INPUTS + 2]? = some b →
      last + mapGetD s.graph.plan.shown i 2 * s.pl ≤ (s.clock.pick + 1) * s.pl →
      ∃ u, exec (.loudnessUpdate t i) q = .next u ∧ (loudOf u i).total = l.total + 1 ∧ (loudOf u i).energies = (b :: l.energies).take 30 ∧
        (4 ≤ l.total + 1 → u.rd (paramKey i Par.LD_MOMENTARY) = readingOf momentary) ∧
        (30 ≤ l.total + 1 → u.rd (paramKey i Par.LD_SHORT_TERM) =
          readingOf (loudnessOf (((b :: l.energies).take 30).foldl (fun (a : Int) x => a + x) 0) (30 * size))) ∧
        (s.numAt s.run (paramKey i Par.LD_RUN) (last - 1) = 1 → l.runFrom + 4 * size ≤ last → 4 ≤ l.total + 1 →
          u.rd (paramKey i Par.LD_INTEGRATED) = readingOf (integratedLoudness (binBlock l.bins momentary))))

/-- A crossfade that has run its length is marked as ended or gives way to its deferred change, and a ramp that has run its
length leaves the list. -/
def Obligations.FadeEndsComplete : Prop :=
  (∀ (t d : Nat) (f : Fade) (q : State), let s := q.at_ t;
      endedFade s d false s.sampleNow = some f →
      exec (.routeFadeEnd t d) q = .next (markEnded s f)) ∧
  (∀ (t d new : Nat) (f : Fade) (q : State), let s := q.at_ t;
      endedFade s d false (s.clock.pick * s.pl - 1) = some f → f.deferred = some new →
      exec (.routeDeferredApply t d) q = .next
        (({ s with graph := { s.graph with fades := change s.graph.fades (fun x => x == f) (fun x => { x with deferred := none, ended := true }) } }.startFade f.unit f.tap (s.clock.pick * s.pl)
            (if (edgesOf s.run).any (fun e => e.dest == d && hardCut e) then 0 else s.msSamples (s.rdN Obj.ROUTE_FADE_MS))
            (s.rdN Obj.ROUTE_FADE_LAW) 3 f.new new).1)) ∧
  (∀ (t i : Nat) (f : Fade) (q : State), let s := q.at_ t;
      typeIn s.run i = 0x30 →
      endedFade s i true (s.clock.pick * s.pl) = some f →
      f.deferred = none →
      exec (.delayFadeEnd t i) q = .next (markEnded s f)) ∧
  (∀ (t i new : Nat) (f : Fade) (q : State), let s := q.at_ t;
      typeIn s.run i = 0x30 →
      endedFade s i true (s.clock.pick * s.pl) = some f →
      f.deferred = some new →
      f.sample + f.len < s.clock.pick * s.pl →
      exec (.delayFadeEnd t i) q = .next (applyDeferred s f (s.msSamples (s.runN (paramKey i Par.DELAY_FADE_MS)).toNat) 0)) ∧
  (∀ (t i : Nat) (f : Fade) (q : State), let s := q.at_ t;
      typeIn s.run i = 0x70 →
      endedFade s i true s.sampleNow = some f →
      exec (.genCrossfadeEnd t i) q = .next (markEnded s f)) ∧
  (∀ (t i : Nat) (w : Work) (q : State), let s := q.at_ t;
      s.workOf i = some w →
      typeIn s.run i = 0x01 →
      exec (.trimRampEnd t i) q = .next ({ s with graph := { s.graph with ramps := s.graph.ramps.filter (fun r => !(r.key == trimKey i && decide (r.sample + r.len ≤ min s.sampleNow (w.next * s.pl)))) } })) ∧
  (∀ (t : Nat) (o : Fin 64) (q : State),
      ∃ u, exec (.selvRampEnd t o) q = .next u ∧ u.dict = q.dict ∧ u.run = q.run ∧
        ∀ k < 9, ∀ r ∈ u.graph.ramps, r.key = ix (Obj.SELV_SRC_GAIN + k) o.val → (q.at_ t).sampleNow < r.sample + r.len)

/-- A finished bulk copy moves on to its closing or copies again, a move with 16 failed closings is abandoned and counted, a
fault move places its instance on its destination (with cleared state when its state cannot be read), and evictions and quiet
periods end. -/
def Obligations.MoveCommandsComplete : Prop :=
  (∀ (t i logged : Nat) (m : Move) (q : State), let s := q.at_ t;
      s.fabric.moves.find? (fun x => x.inst == i && x.phase == 2 && copied s x && arrived s x) = some m →
      exec (.reweaveBulkCopyDone t i logged) q = .next (setMove s m { m with phase := if logged ≤ 2048 then 3 else 2, logged := logged, since := s.clock.now })) ∧
  (∀ (t i : Nat) (m : Move) (q : State), let s := q.at_ t;
      s.fabric.moves.find? (fun x => x.inst == i && x.phase == 3 && decide (16 ≤ x.closings)) = some m →
      ∃ u, exec (.reweaveAbandoned t i) q = .next u ∧ u.fabric.moves = s.fabric.moves.filter (fun x => !(x == m)) ∧ u.rd Obj.REWEAVE_ABANDONED = (s.rd Obj.REWEAVE_ABANDONED + 1) % 4294967296) ∧
  (∀ (t i : Nat) (m : Move) (q : State), let s := q.at_ t;
      s.fabric.moves.find? (fun x => x.inst == i && x.kind == 1 && x.phase == 6) = some m →
      m.src < 0x100 →
      copied s m = true →
      ∃ u, exec (.faultMoveStart t i true) q = .next u ∧ mapGetD u.graph.plan.place i 0xFFFF = m.dst ∧ u.fabric.moves = s.fabric.moves.filter (fun x => x != m) ∧ u.governor.faultMoves = s.governor.faultMoves - 1) ∧
  (∀ (t i : Nat) (m : Move) (q : State), let s := q.at_ t;
      s.fabric.moves.find? (fun x => x.inst == i && x.kind == 1 && x.phase == 6) = some m →
      ∃ u, exec (.faultMoveStart t i false) q = .next u ∧ mapGetD u.graph.plan.place i 0xFFFF = m.dst ∧ u.fabric.moves = s.fabric.moves.filter (fun x => x != m) ∧ (∀ w ∈ u.graph.works, w.elem = .inst i → w.regs = [] ∧ w.hist = [])) ∧
  (∀ (t : Nat) (q : State), let s := q.at_ t;
      s.fabric.quietUntil ≠ 0 →
      s.fabric.quietUntil ≤ s.clock.now →
      exec (.placeQuietEnd t) q = .next ({ s with fabric := { s.fabric with quietUntil := 0 } }.wr Obj.PLACE_QUIET (((0 - s.clock.now + 999999999) / 1000000000 : Nat) : Int))) ∧
  (∀ (t i : Nat) (q : State), let s := q.at_ t;
      isPartner (mapGetD s.graph.plan.place i 0xFFFF) = true →
      s.fabric.evictions.any (fun e => e.1 == i) = false →
      ∃ u, exec (.overflowEvict t i) q = .next u ∧ u.fabric.evictions = s.fabric.evictions ++ [(i, s.clock.pick + 2048, false)]) ∧
  (∀ (t i : Nat) (e : Nat × Nat × Bool) (q : State), let s := q.at_ t;
      s.fabric.evictions.find? (fun x => x.1 == i && !x.2.2) = some e →
      (e.2.1 ≤ s.clock.pick + 64 ∨ moving s i = false) →
      exec (.overflowEvictFailed t i) q = .next ({ s with fabric := { s.fabric with evictions := change s.fabric.evictions (fun x => x.1 == i) (fun x => (x.1, x.2.1, true)) } }.raise Ev.OVERFLOW_EVICT_FAILED i)) ∧
  (∀ (t : Nat) (p : Fin 6) (q : State), let s := q.at_ t;
      s.fabric.guests.any (fun x => x.port == p.val && decide (x.ends ≠ 0) && decide (x.ends ≤ s.clock.pick)) = true →
      ∃ u, exec (.guestEvictEnd t p) q = .next u ∧ u.fabric.guests = s.fabric.guests.filter (fun x => !(x.port == p.val && decide (x.ends ≠ 0) && decide (x.ends ≤ s.clock.pick))))

/-- When its interval has run the rotation asks leave for the first harness of its order that can be drained; a drained harness
with leave enters its self-test; the result makes it the reserve or withdraws it and its leave is released. -/
def Obligations.MendingCommandsComplete : Prop :=
  (∀ (t : Nat) (q : State), let s := q.at_ t;
      s.on Obj.MEND_ENABLE = true →
      s.ran s.fabric.mendAt (s.rdN Obj.MEND_INTERVAL_S * 1000000000 / 9) = true →
      s.fabric.mending = none →
      s.fabric.quietUntil ≤ s.clock.now →
      s.inService = true →
      exec (.mendDrainStart t) q = .next (chooseDrain { s with fabric := { s.fabric with mendAt := s.fabric.mendAt + (s.clock.now - s.fabric.mendAt) / max 1 (s.rdN Obj.MEND_INTERVAL_S * 1000000000 / 9) * (s.rdN Obj.MEND_INTERVAL_S * 1000000000 / 9) } } (mendOrder s))) ∧
  (∀ (t h : Nat) (q : State), let s := q.at_ t;
      s.on Obj.MEND_ENABLE = true →
      s.ran s.fabric.mendAt (s.rdN Obj.MEND_INTERVAL_S * 1000000000 / 9) = true →
      s.fabric.mending = none →
      s.fabric.quietUntil ≤ s.clock.now →
      s.inService = true →
      (mendOrder s).head? = some h →
      drainable s h = true →
      ∃ u, exec (.mendDrainStart t) q = .next u ∧ u.fabric.mending = some h ∧ u.asking 6 h = true) ∧
  (∀ (t : Nat) (h : Fin 9) (q : State), let s := q.at_ t;
      s.harnessState h.val = 2 →
      empty s h.val = true →
      s.granted 6 h.val = true →
      ∃ u, exec (.mendSelfTest t h) q = .next u ∧ u.fabric.mending = some h.val ∧ u.rd (Obj.HARNESS_STATE + h.val) = 3) ∧
  (∀ (t : Nat) (h : Fin 9) (q : State), let s := q.at_ t;
      s.harnessState h.val = 4 →
      bit (s.rdN Obj.RETIRED_HARNESSES) h.val = false →
      empty s h.val = true →
      s.granted 6 h.val = true →
      ∃ u, exec (.mendSelfTest t h) q = .next u ∧ u.fabric.mending = some h.val ∧ u.dict = s.dict ∧ u.fabric.oldRatings = (shuttlesOf s h.val).map (fun sh => (sh, s.rdN (Obj.SHUTTLE_RATING + sh)))) ∧
  (∀ (t : Nat) (h : Fin 9) (r : SelfTest) (q : State), let s := q.at_ t;
      s.fabric.mending = some h.val →
      s.fabric.oldRatings ≠ [] →
      ∃ u, exec (.mendSelfTestDone t h r) q = .next u ∧ u.fabric.mending = none ∧ u.fabric.oldRatings = [] ∧ u.granted 6 h.val = false ∧
        ((u.rd (Obj.MEND_RESULT + h.val) = 1 ∧ u.rd (Obj.HARNESS_STATE + h.val) = 1) ∨
          (u.rd (Obj.MEND_RESULT + h.val) = 2 ∧ u.rd (Obj.HARNESS_STATE + h.val) = 4)))

/-- In service every declared selvedge output takes the sample that has just ended, the cuts of selvedge streams are sent, and
samples that no output can read leave their store. -/
def Obligations.SelvedgeSampleCompletes : Prop :=
  (∀ (t : Nat) (faults : List SelvCopy) (q : State), let s := q.at_ t;
      let v := s.each (selvOutputs s) (selvSample faults (s.sampleNow - 1));
      let u := if v.muted then v else v.each ((selvStreams v).filter (fun m => v.on (cutTxKey m 1)))
        (fun x m => sendCuts x m (s.sampleNow - 1 + 1) (cutValue x m (s.sampleNow - 1 + 1)));
      s.inService = true → 0 < s.sampleNow →
      exec (.selvedgeSample t faults) q = .next
        { u with graph := { u.graph with blocks := u.graph.blocks.filter (fun b => !(Nat.ble (2 ^ 33) b.id && Nat.blt b.id (2 ^ 34)) || Nat.blt (s.sampleNow - 1 + 1) b.pick) } })

/-- Candidates qualify, are lost or disqualified when their rules say so, and the selection follows; a decided switch happens at
the next batten. -/
def Obligations.CandidateCommandsComplete : Prop :=
  (∀ (t : Nat) (slot : Fin 24) (q : State), let s := q.at_ t;
      slot.val ∈ rateDue s →
      exec (.refRate t slot) q = .next (concludeAssessment (disqualify s slot.val Ev.REF_RATE))) ∧
  (∀ (t : Nat) (a b : Fin 24) (q : State), let s := q.at_ t;
      s.ref.disagree.any (fun d => d.1 == a.val && d.2.1 == b.val && d.2.2 != 0 && s.ran d.2.2 10000000000) = true →
      exec (.refDisagreeClear t a b) q = .next (endDisagree a.val b.val s)) ∧
  (∀ (t : Nat) (slot : Fin 24) (q : State), let s := q.at_ t;
      s.candState slot.val = 2 →
      s.ran (s.cand slot.val).since (s.rdN (if (s.cand slot.val).requal then Obj.REF_REQUAL_S else Obj.REF_QUALIFY_S) * 1000000000) = true →
      exec (.refCandQualified t slot) q = .next (select (enterCand s slot.val 3))) ∧
  (∀ (t : Nat) (q : State), let s := updateSuccessor (q.at_ t);
      prequalified s = true → s.rd Obj.TIME_STATE = 3 → s.selected = 0xFF →
      exec (.successorPrequalified t) q = .next (decideOn s (s.rdN Obj.REF_SUCCESSOR))) ∧
  (∀ (t : Nat) (q : State), let s := updateSuccessor (q.at_ t);
      (s.rd Obj.TIME_STATE ≠ 3 ∨ s.selected ≠ 0xFF) → exec (.successorPrequalified t) q = .next s) ∧
  (∀ (t b since : Nat) (q : State), let s := q.at_ t;
      s.ref.outrank = some (b, since) → s.ran since (s.rdN Obj.REF_WTR_S * 1000000000) = true → better s = some b →
      exec (.refWtrExpired t) q = .next { (decideOn s b) with ref := { (decideOn s b).ref with outrank := none } }) ∧
  (∀ (t : Nat) (slot : Fin 24) (q : State), let s := q.at_ t;
      s.candType slot.val ≠ 0 →
      s.candType slot.val ≠ 7 →
      2 ≤ s.candState slot.val →
      lossStands s slot.val = true →
      exec (.refCandLost t slot) q = .next (candLost s slot.val)) ∧
  (∀ (t k : Nat) (offset : Int) (q : State), let s := q.at_ t;
      s.ref.decided = some k →
      k ≠ 0xFF →
      s.ref.decidedAt < s.clock.pick →
      exec (.refSwitched t offset) q = .next (switchTo s k (offsetFrom s k offset)))

/-- The entry into holdover holds the averaged control value and names the switch, a build-out whose steering has reached its
target removes the offset, a slew ends with offset 0, lock is reached after eight runs, the crystal offset follows the
yardstick, a step renumbers engine time by whole picks, and an assessment runs once in each eighth of a second. -/
def Obligations.TimeCommandsComplete : Prop :=
  (∀ (t : Nat) (q : State), let s := q.at_ t;
      s.ref.decided = some 0xFF → s.ref.decidedAt < s.clock.pick → (s.rd Obj.TIME_STATE ≠ 1 ∨ s.ref.fromHoldover = false) →
      ∃ v : State, exec (.holdover t) q = .next (showReference ((updateSuccessor (v.wr Obj.TIME_STATE 3)).raise Ev.REF_SWITCHED (arg2 s.selected 0xFF))) ∧
        v.rd Obj.REF_SELECTED = 0xFF ∧ v.ref.decided = none ∧ v.ref.holdSince = s.ref.lostAt ∧
        v.rd (ix Obj.SP_CONTROL 0) = (holdoverValue s s.ref.lostAt).1 ∧ v.rd (ix Obj.SP_CONTROL 1) = (holdoverValue s s.ref.lostAt).1 ∧
        v.rd Obj.REF_SWITCH_COUNT = (s.rd Obj.REF_SWITCH_COUNT + 1) % 4294967296) ∧
  (∀ (t : Nat) (q : State), let s := q.at_ t;
      s.ref.decided = some 0xFF → s.ref.decidedAt < s.clock.pick → s.rd Obj.TIME_STATE = 1 → s.ref.fromHoldover = true →
      ∃ v : State, exec (.holdover t) q = .next (showReference ((updateSuccessor (v.wr Obj.TIME_STATE 3)).raise Ev.REF_SWITCHED (arg2 s.selected 0xFF))) ∧
        v.rd Obj.REF_SELECTED = 0xFF ∧ v.ref.decided = none ∧ v.ref.holdSince = s.ref.holdSince ∧
        v.rd (ix Obj.SP_CONTROL 0) = s.rd Obj.HOLD_AVG_VALUE ∧ v.rd (ix Obj.SP_CONTROL 1) = s.rd Obj.HOLD_AVG_VALUE) ∧
  (∀ (t : Nat) (offset : Int) (q : State), let s := q.at_ t;
      (s.rd Obj.TIME_STATE = 1 ∨ s.rd Obj.TIME_STATE = 2) → s.ref.steer.isSome = true → (controlNow s - steerTarget s).natAbs ≤ 10000 →
      exec (.buildoutSteerDone t offset) q = .next (let v := setControl s (controlNow s);
        removeOffset { v with ref := { v.ref with steer := none } } (offsetFrom v v.selected offset))) ∧
  (∀ (t : Nat) (q : State), let s := q.at_ t;
      s.clock.step = 0 → s.ref.steer = none → (s.clock.slewing ≠ 0 ∨ s.ref.buildout.isSome = true) → s.ran s.clock.slewFrom s.slewNs = true →
      exec (.slewDone t) q = .next (let v := s.foldSlew;
        showStates ({ v with clock := { v.clock with slewing := 0 }, ref := { v.ref with buildout := none } }.wr Obj.TIME_OFFSET 0))) ∧
  (∀ (t : Nat) (q : State), let s := q.at_ t;
      s.rd Obj.TIME_STATE = 1 →
      8 ≤ s.ref.lockRuns →
      s.ref.lockPick < s.clock.pick →
      exec (.timeLocked t) q = .next (showReference ({ s with ref := { s.ref with lockRuns := 0, buildout := none, steer := none, fromHoldover := false } }.wr Obj.TIME_STATE 2))) ∧
  (∀ (t : Nat) (q : State), let s := q.at_ t;
      s.on Obj.REF_YARDSTICK = true →
      3 ≤ (qualified s).length →
      s.ran s.ref.xoAt 10000000000 = true →
      exec (.xoOffsetUpdate t) q = .next ({ (s.wr Obj.XO_OFFSET_PPB (yardstick s).2).markSave with ref := { s.ref with xoAt := s.clock.now } })) ∧
  (∀ (t : Nat) (q : State), let s := q.at_ t;
      (s.clock.set.isSome = true ∨ s.clock.step ≠ 0) →
      stepAsked s ≠ 0 →
      ∃ u, exec (.timeStepped t) q = .next u ∧ (u.clock.pick : Int) = max 0 ((s.clock.pick : Int) + stepAsked s) ∧ u.clock.step = 0 ∧ u.clock.set = none ∧
        u.clock.now = s.clock.now ∧ u.rd Obj.PICK_COUNT = u.clock.pick ∧
        u.rd Obj.TIME_STEP_COUNT = (s.rd Obj.TIME_STEP_COUNT + 1) % 4294967296) ∧
  (∀ (t : Nat) (env : AssessEnv) (q : State), let s := q.at_ t;
      s.power.stage = 5 → s.coreRuns 1 = true → s.ref.assessed ≠ assessmentNo s + 1 →
      exec (.assessment t env) q = .next (let v := assessHeat env.sensors (ptpDecideAll (showReference (assessSpindles
          (assessControl env.timeOffset env.spError (assessReference env.freq env.tracked (followEdges s))))));
        sampleMonitors ((v.each (List.range 28) (fun s p => measurePort p s)).each (List.range 256) assessStream)))

/-- A spindle that has steered to its source reaches state 3 with its control value, one whose holdover timer has run is out of
specification, and timing outputs are checked, aligned and lost with their pulses. -/
def Obligations.SpindleCommandsComplete : Prop :=
  (∀ (t : Nat) (sp : Fin 8) (q : State), let s := q.at_ t; let n := sp.val; let src := s.rdN (ix Obj.SP_SOURCE n);
      2 ≤ n → s.rdN (ix Obj.SP_STATE n) = 2 → src ≠ 0 → (s.candState (src - 1) = 3 ∨ s.candState (src - 1) = 4) →
      auxControl s n = (s.cand (src - 1)).measured * 1000 →
      exec (.spAcquired t sp) q = .next ((auxClear (s.wr (ix Obj.SP_CONTROL n) (auxControl s n)) n).wr (ix Obj.SP_STATE n) 3)) ∧
  (∀ (t : Nat) (sp : Fin 8) (h : Nat × Nat × Nat) (q : State), let s := q.at_ t;
      s.ref.auxHold.find? (fun x => x.1 == sp.val) = some h →
      s.rdN (ix Obj.SP_STATE sp.val) = 4 →
      s.overdue (h.2.1 + h.2.2 * 1000000000) = true →
      exec (.spHoldoverOos t sp) q = .next (((s.wr (ix Obj.SP_STATE sp.val) 5).wr (ix Obj.SP_HOLD_ELAPSED_S sp.val) ((s.clock.now - h.2.1) / 1000000000 : Nat)).raise Ev.SP_HOLDOVER_OOS sp.val)) ∧
  (∀ (t : Nat) (p : Fin 2) (q : State), let s := q.at_ t; let ps := (s.engineNs :: s.ref.pulses.getD p.val []).take 8;
      let v := { s with ref := { s.ref with pulses := setAt s.ref.pulses p.val ps } };
      pulsesQualify ps = false → exec (.syncInPulse t p) q = .next v) ∧
  (∀ (t : Nat) (p : Fin 2) (q : State), let s := q.at_ t; let ps := (s.engineNs :: s.ref.pulses.getD p.val []).take 8;
      let v := { s with ref := { s.ref with pulses := setAt s.ref.pulses p.val ps } };
      pulsesQualify ps = true →
      exec (.syncInPulse t p) q = .next ((followEdges v).each (alignedTo v (p.val + 1)) (fun s k =>
        if commensurate (outRate s k) ps then alignCheck s k
        else (s.wr (ix Obj.ALIGN_STATE k) 0).raise Ev.ALIGN_INCOMMENSURATE k))) ∧
  (∀ (t : Nat) (q : State), let s := q.at_ t; let v := (followEdges s).each (alignedTo s 3) alignCheck;
      s.ref.checked ≠ s.engineNs / 1000000000 + 1 →
      exec (.alignCheck t) q = .next { v with ref := { v.ref with checked := s.engineNs / 1000000000 + 1 } }) ∧
  (∀ (t : Nat) (k : Fin 6) (q : State), let s := q.at_ t;
      s.rdN (ix Obj.ALIGN_STATE k.val) = 1 → (s.align k.val).slew.map (fun y => y.1) = some (slewedEdge s (s.align k.val)) →
      ∃ u, exec (.alignSlewDone t k) q = .next u ∧ u.rd (ix Obj.ALIGN_STATE k.val) = 2) ∧
  (∀ (t : Nat) (p : Fin 2) (q : State), let s := q.at_ t; let ps := s.ref.pulses.getD p.val [];
      let v := { s with ref := { s.ref with pulses := setAt s.ref.pulses p.val [] } };
      2 ≤ ps.length → past s.engineNs (ps.headD 0 + pulsePeriod s p.val * 3 / 2) = true →
      exec (.alignLost t p) q = .next (v.each (alignedTo v (p.val + 1))
        (fun s k => (s.wr (ix Obj.ALIGN_STATE k) 3).raise Ev.ALIGN_LOST k)))

/-- Received syncs are stamped, an Announce is kept and decides the port, a delay request of the own domain is answered by a
master port, a due announce, sync or delay request is sent by the ports whose state allows it, silent masters are forgotten, and
the clock class degrades after its time in holdover. -/
def Obligations.PtpCommandsComplete : Prop :=
  (∀ (t d cls acc var steps p1 p2 gm sender : Nat) (mac : Fin 3) (q : State), let s := q.at_ t;
      ptpRuns s mac.val = true →
      ∃ u, exec (.ptpMessageRx t mac (.announce d cls acc var steps p1 p2 gm sender)) q = .next u ∧ ∃ f ∈ u.ref.foreign, f.mac = mac.val ∧ f.domain = d ∧ f.sender = sender ∧ f.grandmaster = gm ∧ f.clockClass = cls) ∧
  (∀ (t : Nat) (mac : Fin 3) (d i : Nat) (two : Bool) (q : State), let s := q.at_ t;
      ptpRuns s mac.val = true →
      exec (.ptpMessageRx t mac (.sync d i two)) q = .next (touchForeign (s.bump (ix Obj.PTP_RX_STAMPED mac.val)) mac.val d i (fun f => { f with syncAt := s.clock.now - rxEarly s mac.val }))) ∧
  (∀ (t : Nat) (mac : Fin 3) (d i : Nat) (q : State), let s := q.at_ t;
      ptpRuns s mac.val = true →
      (s.bump (ix Obj.PTP_RX_STAMPED mac.val)).rdN (ix Obj.PTP_GM_DOMAIN mac.val) = d →
      (s.bump (ix Obj.PTP_RX_STAMPED mac.val)).rdN (ix Obj.PTP_PORT_STATE mac.val) = 6 →
      exec (.ptpMessageRx t mac (.delayReq d i)) q = .next ((s.bump (ix Obj.PTP_RX_STAMPED mac.val)).sendPtp mac.val .delayResp [d, s.engineNs - rxEarly (s.bump (ix Obj.PTP_RX_STAMPED mac.val)) mac.val])) ∧
  (∀ (t : Nat) (mac : Fin 3) (q : State), let s := q.at_ t;
      ptpRuns s mac.val = true →
      s.rdN (ix Obj.PTP_PORT_STATE mac.val) = 6 →
      (∀ a, mapGet s.ref.ptpSent (8 * mac.val) = some a → s.ran a (announceNs s mac.val) = true) →
      exec (.ptpMessageTx t mac .announce) q = .next ({ s with ref := { s.ref with ptpSent := mapSet s.ref.ptpSent (8 * mac.val) s.clock.now } }.sendPtp mac.val .announce (announceFields s mac.val))) ∧
  (∀ (t : Nat) (mac : Fin 3) (q : State), let s := q.at_ t;
      ptpRuns s mac.val = true →
      s.rdN (ix Obj.PTP_PORT_STATE mac.val) = 6 →
      (∀ a, mapGet s.ref.ptpSent (8 * mac.val + 1) = some a → s.ran a (syncNs s mac.val) = true) →
      exec (.ptpMessageTx t mac .sync) q = .next ({ s with ref := { s.ref with ptpSent := mapSet s.ref.ptpSent (8 * mac.val + 1) s.clock.now } }.sendPtp mac.val .sync [s.rdN (ix Obj.PTP_GM_DOMAIN mac.val)])) ∧
  (∀ (t : Nat) (mac : Fin 3) (q : State), let s := q.at_ t;
      ptpRuns s mac.val = true →
      s.rdN (ix Obj.PTP_PORT_STATE mac.val) = 9 →
      (∀ a, mapGet s.ref.ptpSent (8 * mac.val + 3) = some a → s.ran a (delayReqNs s mac.val) = true) →
      exec (.ptpMessageTx t mac .delayReq) q = .next ({ s with ref := { s.ref with ptpSent := mapSet s.ref.ptpSent (8 * mac.val + 3) s.clock.now } }.sendPtp mac.val .delayReq [s.rdN (ix Obj.PTP_GM_DOMAIN mac.val)])) ∧
  (∀ (t : Nat) (q : State), let s := q.at_ t;
      s.rd Obj.TIME_STATE = 3 →
      s.ref.degraded = false →
      s.ran s.ref.holdSince (s.rdN Obj.PTP_HOLDOVER_CLASS_S * 1000000000) = true →
      exec (.ptpHoldoverClass t) q = .next (ptpDecideAll (showStates { s with ref := { s.ref with degraded := true } }))) ∧
  (∀ (t : Nat) (mac : Fin 3) (q : State), let s := q.at_ t;
      ptpAlive s = true → (∀ f ∈ s.ref.foreign, (f.mac == mac.val && s.overdue (f.announceAt + announceLimit s mac.val)) = false) →
      s.ref.foreign.any (fun f => f.mac == mac.val && f.domain == s.rdN (ix Obj.PTP_GM_DOMAIN mac.val)) = true →
      exec (.ptpAnnounceTimeout t mac) q = .next (ptpDecide s mac.val false)) ∧
  (∀ (t : Nat) (mac : Fin 3) (q : State), let s := q.at_ t;
      ptpAlive s = true → (∀ f ∈ s.ref.foreign, f.mac ≠ mac.val) → s.overdue (s.ref.listen.getD mac.val 0 + announceLimit s mac.val) = true →
      exec (.ptpAnnounceTimeout t mac) q = .next (ptpDecide s mac.val true))

/-- Clock faults and lock losses put a streaming port through the fault of its cause, a frame of a searching port starts its
acquisition, a good frame of a streaming port is written and a glitched one faults it, 64 good frames relock the port into its
fade-in, the fade-in ends in state 3, an acquired ASRC channel locks or is out of range, a non-audio mute ends after its hold,
and a sample instant reads ports, streams, cuts and warp groups. -/
def Obligations.PortCommandsComplete : Prop :=
  (∀ (t : Nat) (port : Fin 28) (q : State), let s := q.at_ t;
      watched s port.val = true →
      streaming s port.val = true →
      s.overdue ((s.port port.val).frameAt + watchdogNs s port.val) = true →
      exec (.clockStop t port) q = .next (clockFault s port.val 1)) ∧
  (∀ (t : Nat) (port : Fin 28) (q : State), let s := q.at_ t;
      portKind port.val = 2 →
      watched s port.val = true →
      streaming s port.val = true →
      exec (.lockLoss t port .biphase) q = .next (clockFault s port.val 5)) ∧
  (∀ (t : Nat) (port : Fin 28) (q : State), let s := q.at_ t;
      portKind port.val = 3 →
      watched s port.val = true →
      streaming s port.val = true →
      exec (.lockLoss t port .signalDetect) q = .next (clockFault s port.val 5)) ∧
  (∀ (t : Nat) (port : Fin 28) (q : State), let s := q.at_ t;
      portKind port.val = 3 →
      watched s port.val = true →
      streaming s port.val = true →
      exec (.lockLoss t port .lineClock) q = .next (clockFault s port.val 5)) ∧
  (∀ (t : Nat) (port : Fin 28) (q : State), let s := q.at_ t;
      watched s port.val = true →
      streaming s port.val = true →
      8 ≤ (s.port port.val).badRun →
      exec (.portErrorLockLoss t port) q = .next (clockFault s port.val 5)) ∧
  (∀ (t : Nat) (port : Fin 28) (f : PortFrame) (q : State), let s := q.at_ t; let p := port.val; let v := (frameSeen p f s).1;
      p < 16 → portOn s p = true → s.portState p = 1 → (tdmMaster s p = true ∨ glitched v p f = false) →
      exec (.portFrame t port f) q = .next ((v.setPortState p 2).setPort p (fun x => { x with starts := x.starts.take 1, run := 1 }))) ∧
  (∀ (t : Nat) (port : Fin 28) (f : PortFrame) (q : State), let s := q.at_ t; let p := port.val; let v := (frameSeen p f s).1;
      p < 24 → portOn s p = true → (v.portState p = 3 ∨ v.portState p = 5) → tdmMaster v p = false → glitched v p f = false → rateStep (v.port p).starts = false →
      exec (.portFrame t port f) q = .next (goodPortFrame p f (frameSeen p f s).2 v)) ∧
  (∀ (t : Nat) (port : Fin 28) (f : PortFrame) (q : State), let s := q.at_ t; let p := port.val; let v := (frameSeen p f s).1;
      let mode := madiModeOf f.words.length (s.clock.now - (s.port p).frameAt); let w := v.wr (portKey p 2) mode;
      24 ≤ p → portOn s p = true → (s.port p).starts ≠ [] → v.rdN (portKey p 2) = mode → (w.portState p = 3 ∨ w.portState p = 5) →
      glitched w p f = false → rateStep (w.port p).starts = false →
      exec (.portFrame t port f) q = .next (goodPortFrame p f (frameSeen p f s).2 w)) ∧
  (∀ (t : Nat) (port : Fin 28) (f : PortFrame) (q : State), let s := q.at_ t; let p := port.val; let v := (frameSeen p f s).1;
      p < 24 → portOn s p = true → (v.portState p = 3 ∨ v.portState p = 5) → tdmMaster v p = false → glitched v p f = true →
      exec (.portFrame t port f) q = .next (clockFault v p 2)) ∧
  (∀ (t : Nat) (port : Fin 28) (q : State), let s := q.at_ t;
      s.portState port.val = 2 →
      qualifies (s.port port.val) = true →
      ∃ u, exec (.portRelocked t port) q = .next u ∧ u.portState port.val = 5 ∧ (u.port port.val).fadeAt = (u.port port.val).pos + 1 ∧ (u.port port.val).badRun = 0) ∧
  (∀ (t : Nat) (port : Fin 28) (q : State), let s := q.at_ t;
      s.portState port.val = 5 →
      (s.port port.val).fadeAt + fade20 s ≤ s.sampleNow + 1 →
      exec (.portFadeInDone t port) q = .next (s.setPortState port.val 3)) ∧
  (∀ (t : Nat) (ch : Fin 256) (q : State), let s := q.at_ t; let i := s.rdN (entry Obj.ASRC_CHAN_INSTANCE ch.val);
      i ≠ 0xFFFF → s.rdN (entry Obj.ASRC_STATE ch.val) = 2 → ratioInRange (asrcRatio s i) = false →
      exec (.asrcAcquired t ch) q = .next ((setAsrc (s.wr (entry Obj.ASRC_RATIO ch.val) (asrcRatio s i)) ch.val 5).raise Ev.ASRC_RANGE ch.val)) ∧
  (∀ (t : Nat) (ch : Fin 256) (q : State), let s := q.at_ t; let i := s.rdN (entry Obj.ASRC_CHAN_INSTANCE ch.val);
      i ≠ 0xFFFF → s.rdN (entry Obj.ASRC_STATE ch.val) = 2 → ratioInRange (asrcRatio s i) = true →
      ∃ u, exec (.asrcAcquired t ch) q = .next u ∧ u.rd (entry Obj.ASRC_STATE ch.val) = 3 ∧ mapGet u.io.asrcFade ch.val = some (s.sampleNow + 1)) ∧
  (∀ (t ch n last : Nat) (port : Fin 284) (q : State), let s := q.at_ t;
      port.val = 28 + n →
      mapGet (s.rx n).marks ch = some last →
      s.overdue (last + s.rdN Obj.NONAUDIO_HOLD_MS * 1000000) = true →
      exec (.nonaudioClear t port ch) q = .next ((s.setRx n (fun x => { x with marks := mapDel x.marks ch, fadeAt := s.sampleNow + 1 })).raise Ev.NONAUDIO_CLEAR (arg2 (4 * 256 + n) ch))) ∧
  (∀ (t ch : Nat) (port : Fin 284) (q : State), let s := q.at_ t;
      port.val < 28 →
      exec (.nonaudioClear t port ch) q = .next (portNonaudioClear port.val ch s)) ∧
  (∀ (t : Nat) (q : State), let s := q.at_ t;
      exec (.sampleInstant t) q = .next (readGroups (readGroupCuts (readStreams (readPorts s)))))

/-- A link comes up or goes down with its event, a frame reaches the MAC, PAUSE and PFC are repeated while their buffer is full
and ended with zero quanta when it is not, and the frames that a hold has kept leave when its quanta have run, with the time
held counted. -/
def Obligations.MacCommandsComplete : Prop :=
  (∀ (t : Nat) (mac : Fin 3) (f : EthFrame) (q : State), let s := q.at_ t;
      s.power.doff < 3 →
      (s.power.stage = 5 ∨ s.power.stage = 4 ∨ s.power.stage = 15) →
      armed s = false →
      exec (.frameRx t mac f) q = .next (frameRx mac.val f s)) ∧
  (∀ (t : Nat) (mac : Fin 3) (q : State), let s := q.at_ t;
      s.linkUp mac.val = false →
      s.rdN (ix Obj.MAC_MODE mac.val) ≠ 0 →
      (s.power.doff < 2 ∨ mac.val = 2) →
      exec (.macLinkUp t mac) q = .next ((s.wr (ix Obj.LINK_STATE mac.val) 1).raise Ev.MAC_LINK_UP mac.val)) ∧
  (∀ (t : Nat) (mac : Fin 3) (q : State), let s := q.at_ t;
      s.linkUp mac.val = true →
      exec (.macLinkDown t mac) q = .next (macDown s mac.val)) ∧
  (∀ (t : Nat) (q : State), let s := q.at_ t;
      (s.mac 2).pausing = true →
      65536 < guardedLevel s 2 →
      s.ran (s.mac 2).pausedAt 16000000 = true →
      exec (.pauseRepeat t) q = .next (sendPause s 2 0xFFFF)) ∧
  (∀ (t : Nat) (q : State), let s := q.at_ t;
      (s.mac 2).pausing = true →
      guardedLevel s 2 ≤ 65536 →
      exec (.controlBufferLow t) q = .next (sendPause (s.setMac 2 (fun x => { x with pausing := false })) 2 0)) ∧
  (∀ (t : Nat) (mac : Fin 2) (q : State), let s := q.at_ t;
      (s.mac mac.val).pausing = true →
      32768 < guardedLevel s mac.val →
      s.ran (s.mac mac.val).pausedAt (pauseNs s mac.val 0xFFFF / 2) = true →
      exec (.pfcRepeat t mac) q = .next (sendPause s mac.val 0xFFFF)) ∧
  (∀ (t : Nat) (mac : Fin 2) (q : State), let s := q.at_ t;
      (s.mac mac.val).pausing = true →
      guardedLevel s mac.val ≤ 32768 →
      exec (.bulkBufferLow t mac) q = .next (sendPause (s.setMac mac.val (fun x => { x with pausing := false })) mac.val 0)) ∧
  (∀ (t : Nat) (mac : Fin 3) (q : State), let s := q.at_ t; let m := mac.val; let v := s.serveMac m;
      (s.mac m).holdUntil ≠ 0 → (s.mac m).holdUntil ≤ s.clock.now →
      exec (.pauseQuantaExpire t mac) q = .next
        ((v.setMac m (fun y => { y with holdUntil := 0, holdUs := 0 })).stat Obj.TX_HELD_US m (v.mac m).holdUs))

/-- A due packet is counted and sent once on each leg of its stream, eight misfits restart a receive stream at the base that
they show, and a second without copies in time raises the silence event once. -/
def Obligations.MediaCommandsComplete : Prop :=
  (∀ (t : Nat) (stream : Fin 256) (q : State), let s := q.at_ t; let n := stream.val;
      let now := (packetDue s n).1;
      let p := rtpPacket s n ((now - 1) * perPacket (s.rdN (txKey n 4)) (s.rdN (txKey n 5)));
      let v := (({ s with net := { s.net with packets := mapSet s.net.packets n now } } : State).wr (txKey n 0x12)
        (if s.rdN (txKey n 0x12) = 2 then 2 else 1)).bump (txKey n 0x11);
      let legs := bitsOf (v.rdN (txKey n 6)) 2;
      let w := if legs.all (fun l => (stationOf v l (v.rdN (txKey n (7 + l)))).isSome) then v.wr (txKey n 0x12) 1 else v;
      s.inService = true → s.on (txKey n 1) = true → s.twin.silent = false → (s.power.doffFade = 0 ∨ s.power.doff = 0) → 1 ≤ now →
      mapGet s.net.packets n ≠ some now → txTurn s n = true →
      exec (.mediaPacketTx t stream) q = .next (w.each legs (sendLeg n p (w.localOf (packetDue w n).2)))) ∧
  (∀ (t : Nat) (stream : Fin 256) (q : State), let s := q.at_ t;
      s.on (rxKey stream.val 1) = true →
      8 ≤ (s.rx stream.val).misfits →
      exec (.msRxRestart t stream) q = .next (((rxMute s stream.val).setRx stream.val (fun x => { x with high := some x.misfit, record := [], misfits := 0, latest := none, paces := [] })).wr (rxKey stream.val 0x12) 4)) ∧
  (∀ (t : Nat) (stream : Fin 256) (q : State), let s := q.at_ t;
      s.on (rxKey stream.val 1) = true →
      (s.rx stream.val).silent = false →
      s.overdue ((s.rx stream.val).presentAt + 1000000000) = true →
      exec (.msRxSilent t stream) q = .next ((s.setRx stream.val (fun x => { x with silent := true })).raise Ev.MS_RX_SILENT stream.val))

/-- The receive clock, the blocks and the markers lock in their states, a step that times out is repeated eight times and then
fails, a failed training ends in state 7 with its event and is tried again after a second, a training block is taken by its
fields, and a trained link goes down on what R282 lists. -/
def Obligations.SwiskaTrainingCommandsComplete : Prop :=
  (∀ (t : Nat) (port : Fin 6) (ppb : Int) (q : State), let s := q.at_ t; let p := port.val;
      s.swState p = 1 → (s.link p).grantAt ≠ 0 → ppb.natAbs ≤ 200000 →
      exec (.swClockLock t port ppb) q = .next ((s.wr (ix Obj.SW_FREQ_PPB p) ppb).setSw p 2)) ∧
  (∀ (t : Nat) (port : Fin 6) (ppb : Int) (q : State), let s := q.at_ t; let p := port.val;
      s.swState p = 1 → (s.link p).grantAt ≠ 0 → 200000 < ppb.natAbs →
      exec (.swClockLock t port ppb) q = .next (stepFails (s.wr (ix Obj.SW_FREQ_PPB p) ppb) p)) ∧
  (∀ (t phys : Nat) (port : Fin 6) (lane : Fin 4) (inverted : Bool) (q : State), let s := q.at_ t;
      s.swState port.val = 2 →
      exec (.swBlockLock t port lane phys inverted) q = .next ((s.wr (laneKey Obj.SW_LANE_PHYS port.val lane.val) (phys % 4 + (if inverted then 128 else 0) : Nat)).setLink port.val (fun x => { x with locked := if x.locked.contains lane.val then x.locked else lane.val :: x.locked }))) ∧
  (∀ (t : Nat) (port : Fin 6) (skew : List Int) (q : State), let s := q.at_ t;
      s.swState port.val = 3 →
      (s.link port.val).agreedAt ≠ 0 →
      skew.any (fun k => decide (64 < k.natAbs)) = false →
      exec (.swMarkerLock t port skew) q = .next ((s.each [0, 1, 2, 3] (fun s l => s.wr (laneKey Obj.SW_LANE_SKEW_UI port.val l) (skew.getD l 0))).setSw port.val 4)) ∧
  (∀ (t : Nat) (port : Fin 6) (skew : List Int) (q : State), let s := q.at_ t;
      s.swState port.val = 3 →
      (s.link port.val).agreedAt ≠ 0 →
      skew.any (fun k => decide (64 < k.natAbs)) = true →
      exec (.swMarkerLock t port skew) q = .next ((stepFails s port.val).raise Ev.SW_DESKEW_FAIL port.val)) ∧
  (∀ (t : Nat) (port : Fin 6) (lane : Fin 4) (q : State), let s := q.at_ t; let p := port.val; let x := s.lane p lane.val;
      let v := s.setLane p lane.val (fun x => { x with askedAt := s.clock.now, repeats := x.repeats + 1 });
      s.swState p = 3 → x.askedAt ≠ 0 → s.overdue (x.askedAt + 1000000) = true →
      exec (.swTrainStepTimeout t port lane) q = .next (if 8 ≤ x.repeats + 1 then stepFails v p else sendTraining v p lane.val 0)) ∧
  (∀ (t : Nat) (port : Fin 6) (q : State), let s := q.at_ t;
      1 ≤ s.swState port.val →
      s.swState port.val ≤ 4 →
      ((s.link port.val).failed = true ∨ stepLate s port.val = true) →
      exec (.swTrainFailed t port) q = .next ((((s.release 2 port.val).setLink port.val (fun x => { x with failed := false, grantAt := 0, heardAt := 0, agreedAt := 0, failedAt := s.clock.now, queue := [] })).setSw port.val 7).raise Ev.SW_TRAIN_FAILED port.val)) ∧
  (∀ (t : Nat) (port : Fin 6) (q : State), let s := q.at_ t;
      s.swState port.val = 7 →
      s.on (ix Obj.SW_ENABLE port.val) = true →
      s.ran (s.link port.val).failedAt 1000000000 = true →
      exec (.swTrainRetry t port) q = .next (swStart s port.val)) ∧
  (∀ (t : Nat) (port : Fin 6) (c : LinkCause) (q : State), let s := q.at_ t;
      (c = .clock ∨ c = .headers ∨ c = .markers ∨ c = .skew) →
      s.trained port.val = true →
      exec (.swLinkDown t port c) q = .next (linkDown s port.val)) ∧
  (∀ (t : Nat) (port : Fin 6) (q : State), let s := q.at_ t;
      s.on (ix Obj.SW_ENABLE port.val) = true →
      (s.link port.val).downAt ≠ 0 →
      s.ran (s.link port.val).downAt 10000000 = true →
      s.rdN (ix Obj.SW_LOOPBACK port.val) = 0 →
      exec (.trainingRestart t port) q = .next (swStart s port.val)) ∧
  (∀ (t : Nat) (port : Fin 6) (block : BitVec 1024) (q : State), let s := q.at_ t;
      s.swState port.val ≠ 0 →
      isBlock 0x04 block = false →
      exec (.trainingBlock t port block) q = .next (badBlock s port.val)) ∧
  (∀ (t : Nat) (port : Fin 6) (block : BitVec 1024) (q : State), let s := q.at_ t; let p := port.val;
      let h := s.setLink p (fun x => { x with heardAt := if x.grantAt ≠ 0 && x.heardAt = 0 then s.clock.now else x.heardAt });
      let v := (loopField h p block).setLink p
        (fun x => { x with txPrecode := setBit x.txPrecode (blockBits block 1013 1012) (blockBits block 971 971 == 1) });
      s.swState p ≠ 0 → isBlock 0x04 block = true → v.swState p ≠ 2 → v.swState p ≠ 3 →
      exec (.trainingBlock t port block) q = .next v) ∧
  (∀ (t : Nat) (port : Fin 6) (block : BitVec 1024) (q : State), let s := q.at_ t;
      port.val < s.links.length →
      s.swState port.val = 3 →
      isBlock 0x04 block = true →
      (s.link port.val).agreedAt = 0 →
      s.rdN (ix Obj.SW_LOOPBACK port.val) = 0 →
      blockBits block 969 968 = 0 →
      ∃ u, exec (.trainingBlock t port block) q = .next u ∧ (u.link port.val).partnerReady = (blockBits block 972 972 == 1))

/-- Markers, idle blocks, audio cuts, bulk blocks and test patterns act on a trained link (a block whose check fails is counted
as bad), a due marker is sent, the pick assignment is decided and changed, the eye quality is shown, and a low eye asks leave
for an adaptation burst that releases it at its end. -/
def Obligations.SwiskaTrafficCommandsComplete : Prop :=
  (∀ (t corrected failed : Nat) (port : Fin 6) (block : BitVec 1024) (q : State), let s := q.at_ t; let p := port.val;
      (s.swState p = 5 ∨ s.swState p = 6) → isBlock 0x7E block = true →
      exec (.alignmentMarker t port block corrected failed) q = .next
        (let v := fecReport s p corrected failed; if v.trained p then markerMeasure v p block else v)) ∧
  (∀ (t corrected failed : Nat) (port : Fin 6) (block : BitVec 1024) (q : State), let s := q.at_ t; let p := port.val;
      s.swState p = 4 → isBlock 0x7E block = true →
      exec (.alignmentMarker t port block corrected failed) q = .next
        (let v := enterTrained (fecReport s p corrected failed) p; if v.trained p then markerMeasure v p block else v)) ∧
  (∀ (t corrected failed : Nat) (port : Fin 6) (block : BitVec 1024) (q : State), let s := q.at_ t; let p := port.val;
      2 ≤ s.swState p → isBlock 0x7E block = false →
      exec (.alignmentMarker t port block corrected failed) q = .next (badBlock (fecReport s p corrected failed) p)) ∧
  (∀ (t : Nat) (port : Fin 6) (q : State), let s := q.at_ t; let p := port.val; let v := s.serveSwiska p;
      s.swState p ≠ 0 → s.swState p ≠ 7 → ((s.link p).grantAt ≠ 0 ∨ 5 ≤ s.swState p) → (s.link p).period ≤ slotNow s p / 65536 →
      ∃ (bs : List Emit) (w : State), bs.length = 4 ∧
        w = (({ v with sent := v.sent ++ bs } : State).setLink p (fun x => { x with period := slotNow s p / 65536 + 1, slot := (max x.slot (65536 * (slotNow s p / 65536)) + 3) / 4 * 4 + 4, count := (x.count + 1) % 65536, departed := ((x.count % 65536, v.clock.now) :: x.departed).take 64 })) ∧
        exec (.alignmentMarkerTx t port) q = .next
          (if w.swState p = 6 && w.rdN (ix Obj.SW_LOOPBACK p) ≠ 0 then sendPatterns w p else idleDue w p)) ∧
  (∀ (t : Nat) (port : Fin 6) (block : BitVec 1024) (q : State), let s := q.at_ t;
      s.trained port.val = true →
      isBlock 0x00 block = false →
      exec (.idleBlock t port block) q = .next (badBlock s port.val)) ∧
  (∀ (t : Nat) (port : Fin 6) (block : BitVec 1024) (q : State), let s := q.at_ t; let p := port.val; let loom := blockBits block 981 966;
      let hop := blockBits block 1005 998; let up := blockBits block 997 982;
      let v := (s.wr (ix Obj.SW_PARTNER_LOOM p) loom).setLink p (fun x => { x with guest := blockBits block 961 946 });
      let w := v.each (slots.filter (fun k => v.candType k == 2 && v.candUnit k == p)) (fun s k =>
        (s.setCand k (fun c => { c with hop := hop, upstream := up })).wr (ix Obj.REF_CAND_QUALITY k)
          (swiskaQuality v.loomId (blockBits block 1013 1006) hop up));
      s.trained p = true → isBlock 0x00 block = true →
      exec (.idleBlock t port block) q = .next (w.level Ev.LOOM_ID_CONFLICT p p (loom != 0 && loom == w.loomId))) ∧
  (∀ (t : Nat) (port : Fin 6) (block : BitVec 1024) (m : Nat) (q : State), let s := q.at_ t;
      s.trained port.val = true →
      isBlock 0x01 block = true →
      streamFor s port.val (blockBits block 965 958) (blockBits block 981 966) = some m →
      (s.link port.val).rate = s.rdN Obj.ENGINE_RATE_RUNNING →
      exec (.audioCut t port block) q = .next (keepCut s port.val m block)) ∧
  (∀ (t : Nat) (port : Fin 6) (block : BitVec 1024) (m : Nat) (q : State), let s := q.at_ t;
      s.trained port.val = true →
      isBlock 0x01 block = true →
      streamFor s port.val (blockBits block 965 958) (blockBits block 981 966) = some m →
      (s.link port.val).rate ≠ s.rdN Obj.ENGINE_RATE_RUNNING →
      exec (.audioCut t port block) q = .next ((s.bump (cutKey m 0x0A)).raise Ev.SW_RATE_MISMATCH port.val)) ∧
  (∀ (t : Nat) (port : Fin 6) (block : BitVec 1024) (q : State), let s := q.at_ t;
      s.trained port.val = true →
      isBlock 0x02 block = true →
      blockBits block 1013 1006 = 0 →
      exec (.bulkBlock t port block) q = .next (joinPart s port.val (blockBits block 1005 974) (bulkPayload block))) ∧
  (∀ (t : Nat) (port : Fin 6) (block : BitVec 1024) (q : State), let s := q.at_ t;
      s.trained port.val = true →
      isBlock 0x02 block = true →
      blockBits block 1013 1006 = 2 →
      exec (.bulkBlock t port block) q = .next (overflowState s port.val (blockBits block 967 32))) ∧
  (∀ (t : Nat) (port : Fin 6) (block : BitVec 1024) (q : State), let s := q.at_ t; let p := port.val;
      let r := prbsBody (s.link p).prbs (blockBits block 1013 32);
      s.swState p = 6 → s.rdN (ix Obj.SW_LOOPBACK p) ≠ 0 → isBlock 0x0F block = true →
      exec (.testPattern t port block) q = .next ((s.setLink p (fun x => { x with prbs := r.1 })).bump (ix Obj.SW_PRBS_ERRORS p) r.2)) ∧
  (∀ (t : Nat) (port : Fin 6) (q : State), let s := q.at_ t; let p := port.val;
      s.trained p = true → (s.link p).decided = false → 2 ≤ (s.link p).hops → (s.link p).atPick < s.clock.pick → pickAdded s p = true →
      exec (.swPickDecide t port) q = .next (((s.setLink p (fun x => { x with decided := true, failRun := 0 })).wr (ix Obj.SW_PICK_ADDED p) 1).raise Ev.LINK_PICK_ADDED p)) ∧
  (∀ (t : Nat) (port : Fin 6) (q : State), let s := q.at_ t; let p := port.val;
      s.trained p = true → (s.link p).decided = false → 2 ≤ (s.link p).hops → (s.link p).atPick < s.clock.pick → pickAdded s p = false →
      exec (.swPickDecide t port) q = .next ((s.setLink p (fun x => { x with decided := true, failRun := 0 })).wr (ix Obj.SW_PICK_ADDED p) 0)) ∧
  (∀ (t : Nat) (port : Fin 6) (q : State), let s := q.at_ t; let p := port.val; let added := !s.on (ix Obj.SW_PICK_ADDED p);
      let v := (s.setLink p (fun x => { x with failRun := 0 })).wr (ix Obj.SW_PICK_ADDED p) (if added then 1 else 0);
      let w := v.each ((List.range 64).filter (fun m => v.on (cutKey m 1) && bit (v.rdN (cutKey m 2)) p)) cutMute;
      s.trained p = true → (s.link p).decided = true → 8 ≤ (s.link p).failRun → (s.link p).atPick < s.clock.pick →
      exec (.swPickChanged t port) q = .next ((if added then w.raise Ev.LINK_PICK_ADDED p else w).raise Ev.SW_PICK_CHANGED p)) ∧
  (∀ (t o1 o2 o3 e : Nat) (port : Fin 6) (lane : Fin 4) (q : State), let s := q.at_ t; let p := port.val;
      2 ≤ s.swState p →
      ∃ u, exec (.swEqfUpdate t port lane o1 o2 o3 e) q = .next u ∧ u.rd (laneKey Obj.SW_LANE_EQF p lane.val) = (min 255 (eqf o1 o2 o3 e) : Nat)) ∧
  (∀ (t : Nat) (port : Fin 6) (lane : Fin 4) (q : State), let s := q.at_ t; let p := port.val; let x := s.lane p lane.val;
      let v := (s.setLane p lane.val (fun x => { x with lowAt := 0 })).raise Ev.SW_EQF_LOW (arg2 p lane.val);
      s.trained p = true → x.lowAt ≠ 0 → s.ran x.lowAt 1000000000 = true →
      exec (.swEqfLow t port lane) q = .next (if v.asking 2 (16 + p) || v.granted 2 (16 + p) then v else v.askLeave 2 6 (16 + p))) ∧
  (∀ (t : Nat) (port : Fin 6) (q : State), let s := q.at_ t;
      s.granted 2 (16 + port.val) = true →
      exec (.adaptationBurstEnd t port) q = .next (s.release 2 (16 + port.val)))

/-- A holder whose pair aligns takes TWIN_STATE 4 and role 1, a standby starts its catch-up silent, digests are compared and
missing ones counted, 64 missing ones lose the exchange, and each step of a catch-up is followed by the next until 64 matching
digests verify it. -/
def Obligations.TwinCommandsComplete : Prop :=
  (∀ (t names : Nat) (enabled : Bool) (q : State), let s := q.at_ t;
      s.on Obj.TWIN_ENABLE = true →
      (s.twinState ≤ 1 ∨ s.twinState = 7) →
      pairFails s enabled names = 0 →
      s.holds = true →
      exec (.twinPaired t enabled names) q = .next ((s.wr Obj.LEASE_ROLE 1).setTwinState 4)) ∧
  (∀ (t names : Nat) (enabled : Bool) (q : State), let s := q.at_ t;
      s.on Obj.TWIN_ENABLE = true →
      (s.twinState ≤ 1 ∨ s.twinState = 7) →
      pairFails s enabled names = 0 →
      s.holds = false →
      exec (.twinPaired t enabled names) q = .next ((catchUp s 1).setTwin (fun w => { w with silent := true, returns := 0 }))) ∧
  (∀ (t : Nat) (port : Fin 6) (block : BitVec 1024) (q : State), let s := q.at_ t; let b := blockBits block 989 926;
      let d : Digest := ⟨b, blockBits block 921 890, blockBits block 889 858, blockBits block 857 842 % 512, false, false⟩;
      let v := (noteHeader block s).setTwin (fun w =>
        { w with missing := 0, peerFaults := d.faults, partner := w.partner.filter (fun p => p.pick != b) ++ [d] });
      s.paired = true → fromTwin s port 0x01 block = true →
      exec (.digest t port block) q = .next (match v.twin.own.find? (fun o => o.pick == b && (!o.judged || v.twinState == 6)) with
        | some o => compareDigests v o d
        | none => v)) ∧
  (∀ (t pick : Nat) (q : State), let s := q.at_ t;
      s.paired = true → pick + s.rdN Obj.TWIN_DIGEST_WAIT ≤ s.clock.pick → s.twin.own.any (fun o => o.pick == pick && !o.judged) = true →
      exec (.twinDigestMissing t pick) q = .next ((s.bump Obj.TWIN_DIGEST_MISSING).setTwin (fun w =>
        { w with missing := w.missing + 1, matching := 0, own := change w.own (fun o => o.pick == pick) (fun o => { o with judged := true }) }))) ∧
  (∀ (t : Nat) (q : State), let s := q.at_ t;
      64 ≤ s.twin.missing →
      (s.twinState = 3 ∨ s.twinState = 4 ∨ s.twinState = 5) →
      exec (.twinExchangeLost t) q = .next ((s.setTwinState 6).raise Ev.TWIN_EXCHANGE_LOST 0)) ∧
  (∀ (t : Nat) (image : List (Nat × Val)) (acts : List SentAction) (q : State), let s := q.at_ t;
      let v := { s with dict := (image.filter (fun x => isShared x.1)).foldl (fun d x => putIn d x.1 x.2) (s.dict.filter (fun x => !isShared x.1)) };
      let w := takeActions (match compile v (graphOf v.dict) with | .ok p => switchPlan v p | .error _ => v) acts;
      s.twin.step = 1 →
      exec (.catchupImageDone t image acts) q = .next
        ((catchUp (w.setActions (w.agent.actions ++ w.twin.waiting)) 2).setTwin (fun w => { w with waiting := [], gap := false }))) ∧
  (∀ (t seq : Nat) (words : List (Nat × List Int)) (acts : List SentAction) (q : State), let s := q.at_ t;
      s.twin.step = 2 →
      ∃ (v : State) (fill : Nat), exec (.catchupClosing t seq words acts) q = .next
        (((catchUp v 3).setTwin (fun w => { w with fillUntil := v.clock.now + fill, gap := false })).wr Obj.TWIN_FILL_MS ((fill + 999999) / 1000000 : Nat)) ∧
        fill = roundNat (longestHistory v * 1000000000) v.fs ∧ v.graph.works = s.graph.works.map (fun w =>
          match words.find? (fun e => e.1 == elemNo w.elem) with | some e => { w with regs := e.2 } | none => w)) ∧
  (∀ (t : Nat) (q : State), let s := q.at_ t;
      s.twin.step = 3 →
      s.twin.fillUntil ≤ s.clock.now →
      exec (.twinFillDone t) q = .next ((catchUp s 4).wr Obj.TWIN_FILL_MS 0)) ∧
  (∀ (t : Nat) (q : State), let s := q.at_ t;
      s.twin.step = 4 →
      64 ≤ s.twin.matching →
      exec (.twinVerified t) q = .next (((s.setTwin (fun w => { w with step := 0, returns := 0, diverged := false })).setTwinState 4).bump Obj.TWIN_CATCHUP_COUNT)) ∧
  (∀ (t : Nat) (q : State), let s := q.at_ t;
      s.twin.failedAt ≠ 0 →
      s.ran s.twin.failedAt 10000000000 = true →
      s.paired = true →
      exec (.catchupRestart t) q = .next ((catchUp s 1).setTwin (fun w => { w with failedAt := 0 }))) ∧
  (∀ (t : Nat) (port : Fin 6) (block : BitVec 1024) (q : State), let s := q.at_ t; let g := blockBits block 921 918;
      s.paired = true → fromTwin s port 0x05 block = true →
      exec (.selvedgeState t port block) q = .next ((noteHeader block s).setTwin (fun w => { w with selv := w.selv.filter (fun e => e.1 / 4 != g) ++ (List.range 4).map (fun r => let x := blockBits block (917 - 120 * r) (798 - 120 * r); (4 * g + r, blockBits block 989 926, signed 36 (bits x 119 84), bits x 83 68, signed 36 (bits x 67 32), bits x 31 0)) })))

/-- Lease messages leave every LEASE_RENEW_MS, renewals and handovers of the present epoch are taken, a silent lease is released
or kept alone, the lease is taken when the rules allow, a handover happens at its pick, the drill swaps the roles, and a
differing readback hands the lease over. -/
def Obligations.LeaseCommandsComplete : Prop :=
  (∀ (t : Nat) (q : State), let s := q.at_ t;
      s.paired = true → s.ran s.twin.sentAt (s.rdN Obj.LEASE_RENEW_MS * 1000000) = true → s.holds = false →
      exec (.leaseMessageTx t) q = .next (sendLease (s.setTwin (fun w => { w with sentAt := s.clock.now })) 0x03 s.twin.latest.1 s.twin.latest.2 0)) ∧
  (∀ (t : Nat) (q : State), let s := q.at_ t;
      s.paired = true → s.ran s.twin.sentAt (s.rdN Obj.LEASE_RENEW_MS * 1000000) = true → s.holds = true →
      exec (.leaseMessageTx t) q = .next (sendLease (s.setTwin (fun w => { w with sentAt := s.clock.now, seq := (s.twin.seq + 1) % 2 ^ 32, sends := (((s.twin.seq + 1) % 2 ^ 32, s.engineNs) :: s.twin.sends).take 256 })) 0x02 (s.rdN Obj.LEASE_EPOCH) ((s.twin.seq + 1) % 2 ^ 32) 0)) ∧
  (∀ (t : Nat) (m : LeaseMsg) (q : State), let s := q.at_ t; let v := (leaseArrives s 2 m).1.setTwin (fun w => { w with peerHolds := true });
      (leaseArrives s 2 m).2 = true → v.holds = false → s.twin.seenEpoch ≤ m.epoch →
      exec (.leaseRenew t m) q = .next ((v.setTwin (fun w => { w with renewAt := v.engineNs, latest := (m.epoch, m.seq) })).wr Obj.LEASE_EPOCH (m.epoch : Nat))) ∧
  (∀ (t : Nat) (m : LeaseMsg) (q : State), let s := q.at_ t; let v := (leaseArrives s 2 m).1.setTwin (fun w => { w with peerHolds := true });
      (leaseArrives s 2 m).2 = true → v.holds = true → v.rdN Obj.LEASE_EPOCH < m.epoch →
      exec (.leaseRenew t m) q = .next (releaseLease v true)) ∧
  (∀ (t : Nat) (m : LeaseMsg) (q : State) (e : Nat × Nat), let s := q.at_ t; let v := (leaseArrives s 3 m).1.setTwin (fun w => { w with peerHolds := false });
      (leaseArrives s 3 m).2 = true → v.twin.sends.find? (fun x => x.1 == m.seq) = some e → v.holds = true → m.epoch = v.rdN Obj.LEASE_EPOCH → m.state < 3 →
      exec (.leaseStandby t m) q = .next (v.setTwin (fun w => { w with echoed := some (max e.2 (w.echoed.getD 0)) }))) ∧
  (∀ (t : Nat) (m : LeaseMsg) (q : State), let s := q.at_ t;
      (leaseArrives s 4 m).2 = true → s.twin.seenEpoch ≤ m.epoch → (leaseArrives s 4 m).1.holds = false →
      exec (.leaseHandover t m) q = .next ((leaseArrives s 4 m).1.setTwin (fun w => { w with take := some (m.takePick, m.epoch), peerHolds := true }))) ∧
  (∀ (t e : Nat) (q : State), let s := q.at_ t; let d := leaseD s;
      s.twin.echoed = some e → s.on Obj.TWIN_ENABLE = true → s.holds = true → past s.engineNs (e + d) = true → e + d - d / 2 ≤ s.twin.aliveAt →
      exec (.leaseRelease t) q = .next (releaseLease s false)) ∧
  (∀ (t e : Nat) (q : State), let s := q.at_ t; let d := leaseD s;
      s.twin.echoed = some e → s.on Obj.TWIN_ENABLE = true → s.holds = true → past s.engineNs (e + d) = true → s.twin.aliveAt < e + d - d / 2 →
      exec (.leaseRelease t) q = .next (((s.setTwin (fun w => { w with echoed := none })).wr Obj.LEASE_ROLE 3).setTwinState 7)) ∧
  (∀ (t : Nat) (q : State), let s := q.at_ t; let w := s.twin; let dg := leaseD s + leaseG s;
      s.on Obj.TWIN_ENABLE = true → s.holds = false → w.startAt + s.rdN Obj.LEASE_START_WAIT_MS * 1000000 ≤ s.engineNs →
      past s.engineNs (max w.heardAt w.startAt + dg) = true →
      exec (.leaseTaken t) q = .next (takeLease s (w.seenEpoch + 1) (s.clock.pick + 1) true)) ∧
  (∀ (t : Nat) (q : State), let s := q.at_ t; let w := s.twin; let dg := leaseD s + leaseG s;
      s.on Obj.TWIN_ENABLE = true → s.holds = false → w.startAt + s.rdN Obj.LEASE_START_WAIT_MS * 1000000 ≤ s.engineNs →
      past s.engineNs (max w.heardAt w.startAt + dg) = false →
      3 ≤ s.twinState → w.step = 0 → designated s = true → past s.engineNs (max w.renewAt (max w.startAt w.releasedAt) + dg) = true →
      exec (.leaseTaken t) q = .next (takeLease s (w.seenEpoch + 1) (s.clock.pick + 1) false)) ∧
  (∀ (t n e : Nat) (q : State), let s := q.at_ t;
      s.twin.handover = none →
      s.twin.take = some (n, e) →
      n ≤ s.clock.pick →
      s.holds = false →
      exec (.takePick t) q = .next (takeLease s e (n + 1) false)) ∧
  (∀ (t n : Nat) (q : State), let s := q.at_ t;
      s.twin.handover = some n →
      n ≤ s.clock.pick →
      (releaseLease s false).twin.take = none →
      exec (.takePick t) q = .next (releaseLease s false)) ∧
  (∀ (t : Nat) (q : State), let s := q.at_ t;
      0 < s.rdN Obj.LEASE_DRILL_INTERVAL_H → s.holds = true → canSwap s = true → s.fabric.quietUntil ≤ s.clock.now →
      time80Ns (s.rdN Obj.LEASE_DRILL_LAST) + s.rdN Obj.LEASE_DRILL_INTERVAL_H * 3600000000000 ≤ s.engineNs →
      exec (.leaseDrill t) q = .next (startHandover (s.wr Obj.LEASE_DRILL_LAST (time80 s.engineNs : Nat)))) ∧
  (∀ (t : Nat) (q : State), let s := q.at_ t;
      s.twin.takenAt ≠ 0 →
      s.holds = true →
      exec (.singularReadback t false) q = .next (s.setTwin (fun w => { w with takenAt := 0 }))) ∧
  (∀ (t : Nat) (q : State), let s := q.at_ t; let v := (s.setTwin (fun w => { w with takenAt := 0 })).raise Ev.SINGULAR_READBACK 0;
      s.twin.takenAt ≠ 0 → s.holds = true →
      exec (.singularReadback t true) q = .next (if canSwap v then startHandover v else v))

/-- A channel that is enabled starts, its relay closes after 50 ms, its contacts settle into the DC test or the fade-in, the
test measures the load and judges it by the limits and the load kind, and the ramps and the relay of a stop follow in order. -/
def Obligations.TreadleSequenceCommandsComplete : Prop :=
  (∀ (t : Nat) (ch : Fin 32) (q : State), let s := q.at_ t;
      tdRuns s = true →
      s.tdState ch = 0 →
      (s.td ch).step = 0 →
      s.on (ix Obj.TD_ENABLE ch) = true →
      exec (.tdStart t ch) q = .next (startChannel s ch (s.td ch).first false)) ∧
  (∀ (t : Nat) (ch : Fin 32) (q : State), let s := q.at_ t;
      s.tdDue ch 1 50000000 = true →
      exec (.tdRelayClose t ch) q = .next ((s.tdRelay ch true).tdStep ch 2)) ∧
  (∀ (t : Nat) (ch : Fin 32) (q : State), let s := q.at_ t;
      s.tdDue ch 2 (s.rdN (ix Obj.TD_RELAY_SETTLE_MS ch) * 1000000) = true →
      (s.td ch).testing = true →
      exec (.tdContactsSettled t ch) q = .next ((s.tdStep ch 3).setTdState ch 2)) ∧
  (∀ (t : Nat) (ch : Fin 32) (q : State), let s := q.at_ t;
      s.tdDue ch 2 (s.rdN (ix Obj.TD_RELAY_SETTLE_MS ch) * 1000000) = true →
      (s.td ch).testing = false →
      exec (.tdContactsSettled t ch) q = .next (fadeInChannel s ch)) ∧
  (∀ (t : Nat) (ch : Fin 32) (volts amps : BitVec 382) (q : State), let s := q.at_ t;
      let r := ohms s ch (slowValue volts.toNat).natAbs (slowValue amps.toNat).natAbs (2 ^ 21);
      let low := r < s.rdN (ix Obj.TD_DC_OHM_MIN ch); let high := s.rdN (ix Obj.TD_DC_OHM_MAX ch) < r; let cap := s.rd (ix Obj.TD_LOAD_KIND ch) = 1;
      let v := fun (result : Nat) => ((s.wr (ix Obj.TD_DC_OHM ch) (r : Nat)).wr (ix Obj.TD_LOAD_RESULT ch) (result : Nat)).tdStep ch 4;
      s.tdDue ch 3 15000000 = true →
      (low → exec (.tdDcTestMeasure t ch volts amps) q = .next ((failChannel (v 2) ch).1.setTd ch (fun c => { c with after := (failChannel (v 2) ch).2 }))) ∧
      (¬low → high → ¬cap → exec (.tdDcTestMeasure t ch volts amps) q = .next (((v 3).raise Ev.TD_LOAD_OPEN ch).setTd ch (fun c => { c with after := 0 }))) ∧
      (¬low → ¬high → cap → exec (.tdDcTestMeasure t ch volts amps) q = .next (((v 4).raise Ev.TD_LOAD_DC_PATH ch).setTd ch (fun c => { c with after := 6 }))) ∧
      (¬low → (high ↔ cap) → exec (.tdDcTestMeasure t ch volts amps) q = .next ((v 1).setTd ch (fun c => { c with after := 0 })))) ∧
  (∀ (t : Nat) (ch : Fin 32) (q : State), let s := q.at_ t;
      s.tdDue ch 4 5000000 = true →
      (s.td ch).after = 0 →
      exec (.tdTestRampDownDone t ch) q = .next (fadeInChannel s ch)) ∧
  (∀ (t : Nat) (ch : Fin 32) (q : State), let s := q.at_ t;
      s.tdDue ch 4 5000000 = true →
      (s.td ch).after ≠ 0 →
      exec (.tdTestRampDownDone t ch) q = .next ((s.tdRelay ch false).tdStep ch 9)) ∧
  (∀ (t : Nat) (ch : Fin 32) (q : State), let s := q.at_ t;
      s.tdDue ch 5 20000000 = true →
      exec (.tdSequenceGainDone t ch) q = .next ((s.tdStep ch 6).setTd ch (fun c => { c with cleanSince := s.clock.now }))) ∧
  (∀ (t : Nat) (ch : Fin 32) (q : State), let s := q.at_ t;
      (tdRuns s = false ∨ s.on (ix Obj.TD_ENABLE ch) = false) →
      exec (.tdStop t ch) q = .next (stopChannel s ch 0)) ∧
  (∀ (t : Nat) (ch : Fin 32) (q : State), let s := q.at_ t;
      s.tdDue ch 7 20000000 = true →
      exec (.tdGainRampDownDone t ch) q = .next (s.tdStep ch 8)) ∧
  (∀ (t : Nat) (ch : Fin 32) (q : State), let s := q.at_ t;
      s.tdDue ch 8 10000000 = true →
      exec (.tdRelayOpen t ch) q = .next ((s.tdRelay ch false).tdStep ch 9)) ∧
  (∀ (t : Nat) (ch : Fin 32) (q : State), let s := q.at_ t;
      s.tdDue ch 9 (s.rdN (ix Obj.TD_RELAY_RELEASE_MS ch) * 1000000) = true →
      exec (.tdRelayReleased t ch) q = .next (restChannel s ch (if (s.td ch).after = 8 && !railBad s ch then 0 else (s.td ch).after)))

/-- Overcurrent, shorts, hot relays, sense and rail faults switch their channels off as the rules say, retries and recoveries
start them again (or leave them off when they may not run), and the pilot and AC tests leave their readings. -/
def Obligations.TreadleProtectionCommandsComplete : Prop :=
  (∀ (t : Nat) (ch : Fin 32) (bits : BitVec 31) (q : State), let s := q.at_ t;
      s.rdN (ix Obj.TD_OC_MA ch) * 2 ^ 8 < (fastValue bits.toNat).natAbs * s.rdN (ix Obj.TD_ISENSE_FS_MA ch) → (s.td ch).step ≠ 10 → (s.td ch).en = true →
      exec (.tdOvercurrent t ch bits) q = .next (let v := s.setTd ch (fun c => { c with highAt := s.clock.now });
        let r := failChannel ((abortAc v ch).tdEn ch false) ch; (r.1.tdStep ch 10).setTdState ch r.2)) ∧
  (∀ (t : Nat) (ch : Fin 32) (q : State), let s := q.at_ t;
      (s.td ch).step = 10 →
      s.ran (s.td ch).highAt 1000000 = true →
      exec (.tdShort t ch) q = .next (dropAfterShort s ch)) ∧
  (∀ (t : Nat) (ch : Fin 32) (q : State), let s := q.at_ t;
      s.tdDue ch 10 20000000 = true →
      exec (.tdRelayHot t ch) q = .next ((dropAfterShort s ch).raise Ev.TD_RELAY_HOT ch)) ∧
  (∀ (t : Nat) (ch : Fin 32) (q : State), let s := q.at_ t;
      s.tdState ch = 5 →
      (s.td ch).step = 0 →
      s.ran (s.td ch).failedAt 500000000 = true →
      exec (.tdRetry t ch) q = .next (if tdRuns s && s.on (ix Obj.TD_ENABLE ch) then startChannel s ch true true else s.setTdState ch 0)) ∧
  (∀ (t : Nat) (ch : Fin 32) (q : State), let s := q.at_ t;
      (s.td ch).retry = true →
      s.tdDue ch 6 2000000000 = true →
      exec (.tdGainRecover t ch) q = .next ((s.rampSeq ch unity (s.msSamples 1000) true).setTd ch (fun c => { c with retry := false, cleanSince := s.clock.now + 1000000000 }))) ∧
  (∀ (t : Nat) (ch : Fin 32) (q : State), let s := q.at_ t;
      (s.td ch).retry = false →
      (s.td ch).step = 6 →
      s.ran (s.td ch).cleanSince (s.rdN Obj.TD_OC_CLEAR_S * 1000000000) = true →
      exec (.tdOcFailsReset t ch) q = .next (s.wr (ix Obj.TD_OC_FAILS ch) 0)) ∧
  (∀ (t : Nat) (ch : Fin 32) (bits : BitVec 64) (q : State), let s := q.at_ t;
      (s.td ch).en = true → s.tdState ch ≠ 7 → isStuck 64 bits.toNat = true →
      exec (.tdSenseFault t ch bits) q = .next (let v := s.setTd ch (fun c => { c with invalidAt := s.clock.now });
        ((((abortAc v ch).tdEn ch false).tdStep ch 12).setTdState ch 7).raise Ev.TD_SENSE_FAULT ch)) ∧
  (∀ (t : Nat) (ch : Fin 32) (q : State), let s := q.at_ t;
      s.tdDue ch 12 10000000 = true →
      exec (.tdSenseRelayDrop t ch) q = .next ((s.tdRelay ch false).setTd ch (fun c => { c with step := 0 }))) ∧
  (∀ (t : Nat) (ch : Fin 32) (q : State), let s := q.at_ t;
      s.tdState ch = 7 →
      (s.td ch).step = 0 →
      s.ran (s.td ch).invalidAt 1000000000 = true →
      exec (.tdSenseRecover t ch) q = .next (if tdRuns s && s.on (ix Obj.TD_ENABLE ch) then startChannel s ch false false else s.setTdState ch 0)) ∧
  (∀ (t : Nat) (rail : Fin 4) (q : State), let s := q.at_ t;
      let v := { s with treadle := { s.treadle with badRails := s.treadle.badRails ++ [rail.val] } }.raise Ev.TD_RAIL_FAULT rail;
      s.treadle.badRails.contains rail.val = false →
      ((s.rail rail.val).invalid = true ∨ ((s.rail rail.val).outside = true ∧ s.ran (s.rail rail.val).since 1000000 = true)) →
      exec (.tdRailFault t rail) q = .next (v.each (railChannels v rail) (fun s n => stopChannel s n 8))) ∧
  (∀ (t : Nat) (rail : Fin 4) (q : State), let s := q.at_ t;
      let v := { s with treadle := { s.treadle with badRails := s.treadle.badRails.filter (fun r => r != rail.val) } };
      s.treadle.badRails.contains rail.val = true → (s.rail rail.val).invalid = false → (s.rail rail.val).outside = false →
      s.ran (s.rail rail.val).since 500000000 = true →
      exec (.tdRailRecover t rail) q = .next (v.each ((railChannels v rail).filter (fun n => v.tdState n == 8)) (fun s n =>
        if tdRuns s && s.on (ix Obj.TD_ENABLE n) then startChannel s n (s.td n).first false else s.setTdState n 0))) ∧
  (∀ (t : Nat) (ch : Fin 32) (q : State), let s := q.at_ t; let a := (s.td ch).pilot;
      let v := amplitude a.vs a.vc; let i := amplitude a.is a.ic; let w := s.setTd ch (fun c => { c with pilot := noSync });
      s.on (ix Obj.TH_PILOT ch) = true → senseRate s ≤ a.count → 10 * a.count * 2 ^ 45 ≤ i * w.rdN (ix Obj.TD_ISENSE_FS_MA ch) →
      ∃ u, exec (.thPilotMeasure t ch) q = .next u ∧ u.rd (ix Obj.TH_RE_MEAS ch) = (ohms w ch v i 1 : Nat) ∧ (u.td ch).pilot = noSync) ∧
  (∀ (t : Nat) (ch : Fin 32) (q : State), let s := q.at_ t; let a := (s.td ch).pilot;
      let i := amplitude a.is a.ic; let w := s.setTd ch (fun c => { c with pilot := noSync });
      s.on (ix Obj.TH_PILOT ch) = true → senseRate s ≤ a.count → i * w.rdN (ix Obj.TD_ISENSE_FS_MA ch) < 10 * a.count * 2 ^ 45 →
      exec (.thPilotMeasure t ch) q = .next w) ∧
  (∀ (t : Nat) (ch : Fin 32) (q : State), let s := q.at_ t; let z := acMagnitudes s ch;
      let v := (s.wrV (ix Obj.AC_Z ch) (.bytes (z.flatMap (beBytes 4)))).wr (ix Obj.AC_RESULT ch) (acResult s ch z : Nat);
      s.tdDue ch 13 250000000 = true →
      exec (.acTestDone t ch) q = .next
        (((v.setTd ch (fun c => { c with from_ := c.to_, sample := v.sampleNow, len := 0, cleanSince := v.clock.now })).tdStep ch 6).setTdState ch 3))

/-- A request whose header passes and that is admitted is served once by its kind, with a repetition of its REQ_ID answered from
the record; an acknowledgement clears its records, and open, prove, close and forwarded writes are taken by their rules; actions
that have come due are handed over then. -/
def Obligations.HapolRequestsComplete : Prop :=
  (∀ (c : Instr) (t : Nat) (k : Kind) (e : Envelope) (rights : Nat) (q : State), let m := readMsg e.msg; let s := taken t e q;
      messageOf c = some (t, k, e) → k ∉ [Kind.ack, .open_, .prove, .close, .forwarded] → arrives t k e q →
      e.path ≠ .swiska → m.reply = false → letIn s e m = .ok rights →
      exec c q = .next (handNow (serveOnce k (touch s m) e rights m))) ∧
  (∀ (c : Instr) (t : Nat) (e : Envelope) (rights : Nat) (q : State), let m := readMsg e.msg; let s := taken t e q;
      messageOf c = some (t, .ack, e) → arrives t .ack e q → e.path ≠ .swiska → letIn s e m = .ok rights →
      exec c q = .next (handNow (acked (touch s m) m))) ∧
  (∀ (c : Instr) (t : Nat) (k : Kind) (e : Envelope) (q : State), let m := readMsg e.msg; let s := taken t e q;
      messageOf c = some (t, k, e) → k ∈ [Kind.open_, .prove, .close] → arrives t k e q → e.path ≠ .swiska → m.reply = false →
      exec c q = .next (handNow (match k with
        | .open_ => takeOpen s e m
        | .prove => takeProve s e m
        | _ => takeClose s e m))) ∧
  (∀ (c : Instr) (t : Nat) (e : Envelope) (q : State),
      messageOf c = some (t, .forwarded, e) → arrives t .forwarded e q →
      exec c q = .next (handNow (takeForwardedMsg (taken t e q) e (readMsg e.msg))))

/-- A period or an acknowledgement that runs out, an idle transfer and an idle session act as their rules say, and a core that
runs again puts the events back to filtered levels and serves what waited. -/
def Obligations.AgentTimerCommandsComplete : Prop :=
  (∀ (t sub : Nat) (x : Sub) (q : State), let s := q.at_ t;
      s.agent.subs.find? (fun u => u.id == sub && !u.events) = some x → agentRuns s = true → 0 < x.periodMs → s.ran x.lastAt (x.periodMs * 1000000) = true →
      exec (.notifyPeriod t sub) q = .next (notifyValues s x.session [x])) ∧
  (∀ (t session req : Nat) (n : Notify) (x : Session) (q : State), let s := q.at_ t;
      s.agent.notifies.find? (fun n => n.session == session && n.req == req) = some n → sessionOf s session = some x → agentRuns s = true →
      s.overdue (n.sentAt + s.rdN Obj.HAPOL_NOTIFY_TIMEOUT_MS * 1000000) = true → n.tries < s.rdN Obj.HAPOL_NOTIFY_RETRIES →
      exec (.notifyTimeout t session req) q = .next (sendNotify (s.setAgent (fun a =>
        { a with notifies := change a.notifies (fun y => y == n) (fun y => { y with sentAt := s.clock.now, tries := y.tries + 1 }) })) x req true (eventBody n.records))) ∧
  (∀ (t session req : Nat) (n : Notify) (x : Session) (q : State), let s := q.at_ t;
      s.agent.notifies.find? (fun n => n.session == session && n.req == req) = some n → sessionOf s session = some x → agentRuns s = true →
      s.overdue (n.sentAt + s.rdN Obj.HAPOL_NOTIFY_TIMEOUT_MS * 1000000) = true → s.rdN Obj.HAPOL_NOTIFY_RETRIES ≤ n.tries →
      exec (.notifyTimeout t session req) q = .next ((eventsEnd (showSubs (s.setAgent (fun a =>
        { a with subs := a.subs.filter (fun u => !(u.session == session && u.events)) })) session) session).raise Ev.HAPOL_SUBSCRIBER_LOST (session % 65536))) ∧
  (∀ (t xfer : Nat) (x : Xfer) (q : State), let s := q.at_ t;
      s.agent.xfers.find? (fun y => y.id == xfer) = some x → s.overdue (x.lastAt + 5000000000) = true →
      exec (.blockIdle t xfer) q = .next (dropXfer s xfer)) ∧
  (∀ (t session : Nat) (x : Session) (q : State), let s := q.at_ t;
      sessionOf s session = some x → agentRuns s = true → s.overdue (x.lastAt + s.rdN Obj.HAPOL_SESSION_IDLE_S * 1000000000) = true →
      exec (.sessionIdle t session) q = .next (endSession session s)) ∧
  (∀ (t : Nat) (core : Fin 2) (q : State), let s := q.at_ t;
      let v := { s with power := { s.power with restarting := setAt s.power.restarting core.val 0 } };
      let w := if v.power.stage = 5 ∧ v.power.restarting.all (fun n => n == 0) then enterFiltered v else v;
      s.power.restarting.getD core.val 0 ≠ 0 → s.power.held = false →
      exec (.coreRestartDone t core) q = .next (if core.val = 0 && agentRuns w then serveQueue w else w)) ∧
  (∀ (t : Nat) (core : Fin 2) (q : State), let s := q.at_ t; let v := setHalted s core.val false;
      bit (s.rdN Obj.DEBUG_SCOPE) 1 = true →
      exec (.debugCoreResume t core) q = .next (if core.val = 0 && agentRuns v then serveQueue v else v)) ∧
  (∀ (t : Nat) (core : Fin 2) (q : State), let s := q.at_ t; let v := restartCore s core.val;
      mayRestart s core.val = true →
      exec (.coreRestarted t core) q = .next (if v.power.stage = 4 then failStart v else v))

/-- A scope ends at its expiry, a lockout ends with the count of failures at 0, a granted debugger halts a core (a holder whose
core B halts releases the lease), and the TAP takes the instructions that the scope grants. -/
def Obligations.DebugCommandsComplete : Prop :=
  (∀ (t : Nat) (q : State), let s := q.at_ t;
      s.dbg.scope ≠ 0 →
      s.dbg.expiry ≤ s.clock.now →
      exec (.debugExpiry t) q = .next (endGrant s)) ∧
  (∀ (t : Nat) (q : State), let s := q.at_ t;
      debugLocked s = true → s.dbg.lockoutUntil ≤ s.clock.now →
      ∃ u, exec (.debugLockoutEnd t) q = .next u ∧ u.rd Obj.DEBUG_FAILS = 0 ∧ u.dbg = { s.dbg with lockoutUntil := 0 }) ∧
  (∀ (t : Nat) (q : State), let s := q.at_ t;
      bit (s.rdN Obj.DEBUG_SCOPE) 1 = true →
      s.power.halted.getD 0 false = false →
      exec (.debugCoreHalt t 0) q = .next (setHalted s 0 true)) ∧
  (∀ (t : Nat) (q : State), let s := q.at_ t; let v := setHalted s 1 true;
      bit (s.rdN Obj.DEBUG_SCOPE) 1 = true → s.power.halted.getD 1 false = false →
      exec (.debugCoreHalt t 1) q = .next (if v.on Obj.TWIN_ENABLE && v.holds then releaseLease v false else v)) ∧
  (∀ (t : Nat) (ins : Tap) (q : State), let s := q.at_ t;
      exec (.tapInstruction t ins) q = .next
        (let code := match (tapCode ins).2 with
          | none => (tapCode ins).1
          | some b => if bit (s.rdN Obj.DEBUG_SCOPE) b then (tapCode ins).1 else 0;
        { s with dbg := { s.dbg with tap := code } }.emit (.pin "TAP" code (tapCapture code))))

/-- With the port up, WRITE_CFG sets WIDTH and EVT_MBX, READ_ID drives the identity, CREEL_READ and CREEL_WRITE pass the bridge,
MBX_WRITE takes one message, reports an overrun while the mailbox is full or counts a malformed one, MBX_READ takes the head
reply only when all of it was clocked, EVT_READ takes the records clocked whole, and READ_STATUS clears what it reports. -/
def Obligations.HostPortCommandsComplete : Prop :=
  (∀ (t : Nat) (b : Byte) (q : State), let s := q.at_ t;
      hostPortUp s = true →
      exec (.writeCfg t b) q = .next ({ s with creel := { s.creel with width := bit b.toNat 0, evtMbx := bit b.toNat 1 } }.evtFrom s)) ∧
  (∀ (t n : Nat) (q : State), let s := q.at_ t;
      hostPortUp s = true →
      exec (.readId t n) q = .next (s.emit (.hostPort (driven [0x41, 0x58, 0x48, 0x36, 0x00, 0x00, 0x00, 0xB0] n)))) ∧
  (∀ (t addr : Nat) (data : List Byte) (q : State), let s := q.at_ t;
      hostPortUp s = true →
      exec (.creelWrite t addr data) q = .next (verifyHost (bridgeWrites addr data s))) ∧
  (∀ (t addr words fillers : Nat) (q : State), let s := q.at_ t;
      hostPortUp s = true →
      fillers ≤ 255 →
      exec (.creelRead t addr words fillers) q = .next ((bridgeReads addr words s).1.emit (.hostPort (List.replicate fillers 0 ++ [0xA5#8] ++ (bridgeReads addr words s).2)))) ∧
  (∀ (t addr words fillers : Nat) (q : State), let s := q.at_ t;
      hostPortUp s = true →
      255 < fillers →
      exec (.creelRead t addr words fillers) q = .next ((bridgeErr 3 s).emit (.hostPort (List.replicate 255 0 ++ [0xEE#8])))) ∧
  (∀ (t : Nat) (sent : List Byte) (q : State), let s := q.at_ t;
      hostPortUp s = true →
      2 ≤ sent.length →
      field sent 0 2 = sent.length - 2 →
      sent.length ≤ 1438 →
      s.creel.busy = false →
      exec (.mbxWrite t sent) q = .next (takeIn none ⟨.mailbox, 0, sent.drop 2⟩ s)) ∧
  (∀ (t : Nat) (sent : List Byte) (q : State), let s := q.at_ t;
      hostPortUp s = true →
      2 ≤ sent.length →
      field sent 0 2 = sent.length - 2 →
      sent.length ≤ 1438 →
      s.creel.busy = true →
      exec (.mbxWrite t sent) q = .next ({ s with creel := { s.creel with overrun := true } })) ∧
  (∀ (t : Nat) (sent : List Byte) (q : State), let s := q.at_ t;
      hostPortUp s = true →
      (sent.length < 2 ∨ field sent 0 2 ≠ sent.length - 2 ∨ 1438 < sent.length) →
      exec (.mbxWrite t sent) q = .next ({ s with creel := { s.creel with overrun := true } }.bump Obj.HAPOL_MALFORMED)) ∧
  (∀ (t n : Nat) (q : State), let s := q.at_ t;
      hostPortUp s = true →
      s.agent.mailbox = [] →
      exec (.mbxRead t n) q = .next (s.emit (.hostPort (driven [0, 0] n)))) ∧
  (∀ (t n : Nat) (m : List Byte) (rest : List (List Byte)) (q : State), let s := q.at_ t; let v := s.emit (.hostPort (driven (beBytes 2 m.length ++ m) n));
      hostPortUp s = true → s.agent.mailbox = m :: rest → 2 + m.length ≤ n →
      exec (.mbxRead t n) q = .next ({ v with agent := { v.agent with mailbox := rest } }.evtFrom v)) ∧
  (∀ (t n : Nat) (m : List Byte) (rest : List (List Byte)) (q : State), let s := q.at_ t;
      hostPortUp s = true →
      s.agent.mailbox = m :: rest →
      n < 2 + m.length →
      exec (.mbxRead t n) q = .next (s.emit (.hostPort (driven (beBytes 2 m.length ++ m) n)))) ∧
  (∀ (t max clocked : Nat) (q : State), let s := q.at_ t; let n := min (min max 64) s.heddle.bobbin2.length;
      hostPortUp s = true →
      exec (.evtRead t max clocked) q = .next ((s.emit (.hostPort (driven (BitVec.ofNat 8 n :: (s.heddle.bobbin2.take n).flatMap recordBytes)
        clocked))).putBobbin 2 (s.heddle.bobbin2.drop (min n ((clocked - 1) / 16))))) ∧
  (∀ (t n : Nat) (q : State), let s := q.at_ t;
      hostPortUp s = true →
      exec (.readStatus t n) q = .next ({ s with creel := { s.creel with overrun := false, err := false, errCode := 0 } }.emit (.hostPort (driven (beBytes 4 (statusWord s)) n))))

/-- Requests are arbitrated and served, a lock that has run 2 us is broken, BOOT_CTRL takes REMAP and LOCK from core A alone, a
segment register takes 4 bits from its master or core A, and BOOT_IMAGE_LEN starts the verification of a host image in stage 2.
-/
def Obligations.CreelCommandsComplete : Prop :=
  (∀ (t : Nat) (reqs : List (Master × CreelOp)) (q : State), let s := q.at_ t;
      exec (.creelTransaction t reqs) q = .next (verifyHost (arbitrate s reqs))) ∧
  (∀ (t : Nat) (m : Master) (l : Nat × Master × Nat × Nat) (q : State), let s := q.at_ t;
      s.creel.locks.find? (fun x => x.2.1 == m && (s.ran x.2.2.2 2000 || decide (16 ≤ x.2.2.1))) = some l →
      exec (.creelLockBroken t m) q = .next (arbitrate (breakLock s l.1 m) [])) ∧
  (∀ (t : Nat) (v : BitVec 32) (q : State), let s := q.at_ t;
      s.creel.lock = false →
      exec (.bootCtrlWrite t .coreA v) q = .next ({ s with creel := { s.creel with remap := bit v.toNat 0, lock := bit v.toNat 1 } }.emit (.creel .coreA 0 false))) ∧
  (∀ (t : Nat) (v : BitVec 32) (q : State), let s := q.at_ t;
      s.creel.lock = true →
      exec (.bootCtrlWrite t .coreA v) q = .next (s.emit (.creel .coreA 0 false))) ∧
  (∀ (t : Nat) (m : Master) (v : BitVec 32) (q : State), let s := q.at_ t;
      m ≠ .coreA →
      exec (.bootCtrlWrite t m v) q = .next (s.emit (.creel m 0 true))) ∧
  (∀ (t : Nat) (m reg : Master) (v : BitVec 32) (q : State), let s := q.at_ t;
      (m = reg ∨ m = .coreA) →
      exec (.crlDdrSegWrite t m reg v) q = .next ({ s with creel := { s.creel with segs := setAt s.creel.segs (masterNo reg) (v.toNat % 16) } }.emit (.creel m 0 false))) ∧
  (∀ (t : Nat) (m reg : Master) (v : BitVec 32) (q : State), let s := q.at_ t;
      m ≠ reg →
      m ≠ .coreA →
      exec (.crlDdrSegWrite t m reg v) q = .next ((s.bump Obj.CREEL_ERROR_COUNT).emit (.creel m 0 true))) ∧
  (∀ (t v : Nat) (q : State), let s := q.at_ t;
      s.power.stage = 2 →
      exec (.bootImageLen t .coreA v) q = .next (verifyHost { s with power := { s.power with hostLen := v, hostAsked := true } }))

/-- A raw line that has held its level long enough changes the filtered level and raises or withdraws its source, and a claim
takes the winner into the bobbin and answers its slot. -/
def Obligations.HeddleCommandsComplete : Prop :=
  (∀ (t source : Nat) (q : State), let s := q.at_ t;
      isLevel source = true → s.heddle.filtered = true → s.lineHigh source = true → s.heddle.high.contains source = false →
      s.ran (match s.heddle.changed.find? (fun e => e.1 == source) with | some e => e.2 | none => 0) (20 * s.rdN (evtKey Obj.EVT_SRC_FILTER_N source)) = true →
      exec (.filteredLevelChange t source) q = .next ({ s with heddle := { s.heddle with high := source :: s.heddle.high, claimed := s.heddle.claimed.filter (fun e => e.2 != source) } }.each [0, 1, 2, 3]
          (riseFor source (mapGetD s.heddle.args source 0)))) ∧
  (∀ (t source : Nat) (q : State), let s := q.at_ t;
      isLevel source = true → s.heddle.filtered = true → s.lineHigh source = false → s.heddle.high.contains source = true →
      s.ran (match s.heddle.changed.find? (fun e => e.1 == source) with | some e => e.2 | none => 0) (20 * s.rdN (evtKey Obj.EVT_SRC_FILTER_N source)) = true →
      ∃ u, exec (.filteredLevelChange t source) q = .next u ∧ u.heddle.high = s.heddle.high.filter (fun n => n != source) ∧
        (∀ e ∈ u.heddle.claimed, e.2 ≠ source)) ∧
  (∀ (t slot : Nat) (core : Fin 2) (u : State) (q : State), let s := q.at_ t;
      s.coreRuns core.val = true → claim (s.putBobbin core.val []) core.val = some (u, slot) →
      exec (.hedClaim t core) q = .next (u.emit (.creel (if core.val = 0 then .coreA else .coreB) (BitVec.ofNat 32 slot) false))) ∧
  (∀ (t slot : Nat) (u : State) (q : State), let s := q.at_ t;
      s.bobbinFull 2 = false → claim s 2 = some (u, slot) → exec (.bobbinClaim t false) q = .next u) ∧
  (∀ (t slot : Nat) (u : State) (r : Record) (q : State), let s := q.at_ t;
      let ids := (u.agent.sessions.map (fun x => x.id)).filter (hearsEvents u);
      s.bobbinFull 3 = false → claim s 3 = some (u, slot) → u.heddle.bobbin3.getLast? = some r →
      exec (.bobbinClaim t true) q = .next ((freeRecords { u with heddle := { u.heddle with fieldWait := u.heddle.fieldWait ++ [(r.seq, ids)] } }).each ids
        (fun s id => notifyEvents s id [r])))

/-- An overrun grant is marked, counted and reported once, a request that waits too long is refused, PMBus readings are taken, a
voltage step settles or not and steps down after ample slack, an hour of operation is counted, the scrubber takes leave for its
bursts and counts its passes, and each kind of scrubbed word is rewritten or reported. -/
def Obligations.GovernorCommandsComplete : Prop :=
  (∀ (t id : Nat) (r : Request) (q : State), let s := q.at_ t;
      s.governor.grants.find? (fun r => r.id == id && !r.overrun) = some r → s.overdue (r.grantedAt + longestHold s r) = true →
      exec (.letoffOverrun t id) q = .next (({ s with governor := { s.governor with grants := change s.governor.grants (fun x => x.id == id) (fun x => { x with overrun := true }) } }.bump Obj.LETOFF_OVERRUNS).raise Ev.LETOFF_OVERRUN r.kind)) ∧
  (∀ (t id : Nat) (r : Request) (q : State), let s := q.at_ t; let ws := s.governor.waiting.filter (fun x => x.id != id);
      s.governor.waiting.find? (fun r => r.id == id) = some r → s.coreRuns 1 = true → s.overdue (r.asked + s.rdN Obj.LETOFF_MAX_WAIT_MS * 1000000) = true →
      exec (.letoffMaxWait t id) q = .next
        (refusalFollows ((refuse { s with governor := { s.governor with waiting := ws } } r).wr Obj.LETOFF_WAITING (ws.length : Nat)) r)) ∧
  (∀ (t sp since : Nat) (w : BitVec 16) (q : State), let p := (q.at_ t).emit (.pmbus 0x8B 0); let e := p.rd Obj.PMBUS_VOUT_EXP; let s := pmbusGood p;
      let v := { s with governor := { s.governor with vout := voltsOf w e } }; let unit := 2 ^ (-e).toNat;
      s.governor.settling = some (sp, since) → w.toNat * 1000 ≤ (sp + 5) * unit → sp * unit ≤ w.toNat * 1000 + 5 * unit →
      exec (.readVout t (some w)) q = .next (((stepEnds v sp).bump Obj.VCORE_STEP_COUNT).raise Ev.VCORE_STEP sp)) ∧
  (∀ (t : Nat) (w : BitVec 16) (q : State), let p := (q.at_ t).emit (.pmbus 0x8B 0); let s := pmbusGood p;
      s.governor.settling = none →
      exec (.readVout t (some w)) q = .next { s with governor := { s.governor with vout := voltsOf w (p.rd Obj.PMBUS_VOUT_EXP) } }) ∧
  (∀ (t : Nat) (w : BitVec 16) (q : State), let s := pmbusGood ((q.at_ t).emit (.pmbus 0x8C 0));
      exec (.readIout t (some w)) q = .next { s with governor := { s.governor with lastIout := ampsOf w } }) ∧
  (∀ (t : Nat) (q : State),
      exec (.readVout t none) q = .next (pmbusFailed ((q.at_ t).emit (.pmbus 0x8B 0))) ∧
      exec (.readIout t none) q = .next (pmbusFailed ((q.at_ t).emit (.pmbus 0x8C 0))) ∧
      exec (.statusWord t none) q = .next (pmbusFailed ((q.at_ t).emit (.pmbus 0x79 0)))) ∧
  (∀ (t : Nat) (w : BitVec 16) (q : State), let s := pmbusGood ((q.at_ t).emit (.pmbus 0x79 0));
      let v := { s with governor := { s.governor with alert := false } }.wr Obj.PMBUS_STATUS (w.toNat : Nat);
      exec (.statusWord t (some w)) q = .next (if railFaultBits w.toNat then v.raise Ev.RAIL_STATUS w.toNat else v)) ∧
  (∀ (t : Nat) (q : State), let s := (q.at_ t).emit (.pmbus 0x79 0);
      exec (.pmbAlertN t) q = .next { s with governor := { s.governor with alert := true } }) ∧
  (∀ (t sp since : Nat) (q : State), let s := q.at_ t;
      s.governor.settling = some (sp, since) →
      s.overdue (since + 5000000) = true →
      exec (.vcoreNotSettled t) q = .next ((stepEnds s sp).raise Ev.VCORE_NOT_SETTLED s.governor.vout)) ∧
  (∀ (t : Nat) (q : State), let s := q.at_ t;
      s.rdN Obj.VCORE_HOME_MV < s.rdN Obj.VCORE_SET_MV →
      s.ran s.fabric.ampleSince 600000000000 = true →
      s.governor.settling = none →
      s.governor.waiting.any (fun r => r.kind == 1) = false →
      pmbusFault s = false →
      exec (.vcoreStepDown t) q = .next (commandVout s (max (s.rdN Obj.VCORE_HOME_MV) (s.rdN Obj.VCORE_SET_MV - s.rdN Obj.VCORE_STEP_MV)))) ∧
  (∀ (t : Nat) (q : State), let s := q.at_ t;
      pmbusFault s = true →
      s.governor.retryAt ≤ s.clock.now →
      exec (.pmbusRetry t true) q = .next (pmbusGood s)) ∧
  (∀ (t : Nat) (q : State), let s := q.at_ t;
      pmbusFault s = true →
      s.governor.retryAt ≤ s.clock.now →
      exec (.pmbusRetry t false) q = .next ({ s with governor := { s.governor with retryAt := s.clock.now + 100000000 } }.bump Obj.PMBUS_ERRORS)) ∧
  (∀ (t : Nat) (q : State), let s := q.at_ t; let f := s.governor.stressFrac + stressHour (s.rd Obj.TJ_NOW);
      s.power.corePg = true → s.ran s.governor.agedAt 3600000000000 = true →
      exec (.agingHour t) q = .next (({ s with governor := { s.governor with stressFrac := f % 2 ^ 64, agedAt := s.governor.agedAt + 3600000000000 } }.bumpSat
        Obj.AGING_STRESS_H (f / 2 ^ 64)).bumpSat Obj.AGING_SERVICE_H)) ∧
  (∀ (t words : Nat) (q : State), let s := q.at_ t;
      scrubDue s = true →
      s.granted 8 0 = false →
      s.asking 8 0 = false →
      exec (.scrubBurst t words) q = .next (s.askLeave 8 4 0)) ∧
  (∀ (t words : Nat) (q : State), let s := q.at_ t; let v := s.release 8 0; let done := v.governor.scrubWords + min words 16777216;
      scrubDue s = true → s.granted 8 0 = true → done < scrubbedWords v →
      ∃ u, exec (.scrubBurst t words) q = .next u ∧ u.governor.scrubWords = done ∧ u.dict = v.dict ∧ u.governor.grants = v.governor.grants) ∧
  (∀ (t words : Nat) (q : State), let s := q.at_ t; let v := s.release 8 0; let done := v.governor.scrubWords + min words 16777216;
      scrubDue s = true → s.granted 8 0 = true → scrubbedWords v ≤ done →
      ∃ u, exec (.scrubBurst t words) q = .next u ∧ u.governor.scrubWords = 0 ∧ u.rd Obj.SCRUB_PASSES = min (s.rd Obj.SCRUB_PASSES + 1) 4294967295) ∧
  (∀ (t tier key pos : Nat) (double : Bool) (q : State), let s := q.at_ t;
      (s.power.stage = 5 ∨ s.power.stage = 4) →
      exec (.scrubWord t .delayLine tier key pos double) q = .next (((rewriteLine (s.bumpSat (parityKey tier)) key pos).bumpSat Obj.SCRUB_REWRITES).raise Ev.SCRUB_UNCORRECTABLE ((tier - 1) % 5 + 1))) ∧
  (∀ (t tier key pos : Nat) (double : Bool) (q : State), let s := q.at_ t;
      (s.power.stage = 5 ∨ s.power.stage = 4) →
      exec (.scrubWord t .otherState tier key pos double) q = .next ((s.bumpSat (parityKey tier)).raise Ev.SCRUB_UNCORRECTABLE ((tier - 1) % 5 + 1))) ∧
  (∀ (t tier key pos : Nat) (q : State), let s := q.at_ t;
      (s.power.stage = 5 ∨ s.power.stage = 4) →
      exec (.scrubWord t .coef tier key pos false) q = .next ((s.bumpSat Obj.ECC_COEF_CORR).bumpSat Obj.SCRUB_REWRITES)) ∧
  (∀ (t tier key pos : Nat) (w : Work) (q : State), let s := q.at_ t;
      (s.power.stage = 5 ∨ s.power.stage = 4) →
      s.workOf key = some w →
      exec (.scrubWord t .coef tier key pos true) q = .next ({ s with graph := { s.graph with badCoefs := s.graph.badCoefs ++ [key] } })) ∧
  (∀ (t tier key pos : Nat) (q : State), let s := q.at_ t;
      (s.power.stage = 5 ∨ s.power.stage = 4) →
      exec (.scrubWord t .dict tier key pos true) q = .next (((reloadValue s key).bumpSat Obj.ECC_DICT_UNCORR).raise Ev.DICT_UNCORRECTABLE (keyIndex key))) ∧
  (∀ (t tier key pos : Nat) (q : State), let s := q.at_ t;
      (s.power.stage = 5 ∨ s.power.stage = 4) →
      exec (.scrubWord t .dict tier key pos false) q = .next ((s.bumpSat Obj.ECC_DICT_CORR).bumpSat Obj.SCRUB_REWRITES)) ∧
  (∀ (t tier key pos : Nat) (q : State), let s := q.at_ t;
      (s.power.stage = 5 ∨ s.power.stage = 4) →
      exec (.scrubWord t .workRam tier key pos false) q = .next ((s.bumpSat Obj.ECC_WRAM_CORR).bumpSat Obj.SCRUB_REWRITES)) ∧
  (∀ (t tier key pos : Nat) (q : State), let s := q.at_ t; let v := s.bumpSat Obj.ECC_WRAM_UNCORR;
      (s.power.stage = 5 ∨ s.power.stage = 4) →
      exec (.scrubWord t .workRam tier key pos true) q = .next (if mayRestart v (key % 2) then restartCore v (key % 2) else v))

/-- Rails, resets and the core supply change as the sequence of the manual says: each reset clears the engine and its release
starts the boot. -/
def Obligations.PowerCommandsComplete : Prop :=
  (∀ (t : Nat) (q : State), let s := q.at_ t;
      s.power.rails = false →
      exec (.powerUp t) q = .next (({ s with power := { s.power with rails := true } }.wr Obj.REFST_CODE 7).emit (.pin "REFST" 0 7))) ∧
  (∀ (t straps : Nat) (flash : Option (List Byte × List Byte)) (q : State), let s := q.at_ t;
      let v := { s with clock := State.reset.clock, power := { s.power with porst := true, slot0 := (flash.elim s.power.slot0 (fun f => f.1)), slot1 := (flash.elim s.power.slot1 (fun f => f.2)) } }.wr Obj.BOOT_STRAPS (straps % 8 : Nat);
      s.power.rails = true → s.power.porst = false →
      exec (.porstNRise t straps flash) q = .next (releaseReset { v with power := { v.power with attempt := decide (v.rdN Obj.START_FAILS_COLD = 3) } } 0 100000)) ∧
  (∀ (t : Nat) (q : State), let s := q.at_ t;
      s.power.porst = true →
      exec (.porstNFall t) q = .next (({ (resetAll s) with power := { (resetAll s).power with porst := false } }.wr Obj.REFST_CODE 7).emit (.pin "REFST" 0 7))) ∧
  (∀ (t : Nat) (q : State), let s := q.at_ t;
      s.power.porst = true →
      s.power.resetN = true →
      s.power.doff ≠ 3 →
      exec (.resetNFall t) q = .next ({ (resetEngine s) with power := { (resetEngine s).power with resetN := false } })) ∧
  (∀ (t : Nat) (q : State), let s := q.at_ t; let v := resetEngine s;
      s.power.porst = true → s.power.resetN = true → s.power.doff = 3 →
      exec (.resetNFall t) q = .next ({ v with power := { v.power with resetN := false, coreEn := true, coreEnAt := v.clock.now } }.emit (.pin "CORE_EN" 0 1))) ∧
  (∀ (t : Nat) (q : State), let s := q.at_ t;
      s.power.porst = true →
      s.power.resetN = false →
      exec (.resetNRise t) q = .next (releaseReset { s with power := { s.power with resetN := true, attempt := decide (s.rdN Obj.START_FAILS_COLD = 3) } } 1 0)) ∧
  (∀ (t : Nat) (q : State), let s := q.at_ t;
      let v := { s with power := { s.power with corePg := true }, governor := { s.governor with agedAt := s.clock.now } };
      s.power.coreEn = true → s.power.corePg = false → s.power.coreEnAt ≤ s.clock.now →
      (starting s = false ∨ s.overdue (s.power.coreEnAt + 50000000) = false) →
      exec (.corePgRise t) q = .next (if released v then bootProceeds v else v)) ∧
  (∀ (t : Nat) (q : State), let s := q.at_ t;
      starting s = true →
      s.power.corePg = false →
      s.overdue (s.power.coreEnAt + 50000000) = true →
      exec (.corePgTimeout t) q = .next (failStart (dropCore s))) ∧
  (∀ (t : Nat) (q : State), let s := q.at_ t;
      s.power.corePg = true →
      s.power.coreEn = false →
      exec (.corePgFall t) q = .next ({ s with power := { s.power with corePg := false } })) ∧
  (∀ (t : Nat) (q : State), let s := q.at_ t;
      s.power.corePg = true →
      s.power.coreEn = true →
      exec (.corePgFall t) q = .next (releaseReset (dropCore (resetEngine s)) 1 100000000)) ∧
  (∀ (t : Nat) (q : State), let s := q.at_ t;
      s.power.corePg = true →
      s.power.thermtrip = false →
      exec (.thermtrip t) q = .next ({ (resetEngine s) with power := { (resetEngine s).power with thermtrip := true } }.emit (.pin "THERMTRIP_N" 0 0))) ∧
  (∀ (t : Nat) (q : State), let s := q.at_ t;
      s.power.rails = true →
      exec (.powerLoss t) q = .next ({ (resetAll s) with power := { (resetAll s).power with rails := false, porst := false, thermtrip := false } }))

/-- A start that is done in time enters service, one that runs out of time or fails is counted, a pending save writes the image,
the retained record is written every ten minutes, and a programmed slot is shown with its event. -/
def Obligations.StartCommandsComplete : Prop :=
  (∀ (t : Nat) (ddr : DdrTraining) (tests : List SelfTest) (q : State), let s := q.at_ t;
      s.power.stage = 4 → (s.rd Obj.START_KIND ≠ 0 ∨ (((List.range 9).zip tests).filter (fun e => !testPasses s e.1 e.2)).length ≤ 1) →
      s.coreRuns 0 = true → s.coreRuns 1 = true → startOverdue s = false →
      ∃ u, exec (.startDone t ddr tests) q = .next u ∧ u.power.stage = 5 ∧ u.heddle.filtered = true) ∧
  (∀ (t : Nat) (q : State), let s := q.at_ t;
      starting s = true →
      startOverdue s = true →
      exec (.startTimeout t) q = .next (failStart s)) ∧
  (∀ (t : Nat) (q : State), let s := q.at_ t;
      s.power.stage = 2 →
      bootSrc s = 0 →
      bootSlot s = none →
      exec (.startFailed t .imageInvalid) q = .next (failStart s)) ∧
  (∀ (t : Nat) (q : State), let s := q.at_ t;
      s.power.stage = 2 →
      bootSrc s = 1 →
      s.power.hostLen ≠ 0 →
      s.power.hostAsked = false →
      imageState s (hostImage s) ≠ 1 →
      exec (.startFailed t .hostImage) q = .next (failStart s)) ∧
  (∀ (t : Nat) (q : State), let s := q.at_ t;
      s.power.stage = 4 →
      s.rd Obj.START_KIND = 0 →
      exec (.startFailed t .selfTest) q = .next (failStart s)) ∧
  (∀ (t : Nat) (q : State), let s := q.at_ t;
      s.rd Obj.DICT_SAVE_PENDING ≠ 0 →
      exec (.dictSave t) q = .next (saveImage s)) ∧
  (∀ (t : Nat) (q : State), let s := q.at_ t;
      s.power.stage = 5 →
      s.rd Obj.TIME_STATE = 2 →
      s.ran s.power.recordAt 600000000000 = true →
      exec (.retainedRecordWrite t) q = .next (writeRecord s)) ∧
  (∀ (t n : Nat) (b : List Byte) (q : State), let s := q.at_ t;
      s.power.programming = some (n, b) →
      exec (.fwProgrammed t true) q = .next (((showSlots (putSlot { s with power := { s.power with programming := none } } n b)).wr Obj.FW_PROGRESS 100).raise
        Ev.FW_PROGRAMMED (arg2 n 1))) ∧
  (∀ (t n : Nat) (b : List Byte) (q : State), let s := q.at_ t;
      s.power.programming = some (n, b) → exec (.fwProgrammed t false) q = .next (endProgramming s))

/-- A requested entry whose batten has opened stops sessions, actions, debug access and Treadle and hands the lease over, the
latch is sampled once the fade is over and decides between standby and abort, and timer, pins and link wake an armed engine. -/
def Obligations.DoffCommandsComplete : Prop :=
  (∀ (t : Nat) (q : State), let s := q.at_ t;
      let v := ({ s with power := { s.power with doff := 2, doffAt := s.clock.now, doffFade := 0, wakeArmed := true, wakeLatch := false } }.wr
        Obj.WAKE_CAUSE 0xFFFF).setActions [];
      s.power.doff = 1 → s.power.stage = 5 → s.power.doffPick ≤ s.clock.pick →
      exec (.doffEntry t) q = .next (dropAuthority ((endGrant (endSessions v)).each (List.range 32) (fun s n => stopChannel s n 0)))) ∧
  (∀ (t : Nat) (q : State), let s := q.at_ t; let v := writeRecord (saveImage s);
      s.power.doff = 2 → s.power.doffFade ≠ 0 → s.ran s.power.doffAt 48000000 = true → s.power.doffFade + s.msSamples 10 ≤ s.sampleNow →
      exec (.doffLatchSample t) q = .next (if v.power.wakeLatch then abortDoff v else enterDoff v)) ∧
  (∀ (t : Nat) (q : State), let s := q.at_ t;
      armed s = true →
      s.rdN Obj.DOFF_WAKE_TIME ≠ 0 →
      time80Ns (s.rdN Obj.DOFF_WAKE_TIME) ≤ s.engineNs →
      exec (.wakeTimer t) q = .next (wake s Ev.WAKE_TIMER)) ∧
  (∀ (t : Nat) (n : Fin 4) (q : State), let s := q.at_ t;
      armed s = true →
      bit (s.rdN Obj.DOFF_WAKE_IN) n.val = true →
      exec (.wakeIn t n) q = .next (wake s (Ev.WAKE_IN0 + n.val))) ∧
  (∀ (t : Nat) (q : State), let s := q.at_ t;
      armed s = true →
      s.on Obj.WAKE_ON_LINK = true →
      exec (.wakeCpLink t) q = .next (wake (if s.power.wakeLatch then s else s.wr Obj.WAKE_MATCH (Nat.lor (s.rdN Obj.WAKE_MATCH) 256 : Nat)) Ev.WAKE_CP_LINK))

/-- Every command that writes one object, when the agent runs and all checks pass: the stored value (reserved bits cleared)
takes effect by the access of the object, a write that leads a twin is forwarded, and the answer carries OK and APPLIED. -/
def Obligations.AcceptedWritesComplete : Prop :=
  (∀ (c : Instr) (t : Nat) (w : Writer) (k : Nat) (v : Val) (r : Row) (q : State), let s := q.at_ t; let x := storedValue k r v;
      writeOf c = some (t, w, k, v) → agentRuns s = true → s.objRow k = some r → writeStatus s w k Status.OK v = Status.OK →
      exec c q = .next ((forwardWrite (applyWrite s w k x) s [(k, v)]).emit (.answer k Status.OK (appliedOf s k x))))

/-- With command c at the front of the queue a step is exec of c on the state with the rest of the queue. -/
def Obligations.StepRunsFrontCommand : Prop :=
  (∀ (c : Instr) (rest : List Instr) (s : State), s.pending = c :: rest → step s = exec c { s with pending := rest })

/-- With no command waiting a step answers the same state; the spec gives the block no tick of its own, so this is the model's
choice (log entry 1). -/
def Obligations.EmptyQueueIdles : Prop :=
  (∀ s : State, s.pending = [] → step s = .next s)

/-- The state after reset has only well-formed commands waiting and its memory in canonical form. -/
def Obligations.ResetMeetsInvariant : Prop :=
  State.reset.Inv

/-- After reset engine time and picks are 0, BOOT_STAGE is 0, no command waits, the Heddle is in edge-latch mode with nothing
pending and empty bobbins at SEQ 0, BOOT_REMAP and BOOT_LOCK are 0, no creel lock is open, every dictionary object reads its
default (rows whose entries differ apart), and DEBUG_SCOPE reads 0x000F. -/
def Obligations.ResetLeavesTheSpecsValues : Prop :=
  State.reset.clock.now = 0 ∧
  State.reset.clock.pick = 0 ∧
  State.reset.power.stage = 0 ∧
  State.reset.pending = [] ∧
  State.reset.heddle.filtered = false ∧
  State.reset.heddle.pend = [] ∧
  (∀ target : Nat, bobbin State.reset.heddle target = []) ∧
  State.reset.heddle.seqs = [0, 0, 0, 0] ∧
  State.reset.creel.remap = false ∧
  State.reset.creel.lock = false ∧
  State.reset.creel.locks = [] ∧
  State.reset.dict = [] ∧
  (∀ (k : Nat) (r : Row), isParam k = false → specialDefault (keyIndex k) (keySub k) = none → rowOf k = some r →
      State.reset.rd k = Val.int r.dflt) ∧
  State.reset.rd Obj.DEBUG_SCOPE = 0x000F

/-- From every sound state, whatever command is at the front, a step leaves a sound state: the commands that still wait stay
well formed and the creel's memory keeps its canonical form. -/
def Obligations.EveryStepKeepsInvariant : Prop :=
  (∀ s t : State, s.Inv → step s = .next t → t.Inv)

/-- Every command, well formed or not, in every state answers a next state whose queue is the queue it found. -/
def Obligations.EveryCommandCompletes : Prop :=
  (∀ (c : Instr) (s : State), ∃ t, exec c s = .next t ∧ t.pending = s.pending)

/-- A command other than a host-port CREEL_WRITE, a creel transaction or a broken lock, a fall or absence of the core rail, Doff
entry, a power loss or a fall of PORST_N leaves every byte of the creel's memory as it was. -/
def Obligations.OnlyTheseCommandsWriteCreelMemory : Prop :=
  (∀ (c : Instr) (s t : State), writesCreelMemory c = false → exec c s = .next t → t.creel.mem = s.creel.mem)

/-- Except at an edge of PORST_N and at a loss of the always-on rails, which return engine time to 0, no command moves local
time back. -/
def Obligations.LocalTimeNeverRunsBack : Prop :=
  (∀ (c : Instr) (s t : State), restartsTime c = false → exec c s = .next t → s.clock.now ≤ t.clock.now)

/-- Except at a batten, a step of engine time, the end of a start and a restart of time, no command changes the pick counter. -/
def Obligations.PickCounterMovesOnlyHere : Prop :=
  (∀ (c : Instr) (s t : State), movesPick c = false → exec c s = .next t → t.clock.pick = s.clock.pick)

/-- A write that reaches a running agent and would set SLACK_ALARM_PERMILLE to SLACK_WARN_PERMILLE or above, or
SLACK_WARN_PERMILLE to SLACK_ALARM_PERMILLE or below, is answered CONFLICT, and the state is otherwise the same, so that neither
object changes. -/
def Obligations.SlackThresholdsKeepTheirOrder : Prop :=
  (∀ (t : Nat) (w : Writer) (v : Nat) (q : State), let s := q.at_ t;
      agentRuns s = true →
      serves s Obj.SLACK_ALARM_PERMILLE true = true →
      20 ≤ v →
      v ≤ 90 →
      s.rd Obj.SLACK_WARN_PERMILLE ≤ v →
      exec (.objectWrite t w Obj.SLACK_ALARM_PERMILLE (.num v)) q = .next (s.emit (.answer Obj.SLACK_ALARM_PERMILLE Status.CONFLICT 0xFF))) ∧
  (∀ (t : Nat) (w : Writer) (v : Nat) (q : State), let s := q.at_ t;
      agentRuns s = true →
      serves s Obj.SLACK_WARN_PERMILLE true = true →
      30 ≤ v →
      v ≤ 100 →
      (v : Int) ≤ s.rd Obj.SLACK_ALARM_PERMILLE →
      exec (.objectWrite t w Obj.SLACK_WARN_PERMILLE (.num v)) q = .next (s.emit (.answer Obj.SLACK_WARN_PERMILLE Status.CONFLICT 0xFF)))

/-- A write that reaches a running agent and would set REF_HARD_PPB to REF_SOFT_PPB or below, by either object, is refused with
a status other than OK, and the state is otherwise the same, so that neither object changes. -/
def Obligations.ReferenceThresholdsKeepTheirOrder : Prop :=
  (∀ (t : Nat) (w : Writer) (v : Nat) (q : State), let s := q.at_ t;
      agentRuns s = true → serves s Obj.REF_HARD_PPB true = true → 2000 ≤ v → v ≤ 100000 → (v : Int) ≤ s.rd Obj.REF_SOFT_PPB →
      ∃ st, st ≠ Status.OK ∧ exec (.objectWrite t w Obj.REF_HARD_PPB (.num v)) q = .next (s.emit (.answer Obj.REF_HARD_PPB st 0xFF))) ∧
  (∀ (t : Nat) (w : Writer) (v : Nat) (q : State), let s := q.at_ t;
      agentRuns s = true → serves s Obj.REF_SOFT_PPB true = true → 1000 ≤ v → v ≤ 50000 → s.rd Obj.REF_HARD_PPB ≤ v →
      ∃ st, st ≠ Status.OK ∧ exec (.objectWrite t w Obj.REF_SOFT_PPB (.num v)) q = .next (s.emit (.answer Obj.REF_SOFT_PPB st 0xFF)))

/-- A write of one object that reaches a running agent and that the checks of R350 refuse is answered with their status and
APPLIED 0xFF, and the state is otherwise the same. -/
def Obligations.RefusedWritesChangeNothing : Prop :=
  (∀ (t : Nat) (w : Writer) (k : Nat) (v : Val) (q : State), let s := q.at_ t;
      agentRuns s = true → writeStatus s w k Status.OK v ≠ Status.OK →
      exec (.objectWrite t w k v) q = .next (s.emit (.answer k (writeStatus s w k Status.OK v) 0xFF)))

/-- A write of an index or sub-index that the dictionary does not define, in an area that the engine serves, is answered
UNKNOWN_SUB or UNKNOWN_INDEX and changes nothing. -/
def Obligations.UndefinedObjectsAreRefused : Prop :=
  (∀ (t : Nat) (w : Writer) (k : Nat) (v : Val) (q : State), let s := q.at_ t;
      agentRuns s = true → serves s k true = true → s.objRow k = none →
      exec (.objectWrite t w k v) q = .next (s.emit (.answer k
        (if isParam k || indexDefined (keyIndex k) then Status.UNKNOWN_SUB else Status.UNKNOWN_INDEX) 0xFF)))

/-- A multiply-accumulate is exact while the sum stays in 80 bits and stands at the limit on overflow; a store adds 2^30, shifts
right by 31 bits and saturates to 36 bits. -/
def Obligations.AccumulatorAndStore : Prop :=
  (∀ a x k : Int, -(2 ^ 79) ≤ a + x * k → a + x * k < 2 ^ 79 → mac a x k = a + x * k) ∧
  (∀ a x k : Int, 2 ^ 79 ≤ a + x * k → mac a x k = 2 ^ 79 - 1) ∧
  (∀ a x k : Int, a + x * k < -(2 ^ 79) → mac a x k = -(2 ^ 79)) ∧
  (∀ a : Int, -(2 ^ 35) ≤ (a + 2 ^ 30) / 2 ^ 31 → (a + 2 ^ 30) / 2 ^ 31 < 2 ^ 35 → store a = (a + 2 ^ 30) / 2 ^ 31) ∧
  (∀ a : Int, 2 ^ 35 ≤ (a + 2 ^ 30) / 2 ^ 31 → store a = 0x7FFFFFFFF) ∧
  (∀ a : Int, (a + 2 ^ 30) / 2 ^ 31 < -(2 ^ 35) → store a = -0x800000000)

/-- A 16-bit or 24-bit port word that enters and leaves the engine unchanged in between is the same word, and a word with 20
valid bits leaves a 24-bit port with its 4 LSBs zero. -/
def Obligations.PortWordsSurviveTheInterior : Prop :=
  (∀ v : Nat, v < 2 ^ 16 → pattern 16 (leave 16 (enter 16 v)) = v) ∧
  (∀ v : Nat, v < 2 ^ 24 → pattern 24 (leave 24 (enter 24 v)) = v) ∧
  (∀ v : Nat, v < 2 ^ 20 → pattern 24 (leave 24 (enter 20 v)) = v * 16)

/-- Every byte of a stored word has odd parity, the 36 data bits read back, and a change of any one of the 40 bits leaves a byte
with even parity. -/
def Obligations.StoredWordsCarryOddParity : Prop :=
  (∀ v : Nat, v < 2 ^ 36 → storedClean (storedWord v) = true ∧ storedData (storedWord v) = v) ∧
  (∀ v b : Nat, v < 2 ^ 36 → b < 40 → storedClean (Nat.xor (storedWord v) (2 ^ b)) = false)

/-- From the same previous symbol the recovery of R263 gives back every level index that the transmitter precoded, and each
precoded symbol is P(j) = (G(j) - P(j - 1)) mod 4. -/
def Obligations.PrecodingIsUndone : Prop :=
  (∀ (p : Nat) (gs : List Nat), p < 4 → (∀ x ∈ gs, x < 4) → unprecode p (precode p gs) = gs) ∧
  (∀ (p x : Nat) (gs : List Nat), p < 4 → x < 4 → ∃ y : Nat, (y : Int) = ((x : Int) - p) % 4 ∧ precode p (x :: gs) = y :: precode y gs)

/-- A descrambler with the scrambler's history gives back every bit, and one with any other history is right from the 59th bit
on. -/
def Obligations.ScramblingIsUndone : Prop :=
  (∀ h ds : List Bool, descramble h (scramble h ds) = ds) ∧
  (∀ h h' ds : List Bool, (descramble h' (scramble h ds)).drop 58 = ds.drop 58)

/-- After a word is written to creel memory the word reads back at its address and every byte outside the four reads as before.
-/
def Obligations.CreelWordReadsBack : Prop :=
  (∀ (m : List Host.Cell) (a v : Nat), v < 2 ^ 32 → memWord (memSetWord m a v) a = v) ∧
  (∀ (m : List Host.Cell) (a v b : Nat), (b < a ∨ a + 4 ≤ b) → memRead (memSetWord m a v) b = memRead m b)

/-- One creel access leaves every byte of memory outside the word that it writes, every dictionary object but CREEL_ERROR_COUNT,
the queue, the clock, the Heddle, the governor and the reference as they were; a read leaves every byte. -/
def Obligations.CreelAccessFrame : Prop :=
  (∀ (m : Master) (a : Nat) (w : Bool) (v b : Nat) (s : State),
      (∀ x, w = true → cellOf s m (a / 4 * 4) = some x → b < x ∨ x + 4 ≤ b) →
      memRead (creelAccess m a w v s).1.creel.mem b = memRead s.creel.mem b) ∧
  (∀ (m : Master) (a : Nat) (w : Bool) (v : Nat) (s : State) (k : Nat), k ≠ Obj.CREEL_ERROR_COUNT → isParam k = false →
      (creelAccess m a w v s).1.rd k = s.rd k) ∧
  (∀ (m : Master) (a : Nat) (w : Bool) (v : Nat) (s : State), let u := (creelAccess m a w v s).1;
      u.pending = s.pending ∧ u.clock = s.clock ∧ u.heddle = s.heddle ∧ u.governor = s.governor ∧ u.ref = s.ref)

/-- A read or write of a target that the matrix of R369 does not open for the master ends with an error response, writes nothing
and is counted in CREEL_ERROR_COUNT. -/
def Obligations.CreelRefusesClosedPaths : Prop :=
  (∀ (m : Master) (a : Nat) (w : Bool) (v target : Nat) (s : State), targetOf (a / 4 * 4) = some target → pathOpen s m target w = false →
      creelAccess m a w v s = (s.bump Obj.CREEL_ERROR_COUNT, 0, true)) ∧
  (∀ (s : State) (target : Nat) (w : Bool), (pathOpen s .agent target w = true ↔ target = 1 ∨ target = 2)) ∧
  (∀ (s : State) (target : Nat) (w : Bool), (pathOpen s .mover target w = true ↔ target = 1 ∨ target = 5 ∨ target = 6)) ∧
  (∀ (s : State) (target : Nat), (pathOpen s .coreB target true = true ↔ target ≠ 0 ∧ target ≠ 3))

/-- Once BOOT_LOCK is set no creel access of any master changes BOOT_REMAP or BOOT_LOCK, and a master other than core A changes
neither in any state. -/
def Obligations.BootLockHolds : Prop :=
  (∀ (m : Master) (a : Nat) (w : Bool) (v : Nat) (s : State), s.creel.lock = true ∨ m ≠ .coreA →
      (creelAccess m a w v s).1.creel.remap = s.creel.remap ∧ (creelAccess m a w v s).1.creel.lock = s.creel.lock)

/-- A claim for a target takes a pending source enabled for it that no other such source beats: none has a lower EVT_SRC_PRIO,
and none of equal priority stands nearer after the source last claimed for the target at that priority, in ascending order with
a wrap from 0x1FF; a claim fails only when no such source is pending, and it leaves what is pending for the other targets. -/
def Obligations.ClaimTakesTheWinner : Prop :=
  (∀ (s u : State) (target slot : Nat), claim s target = some (u, slot) →
      ∃ i p, s.heddle.pend[i]? = some p ∧ p.target = target ∧ s.enabled p.source target = true ∧
        u.heddle.pend = s.heddle.pend.eraseIdx i ∧
        ∀ x ∈ s.heddle.pend, x.target = target → s.enabled x.source target = true →
          s.prioOf p.source < s.prioOf x.source ∨ (s.prioOf p.source = s.prioOf x.source ∧ after s p ≤ after s x)) ∧
  (∀ (s : State) (target : Nat), claim s target = none ↔
      ∀ x ∈ s.heddle.pend, x.target = target → s.enabled x.source target = false)

/-- A claim appends exactly the winner's record to the target's bobbin, advances the target's SEQ by one modulo 65,536 and
leaves the other bobbins. -/
def Obligations.ClaimWritesOneRecord : Prop :=
  (∀ (s u : State) (target slot pos : Nat) (p : Pend), target < 4 → winner s target = some (pos, p) → claim s target = some (u, slot) →
      bobbin u.heddle target = bobbin s.heddle target ++ [claimRecord s target p] ∧
      u.heddle.seqs = setAt s.heddle.seqs target ((s.heddle.seqs.getD target 0 + 1) % 65536) ∧
      ∀ other, other < 4 → other ≠ target → bobbin u.heddle other = bobbin s.heddle other)

/-- An occurrence of a source that is enabled for a target and already pending there adds no entry, keeps the time of the first,
takes the new ARG, sets MERGED and counts in EVT_SRC_MERGED; one that is not pending adds one entry; and so no occurrence makes
a source pending twice for a target. -/
def Obligations.HeldSourcesMerge : Prop :=
  (∀ (s : State) (src arg target : Nat), s.enabled src target = true → s.heddle.pend.any (isPend target src) = true →
      (s.occur src arg target).heddle.pend =
        s.heddle.pend.map (fun p => if isPend target src p then { p with merged := true, arg := arg } else p) ∧
      (s.occur src arg target).rd (evtKey Obj.EVT_SRC_MERGED src) = (s.rd (evtKey Obj.EVT_SRC_MERGED src) + 1) % 4294967296) ∧
  (∀ (s : State) (src arg target : Nat), s.enabled src target = true → s.heddle.pend.any (isPend target src) = false →
      ∃ p, p.target = target ∧ p.source = src ∧ p.arg = arg ∧ p.merged = false ∧
        (s.occur src arg target).heddle.pend = s.heddle.pend ++ [p]) ∧
  (∀ (s : State) (src arg target n m : Nat), (s.heddle.pend.filter (isPend n m)).length ≤ 1 →
      ((s.occur src arg target).heddle.pend.filter (isPend n m)).length ≤ 1)

/-- After a release of a kind and owner no grant and no request of that kind and owner stands, and every other grant and request
stands as before. -/
def Obligations.ReleaseFreesLeave : Prop :=
  (∀ (s : State) (kind owner : Nat), (s.release kind owner).granted kind owner = false ∧ (s.release kind owner).asking kind owner = false) ∧
  (∀ (s : State) (kind owner k o : Nat), (k ≠ kind ∨ o ≠ owner) →
      (s.release kind owner).granted k o = s.granted k o ∧ (s.release kind owner).asking k o = s.asking k o)

/-- A fall of PORST_N returns engine time and picks to 0, clears the wake latch and empties creel memory; a fall of RESET_N lets
engine time run on and leaves the pick counter and the wake latch. -/
def Obligations.ResetInputs : Prop :=
  (∀ (t : Nat) (q : State), q.power.porst = true →
      ∃ u, exec (.porstNFall t) q = .next u ∧ u.clock.now = 0 ∧ u.clock.pick = 0 ∧ u.power.wakeLatch = false ∧ u.power.porst = false ∧
        u.creel.mem = [] ∧ u.pending = q.pending) ∧
  (∀ (t : Nat) (q : State), q.power.porst = true → q.power.resetN = true →
      ∃ u, exec (.resetNFall t) q = .next u ∧ u.clock.now = max q.clock.now t ∧ u.engineNs = (q.at_ t).engineNs ∧
        u.clock.pick = q.clock.pick ∧ u.power.wakeLatch = q.power.wakeLatch ∧ u.power.resetN = false ∧ u.pending = q.pending)

/-- The pick is 8 samples at 44.1 and 48 kHz, 16 at 88.2 and 96 kHz and 32 at 176.4 and 192 kHz. -/
def Obligations.PickLengths : Prop :=
  [0, 1, 2, 3, 4, 5].map pickSamples = [8, 8, 16, 16, 32, 32] ∧
  [0, 1, 2, 3, 4, 5].map rateHz = [44100, 48000, 88200, 96000, 176400, 192000]
end

