-- ==== Sys2Proof/Laws/State.lean ====
section
/-! SUPPORT. What each operation on the state leaves unchanged, field by field, so that no proof unfolds a record update. -/

namespace Sys2Proof
namespace Machine

/-! ## After a write to the dictionary (`State.wrV`) -/

@[simp] theorem State.wrV_pending (s : State) (k : Nat) (v : Val) : (s.wrV k v).pending = s.pending := rfl
@[simp] theorem State.wrV_sent (s : State) (k : Nat) (v : Val) : (s.wrV k v).sent = s.sent := rfl
@[simp] theorem State.wrV_fresh (s : State) (k : Nat) (v : Val) : (s.wrV k v).fresh = s.fresh := rfl
@[simp] theorem State.wrV_clock (s : State) (k : Nat) (v : Val) : (s.wrV k v).clock = s.clock := rfl
@[simp] theorem State.wrV_run (s : State) (k : Nat) (v : Val) : (s.wrV k v).run = s.run := rfl
@[simp] theorem State.wrV_graph (s : State) (k : Nat) (v : Val) : (s.wrV k v).graph = s.graph := rfl
@[simp] theorem State.wrV_fabric (s : State) (k : Nat) (v : Val) : (s.wrV k v).fabric = s.fabric := rfl
@[simp] theorem State.wrV_heddle (s : State) (k : Nat) (v : Val) : (s.wrV k v).heddle = s.heddle := rfl
@[simp] theorem State.wrV_agent (s : State) (k : Nat) (v : Val) : (s.wrV k v).agent = s.agent := rfl
@[simp] theorem State.wrV_creel (s : State) (k : Nat) (v : Val) : (s.wrV k v).creel = s.creel := rfl
@[simp] theorem State.wrV_governor (s : State) (k : Nat) (v : Val) : (s.wrV k v).governor = s.governor := rfl
@[simp] theorem State.wrV_dbg (s : State) (k : Nat) (v : Val) : (s.wrV k v).dbg = s.dbg := rfl
@[simp] theorem State.wrV_power (s : State) (k : Nat) (v : Val) : (s.wrV k v).power = s.power := rfl
@[simp] theorem State.wrV_ref (s : State) (k : Nat) (v : Val) : (s.wrV k v).ref = s.ref := rfl
@[simp] theorem State.wrV_io (s : State) (k : Nat) (v : Val) : (s.wrV k v).io = s.io := rfl
@[simp] theorem State.wrV_net (s : State) (k : Nat) (v : Val) : (s.wrV k v).net = s.net := rfl
@[simp] theorem State.wrV_links (s : State) (k : Nat) (v : Val) : (s.wrV k v).links = s.links := rfl
@[simp] theorem State.wrV_cuts (s : State) (k : Nat) (v : Val) : (s.wrV k v).cuts = s.cuts := rfl
@[simp] theorem State.wrV_twin (s : State) (k : Nat) (v : Val) : (s.wrV k v).twin = s.twin := rfl
@[simp] theorem State.wrV_treadle (s : State) (k : Nat) (v : Val) : (s.wrV k v).treadle = s.treadle := rfl

/-! ## After a write of a number (`State.wr`) -/

@[simp] theorem State.wr_pending (s : State) (k : Nat) (v : Int) : (s.wr k v).pending = s.pending := rfl
@[simp] theorem State.wr_sent (s : State) (k : Nat) (v : Int) : (s.wr k v).sent = s.sent := rfl
@[simp] theorem State.wr_fresh (s : State) (k : Nat) (v : Int) : (s.wr k v).fresh = s.fresh := rfl
@[simp] theorem State.wr_clock (s : State) (k : Nat) (v : Int) : (s.wr k v).clock = s.clock := rfl
@[simp] theorem State.wr_run (s : State) (k : Nat) (v : Int) : (s.wr k v).run = s.run := rfl
@[simp] theorem State.wr_graph (s : State) (k : Nat) (v : Int) : (s.wr k v).graph = s.graph := rfl
@[simp] theorem State.wr_fabric (s : State) (k : Nat) (v : Int) : (s.wr k v).fabric = s.fabric := rfl
@[simp] theorem State.wr_heddle (s : State) (k : Nat) (v : Int) : (s.wr k v).heddle = s.heddle := rfl
@[simp] theorem State.wr_agent (s : State) (k : Nat) (v : Int) : (s.wr k v).agent = s.agent := rfl
@[simp] theorem State.wr_creel (s : State) (k : Nat) (v : Int) : (s.wr k v).creel = s.creel := rfl
@[simp] theorem State.wr_governor (s : State) (k : Nat) (v : Int) : (s.wr k v).governor = s.governor := rfl
@[simp] theorem State.wr_dbg (s : State) (k : Nat) (v : Int) : (s.wr k v).dbg = s.dbg := rfl
@[simp] theorem State.wr_power (s : State) (k : Nat) (v : Int) : (s.wr k v).power = s.power := rfl
@[simp] theorem State.wr_ref (s : State) (k : Nat) (v : Int) : (s.wr k v).ref = s.ref := rfl
@[simp] theorem State.wr_io (s : State) (k : Nat) (v : Int) : (s.wr k v).io = s.io := rfl
@[simp] theorem State.wr_net (s : State) (k : Nat) (v : Int) : (s.wr k v).net = s.net := rfl
@[simp] theorem State.wr_links (s : State) (k : Nat) (v : Int) : (s.wr k v).links = s.links := rfl
@[simp] theorem State.wr_cuts (s : State) (k : Nat) (v : Int) : (s.wr k v).cuts = s.cuts := rfl
@[simp] theorem State.wr_twin (s : State) (k : Nat) (v : Int) : (s.wr k v).twin = s.twin := rfl
@[simp] theorem State.wr_treadle (s : State) (k : Nat) (v : Int) : (s.wr k v).treadle = s.treadle := rfl

/-! ## After a raised counter (`State.bump`) -/

@[simp] theorem State.bump_pending (s : State) (k n : Nat) : (s.bump k n).pending = s.pending := rfl
@[simp] theorem State.bump_sent (s : State) (k n : Nat) : (s.bump k n).sent = s.sent := rfl
@[simp] theorem State.bump_fresh (s : State) (k n : Nat) : (s.bump k n).fresh = s.fresh := rfl
@[simp] theorem State.bump_clock (s : State) (k n : Nat) : (s.bump k n).clock = s.clock := rfl
@[simp] theorem State.bump_run (s : State) (k n : Nat) : (s.bump k n).run = s.run := rfl
@[simp] theorem State.bump_graph (s : State) (k n : Nat) : (s.bump k n).graph = s.graph := rfl
@[simp] theorem State.bump_fabric (s : State) (k n : Nat) : (s.bump k n).fabric = s.fabric := rfl
@[simp] theorem State.bump_heddle (s : State) (k n : Nat) : (s.bump k n).heddle = s.heddle := rfl
@[simp] theorem State.bump_agent (s : State) (k n : Nat) : (s.bump k n).agent = s.agent := rfl
@[simp] theorem State.bump_creel (s : State) (k n : Nat) : (s.bump k n).creel = s.creel := rfl
@[simp] theorem State.bump_governor (s : State) (k n : Nat) : (s.bump k n).governor = s.governor := rfl
@[simp] theorem State.bump_dbg (s : State) (k n : Nat) : (s.bump k n).dbg = s.dbg := rfl
@[simp] theorem State.bump_power (s : State) (k n : Nat) : (s.bump k n).power = s.power := rfl
@[simp] theorem State.bump_ref (s : State) (k n : Nat) : (s.bump k n).ref = s.ref := rfl
@[simp] theorem State.bump_io (s : State) (k n : Nat) : (s.bump k n).io = s.io := rfl
@[simp] theorem State.bump_net (s : State) (k n : Nat) : (s.bump k n).net = s.net := rfl
@[simp] theorem State.bump_links (s : State) (k n : Nat) : (s.bump k n).links = s.links := rfl
@[simp] theorem State.bump_cuts (s : State) (k n : Nat) : (s.bump k n).cuts = s.cuts := rfl
@[simp] theorem State.bump_twin (s : State) (k n : Nat) : (s.bump k n).twin = s.twin := rfl
@[simp] theorem State.bump_treadle (s : State) (k n : Nat) : (s.bump k n).treadle = s.treadle := rfl

/-! ## After a raised saturating counter (`State.bumpSat`) -/

@[simp] theorem State.bumpSat_pending (s : State) (k n : Nat) : (s.bumpSat k n).pending = s.pending := rfl
@[simp] theorem State.bumpSat_sent (s : State) (k n : Nat) : (s.bumpSat k n).sent = s.sent := rfl
@[simp] theorem State.bumpSat_fresh (s : State) (k n : Nat) : (s.bumpSat k n).fresh = s.fresh := rfl
@[simp] theorem State.bumpSat_clock (s : State) (k n : Nat) : (s.bumpSat k n).clock = s.clock := rfl
@[simp] theorem State.bumpSat_run (s : State) (k n : Nat) : (s.bumpSat k n).run = s.run := rfl
@[simp] theorem State.bumpSat_graph (s : State) (k n : Nat) : (s.bumpSat k n).graph = s.graph := rfl
@[simp] theorem State.bumpSat_fabric (s : State) (k n : Nat) : (s.bumpSat k n).fabric = s.fabric := rfl
@[simp] theorem State.bumpSat_heddle (s : State) (k n : Nat) : (s.bumpSat k n).heddle = s.heddle := rfl
@[simp] theorem State.bumpSat_agent (s : State) (k n : Nat) : (s.bumpSat k n).agent = s.agent := rfl
@[simp] theorem State.bumpSat_creel (s : State) (k n : Nat) : (s.bumpSat k n).creel = s.creel := rfl
@[simp] theorem State.bumpSat_governor (s : State) (k n : Nat) : (s.bumpSat k n).governor = s.governor := rfl
@[simp] theorem State.bumpSat_dbg (s : State) (k n : Nat) : (s.bumpSat k n).dbg = s.dbg := rfl
@[simp] theorem State.bumpSat_power (s : State) (k n : Nat) : (s.bumpSat k n).power = s.power := rfl
@[simp] theorem State.bumpSat_ref (s : State) (k n : Nat) : (s.bumpSat k n).ref = s.ref := rfl
@[simp] theorem State.bumpSat_io (s : State) (k n : Nat) : (s.bumpSat k n).io = s.io := rfl
@[simp] theorem State.bumpSat_net (s : State) (k n : Nat) : (s.bumpSat k n).net = s.net := rfl
@[simp] theorem State.bumpSat_links (s : State) (k n : Nat) : (s.bumpSat k n).links = s.links := rfl
@[simp] theorem State.bumpSat_cuts (s : State) (k n : Nat) : (s.bumpSat k n).cuts = s.cuts := rfl
@[simp] theorem State.bumpSat_twin (s : State) (k n : Nat) : (s.bumpSat k n).twin = s.twin := rfl
@[simp] theorem State.bumpSat_treadle (s : State) (k n : Nat) : (s.bumpSat k n).treadle = s.treadle := rfl

/-! ## After a write to the running copy (`State.wrRun`) -/

@[simp] theorem State.wrRun_pending (s : State) (k : Nat) (v : Val) : (s.wrRun k v).pending = s.pending := rfl
@[simp] theorem State.wrRun_sent (s : State) (k : Nat) (v : Val) : (s.wrRun k v).sent = s.sent := rfl
@[simp] theorem State.wrRun_fresh (s : State) (k : Nat) (v : Val) : (s.wrRun k v).fresh = s.fresh := rfl
@[simp] theorem State.wrRun_clock (s : State) (k : Nat) (v : Val) : (s.wrRun k v).clock = s.clock := rfl
@[simp] theorem State.wrRun_dict (s : State) (k : Nat) (v : Val) : (s.wrRun k v).dict = s.dict := rfl
@[simp] theorem State.wrRun_graph (s : State) (k : Nat) (v : Val) : (s.wrRun k v).graph = s.graph := rfl
@[simp] theorem State.wrRun_fabric (s : State) (k : Nat) (v : Val) : (s.wrRun k v).fabric = s.fabric := rfl
@[simp] theorem State.wrRun_heddle (s : State) (k : Nat) (v : Val) : (s.wrRun k v).heddle = s.heddle := rfl
@[simp] theorem State.wrRun_agent (s : State) (k : Nat) (v : Val) : (s.wrRun k v).agent = s.agent := rfl
@[simp] theorem State.wrRun_creel (s : State) (k : Nat) (v : Val) : (s.wrRun k v).creel = s.creel := rfl
@[simp] theorem State.wrRun_governor (s : State) (k : Nat) (v : Val) : (s.wrRun k v).governor = s.governor := rfl
@[simp] theorem State.wrRun_dbg (s : State) (k : Nat) (v : Val) : (s.wrRun k v).dbg = s.dbg := rfl
@[simp] theorem State.wrRun_power (s : State) (k : Nat) (v : Val) : (s.wrRun k v).power = s.power := rfl
@[simp] theorem State.wrRun_ref (s : State) (k : Nat) (v : Val) : (s.wrRun k v).ref = s.ref := rfl
@[simp] theorem State.wrRun_io (s : State) (k : Nat) (v : Val) : (s.wrRun k v).io = s.io := rfl
@[simp] theorem State.wrRun_net (s : State) (k : Nat) (v : Val) : (s.wrRun k v).net = s.net := rfl
@[simp] theorem State.wrRun_links (s : State) (k : Nat) (v : Val) : (s.wrRun k v).links = s.links := rfl
@[simp] theorem State.wrRun_cuts (s : State) (k : Nat) (v : Val) : (s.wrRun k v).cuts = s.cuts := rfl
@[simp] theorem State.wrRun_twin (s : State) (k : Nat) (v : Val) : (s.wrRun k v).twin = s.twin := rfl
@[simp] theorem State.wrRun_treadle (s : State) (k : Nat) (v : Val) : (s.wrRun k v).treadle = s.treadle := rfl

/-! ## After an emission (`State.emit`) -/

@[simp] theorem State.emit_pending (s : State) (e : Emit) : (s.emit e).pending = s.pending := rfl
@[simp] theorem State.emit_fresh (s : State) (e : Emit) : (s.emit e).fresh = s.fresh := rfl
@[simp] theorem State.emit_clock (s : State) (e : Emit) : (s.emit e).clock = s.clock := rfl
@[simp] theorem State.emit_dict (s : State) (e : Emit) : (s.emit e).dict = s.dict := rfl
@[simp] theorem State.emit_run (s : State) (e : Emit) : (s.emit e).run = s.run := rfl
@[simp] theorem State.emit_graph (s : State) (e : Emit) : (s.emit e).graph = s.graph := rfl
@[simp] theorem State.emit_fabric (s : State) (e : Emit) : (s.emit e).fabric = s.fabric := rfl
@[simp] theorem State.emit_heddle (s : State) (e : Emit) : (s.emit e).heddle = s.heddle := rfl
@[simp] theorem State.emit_agent (s : State) (e : Emit) : (s.emit e).agent = s.agent := rfl
@[simp] theorem State.emit_creel (s : State) (e : Emit) : (s.emit e).creel = s.creel := rfl
@[simp] theorem State.emit_governor (s : State) (e : Emit) : (s.emit e).governor = s.governor := rfl
@[simp] theorem State.emit_dbg (s : State) (e : Emit) : (s.emit e).dbg = s.dbg := rfl
@[simp] theorem State.emit_power (s : State) (e : Emit) : (s.emit e).power = s.power := rfl
@[simp] theorem State.emit_ref (s : State) (e : Emit) : (s.emit e).ref = s.ref := rfl
@[simp] theorem State.emit_io (s : State) (e : Emit) : (s.emit e).io = s.io := rfl
@[simp] theorem State.emit_net (s : State) (e : Emit) : (s.emit e).net = s.net := rfl
@[simp] theorem State.emit_links (s : State) (e : Emit) : (s.emit e).links = s.links := rfl
@[simp] theorem State.emit_cuts (s : State) (e : Emit) : (s.emit e).cuts = s.cuts := rfl
@[simp] theorem State.emit_twin (s : State) (e : Emit) : (s.emit e).twin = s.twin := rfl
@[simp] theorem State.emit_treadle (s : State) (e : Emit) : (s.emit e).treadle = s.treadle := rfl

/-! ## After one occurrence of a source (`State.occur`) -/

@[simp] theorem State.occur_pending (s : State) (src arg target : Nat) : (s.occur src arg target).pending = s.pending := by
  unfold State.occur; split <;> (try split) <;> rfl
@[simp] theorem State.occur_sent (s : State) (src arg target : Nat) : (s.occur src arg target).sent = s.sent := by
  unfold State.occur; split <;> (try split) <;> rfl
@[simp] theorem State.occur_fresh (s : State) (src arg target : Nat) : (s.occur src arg target).fresh = s.fresh := by
  unfold State.occur; split <;> (try split) <;> rfl
@[simp] theorem State.occur_clock (s : State) (src arg target : Nat) : (s.occur src arg target).clock = s.clock := by
  unfold State.occur; split <;> (try split) <;> rfl
@[simp] theorem State.occur_run (s : State) (src arg target : Nat) : (s.occur src arg target).run = s.run := by
  unfold State.occur; split <;> (try split) <;> rfl
@[simp] theorem State.occur_graph (s : State) (src arg target : Nat) : (s.occur src arg target).graph = s.graph := by
  unfold State.occur; split <;> (try split) <;> rfl
@[simp] theorem State.occur_fabric (s : State) (src arg target : Nat) : (s.occur src arg target).fabric = s.fabric := by
  unfold State.occur; split <;> (try split) <;> rfl
@[simp] theorem State.occur_agent (s : State) (src arg target : Nat) : (s.occur src arg target).agent = s.agent := by
  unfold State.occur; split <;> (try split) <;> rfl
@[simp] theorem State.occur_creel (s : State) (src arg target : Nat) : (s.occur src arg target).creel = s.creel := by
  unfold State.occur; split <;> (try split) <;> rfl
@[simp] theorem State.occur_governor (s : State) (src arg target : Nat) : (s.occur src arg target).governor = s.governor := by
  unfold State.occur; split <;> (try split) <;> rfl
@[simp] theorem State.occur_dbg (s : State) (src arg target : Nat) : (s.occur src arg target).dbg = s.dbg := by
  unfold State.occur; split <;> (try split) <;> rfl
@[simp] theorem State.occur_power (s : State) (src arg target : Nat) : (s.occur src arg target).power = s.power := by
  unfold State.occur; split <;> (try split) <;> rfl
@[simp] theorem State.occur_ref (s : State) (src arg target : Nat) : (s.occur src arg target).ref = s.ref := by
  unfold State.occur; split <;> (try split) <;> rfl
@[simp] theorem State.occur_io (s : State) (src arg target : Nat) : (s.occur src arg target).io = s.io := by
  unfold State.occur; split <;> (try split) <;> rfl
@[simp] theorem State.occur_net (s : State) (src arg target : Nat) : (s.occur src arg target).net = s.net := by
  unfold State.occur; split <;> (try split) <;> rfl
@[simp] theorem State.occur_links (s : State) (src arg target : Nat) : (s.occur src arg target).links = s.links := by
  unfold State.occur; split <;> (try split) <;> rfl
@[simp] theorem State.occur_cuts (s : State) (src arg target : Nat) : (s.occur src arg target).cuts = s.cuts := by
  unfold State.occur; split <;> (try split) <;> rfl
@[simp] theorem State.occur_twin (s : State) (src arg target : Nat) : (s.occur src arg target).twin = s.twin := by
  unfold State.occur; split <;> (try split) <;> rfl
@[simp] theorem State.occur_treadle (s : State) (src arg target : Nat) : (s.occur src arg target).treadle = s.treadle := by
  unfold State.occur; split <;> (try split) <;> rfl

/-! ## After a raised source (`State.raise`) -/

@[simp] theorem State.raise_pending (s : State) (src arg : Nat) : (s.raise src arg).pending = s.pending := by
  simp [State.raise, State.each]
@[simp] theorem State.raise_sent (s : State) (src arg : Nat) : (s.raise src arg).sent = s.sent := by
  simp [State.raise, State.each]
@[simp] theorem State.raise_fresh (s : State) (src arg : Nat) : (s.raise src arg).fresh = s.fresh := by
  simp [State.raise, State.each]
@[simp] theorem State.raise_clock (s : State) (src arg : Nat) : (s.raise src arg).clock = s.clock := by
  simp [State.raise, State.each]
@[simp] theorem State.raise_run (s : State) (src arg : Nat) : (s.raise src arg).run = s.run := by
  simp [State.raise, State.each]
@[simp] theorem State.raise_graph (s : State) (src arg : Nat) : (s.raise src arg).graph = s.graph := by
  simp [State.raise, State.each]
@[simp] theorem State.raise_fabric (s : State) (src arg : Nat) : (s.raise src arg).fabric = s.fabric := by
  simp [State.raise, State.each]
@[simp] theorem State.raise_agent (s : State) (src arg : Nat) : (s.raise src arg).agent = s.agent := by
  simp [State.raise, State.each]
@[simp] theorem State.raise_creel (s : State) (src arg : Nat) : (s.raise src arg).creel = s.creel := by
  simp [State.raise, State.each]
@[simp] theorem State.raise_governor (s : State) (src arg : Nat) : (s.raise src arg).governor = s.governor := by
  simp [State.raise, State.each]
@[simp] theorem State.raise_dbg (s : State) (src arg : Nat) : (s.raise src arg).dbg = s.dbg := by
  simp [State.raise, State.each]
@[simp] theorem State.raise_power (s : State) (src arg : Nat) : (s.raise src arg).power = s.power := by
  simp [State.raise, State.each]
@[simp] theorem State.raise_ref (s : State) (src arg : Nat) : (s.raise src arg).ref = s.ref := by
  simp [State.raise, State.each]
@[simp] theorem State.raise_io (s : State) (src arg : Nat) : (s.raise src arg).io = s.io := by
  simp [State.raise, State.each]
@[simp] theorem State.raise_net (s : State) (src arg : Nat) : (s.raise src arg).net = s.net := by
  simp [State.raise, State.each]
@[simp] theorem State.raise_links (s : State) (src arg : Nat) : (s.raise src arg).links = s.links := by
  simp [State.raise, State.each]
@[simp] theorem State.raise_cuts (s : State) (src arg : Nat) : (s.raise src arg).cuts = s.cuts := by
  simp [State.raise, State.each]
@[simp] theorem State.raise_twin (s : State) (src arg : Nat) : (s.raise src arg).twin = s.twin := by
  simp [State.raise, State.each]
@[simp] theorem State.raise_treadle (s : State) (src arg : Nat) : (s.raise src arg).treadle = s.treadle := by
  simp [State.raise, State.each]

/-! ## After a level that starts to stand (`State.rise`) -/

@[simp] theorem State.rise_pending (s : State) (src unit arg : Nat) : (s.rise src unit arg).pending = s.pending := by
  unfold State.rise; split
  · rfl
  · dsimp only; split
    · rfl
    · split <;> simp
@[simp] theorem State.rise_sent (s : State) (src unit arg : Nat) : (s.rise src unit arg).sent = s.sent := by
  unfold State.rise; split
  · rfl
  · dsimp only; split
    · rfl
    · split <;> simp
@[simp] theorem State.rise_fresh (s : State) (src unit arg : Nat) : (s.rise src unit arg).fresh = s.fresh := by
  unfold State.rise; split
  · rfl
  · dsimp only; split
    · rfl
    · split <;> simp
@[simp] theorem State.rise_clock (s : State) (src unit arg : Nat) : (s.rise src unit arg).clock = s.clock := by
  unfold State.rise; split
  · rfl
  · dsimp only; split
    · rfl
    · split <;> simp
@[simp] theorem State.rise_run (s : State) (src unit arg : Nat) : (s.rise src unit arg).run = s.run := by
  unfold State.rise; split
  · rfl
  · dsimp only; split
    · rfl
    · split <;> simp
@[simp] theorem State.rise_graph (s : State) (src unit arg : Nat) : (s.rise src unit arg).graph = s.graph := by
  unfold State.rise; split
  · rfl
  · dsimp only; split
    · rfl
    · split <;> simp
@[simp] theorem State.rise_fabric (s : State) (src unit arg : Nat) : (s.rise src unit arg).fabric = s.fabric := by
  unfold State.rise; split
  · rfl
  · dsimp only; split
    · rfl
    · split <;> simp
@[simp] theorem State.rise_agent (s : State) (src unit arg : Nat) : (s.rise src unit arg).agent = s.agent := by
  unfold State.rise; split
  · rfl
  · dsimp only; split
    · rfl
    · split <;> simp
@[simp] theorem State.rise_creel (s : State) (src unit arg : Nat) : (s.rise src unit arg).creel = s.creel := by
  unfold State.rise; split
  · rfl
  · dsimp only; split
    · rfl
    · split <;> simp
@[simp] theorem State.rise_governor (s : State) (src unit arg : Nat) : (s.rise src unit arg).governor = s.governor := by
  unfold State.rise; split
  · rfl
  · dsimp only; split
    · rfl
    · split <;> simp
@[simp] theorem State.rise_dbg (s : State) (src unit arg : Nat) : (s.rise src unit arg).dbg = s.dbg := by
  unfold State.rise; split
  · rfl
  · dsimp only; split
    · rfl
    · split <;> simp
@[simp] theorem State.rise_power (s : State) (src unit arg : Nat) : (s.rise src unit arg).power = s.power := by
  unfold State.rise; split
  · rfl
  · dsimp only; split
    · rfl
    · split <;> simp
@[simp] theorem State.rise_ref (s : State) (src unit arg : Nat) : (s.rise src unit arg).ref = s.ref := by
  unfold State.rise; split
  · rfl
  · dsimp only; split
    · rfl
    · split <;> simp
@[simp] theorem State.rise_io (s : State) (src unit arg : Nat) : (s.rise src unit arg).io = s.io := by
  unfold State.rise; split
  · rfl
  · dsimp only; split
    · rfl
    · split <;> simp
@[simp] theorem State.rise_net (s : State) (src unit arg : Nat) : (s.rise src unit arg).net = s.net := by
  unfold State.rise; split
  · rfl
  · dsimp only; split
    · rfl
    · split <;> simp
@[simp] theorem State.rise_links (s : State) (src unit arg : Nat) : (s.rise src unit arg).links = s.links := by
  unfold State.rise; split
  · rfl
  · dsimp only; split
    · rfl
    · split <;> simp
@[simp] theorem State.rise_cuts (s : State) (src unit arg : Nat) : (s.rise src unit arg).cuts = s.cuts := by
  unfold State.rise; split
  · rfl
  · dsimp only; split
    · rfl
    · split <;> simp
@[simp] theorem State.rise_twin (s : State) (src unit arg : Nat) : (s.rise src unit arg).twin = s.twin := by
  unfold State.rise; split
  · rfl
  · dsimp only; split
    · rfl
    · split <;> simp
@[simp] theorem State.rise_treadle (s : State) (src unit arg : Nat) : (s.rise src unit arg).treadle = s.treadle := by
  unfold State.rise; split
  · rfl
  · dsimp only; split
    · rfl
    · split <;> simp

/-! ## After a level that ends (`State.fall`) -/

@[simp] theorem State.fall_pending (s : State) (src unit : Nat) : (s.fall src unit).pending = s.pending := by
  unfold State.fall; split
  · rfl
  · dsimp only; split <;> rfl
@[simp] theorem State.fall_sent (s : State) (src unit : Nat) : (s.fall src unit).sent = s.sent := by
  unfold State.fall; split
  · rfl
  · dsimp only; split <;> rfl
@[simp] theorem State.fall_fresh (s : State) (src unit : Nat) : (s.fall src unit).fresh = s.fresh := by
  unfold State.fall; split
  · rfl
  · dsimp only; split <;> rfl
@[simp] theorem State.fall_clock (s : State) (src unit : Nat) : (s.fall src unit).clock = s.clock := by
  unfold State.fall; split
  · rfl
  · dsimp only; split <;> rfl
@[simp] theorem State.fall_dict (s : State) (src unit : Nat) : (s.fall src unit).dict = s.dict := by
  unfold State.fall; split
  · rfl
  · dsimp only; split <;> rfl
@[simp] theorem State.fall_run (s : State) (src unit : Nat) : (s.fall src unit).run = s.run := by
  unfold State.fall; split
  · rfl
  · dsimp only; split <;> rfl
@[simp] theorem State.fall_graph (s : State) (src unit : Nat) : (s.fall src unit).graph = s.graph := by
  unfold State.fall; split
  · rfl
  · dsimp only; split <;> rfl
@[simp] theorem State.fall_fabric (s : State) (src unit : Nat) : (s.fall src unit).fabric = s.fabric := by
  unfold State.fall; split
  · rfl
  · dsimp only; split <;> rfl
@[simp] theorem State.fall_agent (s : State) (src unit : Nat) : (s.fall src unit).agent = s.agent := by
  unfold State.fall; split
  · rfl
  · dsimp only; split <;> rfl
@[simp] theorem State.fall_creel (s : State) (src unit : Nat) : (s.fall src unit).creel = s.creel := by
  unfold State.fall; split
  · rfl
  · dsimp only; split <;> rfl
@[simp] theorem State.fall_governor (s : State) (src unit : Nat) : (s.fall src unit).governor = s.governor := by
  unfold State.fall; split
  · rfl
  · dsimp only; split <;> rfl
@[simp] theorem State.fall_dbg (s : State) (src unit : Nat) : (s.fall src unit).dbg = s.dbg := by
  unfold State.fall; split
  · rfl
  · dsimp only; split <;> rfl
@[simp] theorem State.fall_power (s : State) (src unit : Nat) : (s.fall src unit).power = s.power := by
  unfold State.fall; split
  · rfl
  · dsimp only; split <;> rfl
@[simp] theorem State.fall_ref (s : State) (src unit : Nat) : (s.fall src unit).ref = s.ref := by
  unfold State.fall; split
  · rfl
  · dsimp only; split <;> rfl
@[simp] theorem State.fall_io (s : State) (src unit : Nat) : (s.fall src unit).io = s.io := by
  unfold State.fall; split
  · rfl
  · dsimp only; split <;> rfl
@[simp] theorem State.fall_net (s : State) (src unit : Nat) : (s.fall src unit).net = s.net := by
  unfold State.fall; split
  · rfl
  · dsimp only; split <;> rfl
@[simp] theorem State.fall_links (s : State) (src unit : Nat) : (s.fall src unit).links = s.links := by
  unfold State.fall; split
  · rfl
  · dsimp only; split <;> rfl
@[simp] theorem State.fall_cuts (s : State) (src unit : Nat) : (s.fall src unit).cuts = s.cuts := by
  unfold State.fall; split
  · rfl
  · dsimp only; split <;> rfl
@[simp] theorem State.fall_twin (s : State) (src unit : Nat) : (s.fall src unit).twin = s.twin := by
  unfold State.fall; split
  · rfl
  · dsimp only; split <;> rfl
@[simp] theorem State.fall_treadle (s : State) (src unit : Nat) : (s.fall src unit).treadle = s.treadle := by
  unfold State.fall; split
  · rfl
  · dsimp only; split <;> rfl

/-! ## After a level (`State.level`) -/

@[simp] theorem State.level_pending (s : State) (src unit arg : Nat) (on : Bool) : (s.level src unit arg on).pending = s.pending := by
  unfold State.level; split <;> simp
@[simp] theorem State.level_sent (s : State) (src unit arg : Nat) (on : Bool) : (s.level src unit arg on).sent = s.sent := by
  unfold State.level; split <;> simp
@[simp] theorem State.level_fresh (s : State) (src unit arg : Nat) (on : Bool) : (s.level src unit arg on).fresh = s.fresh := by
  unfold State.level; split <;> simp
@[simp] theorem State.level_clock (s : State) (src unit arg : Nat) (on : Bool) : (s.level src unit arg on).clock = s.clock := by
  unfold State.level; split <;> simp
@[simp] theorem State.level_run (s : State) (src unit arg : Nat) (on : Bool) : (s.level src unit arg on).run = s.run := by
  unfold State.level; split <;> simp
@[simp] theorem State.level_graph (s : State) (src unit arg : Nat) (on : Bool) : (s.level src unit arg on).graph = s.graph := by
  unfold State.level; split <;> simp
@[simp] theorem State.level_fabric (s : State) (src unit arg : Nat) (on : Bool) : (s.level src unit arg on).fabric = s.fabric := by
  unfold State.level; split <;> simp
@[simp] theorem State.level_agent (s : State) (src unit arg : Nat) (on : Bool) : (s.level src unit arg on).agent = s.agent := by
  unfold State.level; split <;> simp
@[simp] theorem State.level_creel (s : State) (src unit arg : Nat) (on : Bool) : (s.level src unit arg on).creel = s.creel := by
  unfold State.level; split <;> simp
@[simp] theorem State.level_governor (s : State) (src unit arg : Nat) (on : Bool) : (s.level src unit arg on).governor = s.governor := by
  unfold State.level; split <;> simp
@[simp] theorem State.level_dbg (s : State) (src unit arg : Nat) (on : Bool) : (s.level src unit arg on).dbg = s.dbg := by
  unfold State.level; split <;> simp
@[simp] theorem State.level_power (s : State) (src unit arg : Nat) (on : Bool) : (s.level src unit arg on).power = s.power := by
  unfold State.level; split <;> simp
@[simp] theorem State.level_ref (s : State) (src unit arg : Nat) (on : Bool) : (s.level src unit arg on).ref = s.ref := by
  unfold State.level; split <;> simp
@[simp] theorem State.level_io (s : State) (src unit arg : Nat) (on : Bool) : (s.level src unit arg on).io = s.io := by
  unfold State.level; split <;> simp
@[simp] theorem State.level_net (s : State) (src unit arg : Nat) (on : Bool) : (s.level src unit arg on).net = s.net := by
  unfold State.level; split <;> simp
@[simp] theorem State.level_links (s : State) (src unit arg : Nat) (on : Bool) : (s.level src unit arg on).links = s.links := by
  unfold State.level; split <;> simp
@[simp] theorem State.level_cuts (s : State) (src unit arg : Nat) (on : Bool) : (s.level src unit arg on).cuts = s.cuts := by
  unfold State.level; split <;> simp
@[simp] theorem State.level_twin (s : State) (src unit arg : Nat) (on : Bool) : (s.level src unit arg on).twin = s.twin := by
  unfold State.level; split <;> simp
@[simp] theorem State.level_treadle (s : State) (src unit arg : Nat) (on : Bool) : (s.level src unit arg on).treadle = s.treadle := by
  unfold State.level; split <;> simp

/-! ## After a request of leave (`State.askLeave`) -/

@[simp] theorem State.askLeave_pending (s : State) (kind units owner : Nat) : (s.askLeave kind units owner).pending = s.pending := rfl
@[simp] theorem State.askLeave_sent (s : State) (kind units owner : Nat) : (s.askLeave kind units owner).sent = s.sent := rfl
@[simp] theorem State.askLeave_fresh (s : State) (kind units owner : Nat) : (s.askLeave kind units owner).fresh = s.fresh := rfl
@[simp] theorem State.askLeave_clock (s : State) (kind units owner : Nat) : (s.askLeave kind units owner).clock = s.clock := rfl
@[simp] theorem State.askLeave_run (s : State) (kind units owner : Nat) : (s.askLeave kind units owner).run = s.run := rfl
@[simp] theorem State.askLeave_graph (s : State) (kind units owner : Nat) : (s.askLeave kind units owner).graph = s.graph := rfl
@[simp] theorem State.askLeave_fabric (s : State) (kind units owner : Nat) : (s.askLeave kind units owner).fabric = s.fabric := rfl
@[simp] theorem State.askLeave_heddle (s : State) (kind units owner : Nat) : (s.askLeave kind units owner).heddle = s.heddle := rfl
@[simp] theorem State.askLeave_agent (s : State) (kind units owner : Nat) : (s.askLeave kind units owner).agent = s.agent := rfl
@[simp] theorem State.askLeave_creel (s : State) (kind units owner : Nat) : (s.askLeave kind units owner).creel = s.creel := rfl
@[simp] theorem State.askLeave_dbg (s : State) (kind units owner : Nat) : (s.askLeave kind units owner).dbg = s.dbg := rfl
@[simp] theorem State.askLeave_power (s : State) (kind units owner : Nat) : (s.askLeave kind units owner).power = s.power := rfl
@[simp] theorem State.askLeave_ref (s : State) (kind units owner : Nat) : (s.askLeave kind units owner).ref = s.ref := rfl
@[simp] theorem State.askLeave_io (s : State) (kind units owner : Nat) : (s.askLeave kind units owner).io = s.io := rfl
@[simp] theorem State.askLeave_net (s : State) (kind units owner : Nat) : (s.askLeave kind units owner).net = s.net := rfl
@[simp] theorem State.askLeave_links (s : State) (kind units owner : Nat) : (s.askLeave kind units owner).links = s.links := rfl
@[simp] theorem State.askLeave_cuts (s : State) (kind units owner : Nat) : (s.askLeave kind units owner).cuts = s.cuts := rfl
@[simp] theorem State.askLeave_twin (s : State) (kind units owner : Nat) : (s.askLeave kind units owner).twin = s.twin := rfl
@[simp] theorem State.askLeave_treadle (s : State) (kind units owner : Nat) : (s.askLeave kind units owner).treadle = s.treadle := rfl

/-! ## After a release of leave (`State.release`) -/

@[simp] theorem State.release_pending (s : State) (kind owner : Nat) : (s.release kind owner).pending = s.pending := rfl
@[simp] theorem State.release_sent (s : State) (kind owner : Nat) : (s.release kind owner).sent = s.sent := rfl
@[simp] theorem State.release_fresh (s : State) (kind owner : Nat) : (s.release kind owner).fresh = s.fresh := rfl
@[simp] theorem State.release_clock (s : State) (kind owner : Nat) : (s.release kind owner).clock = s.clock := rfl
@[simp] theorem State.release_run (s : State) (kind owner : Nat) : (s.release kind owner).run = s.run := rfl
@[simp] theorem State.release_graph (s : State) (kind owner : Nat) : (s.release kind owner).graph = s.graph := rfl
@[simp] theorem State.release_fabric (s : State) (kind owner : Nat) : (s.release kind owner).fabric = s.fabric := rfl
@[simp] theorem State.release_heddle (s : State) (kind owner : Nat) : (s.release kind owner).heddle = s.heddle := rfl
@[simp] theorem State.release_agent (s : State) (kind owner : Nat) : (s.release kind owner).agent = s.agent := rfl
@[simp] theorem State.release_creel (s : State) (kind owner : Nat) : (s.release kind owner).creel = s.creel := rfl
@[simp] theorem State.release_dbg (s : State) (kind owner : Nat) : (s.release kind owner).dbg = s.dbg := rfl
@[simp] theorem State.release_power (s : State) (kind owner : Nat) : (s.release kind owner).power = s.power := rfl
@[simp] theorem State.release_ref (s : State) (kind owner : Nat) : (s.release kind owner).ref = s.ref := rfl
@[simp] theorem State.release_io (s : State) (kind owner : Nat) : (s.release kind owner).io = s.io := rfl
@[simp] theorem State.release_net (s : State) (kind owner : Nat) : (s.release kind owner).net = s.net := rfl
@[simp] theorem State.release_links (s : State) (kind owner : Nat) : (s.release kind owner).links = s.links := rfl
@[simp] theorem State.release_cuts (s : State) (kind owner : Nat) : (s.release kind owner).cuts = s.cuts := rfl
@[simp] theorem State.release_twin (s : State) (kind owner : Nat) : (s.release kind owner).twin = s.twin := rfl
@[simp] theorem State.release_treadle (s : State) (kind owner : Nat) : (s.release kind owner).treadle = s.treadle := rfl

/-! ## After a mark of an unsaved write (`State.markSave`) -/

@[simp] theorem State.markSave_pending (s : State) : (s.markSave).pending = s.pending := by
  unfold State.markSave; dsimp only; split <;> rfl
@[simp] theorem State.markSave_sent (s : State) : (s.markSave).sent = s.sent := by
  unfold State.markSave; dsimp only; split <;> rfl
@[simp] theorem State.markSave_fresh (s : State) : (s.markSave).fresh = s.fresh := by
  unfold State.markSave; dsimp only; split <;> rfl
@[simp] theorem State.markSave_clock (s : State) : (s.markSave).clock = s.clock := by
  unfold State.markSave; dsimp only; split <;> rfl
@[simp] theorem State.markSave_run (s : State) : (s.markSave).run = s.run := by
  unfold State.markSave; dsimp only; split <;> rfl
@[simp] theorem State.markSave_graph (s : State) : (s.markSave).graph = s.graph := by
  unfold State.markSave; dsimp only; split <;> rfl
@[simp] theorem State.markSave_fabric (s : State) : (s.markSave).fabric = s.fabric := by
  unfold State.markSave; dsimp only; split <;> rfl
@[simp] theorem State.markSave_heddle (s : State) : (s.markSave).heddle = s.heddle := by
  unfold State.markSave; dsimp only; split <;> rfl
@[simp] theorem State.markSave_agent (s : State) : (s.markSave).agent = s.agent := by
  unfold State.markSave; dsimp only; split <;> rfl
@[simp] theorem State.markSave_creel (s : State) : (s.markSave).creel = s.creel := by
  unfold State.markSave; dsimp only; split <;> rfl
@[simp] theorem State.markSave_governor (s : State) : (s.markSave).governor = s.governor := by
  unfold State.markSave; dsimp only; split <;> rfl
@[simp] theorem State.markSave_dbg (s : State) : (s.markSave).dbg = s.dbg := by
  unfold State.markSave; dsimp only; split <;> rfl
@[simp] theorem State.markSave_ref (s : State) : (s.markSave).ref = s.ref := by
  unfold State.markSave; dsimp only; split <;> rfl
@[simp] theorem State.markSave_io (s : State) : (s.markSave).io = s.io := by
  unfold State.markSave; dsimp only; split <;> rfl
@[simp] theorem State.markSave_net (s : State) : (s.markSave).net = s.net := by
  unfold State.markSave; dsimp only; split <;> rfl
@[simp] theorem State.markSave_links (s : State) : (s.markSave).links = s.links := by
  unfold State.markSave; dsimp only; split <;> rfl
@[simp] theorem State.markSave_cuts (s : State) : (s.markSave).cuts = s.cuts := by
  unfold State.markSave; dsimp only; split <;> rfl
@[simp] theorem State.markSave_twin (s : State) : (s.markSave).twin = s.twin := by
  unfold State.markSave; dsimp only; split <;> rfl
@[simp] theorem State.markSave_treadle (s : State) : (s.markSave).treadle = s.treadle := by
  unfold State.markSave; dsimp only; split <;> rfl

/-! ## After a new action list (`State.setActions`) -/

@[simp] theorem State.setActions_pending (s : State) (as : List Action) : (s.setActions as).pending = s.pending := rfl
@[simp] theorem State.setActions_sent (s : State) (as : List Action) : (s.setActions as).sent = s.sent := rfl
@[simp] theorem State.setActions_fresh (s : State) (as : List Action) : (s.setActions as).fresh = s.fresh := rfl
@[simp] theorem State.setActions_clock (s : State) (as : List Action) : (s.setActions as).clock = s.clock := rfl
@[simp] theorem State.setActions_run (s : State) (as : List Action) : (s.setActions as).run = s.run := rfl
@[simp] theorem State.setActions_graph (s : State) (as : List Action) : (s.setActions as).graph = s.graph := rfl
@[simp] theorem State.setActions_fabric (s : State) (as : List Action) : (s.setActions as).fabric = s.fabric := rfl
@[simp] theorem State.setActions_heddle (s : State) (as : List Action) : (s.setActions as).heddle = s.heddle := rfl
@[simp] theorem State.setActions_creel (s : State) (as : List Action) : (s.setActions as).creel = s.creel := rfl
@[simp] theorem State.setActions_governor (s : State) (as : List Action) : (s.setActions as).governor = s.governor := rfl
@[simp] theorem State.setActions_dbg (s : State) (as : List Action) : (s.setActions as).dbg = s.dbg := rfl
@[simp] theorem State.setActions_power (s : State) (as : List Action) : (s.setActions as).power = s.power := rfl
@[simp] theorem State.setActions_ref (s : State) (as : List Action) : (s.setActions as).ref = s.ref := rfl
@[simp] theorem State.setActions_io (s : State) (as : List Action) : (s.setActions as).io = s.io := rfl
@[simp] theorem State.setActions_net (s : State) (as : List Action) : (s.setActions as).net = s.net := rfl
@[simp] theorem State.setActions_links (s : State) (as : List Action) : (s.setActions as).links = s.links := rfl
@[simp] theorem State.setActions_cuts (s : State) (as : List Action) : (s.setActions as).cuts = s.cuts := rfl
@[simp] theorem State.setActions_twin (s : State) (as : List Action) : (s.setActions as).twin = s.twin := rfl
@[simp] theorem State.setActions_treadle (s : State) (as : List Action) : (s.setActions as).treadle = s.treadle := rfl

/-! ## After an inserted action (`State.insert`) -/

@[simp] theorem State.insert_pending (s : State) (k : Nat) (v : Val) (sample late tag session : Nat) : (s.insert k v sample late tag session).pending = s.pending := rfl
@[simp] theorem State.insert_sent (s : State) (k : Nat) (v : Val) (sample late tag session : Nat) : (s.insert k v sample late tag session).sent = s.sent := rfl
@[simp] theorem State.insert_fresh (s : State) (k : Nat) (v : Val) (sample late tag session : Nat) : (s.insert k v sample late tag session).fresh = s.fresh := rfl
@[simp] theorem State.insert_clock (s : State) (k : Nat) (v : Val) (sample late tag session : Nat) : (s.insert k v sample late tag session).clock = s.clock := rfl
@[simp] theorem State.insert_run (s : State) (k : Nat) (v : Val) (sample late tag session : Nat) : (s.insert k v sample late tag session).run = s.run := rfl
@[simp] theorem State.insert_graph (s : State) (k : Nat) (v : Val) (sample late tag session : Nat) : (s.insert k v sample late tag session).graph = s.graph := rfl
@[simp] theorem State.insert_fabric (s : State) (k : Nat) (v : Val) (sample late tag session : Nat) : (s.insert k v sample late tag session).fabric = s.fabric := rfl
@[simp] theorem State.insert_heddle (s : State) (k : Nat) (v : Val) (sample late tag session : Nat) : (s.insert k v sample late tag session).heddle = s.heddle := rfl
@[simp] theorem State.insert_creel (s : State) (k : Nat) (v : Val) (sample late tag session : Nat) : (s.insert k v sample late tag session).creel = s.creel := rfl
@[simp] theorem State.insert_governor (s : State) (k : Nat) (v : Val) (sample late tag session : Nat) : (s.insert k v sample late tag session).governor = s.governor := rfl
@[simp] theorem State.insert_dbg (s : State) (k : Nat) (v : Val) (sample late tag session : Nat) : (s.insert k v sample late tag session).dbg = s.dbg := rfl
@[simp] theorem State.insert_power (s : State) (k : Nat) (v : Val) (sample late tag session : Nat) : (s.insert k v sample late tag session).power = s.power := rfl
@[simp] theorem State.insert_ref (s : State) (k : Nat) (v : Val) (sample late tag session : Nat) : (s.insert k v sample late tag session).ref = s.ref := rfl
@[simp] theorem State.insert_io (s : State) (k : Nat) (v : Val) (sample late tag session : Nat) : (s.insert k v sample late tag session).io = s.io := rfl
@[simp] theorem State.insert_net (s : State) (k : Nat) (v : Val) (sample late tag session : Nat) : (s.insert k v sample late tag session).net = s.net := rfl
@[simp] theorem State.insert_links (s : State) (k : Nat) (v : Val) (sample late tag session : Nat) : (s.insert k v sample late tag session).links = s.links := rfl
@[simp] theorem State.insert_cuts (s : State) (k : Nat) (v : Val) (sample late tag session : Nat) : (s.insert k v sample late tag session).cuts = s.cuts := rfl
@[simp] theorem State.insert_twin (s : State) (k : Nat) (v : Val) (sample late tag session : Nat) : (s.insert k v sample late tag session).twin = s.twin := rfl
@[simp] theorem State.insert_treadle (s : State) (k : Nat) (v : Val) (sample late tag session : Nat) : (s.insert k v sample late tag session).treadle = s.treadle := rfl

/-! ## After a direct write (`State.direct`) -/

@[simp] theorem State.direct_pending (s : State) (session k : Nat) (v : Val) (edited : Bool) : (s.direct session k v edited).pending = s.pending := rfl
@[simp] theorem State.direct_sent (s : State) (session k : Nat) (v : Val) (edited : Bool) : (s.direct session k v edited).sent = s.sent := rfl
@[simp] theorem State.direct_fresh (s : State) (session k : Nat) (v : Val) (edited : Bool) : (s.direct session k v edited).fresh = s.fresh := rfl
@[simp] theorem State.direct_clock (s : State) (session k : Nat) (v : Val) (edited : Bool) : (s.direct session k v edited).clock = s.clock := rfl
@[simp] theorem State.direct_dict (s : State) (session k : Nat) (v : Val) (edited : Bool) : (s.direct session k v edited).dict = s.dict := rfl
@[simp] theorem State.direct_run (s : State) (session k : Nat) (v : Val) (edited : Bool) : (s.direct session k v edited).run = s.run := rfl
@[simp] theorem State.direct_graph (s : State) (session k : Nat) (v : Val) (edited : Bool) : (s.direct session k v edited).graph = s.graph := rfl
@[simp] theorem State.direct_fabric (s : State) (session k : Nat) (v : Val) (edited : Bool) : (s.direct session k v edited).fabric = s.fabric := rfl
@[simp] theorem State.direct_heddle (s : State) (session k : Nat) (v : Val) (edited : Bool) : (s.direct session k v edited).heddle = s.heddle := rfl
@[simp] theorem State.direct_creel (s : State) (session k : Nat) (v : Val) (edited : Bool) : (s.direct session k v edited).creel = s.creel := rfl
@[simp] theorem State.direct_governor (s : State) (session k : Nat) (v : Val) (edited : Bool) : (s.direct session k v edited).governor = s.governor := rfl
@[simp] theorem State.direct_dbg (s : State) (session k : Nat) (v : Val) (edited : Bool) : (s.direct session k v edited).dbg = s.dbg := rfl
@[simp] theorem State.direct_power (s : State) (session k : Nat) (v : Val) (edited : Bool) : (s.direct session k v edited).power = s.power := rfl
@[simp] theorem State.direct_ref (s : State) (session k : Nat) (v : Val) (edited : Bool) : (s.direct session k v edited).ref = s.ref := rfl
@[simp] theorem State.direct_io (s : State) (session k : Nat) (v : Val) (edited : Bool) : (s.direct session k v edited).io = s.io := rfl
@[simp] theorem State.direct_net (s : State) (session k : Nat) (v : Val) (edited : Bool) : (s.direct session k v edited).net = s.net := rfl
@[simp] theorem State.direct_links (s : State) (session k : Nat) (v : Val) (edited : Bool) : (s.direct session k v edited).links = s.links := rfl
@[simp] theorem State.direct_cuts (s : State) (session k : Nat) (v : Val) (edited : Bool) : (s.direct session k v edited).cuts = s.cuts := rfl
@[simp] theorem State.direct_twin (s : State) (session k : Nat) (v : Val) (edited : Bool) : (s.direct session k v edited).twin = s.twin := rfl
@[simp] theorem State.direct_treadle (s : State) (session k : Nat) (v : Val) (edited : Bool) : (s.direct session k v edited).treadle = s.treadle := rfl

/-! ## After a level of EVT_N (`State.evtFrom`) -/

@[simp] theorem State.evtFrom_pending (s : State) (before : State) : (s.evtFrom before).pending = s.pending := by
  unfold State.evtFrom; split <;> rfl
@[simp] theorem State.evtFrom_fresh (s : State) (before : State) : (s.evtFrom before).fresh = s.fresh := by
  unfold State.evtFrom; split <;> rfl
@[simp] theorem State.evtFrom_clock (s : State) (before : State) : (s.evtFrom before).clock = s.clock := by
  unfold State.evtFrom; split <;> rfl
@[simp] theorem State.evtFrom_dict (s : State) (before : State) : (s.evtFrom before).dict = s.dict := by
  unfold State.evtFrom; split <;> rfl
@[simp] theorem State.evtFrom_run (s : State) (before : State) : (s.evtFrom before).run = s.run := by
  unfold State.evtFrom; split <;> rfl
@[simp] theorem State.evtFrom_graph (s : State) (before : State) : (s.evtFrom before).graph = s.graph := by
  unfold State.evtFrom; split <;> rfl
@[simp] theorem State.evtFrom_fabric (s : State) (before : State) : (s.evtFrom before).fabric = s.fabric := by
  unfold State.evtFrom; split <;> rfl
@[simp] theorem State.evtFrom_heddle (s : State) (before : State) : (s.evtFrom before).heddle = s.heddle := by
  unfold State.evtFrom; split <;> rfl
@[simp] theorem State.evtFrom_agent (s : State) (before : State) : (s.evtFrom before).agent = s.agent := by
  unfold State.evtFrom; split <;> rfl
@[simp] theorem State.evtFrom_creel (s : State) (before : State) : (s.evtFrom before).creel = s.creel := by
  unfold State.evtFrom; split <;> rfl
@[simp] theorem State.evtFrom_governor (s : State) (before : State) : (s.evtFrom before).governor = s.governor := by
  unfold State.evtFrom; split <;> rfl
@[simp] theorem State.evtFrom_dbg (s : State) (before : State) : (s.evtFrom before).dbg = s.dbg := by
  unfold State.evtFrom; split <;> rfl
@[simp] theorem State.evtFrom_power (s : State) (before : State) : (s.evtFrom before).power = s.power := by
  unfold State.evtFrom; split <;> rfl
@[simp] theorem State.evtFrom_ref (s : State) (before : State) : (s.evtFrom before).ref = s.ref := by
  unfold State.evtFrom; split <;> rfl
@[simp] theorem State.evtFrom_io (s : State) (before : State) : (s.evtFrom before).io = s.io := by
  unfold State.evtFrom; split <;> rfl
@[simp] theorem State.evtFrom_net (s : State) (before : State) : (s.evtFrom before).net = s.net := by
  unfold State.evtFrom; split <;> rfl
@[simp] theorem State.evtFrom_links (s : State) (before : State) : (s.evtFrom before).links = s.links := by
  unfold State.evtFrom; split <;> rfl
@[simp] theorem State.evtFrom_cuts (s : State) (before : State) : (s.evtFrom before).cuts = s.cuts := by
  unfold State.evtFrom; split <;> rfl
@[simp] theorem State.evtFrom_twin (s : State) (before : State) : (s.evtFrom before).twin = s.twin := by
  unfold State.evtFrom; split <;> rfl
@[simp] theorem State.evtFrom_treadle (s : State) (before : State) : (s.evtFrom before).treadle = s.treadle := by
  unfold State.evtFrom; split <;> rfl

/-! ## After the arrival of a command (`State.at_`) -/

@[simp] theorem State.at__pending (s : State) (t : Nat) : (s.at_ t).pending = s.pending := rfl
@[simp] theorem State.at__fresh (s : State) (t : Nat) : (s.at_ t).fresh = s.fresh := rfl
@[simp] theorem State.at__dict (s : State) (t : Nat) : (s.at_ t).dict = s.dict := rfl
@[simp] theorem State.at__run (s : State) (t : Nat) : (s.at_ t).run = s.run := rfl
@[simp] theorem State.at__graph (s : State) (t : Nat) : (s.at_ t).graph = s.graph := rfl
@[simp] theorem State.at__fabric (s : State) (t : Nat) : (s.at_ t).fabric = s.fabric := rfl
@[simp] theorem State.at__heddle (s : State) (t : Nat) : (s.at_ t).heddle = s.heddle := rfl
@[simp] theorem State.at__agent (s : State) (t : Nat) : (s.at_ t).agent = s.agent := rfl
@[simp] theorem State.at__creel (s : State) (t : Nat) : (s.at_ t).creel = s.creel := rfl
@[simp] theorem State.at__governor (s : State) (t : Nat) : (s.at_ t).governor = s.governor := rfl
@[simp] theorem State.at__dbg (s : State) (t : Nat) : (s.at_ t).dbg = s.dbg := rfl
@[simp] theorem State.at__power (s : State) (t : Nat) : (s.at_ t).power = s.power := rfl
@[simp] theorem State.at__ref (s : State) (t : Nat) : (s.at_ t).ref = s.ref := rfl
@[simp] theorem State.at__io (s : State) (t : Nat) : (s.at_ t).io = s.io := rfl
@[simp] theorem State.at__net (s : State) (t : Nat) : (s.at_ t).net = s.net := rfl
@[simp] theorem State.at__links (s : State) (t : Nat) : (s.at_ t).links = s.links := rfl
@[simp] theorem State.at__cuts (s : State) (t : Nat) : (s.at_ t).cuts = s.cuts := rfl
@[simp] theorem State.at__twin (s : State) (t : Nat) : (s.at_ t).twin = s.twin := rfl
@[simp] theorem State.at__treadle (s : State) (t : Nat) : (s.at_ t).treadle = s.treadle := rfl

/-! ## What the changed field holds -/

@[simp] theorem State.wr_dict (s : State) (k : Nat) (v : Int) : (s.wr k v).dict = putIn s.dict k (.num v) := rfl
@[simp] theorem State.wrV_dict (s : State) (k : Nat) (v : Val) : (s.wrV k v).dict = putIn s.dict k v := rfl
@[simp] theorem State.wrRun_run (s : State) (k : Nat) (v : Val) : (s.wrRun k v).run = putIn s.run k v := rfl
@[simp] theorem State.emit_sent (s : State) (e : Emit) : (s.emit e).sent = s.sent ++ [e] := rfl
@[simp] theorem State.at_now (s : State) (t : Nat) : (s.at_ t).clock.now = max s.clock.now t := rfl
@[simp] theorem State.at_pick (s : State) (t : Nat) : (s.at_ t).clock.pick = s.clock.pick := rfl
@[simp] theorem State.at_offset (s : State) (t : Nat) : (s.at_ t).clock.offset = s.clock.offset := rfl
@[simp] theorem State.at_sent (s : State) (t : Nat) : (s.at_ t).sent = [] := rfl
@[simp] theorem State.whenever_true (s : State) (f : State → State) : s.whenever true f = f s := rfl
@[simp] theorem State.whenever_false (s : State) (f : State → State) : s.whenever false f = s := rfl
@[simp] theorem State.each_nil {α : Type} (s : State) (f : State → α → State) : s.each [] f = s := rfl
@[simp] theorem State.each_cons {α : Type} (s : State) (x : α) (xs : List α) (f : State → α → State) :
    s.each (x :: xs) f = (f s x).each xs f := rfl

/-! ## Reads that follow from the fields alone -/

/-- A read of the dictionary sees the dictionary alone. -/
theorem State.rd_congr {s u : State} (h : s.dict = u.dict) (k : Nat) : s.rd k = u.rd k := by simp [State.rd, h]

/-- No leave of an owner is held after its release. -/
@[simp] theorem State.release_granted (s : State) (kind owner : Nat) : (s.release kind owner).granted kind owner = false := by
  show List.any (List.filter _ s.governor.grants) _ = false
  simp only [List.any_eq_false, List.mem_filter]
  intro r h
  have c := h.2
  simp only [Bool.not_eq_true', Bool.and_eq_false_iff] at c
  simp only [Bool.and_eq_true, not_and]
  intro a b
  rcases c with c | c
  · rw [a] at c; exact Bool.noConfusion c
  · rw [b] at c; exact Bool.noConfusion c

/-- No leave of an owner is asked for after its release. -/
@[simp] theorem State.release_asking (s : State) (kind owner : Nat) : (s.release kind owner).asking kind owner = false := by
  show List.any (List.filter _ s.governor.waiting) _ = false
  simp only [List.any_eq_false, List.mem_filter]
  intro r h
  have c := h.2
  simp only [Bool.not_eq_true', Bool.and_eq_false_iff] at c
  simp only [Bool.and_eq_true, not_and]
  intro a b
  rcases c with c | c
  · rw [a] at c; exact Bool.noConfusion c
  · rw [b] at c; exact Bool.noConfusion c

/-- Leave asked for is asked for. -/
@[simp] theorem State.askLeave_asking (s : State) (kind units owner : Nat) : (s.askLeave kind units owner).asking kind owner = true := by
  show List.any (s.governor.waiting ++ [_]) _ = true
  simp

end Machine
end Sys2Proof
end

