-- ==== Sys2Proof/Laws/KeptOps.lean ====
section
/-! SUPPORT. What the operations of Machine/Ops.lean leave alone: the queue, the creel's memory, local time and the pick counter. -/

namespace Sys2Proof
namespace Machine

/-! ## The part of the state that nearly every operation leaves alone -/

/-- The queue of commands, the creel's memory, local time and the pick counter. -/
def State.kept (s : State) : List Instr × List Host.Cell × Nat × Nat := (s.pending, s.creel.mem, s.clock.now, s.clock.pick)

@[simp] theorem kept_mk (p : List Instr) (se : List Emit) (fr : Nat) (cl : Clock) (d ru : Map Val) (g : Graph) (fa : Fabric)
    (h : Heddle) (ag : Agent) (cr : Creel) (go : Governor) (de : Debug) (po : Power) (re : Reference) (io : Ports) (ne : Net)
    (li : List Link) (cu : List CutStream) (tw : Twin) (td : Treadle) :
    (State.mk p se fr cl d ru g fa h ag cr go de po re io ne li cu tw td).kept = (p, cr.mem, cl.now, cl.pick) := rfl
@[simp] theorem kept_fold (s : State) : (s.pending, s.creel.mem, s.clock.now, s.clock.pick) = s.kept := rfl
@[simp] theorem ite_kept (c : Prop) [Decidable c] (a b : State) : (if c then a else b).kept = if c then a.kept else b.kept := by
  split <;> rfl
/-- Another dictionary leaves the rest. -/
theorem dict_kept (s : State) (d : Map Val) : ({ s with dict := d } : State).kept = s.kept := rfl
/-- A choice between two states keeps what both keep. -/
theorem ite_kept_of {c : Prop} [Decidable c] {a b : State} {k : List Instr × List Host.Cell × Nat × Nat} (ha : a.kept = k) (hb : b.kept = k) :
    (if c then a else b).kept = k := by split <;> assumption
/-- A state whose kept part is another's has that one's queue, memory, time and pick counter. -/
theorem kept_parts {s u : State} (h : u.kept = s.kept) :
    u.pending = s.pending ∧ u.creel.mem = s.creel.mem ∧ u.clock.now = s.clock.now ∧ u.clock.pick = s.clock.pick := by
  simp only [State.kept, Prod.mk.injEq] at h; exact h
@[simp] theorem foldl_kept {α : Type} (xs : List α) (f : State → α → State) (s : State)
    (h : ∀ s x, (f s x).kept = s.kept) : (xs.foldl f s).kept = s.kept := by
  induction xs generalizing s with
  | nil => rfl
  | cons x r ih => rw [List.foldl_cons, ih, h]
/-- A fold that carries a state beside something else keeps it when each turn does. -/
theorem foldl_fst_kept {α β : Type} (xs : List α) (f : State × β → α → State × β) (a : State × β)
    (h : ∀ a x, (f a x).1.kept = a.1.kept) : (xs.foldl f a).1.kept = a.1.kept := by
  induction xs generalizing a with
  | nil => rfl
  | cons x r ih => rw [List.foldl_cons, ih, h]
@[simp] theorem each_kept {α : Type} (xs : List α) (f : State → α → State) (s : State)
    (h : ∀ s x, (f s x).kept = s.kept) : (s.each xs f).kept = s.kept := foldl_kept xs f s h
@[simp] theorem whenever_kept (s : State) (c : Bool) (f : State → State)
    (h : (f s).kept = s.kept) : (s.whenever c f).kept = s.kept := by
  unfold State.whenever; split <;> simp [*]
theorem each_kept_of {α : Type} {xs : List α} {f : State → α → State} {s : State} {k : List Instr × List Host.Cell × Nat × Nat}
    (h : ∀ s x, (f s x).kept = s.kept) (h0 : s.kept = k) : (s.each xs f).kept = k := (each_kept xs f s h).trans h0
theorem foldl_kept_of {α : Type} {xs : List α} {f : State → α → State} {s : State} {k : List Instr × List Host.Cell × Nat × Nat}
    (h : ∀ s x, (f s x).kept = s.kept) (h0 : s.kept = k) : (xs.foldl f s).kept = k := (foldl_kept xs f s h).trans h0
theorem whenever_kept_of {s : State} {c : Bool} {f : State → State} {k : List Instr × List Host.Cell × Nat × Nat}
    (h : (f s).kept = k) (h0 : s.kept = k) : (s.whenever c f).kept = k := by unfold State.whenever; split <;> simp [*]
/-- The first part of a pair known by an equation keeps what the whole is known to keep. -/
theorem kept_of_eq {β : Type} {p : State × β} {a : State} {b : β} {s : State} (h : p.1.kept = s.kept) (e : p = (a, b)) :
    a.kept = s.kept := by subst e; exact h

/-! ## Operations -/

@[simp] theorem State.wrV_kept (s : State) (k : Nat) (v : Val) : (State.wrV s k v).kept = s.kept := by
  unfold State.wrV; simp

@[simp] theorem State.wr_kept (s : State) (k : Nat) (v : Int) : (State.wr s k v).kept = s.kept := by
  unfold State.wr; simp

@[simp] theorem State.bump_kept (s : State) (k : Nat) (n : Nat) : (State.bump s k n).kept = s.kept := by
  unfold State.bump; simp

@[simp] theorem State.bumpSat_kept (s : State) (k : Nat) (n : Nat) : (State.bumpSat s k n).kept = s.kept := by
  unfold State.bumpSat; simp

@[simp] theorem State.wrRun_kept (s : State) (k : Nat) (v : Val) : (State.wrRun s k v).kept = s.kept := by
  unfold State.wrRun; simp

@[simp] theorem State.foldSlew_kept (s : State) : (State.foldSlew s).kept = s.kept := by
  unfold State.foldSlew; simp

@[simp] theorem State.emit_kept (s : State) (e : Emit) : (State.emit s e).kept = s.kept := by
  unfold State.emit; simp

@[simp] theorem State.evtFrom_kept (s : State) (before : State) : (State.evtFrom s before).kept = s.kept := by
  unfold State.evtFrom; simp

@[simp] theorem State.draw_kept (s : State) : (State.draw s).2.kept = s.kept := by
  unfold State.draw; simp

@[simp] theorem State.occur_kept (s : State) (src : Nat) (arg : Nat) (target : Nat) :
    (State.occur s src arg target).kept = s.kept := by
  unfold State.occur; simp

@[simp] theorem State.raise_kept (s : State) (src : Nat) (arg : Nat) : (State.raise s src arg).kept = s.kept := by
  unfold State.raise; simp

@[simp] theorem State.rise_kept (s : State) (src : Nat) (unit : Nat) (arg : Nat) :
    (State.rise s src unit arg).kept = s.kept := by
  unfold State.rise; simp

@[simp] theorem State.fall_kept (s : State) (src : Nat) (unit : Nat) : (State.fall s src unit).kept = s.kept := by
  unfold State.fall; simp

@[simp] theorem State.level_kept (s : State) (src : Nat) (unit : Nat) (arg : Nat) (on : Bool) :
    (State.level s src unit arg on).kept = s.kept := by
  unfold State.level; simp

@[simp] theorem State.askLeave_kept (s : State) (kind : Nat) (units : Nat) (owner : Nat) :
    (State.askLeave s kind units owner).kept = s.kept := by
  unfold State.askLeave; simp

@[simp] theorem State.release_kept (s : State) (kind : Nat) (owner : Nat) : (State.release s kind owner).kept = s.kept := by
  unfold State.release; simp

@[simp] theorem State.markSave_kept (s : State) : (State.markSave s).kept = s.kept := by
  unfold State.markSave; simp

@[simp] theorem State.direct_kept (s : State) (session : Nat) (k : Nat) (v : Val) (edited : Bool) :
    (State.direct s session k v edited).kept = s.kept := by
  unfold State.direct; simp

@[simp] theorem State.setActions_kept (s : State) (as : List Action) : (State.setActions s as).kept = s.kept := by
  unfold State.setActions; simp

@[simp] theorem State.insert_kept (s : State) (k : Nat) (v : Val) (sample : Nat) (late : Nat) (tag : Nat) (session : Nat) :
    (State.insert s k v sample late tag session).kept = s.kept := by
  unfold State.insert; simp

@[simp] theorem State.issue_kept (s : State) (id : Nat) : (State.issue s id).kept = s.kept := by
  unfold State.issue; simp

@[simp] theorem State.flag_kept (s : State) (n : Nat) : (State.flag s n).kept = s.kept := by
  unfold State.flag; simp

end Machine
end Sys2Proof
end

