-- ==== Sys2Proof/Laws/KeptTransmit.lean ====
section
/-! SUPPORT. What the operations of Machine/Transmit.lean leave alone: the queue, the creel's memory, local time and the pick counter. -/

namespace Sys2Proof
namespace Machine

@[simp] theorem State.setMac_kept (s : State) (m : Nat) (f : Mac → Mac) : (State.setMac s m f).kept = s.kept := by
  unfold State.setMac; simp

@[simp] theorem State.stat_kept (s : State) (k : Nat) (m : Nat) (n : Nat) : (State.stat s k m n).kept = s.kept := by
  unfold State.stat; simp

@[simp] theorem State.statOctets_kept (s : State) (k : Nat) (m : Nat) (octets : Nat) :
    (State.statOctets s k m octets).kept = s.kept := by
  unfold State.statOctets; simp

@[simp] theorem State.countFrame_kept (s : State) (ok : Nat) (octets : Nat) (multi : Nat) (broad : Nat) (bin : Nat) (m : Nat) (frame : List Byte) :
    (State.countFrame s ok octets multi broad bin m frame).kept = s.kept := by
  unfold State.countFrame; simp

@[simp] theorem startFrame_kept (m : Nat) (s : State) (f : TxFrame) : (startFrame m s f).kept = s.kept := by
  unfold startFrame; split <;> simp

@[simp] theorem serveLine_kept (m n : Nat) (s : State) : (serveLine m n s).kept = s.kept := by
  induction n generalizing s with
  | zero => rfl
  | succ n ih => unfold serveLine; split <;> (try split) <;> simp [ih]

@[simp] theorem State.serveMac_kept (s : State) (m : Nat) : (State.serveMac s m).kept = s.kept := by
  unfold State.serveMac; simp

@[simp] theorem State.transmit_kept (s : State) (m : Nat) (f : TxFrame) : (State.transmit s m f).kept = s.kept := by
  unfold State.transmit; simp

@[simp] theorem State.send_kept (s : State) (m : Nat) (cls : Nat) (frame : List Byte) :
    (State.send s m cls frame).kept = s.kept := by
  unfold State.send; simp

@[simp] theorem State.sendPtp_kept (s : State) (m : Nat) (k : PtpTx) (fields : List Nat) :
    (State.sendPtp s m k fields).kept = s.kept := by
  unfold State.sendPtp; simp

end Machine
end Sys2Proof
end

