-- ==== Sys2Proof/Laws/KeptGovernor.lean ====
section
/-! SUPPORT. What the operations of Machine/Governor.lean leave alone: the queue, the creel's memory, local time and the pick counter. -/

namespace Sys2Proof
namespace Machine

@[simp] theorem monSample_kept (m : Nat) (v : Int) (s : State) : (monSample m v s).kept = s.kept := by
  unfold monSample; simp

@[simp] theorem monReset_kept (m : Nat) (s : State) : (monReset m s).kept = s.kept := by
  unfold monReset; simp

@[simp] theorem clearOutputCounts_kept (s : State) : (clearOutputCounts s).kept = s.kept := by
  unfold clearOutputCounts; simp

@[simp] theorem refuse_kept (s : State) (r : Request) : (refuse s r).kept = s.kept := by
  unfold refuse; simp

@[simp] theorem grant_kept (s : State) (r : Request) : (grant s r).kept = s.kept := by
  unfold grant; simp

@[simp] theorem grantInOrder_kept (s : State) (rs : List Request) : (grantInOrder s rs).kept = s.kept := by
  induction rs generalizing s with
  | nil => rfl
  | cons r rest ih => unfold grantInOrder; (repeat' split) <;> simp [ih]

@[simp] theorem commandVout_kept (s : State) (mv : Nat) : (commandVout s mv).kept = s.kept := by
  unfold commandVout; simp

@[simp] theorem startSteps_kept (s : State) : (startSteps s).kept = s.kept := by
  unfold startSteps; split <;> simp

@[simp] theorem recordDraw_kept (s : State) : (recordDraw s).kept = s.kept := by
  unfold recordDraw; simp

@[simp] theorem judgeDraw_kept (s : State) : (judgeDraw s).kept = s.kept := by
  unfold judgeDraw; simp

@[simp] theorem refuseWaiting_kept (s : State) : (refuseWaiting s).kept = s.kept := by
  unfold refuseWaiting; simp

@[simp] theorem showLeave_kept (s : State) : (showLeave s).kept = s.kept := by
  unfold showLeave; simp

@[simp] theorem governorBatten_kept (s : State) : (governorBatten s).1.kept = s.kept := by
  unfold governorBatten; dsimp only; (repeat' split) <;> simp

@[simp] theorem askStep_kept (s : State) : (askStep s).kept = s.kept := by
  unfold askStep; simp

@[simp] theorem pmbusFailed_kept (s : State) : (pmbusFailed s).kept = s.kept := by
  unfold pmbusFailed; simp

@[simp] theorem pmbusGood_kept (s : State) : (pmbusGood s).kept = s.kept := by
  unfold pmbusGood; simp

@[simp] theorem stepEnds_kept (s : State) (mv : Nat) : (stepEnds s mv).kept = s.kept := by
  unfold stepEnds; simp

@[simp] theorem readSensors_kept (xs : List Int) (s : State) : (readSensors xs s).kept = s.kept := by
  unfold readSensors; simp

end Machine
end Sys2Proof
end

