-- ==== Sys2Proof/Laws/KeptHeddle.lean ====
section
/-! SUPPORT. What the operations of Machine/Heddle.lean leave alone: the queue, the creel's memory, local time and the pick counter. -/

namespace Sys2Proof
namespace Machine

@[simp] theorem State.putBobbin_kept (s : State) (target : Nat) (b : List Record) :
    (State.putBobbin s target b).kept = s.kept := by
  unfold State.putBobbin; simp

@[simp] theorem withdraw_kept (s : State) (src : Nat) : (withdraw s src).kept = s.kept := by
  unfold withdraw; simp

@[simp] theorem riseFor_kept (src : Nat) (arg : Nat) (s : State) (target : Nat) : (riseFor src arg s target).kept = s.kept := by
  unfold riseFor; simp

@[simp] theorem clearFor_kept (src : Nat) (arg : Nat) (s : State) (target : Nat) :
    (clearFor src arg s target).kept = s.kept := by
  unfold clearFor; simp

@[simp] theorem enterFiltered_kept (s : State) : (enterFiltered s).kept = s.kept := by
  unfold enterFiltered; simp

@[simp] theorem enterLatch_kept (s : State) : (enterLatch s).kept = s.kept := by
  unfold enterLatch; simp

@[simp] theorem resetBobbins_kept (s : State) : (resetBobbins s).kept = s.kept := by
  unfold resetBobbins; simp

end Machine
end Sys2Proof
end

