-- ==== Sys2Proof/Laws/KeptCreel.lean ====
section
/-! SUPPORT. What the operations of Machine/Creel.lean leave alone: the queue, the creel's memory, local time and the pick counter. -/

namespace Sys2Proof
namespace Machine

@[simp] theorem writeBootCtrl_kept (m : Master) (v : Nat) (s : State) : (writeBootCtrl m v s).1.kept = s.kept := by
  unfold writeBootCtrl; (repeat' split) <;> simp

@[simp] theorem writeSeg_kept (m : Master) (reg : Master) (v : Nat) (s : State) : (writeSeg m reg v s).1.kept = s.kept := by
  unfold writeSeg; split <;> simp

@[simp] theorem creelError_kept (s : State) : (creelError s).1.kept = s.kept := by
  unfold creelError; simp

@[simp] theorem writeImageLen_kept (v : Nat) (s : State) : (writeImageLen v s).kept = s.kept := by
  unfold writeImageLen; simp

@[simp] theorem breakLock_kept (s : State) (target : Nat) (m : Master) : (breakLock s target m).kept = s.kept := by
  unfold breakLock; simp

@[simp] theorem followLock_kept (s : State) (m : Master) (target : Nat) (op : CreelOp) :
    (followLock s m target op).kept = s.kept := by
  unfold followLock; split <;> simp

@[simp] theorem bridgeErr_kept (code : Nat) (s : State) : (bridgeErr code s).kept = s.kept := by
  unfold bridgeErr; simp

end Machine
end Sys2Proof
end

