-- ==== Sys2Proof/Laws/KeptReference.lean ====
section
/-! SUPPORT. What the operations of Machine/Reference.lean leave alone: the queue, the creel's memory, local time and the pick counter. -/

namespace Sys2Proof
namespace Machine

@[simp] theorem State.setCand_kept (s : State) (k : Nat) (f : Cand → Cand) : (State.setCand s k f).kept = s.kept := by
  unfold State.setCand; simp

@[simp] theorem State.setCandState_kept (s : State) (k : Nat) (st : Nat) : (State.setCandState s k st).kept = s.kept := by
  unfold State.setCandState; simp

@[simp] theorem showStates_kept (s : State) : (showStates s).kept = s.kept := by
  unfold showStates
  extract_lets st s1 s2 k r1 s3 a r2 s4 d
  have h1 : s1.kept = s.kept := by simp [s1]
  clear_value s1
  have h2 : s2.kept = s.kept := by
    refine each_kept_of (fun u x => ?_) h1
    split <;> simp
  clear_value s2
  have h3 : s3.kept = s.kept := by simp only [s3]; (repeat' split) <;> simp [h2]
  clear_value s3
  have h4 : s4.kept = s.kept := by simp [s4, h3]
  clear_value s4
  exact each_kept_of (fun u x => by simp) h4

@[simp] theorem showReference_kept (s : State) : (showReference s).kept = s.kept := by
  unfold showReference
  extract_lets s1 code
  have h1 : s1.kept = s.kept := by simp [s1]
  clear_value s1
  split <;> simp [h1]

@[simp] theorem auxClear_kept (s : State) (n : Nat) : (auxClear s n).kept = s.kept := by
  unfold auxClear; simp

@[simp] theorem auxAcquire_kept (s : State) (n : Nat) : (auxAcquire s n).kept = s.kept := by
  unfold auxAcquire; simp

@[simp] theorem auxLost_kept (s : State) (k : Nat) : (auxLost s k).kept = s.kept := by
  unfold auxLost; simp

@[simp] theorem auxReturns_kept (s : State) (k : Nat) : (auxReturns s k).kept = s.kept := by
  unfold auxReturns; simp

@[simp] theorem auxSource_kept (s : State) (k : Nat) : (auxSource s k).kept = s.kept := by
  unfold auxSource; simp

@[simp] theorem enterCand_kept (s : State) (k : Nat) (st : Nat) : (enterCand s k st).kept = s.kept := by
  unfold enterCand; simp

@[simp] theorem updateSuccessor_kept (s : State) : (updateSuccessor s).kept = s.kept := by
  unfold updateSuccessor; simp

@[simp] theorem decideOn_kept (s : State) (k : Nat) : (decideOn s k).kept = s.kept := by
  unfold decideOn; simp

@[simp] theorem select_kept (s : State) : (select s).kept = s.kept := by
  unfold select; dsimp only; (repeat' split) <;> simp

@[simp] theorem measureSlot_kept (yard : Int) (s : State) (k : Nat) : (measureSlot yard s k).kept = s.kept := by
  unfold measureSlot; simp

@[simp] theorem qualify_kept (s : State) (k : Nat) (requal : Bool) : (qualify s k requal).kept = s.kept := by
  unfold qualify; simp

@[simp] theorem disqualify_kept (s : State) (k : Nat) (ev : Nat) : (disqualify s k ev).kept = s.kept := by
  unfold disqualify; simp

@[simp] theorem judge_kept (s : State) (k : Nat) : (judge s k).kept = s.kept := by
  unfold judge; simp

@[simp] theorem disagree_kept (s : State) (a : Nat) (b : Nat) : (disagree s a b).kept = s.kept := by
  unfold disagree; dsimp only; (repeat' split) <;> simp

@[simp] theorem followDisagree_kept (s : State) : (followDisagree s).kept = s.kept := by
  unfold followDisagree; simp

@[simp] theorem judgePairs_kept (s : State) : (judgePairs s).kept = s.kept := by
  unfold judgePairs; simp

@[simp] theorem concludeAssessment_kept (s : State) : (concludeAssessment s).kept = s.kept := by
  unfold concludeAssessment; simp

@[simp] theorem assessReference_kept (freq : List (Nat × Int)) (tracked : List Nat) (s : State) :
    (assessReference freq tracked s).kept = s.kept := by
  unfold assessReference; simp

@[simp] theorem slewOut_kept (s : State) (off : Int) : (slewOut s off).kept = s.kept := by
  unfold slewOut; simp

@[simp] theorem removeOffset_kept (s : State) (off : Int) : (removeOffset s off).kept = s.kept := by
  unfold removeOffset; simp

@[simp] theorem setControl_kept (s : State) (v : Int) : (setControl s v).kept = s.kept := by
  unfold setControl; simp

@[simp] theorem recordControl_kept (s : State) (v : Int) : (recordControl s v).kept = s.kept := by
  unfold recordControl; simp

@[simp] theorem assessControl_kept (measured : Int) (spError : Int) (s : State) :
    (assessControl measured spError s).kept = s.kept := by
  unfold assessControl; simp

@[simp] theorem assessSpindles_kept (s : State) : (assessSpindles s).kept = s.kept := by
  unfold assessSpindles
  refine each_kept _ _ _ (fun s i => ?_)
  dsimp only
  split <;> simp

@[simp] theorem returnVoted_kept (s : State) (k : Nat) : (returnVoted s k).kept = s.kept := by
  unfold returnVoted; simp

@[simp] theorem endDisagree_kept (a : Nat) (b : Nat) (s : State) : (endDisagree a b s).kept = s.kept := by
  unfold endDisagree; simp

@[simp] theorem candLost_kept (s : State) (k : Nat) : (candLost s k).kept = s.kept := by
  unfold candLost; simp

@[simp] theorem sourceLost_kept (s : State) (type : Nat) (unit : Nat) : (sourceLost s type unit).kept = s.kept := by
  unfold sourceLost; simp

@[simp] theorem beginSteer_kept (s : State) : (beginSteer s).kept = s.kept := by
  unfold beginSteer; simp

@[simp] theorem switchTo_kept (s : State) (k : Nat) (offset : Int) : (switchTo s k offset).kept = s.kept := by
  unfold switchTo; simp

@[simp] theorem candWritten_kept (s : State) (k : Nat) : (candWritten s k).kept = s.kept := by
  unfold candWritten; simp

end Machine
end Sys2Proof
end

