-- ==== Sys2Proof/Laws/KeptSpindles.lean ====
section
/-! SUPPORT. What the operations of Machine/Spindles.lean leave alone: the queue, the creel's memory, local time and the pick counter. -/

namespace Sys2Proof
namespace Machine

@[simp] theorem spWritten_kept (s : State) (n : Nat) : (spWritten s n).kept = s.kept := by
  unfold spWritten; simp

@[simp] theorem State.setAlign_kept (s : State) (k : Nat) (f : Align → Align) : (State.setAlign s k f).kept = s.kept := by
  unfold State.setAlign; simp

@[simp] theorem followEdges_kept (s : State) : (followEdges s).kept = s.kept := by
  unfold followEdges; simp

@[simp] theorem foldEdges_kept (s : State) : (foldEdges s).kept = s.kept := by
  unfold foldEdges; simp

@[simp] theorem showEdges_kept (s : State) (k : Nat) : (showEdges s k).kept = s.kept := by
  unfold showEdges; simp

@[simp] theorem jumpEdge_kept (s : State) (k : Nat) : (jumpEdge s k).kept = s.kept := by
  unfold jumpEdge; simp

@[simp] theorem alignJump_kept (s : State) (k : Nat) : (alignJump s k).kept = s.kept := by
  unfold alignJump; simp

@[simp] theorem correctEdge_kept (s : State) (k : Nat) : (correctEdge s k).kept = s.kept := by
  unfold correctEdge; simp

@[simp] theorem alignCheck_kept (s : State) (k : Nat) : (alignCheck s k).kept = s.kept := by
  unfold alignCheck; simp

@[simp] theorem alignWritten_kept (s : State) (k : Nat) : (alignWritten s k).kept = s.kept := by
  unfold alignWritten; simp

@[simp] theorem outputStarts_kept (s : State) (k : Nat) : (outputStarts s k).kept = s.kept := by
  unfold outputStarts; simp

@[simp] theorem outputsOn_kept (s : State) (n : Nat) : (outputsOn s n).kept = s.kept := by
  unfold outputsOn; simp

@[simp] theorem ptpDecide_kept (s : State) (mac : Nat) (silent : Bool) : (ptpDecide s mac silent).kept = s.kept := by
  unfold ptpDecide; simp

@[simp] theorem ptpDecideAll_kept (s : State) : (ptpDecideAll s).kept = s.kept := by
  unfold ptpDecideAll; simp

@[simp] theorem ptpQualities_kept (s : State) (mac : Nat) (domain : Nat) : (ptpQualities s mac domain).kept = s.kept := by
  unfold ptpQualities; repeat' (first | (simp; done) | (refine each_kept_of ?_ ?_ <;> (try intro _ _)) | (refine foldl_kept_of ?_ ?_ <;> (try intro _ _)) | (refine whenever_kept_of ?_ ?_) | split)

@[simp] theorem ptpSlotWritten_kept (s : State) (k : Nat) : (ptpSlotWritten s k).kept = s.kept := by
  unfold ptpSlotWritten; simp

@[simp] theorem touchForeign_kept (s : State) (mac : Nat) (domain : Nat) (sender : Nat) (f : Foreign → Foreign) :
    (touchForeign s mac domain sender f).kept = s.kept := by
  unfold touchForeign; simp

@[simp] theorem gmDomainWritten_kept (s : State) (n : Nat) (old : Nat) : (gmDomainWritten s n old).kept = s.kept := by
  unfold gmDomainWritten; simp

end Machine
end Sys2Proof
end

