-- ==== Sys2Proof/Laws/KeptPorts.lean ====
section
/-! SUPPORT. What the operations of Machine/Ports.lean leave alone: the queue, the creel's memory, local time and the pick counter. -/

namespace Sys2Proof
namespace Machine

@[simp] theorem State.setPort_kept (s : State) (p : Nat) (f : Port → Port) : (State.setPort s p f).kept = s.kept := by
  unfold State.setPort; simp

@[simp] theorem showNominal_kept (s : State) (p : Nat) (n : Nat) : (showNominal s p n).kept = s.kept := by
  unfold showNominal; simp

@[simp] theorem State.setPortState_kept (s : State) (p : Nat) (v : Nat) : (State.setPortState s p v).kept = s.kept := by
  unfold State.setPortState; simp

@[simp] theorem measurePort_kept (p : Nat) (s : State) : (measurePort p s).kept = s.kept := by
  unfold measurePort; simp

@[simp] theorem takeGrouping_kept (s : State) : (takeGrouping s).kept = s.kept := by
  unfold takeGrouping; simp

@[simp] theorem State.setWg_kept (s : State) (g : Nat) (x : Group) : (State.setWg s g x).kept = s.kept := by
  unfold State.setWg; simp

@[simp] theorem fixPhase_kept (s : State) (kind : Nat) (unit : Nat) (ns : Nat) : (fixPhase s kind unit ns).kept = s.kept := by
  unfold fixPhase; split <;> simp

@[simp] theorem noteMargin_kept (s : State) (g : Nat) (m : Nat) (ns : Nat) : (noteMargin s g m ns).kept = s.kept := by
  unfold noteMargin; simp

@[simp] theorem State.await_kept (s : State) (a : Arrival) : (State.await s a).kept = s.kept := by
  unfold State.await; simp

@[simp] theorem State.setLast_kept (s : State) (src : Nat) (v : Int) : (State.setLast s src v).kept = s.kept := by
  unfold State.setLast; simp

@[simp] theorem State.warpPut_kept (s : State) (src : Nat) (sample : Nat) (v : Int) (degraded : Bool) :
    (State.warpPut s src sample v degraded).kept = s.kept := by
  unfold State.warpPut; simp

@[simp] theorem State.rawPut_kept (s : State) (src : Nat) (v : Int) : (State.rawPut s src v).kept = s.kept := by
  unfold State.rawPut; simp

@[simp] theorem twoStepMute_kept (s : State) (p : Nat) : (twoStepMute s p).kept = s.kept := by
  unfold twoStepMute; repeat' (first | (simp; done) | (refine each_kept_of ?_ ?_ <;> (try intro _ _)) | (refine foldl_kept_of ?_ ?_ <;> (try intro _ _)) | (refine whenever_kept_of ?_ ?_) | split)

@[simp] theorem setAsrc_kept (s : State) (c : Nat) (st : Nat) : (setAsrc s c st).kept = s.kept := by
  unfold setAsrc; simp

@[simp] theorem muteAsrc_kept (s : State) (c : Nat) : (muteAsrc s c).kept = s.kept := by
  unfold muteAsrc; simp

@[simp] theorem wakeAsrc_kept (s : State) (c : Nat) : (wakeAsrc s c).kept = s.kept := by
  unfold wakeAsrc; simp

@[simp] theorem trackAsrc_kept (s : State) (c : Nat) : (trackAsrc s c).kept = s.kept := by
  unfold trackAsrc; simp

@[simp] theorem clockFault_kept (s : State) (p : Nat) (cause : Nat) : (clockFault s p cause).kept = s.kept := by
  unfold clockFault; dsimp only; (repeat' split) <;> simp

@[simp] theorem slip_kept (s : State) (p : Nat) : (slip s p).kept = s.kept := by
  unfold slip; simp

@[simp] theorem mark_kept (p : Nat) (s : State) (c : Nat) : (mark p s c).kept = s.kept := by
  unfold mark; simp

@[simp] theorem portNonaudioClear_kept (p : Nat) (ch : Nat) (s : State) : (portNonaudioClear p ch s).kept = s.kept := by
  unfold portNonaudioClear; simp

@[simp] theorem frameChannel_kept (p : Nat) (sample : Nat) (f : PortFrame) (bad : List Nat) (s : State) (w : Nat × Nat) :
    (frameChannel p sample f bad s w).kept = s.kept := by
  unfold frameChannel; dsimp only; (repeat' split) <;> simp

@[simp] theorem frameSeen_kept (p : Nat) (f : PortFrame) (s : State) : (frameSeen p f s).1.kept = s.kept := by
  unfold frameSeen; simp

@[simp] theorem goodPortFrame_kept (p : Nat) (f : PortFrame) (accepted : List (Nat × List Byte)) (s : State) :
    (goodPortFrame p f accepted s).kept = s.kept := by
  unfold goodPortFrame; dsimp only; (repeat' split) <;> simp

@[simp] theorem concealPort_kept (s : State) (p : Nat) : (concealPort s p).kept = s.kept := by
  unfold concealPort; simp

@[simp] theorem readPorts_kept (s : State) : (readPorts s).kept = s.kept := by
  unfold readPorts; simp

@[simp] theorem stopInput_kept (s : State) (p : Nat) : (stopInput s p).kept = s.kept := by
  unfold stopInput; dsimp only; (repeat' split) <;> simp
@[simp] theorem tdmWritten_kept (s : State) (p : Nat) : (tdmWritten s p).kept = s.kept := by
  unfold tdmWritten; simp

@[simp] theorem maskWritten_kept (s : State) (p : Nat) (old : Nat) (new : Nat) : (maskWritten s p old new).kept = s.kept := by
  unfold maskWritten; simp

@[simp] theorem readPresent_kept (g : Nat) (sample : Nat) (m : Nat) (mine : List Arrival) (s : State) :
    (readPresent g sample m mine s).kept = s.kept := by
  unfold readPresent; simp

@[simp] theorem readMissing_kept (g : Nat) (sample : Nat) (m : Nat × Nat) (s : State) :
    (readMissing g sample m s).kept = s.kept := by
  unfold readMissing; simp

@[simp] theorem readMuted_kept (g : Nat) (sample : Nat) (first : Nat) (m : Nat × Nat) (s : State) :
    (readMuted g sample first m s).kept = s.kept := by
  unfold readMuted; simp

@[simp] theorem readMember_kept (g : Nat) (sample : Nat) (mute : Bool) (s : State) (m : Nat × Nat) :
    (readMember g sample mute s m).kept = s.kept := by
  unfold readMember; simp

@[simp] theorem readGroup_kept (sample : Nat) (s : State) (g : Nat) : (readGroup sample s g).kept = s.kept := by
  unfold readGroup; simp

@[simp] theorem readGroups_kept (s : State) : (readGroups s).kept = s.kept := by
  unfold readGroups; simp

end Machine
end Sys2Proof
end

