-- ==== Sys2Proof/Laws/KeptNetwork.lean ====
section
/-! SUPPORT. What the operations of Machine/Network.lean leave alone: the queue, the creel's memory, local time and the pick counter. -/

namespace Sys2Proof
namespace Machine

@[simp] theorem showStats_kept (s : State) : (showStats s).kept = s.kept := by
  unfold showStats; simp

@[simp] theorem sendReport_kept (m : Nat) (s : State) (g : Nat × List Nat) : (sendReport m s g).kept = s.kept := by
  unfold sendReport; simp

@[simp] theorem sendLeave_kept (m : Nat) (s : State) (g : Nat) : (sendLeave m s g).kept = s.kept := by
  unfold sendLeave; simp

@[simp] theorem sendReports_kept (s : State) (m : Nat) : (sendReports s m).kept = s.kept := by
  unfold sendReports; simp

@[simp] theorem addressWritten_kept (s : State) (m : Nat) : (addressWritten s m).kept = s.kept := by
  unfold addressWritten; simp

@[simp] theorem macDown_kept (s : State) (m : Nat) : (macDown s m).kept = s.kept := by
  unfold macDown; simp

@[simp] theorem sendPause_kept (s : State) (m : Nat) (quanta : Nat) : (sendPause s m quanta).kept = s.kept := by
  unfold sendPause; simp

@[simp] theorem intoBuffer_kept (s : State) (m : Nat) (cls : Nat) (octets : Nat) :
    (intoBuffer s m cls octets).1.kept = s.kept := by
  unfold intoBuffer; dsimp only; (repeat' split) <;> simp

@[simp] theorem showStreams_kept (s : State) : (showStreams s).kept = s.kept := by
  unfold showStreams
  exact each_kept_of (fun u x => by simp only [State.wr_kept]) (by simp only [State.wr_kept])

@[simp] theorem State.setRx_kept (s : State) (n : Nat) (f : RxStream → RxStream) : (State.setRx s n f).kept = s.kept := by
  unfold State.setRx; simp

@[simp] theorem rxMute_kept (s : State) (n : Nat) : (rxMute s n).kept = s.kept := by
  unfold rxMute; simp

@[simp] theorem restartRx_kept (s : State) (n : Nat) : (restartRx s n).kept = s.kept := by
  unfold restartRx; simp

@[simp] theorem rxCopy_kept (s : State) (n : Nat) (leg : Nat) (r : Rtp) : (rxCopy s n leg r).kept = s.kept := by
  unfold rxCopy
  extract_lets per k first x seen d late skew s1 note s2 p high s3 s4 s5 s6
  clear_value seen
  have h1 : s1.kept = s.kept := by simp only [s1, skew]; (repeat' split) <;> simp
  clear_value s1
  have hn : ∀ u, (note u).kept = u.kept := by intro u; simp [note]
  clear_value note p high
  have h2 : s2.kept = s.kept := by simp [s2, h1, hn]
  clear_value s2
  have h3 : s3.kept = s.kept := by simp [s3, h1]
  clear_value s3
  have h4 : s4.kept = s.kept := by simp [s4, h3]
  clear_value s4
  have h5 : s5.kept = s.kept := by simp only [s5]; (repeat' split) <;> simp [h4]
  clear_value s5
  have h6 : s6.kept = s.kept := by simp only [s6]; split <;> simp [h5]
  clear_value s6 d late x
  (repeat' split) <;> simp [h1, h2, h6]

@[simp] theorem rxMarks_kept (s : State) (n : Nat) (r : Rtp) : (rxMarks s n r).kept = s.kept := by
  unfold rxMarks; repeat' (first | (simp; done) | (refine each_kept_of ?_ ?_ <;> (try intro _ _)) | (refine foldl_kept_of ?_ ?_ <;> (try intro _ _)) | (refine whenever_kept_of ?_ ?_) | split)

@[simp] theorem rxPacket_kept (s : State) (n : Nat) (leg : Nat) (b : List Byte) : (rxPacket s n leg b).kept = s.kept := by
  unfold rxPacket; simp

@[simp] theorem putStream_kept (group : Option (Nat × Nat)) (direct : Bool) (src : Nat) (pos : Nat) (y : Int) (bare : Int) (flags : Int) (degraded : Bool) (s : State) :
    (putStream group direct src pos y bare flags degraded s).kept = s.kept := by
  unfold putStream; split <;> simp

@[simp] theorem readStream_kept (n : Nat) (s : State) (pos : Nat) : (readStream n s pos).kept = s.kept := by
  unfold readStream
  extract_lets now direct group x per both clear fade gain all less
  clear_value direct group fade clear
  split
  · extract_lets s0 s1 s2 s3 s4
    have h0 : s0.kept = s.kept := each_kept _ _ _ (fun u c => by simp)
    clear_value s0
    have h1 : s1.kept = s.kept := by simp [s1, h0]
    clear_value s1
    have h2 : s2.kept = s.kept := ite_kept_of (by simp [h1]) h1
    clear_value s2
    have h3 : s3.kept = s.kept := by simp [s3, h2]
    clear_value s3
    have h4 : s4.kept = s.kept := ite_kept_of (by simp [h3]) h3
    clear_value s4
    (repeat' split) <;> simp [h2, h4]
  · split
    · rfl
    · extract_lets base lost s1 s2 s3 s4
      have h1 : s1.kept = s.kept := ite_kept_of (by simp) rfl
      clear_value s1
      have h2 : s2.kept = s.kept := by
        refine ite_kept_of h1 (each_kept_of (fun u c => ?_) h1)
        split <;> simp
      clear_value s2
      have h3 : s3.kept = s.kept := ite_kept_of h2 (by simp [h2])
      clear_value s3
      have h4 : s4.kept = s.kept := ite_kept_of h3 (by simp [h3])
      clear_value s4
      simp [h4]

@[simp] theorem readStreams_kept (s : State) : (readStreams s).kept = s.kept := by
  unfold readStreams; simp

@[simp] theorem txPut_kept (s : State) (dest : Nat) (pos : Nat) (v : Int) (degraded : Bool) :
    (txPut s dest pos v degraded).kept = s.kept := by
  unfold txPut; simp

@[simp] theorem sendLeg_kept (n : Nat) (p : List Byte × Nat × Nat) (due : Nat) (s : State) (leg : Nat) :
    (sendLeg n p due s leg).kept = s.kept := by
  unfold sendLeg; dsimp only; (repeat' split) <;> simp

@[simp] theorem hold_kept (s : State) (m : Nat) (ns : Nat) : (hold s m ns).kept = s.kept := by
  unfold hold; simp

@[simp] theorem pauseRx_kept (s : State) (m : Nat) (body : List Byte) : (pauseRx s m body).kept = s.kept := by
  unfold pauseRx; simp

@[simp] theorem arpRx_kept (s : State) (m : Nat) (b : List Byte) : (arpRx s m b).kept = s.kept := by
  unfold arpRx; simp

@[simp] theorem icmpRx_kept (s : State) (m : Nat) (station : Nat) (src : Nat) (b : List Byte) :
    (icmpRx s m station src b).kept = s.kept := by
  unfold icmpRx; simp

@[simp] theorem igmpRx_kept (s : State) (m : Nat) (b : List Byte) : (igmpRx s m b).kept = s.kept := by
  unfold igmpRx; simp

@[simp] theorem classed_kept (s : State) (m cls octets : Nat) (f : State → State) (h : ∀ x : State, (f x).kept = x.kept) :
    (classed s m cls octets f).kept = s.kept := by
  unfold classed
  split
  rename_i u kept e
  have hk := kept_of_eq (intoBuffer_kept s m cls octets) e
  split <;> simp [h, hk]

@[simp] theorem ipRx_kept (s : State) (m : Nat) (e : Ether) (octets : Nat) : (ipRx s m e octets).kept = s.kept := by
  unfold ipRx; dsimp only; (repeat' split) <;> simp

@[simp] theorem goodFrame_kept (s : State) (m : Nat) (f : List Byte) : (goodFrame s m f).kept = s.kept := by
  unfold goodFrame; simp

@[simp] theorem frameRx_kept (m : Nat) (f : EthFrame) (s : State) : (frameRx m f s).kept = s.kept := by
  unfold frameRx; simp

@[simp] theorem drainBuffers_kept (s : State) : (drainBuffers s).kept = s.kept := by
  unfold drainBuffers; simp

@[simp] theorem assessStream_kept (s : State) (n : Nat) : (assessStream s n).kept = s.kept := by
  unfold assessStream; simp

end Machine
end Sys2Proof
end

