-- ==== Sys2Proof/Laws/KeptSwiska.lean ====
section
/-! SUPPORT. What the operations of Machine/Swiska.lean leave alone: the queue, the creel's memory, local time and the pick counter. -/

namespace Sys2Proof
namespace Machine

@[simp] theorem State.setLink_kept (s : State) (p : Nat) (f : Link → Link) : (State.setLink s p f).kept = s.kept := by
  unfold State.setLink; simp

@[simp] theorem State.setLane_kept (s : State) (p : Nat) (l : Nat) (f : Lane → Lane) :
    (State.setLane s p l f).kept = s.kept := by
  unfold State.setLane; simp

@[simp] theorem State.setSw_kept (s : State) (p : Nat) (v : Nat) : (State.setSw s p v).kept = s.kept := by
  unfold State.setSw; simp

@[simp] theorem startBlock_kept (p : Nat) (s : State) (e : Nat × Nat × BitVec 1024) : (startBlock p s e).kept = s.kept := by
  unfold startBlock; simp

@[simp] theorem servePort_kept (p n : Nat) (s : State) : (servePort p n s).kept = s.kept := by
  induction n generalizing s with
  | zero => rfl
  | succ n ih => unfold servePort; split <;> (try split) <;> simp [ih]

@[simp] theorem State.serveSwiska_kept (s : State) (p : Nat) : (State.serveSwiska s p).kept = s.kept := by
  unfold State.serveSwiska; simp

@[simp] theorem State.sendBlock_kept (s : State) (p : Nat) (prio : Nat) (b : BitVec 1024) :
    (State.sendBlock s p prio b).kept = s.kept := by
  unfold State.sendBlock; simp

@[simp] theorem badBlock_kept (s : State) (p : Nat) : (badBlock s p).kept = s.kept := by
  unfold badBlock; simp

@[simp] theorem setTaps_kept (s : State) (p : Nat) (l : Nat) (c : List Nat) : (setTaps s p l c).kept = s.kept := by
  unfold setTaps; simp

@[simp] theorem swStart_kept (s : State) (p : Nat) : (swStart s p).kept = s.kept := by
  unfold swStart; simp

@[simp] theorem swStop_kept (s : State) (p : Nat) : (swStop s p).kept = s.kept := by
  unfold swStop; simp

@[simp] theorem swGranted_kept (s : State) (p : Nat) : (swGranted s p).kept = s.kept := by
  unfold swGranted; simp

@[simp] theorem swRefused_kept (s : State) (p : Nat) : (swRefused s p).kept = s.kept := by
  unfold swRefused; simp

@[simp] theorem swAskAgain_kept (s : State) (p : Nat) : (swAskAgain s p).kept = s.kept := by
  unfold swAskAgain; simp

@[simp] theorem stepFails_kept (s : State) (p : Nat) : (stepFails s p).kept = s.kept := by
  unfold stepFails; simp

@[simp] theorem sendTraining_kept (s : State) (p : Nat) (l : Nat) (loop : Nat) : (sendTraining s p l loop).kept = s.kept := by
  unfold sendTraining; simp

@[simp] theorem newRequest_kept (s : State) (p : Nat) (l : Nat) : (newRequest s p l).kept = s.kept := by
  unfold newRequest; simp

@[simp] theorem linkDown_kept (s : State) (p : Nat) : (linkDown s p).kept = s.kept := by
  unfold linkDown; simp

@[simp] theorem answerRequests_kept (s : State) (p : Nat) (b : BitVec 1024) : (answerRequests s p b).kept = s.kept := by
  unfold answerRequests; simp

@[simp] theorem firstTraining_kept (s : State) (p : Nat) (b : BitVec 1024) : (firstTraining s p b).kept = s.kept := by
  unfold firstTraining; simp

@[simp] theorem loopField_kept (s : State) (p : Nat) (b : BitVec 1024) : (loopField s p b).kept = s.kept := by
  unfold loopField; simp

@[simp] theorem idleDue_kept (s : State) (p : Nat) : (idleDue s p).kept = s.kept := by
  unfold idleDue; simp

@[simp] theorem sendPatterns_kept (s : State) (p : Nat) : (sendPatterns s p).kept = s.kept := by
  unfold sendPatterns; simp

@[simp] theorem enterTrained_kept (s : State) (p : Nat) : (enterTrained s p).kept = s.kept := by
  unfold enterTrained; simp

@[simp] theorem markerMeasure_kept (s : State) (p : Nat) (b : BitVec 1024) : (markerMeasure s p b).kept = s.kept := by
  unfold markerMeasure; dsimp only; (repeat' split) <;> simp

@[simp] theorem fecReport_kept (s : State) (p : Nat) (corrected : Nat) (failed : Nat) :
    (fecReport s p corrected failed).kept = s.kept := by
  unfold fecReport; simp

@[simp] theorem State.setCuts_kept (s : State) (m : Nat) (f : CutStream → CutStream) : (State.setCuts s m f).kept = s.kept := by
  unfold State.setCuts; simp

@[simp] theorem cutMute_kept (s : State) (m : Nat) : (cutMute s m).kept = s.kept := by
  unfold cutMute; simp

@[simp] theorem keepCut_kept (s : State) (p : Nat) (m : Nat) (b : BitVec 1024) : (keepCut s p m b).kept = s.kept := by
  unfold keepCut; dsimp only; (repeat' split) <;> simp

@[simp] theorem readCutAt_kept (s : State) (m : Nat) (pos : Nat) : (readCutAt s m pos).kept = s.kept := by
  unfold readCutAt
  extract_lets x chans group here fade all missing own gains gain put s1 s2 s3 s4 s5 rest s6 s7
  clear_value group
  have hp : ∀ u src y d, (put u src y d).kept = u.kept := by intro u src y d; simp only [put]; split <;> simp
  clear_value put
  have h1 : s1.kept = s.kept := by
    refine each_kept _ _ _ (fun u c => each_kept _ _ _ (fun u v => ?_))
    split <;> simp [hp]
  clear_value s1
  have h2 : s2.kept = s.kept := by
    simp only [s2]
    split
    · exact h1
    · refine each_kept_of (fun u c => ?_) h1
      split <;> simp [hp]
  clear_value s2
  have h3 : s3.kept = s.kept := by simp [s3, h2]
  clear_value s3
  have h4 : s4.kept = s.kept := by simp only [s4]; split <;> simp [h3]
  clear_value s4
  have h5 : s5.kept = s.kept := by simp [s5, h4]
  clear_value s5
  have h6 : s6.kept = s.kept := by simp [s6, h5]
  clear_value s6
  have h7 : s7.kept = s.kept := by simp only [s7]; split <;> simp [h6]
  clear_value s7
  split <;> simp [h7]

@[simp] theorem readCuts_kept (s : State) (pick : Nat) : (readCuts s pick).kept = s.kept := by
  unfold readCuts; simp

@[simp] theorem readGroupCuts_kept (s : State) : (readGroupCuts s).kept = s.kept := by
  unfold readGroupCuts; simp

@[simp] theorem restartCuts_kept (s : State) (m : Nat) : (restartCuts s m).kept = s.kept := by
  unfold restartCuts; simp

@[simp] theorem sendCuts_kept (s : State) (m : Nat) (seq : Nat) (value : Nat → Int × Bool) :
    (sendCuts s m seq value).kept = s.kept := by
  unfold sendCuts; simp

@[simp] theorem showLoads_kept (s : State) : (showLoads s).kept = s.kept := by
  unfold showLoads
  exact each_kept_of (fun u x => by simp only [State.wr_kept]) rfl

@[simp] theorem loomWritten_kept (s : State) : (loomWritten s).kept = s.kept := by
  unfold loomWritten; simp

@[simp] theorem joinPart_kept (s : State) (p : Nat) (seg : Nat) (bytes : List Byte) :
    (joinPart s p seg bytes).kept = s.kept := by
  unfold joinPart; simp

@[simp] theorem enableWritten_kept (s : State) (p : Nat) : (enableWritten s p).kept = s.kept := by
  unfold enableWritten; simp

@[simp] theorem loopbackWritten_kept (s : State) (p : Nat) (old : Nat) : (loopbackWritten s p old).kept = s.kept := by
  unfold loopbackWritten; dsimp only; (repeat' split) <;> simp

@[simp] theorem retrainWritten_kept (s : State) (p : Nat) : (retrainWritten s p).kept = s.kept := by
  unfold retrainWritten; simp

end Machine
end Sys2Proof
end

