-- ==== Sys2Proof/Laws/KeptGraph.lean ====
section
/-! SUPPORT. What the operations of Machine/Graph.lean leave alone: the queue, the creel's memory, local time and the pick counter. -/

namespace Sys2Proof
namespace Machine

@[simp] theorem showPlanLoad_kept (s : State) : (showPlanLoad s).kept = s.kept := by
  unfold showPlanLoad; simp

@[simp] theorem showStores_kept (s : State) : (showStores s).kept = s.kept := by
  unfold showStores; simp

@[simp] theorem showTier_kept (s : State) (i : Nat) : (showTier s i).kept = s.kept := by
  unfold showTier; simp

end Machine
end Sys2Proof
end

