-- ==== Sys2Proof/Laws/KeptObjects.lean ====
section
/-! SUPPORT. What the operations of Machine/Objects.lean leave alone: the queue, the creel's memory, local time and the pick counter. -/

namespace Sys2Proof
namespace Machine

@[simp] theorem State.rampBy_kept (s : State) (law : Nat) (key : Nat) (sample : Nat) (len : Nat) (from_ : Int) (to_ : Int) :
    (State.rampBy s law key sample len from_ to_).kept = s.kept := by
  unfold State.rampBy; simp

@[simp] theorem State.startRamp_kept (s : State) (key : Nat) (sample : Nat) (len : Nat) (from_ : Int) (to_ : Int) :
    (State.startRamp s key sample len from_ to_).kept = s.kept := by
  unfold State.startRamp; simp

@[simp] theorem State.startFade_kept (s : State) (unit : Nat) (tap : Bool) (sample : Nat) (len : Nat) (law : Nat) (most : Nat) (now : Nat) (new : Nat) :
    (State.startFade s unit tap sample len law most now new).1.kept = s.kept := by
  unfold State.startFade; dsimp only; (repeat' split) <;> simp

@[simp] theorem State.putBlock_kept (s : State) (b : Block) : (State.putBlock s b).kept = s.kept := by
  unfold State.putBlock; simp

@[simp] theorem State.setWork_kept (s : State) (e : Nat) (w : Work) : (State.setWork s e w).kept = s.kept := by
  unfold State.setWork; simp

@[simp] theorem State.putWork_kept (s : State) (w : Work) : (State.putWork s w).kept = s.kept := by
  unfold State.putWork; simp

@[simp] theorem State.setOut_kept (s : State) (o : OutState) : (State.setOut s o).kept = s.kept := by
  unfold State.setOut; simp

@[simp] theorem State.putPin_kept (s : State) (id : Nat) (pick : Nat) (x : List Int) (degraded : Bool) :
    (State.putPin s id pick x degraded).kept = s.kept := by
  unfold State.putPin; simp

@[simp] theorem State.holdPin_kept (s : State) (pick : Nat) (moved : Bool) (id : Nat) :
    (State.holdPin s pick moved id).kept = s.kept := by
  unfold State.holdPin; dsimp only; (repeat' split) <;> simp

@[simp] theorem State.markMoved_kept (s : State) (ids : List Nat) : (State.markMoved s ids).kept = s.kept := by
  unfold State.markMoved; simp

@[simp] theorem State.upset_kept (s : State) (src : Nat) (k : Nat) : (State.upset s src k).kept = s.kept := by
  unfold State.upset; simp

@[simp] theorem State.upsets_kept (s : State) (m : Map Val) (e : Nat) (pick : Nat) (positions : List Nat) :
    (State.upsets s m e pick positions).kept = s.kept := by
  unfold State.upsets; simp

@[simp] theorem State.computeInst_kept (s : State) (i : Nat) (w : Work) : (State.computeInst s i w).kept = s.kept := by
  unfold State.computeInst
  extract_lets m pick w1 type lag w2 xs inputs r w3 outs read degraded s1 s2 s3 s4 sats s5 w4 s6
  have h1 : s1.kept = s.kept := by simp [s1]
  clear_value s1
  have h2 : s2.kept = s.kept := ite_kept_of (by simp [h1]) h1
  clear_value s2
  have h3 : s3.kept = s.kept := ite_kept_of (by simp [h2]) h2
  clear_value s3
  have h4 : s4.kept = s.kept := ite_kept_of (by simp [h3]) h3
  clear_value s4
  have h5 : s5.kept = s.kept := ite_kept_of h4 (by simp [h4])
  clear_value s5
  have h6 : s6.kept = s.kept := by simp [s6, h5]
  clear_value s6
  split <;> simp [h6]

@[simp] theorem State.computeBus_kept (s : State) (b : Nat) (w : Work) : (State.computeBus s b w).kept = s.kept := by
  unfold State.computeBus; simp

@[simp] theorem State.finishAt_kept (s : State) (sh : Nat) (deadline : Nat) : (State.finishAt s sh deadline).kept = s.kept := by
  unfold State.finishAt; simp

@[simp] theorem State.parityMet_kept (s : State) (tier : Nat) (n : Nat) : (State.parityMet s tier n).kept = s.kept := by
  unfold State.parityMet; simp

@[simp] theorem State.coefLost_kept (s : State) (i : Nat) (w : Work) : (State.coefLost s i w).kept = s.kept := by
  unfold State.coefLost; simp

@[simp] theorem State.computeTask_kept (s : State) (i : Nat) (w : Work) : (State.computeTask s i w).kept = s.kept := by
  unfold State.computeTask; repeat' (first | (simp; done) | (refine each_kept_of ?_ ?_ <;> (try intro _ _)) | (refine foldl_kept_of ?_ ?_ <;> (try intro _ _)) | (refine whenever_kept_of ?_ ?_) | split)

end Machine
end Sys2Proof
end

