-- ==== Sys2Proof/Laws/KeptWeave.lean ====
section
/-! SUPPORT. What the operations of Machine/Weave.lean leave alone: the queue, the creel's memory, local time and the pick counter. -/

namespace Sys2Proof
namespace Machine

@[simp] theorem edited_kept (s : State) : (edited s).kept = s.kept := by
  unfold edited; simp

@[simp] theorem noteLive_kept (s : State) (k : Nat) (v : Val) : (noteLive s k v).kept = s.kept := by
  unfold noteLive; simp

@[simp] theorem setRunAt_kept (s : State) (key : Nat) (k : Nat) (v : Val) : (setRunAt s key k v).kept = s.kept := by
  unfold setRunAt; simp

@[simp] theorem moveGain_kept (s : State) (key : Nat) (k : Nat) (len : Nat) (old : Int) (new : Int) (flips : Bool) :
    (moveGain s key k len old new flips).kept = s.kept := by
  unfold moveGain; simp

@[simp] theorem trimSet_kept (s : State) (i : Nat) (p : Nat) (k : Nat) (v : Val) : (trimSet s i p k v).kept = s.kept := by
  unfold trimSet; simp

@[simp] theorem selvSet_kept (s : State) (key : Nat) (k : Nat) (v : Val) : (selvSet s key k v).kept = s.kept := by
  unfold selvSet; simp

@[simp] theorem setLoud_kept (s : State) (l : Loud) : (setLoud s l).kept = s.kept := by
  unfold setLoud; simp

@[simp] theorem loudnessRun_kept (s : State) (i : Nat) (k : Nat) (v : Val) : (loudnessRun s i k v).kept = s.kept := by
  unfold loudnessRun; simp

@[simp] theorem paramSet_kept (s : State) (i : Nat) (p : Nat) (k : Nat) (v : Val) : (paramSet s i p k v).kept = s.kept := by
  unfold paramSet; dsimp only; (repeat' split) <;> simp

@[simp] theorem routeSet_kept (s : State) (key : Nat) (n : Nat) (k : Nat) (v : Val) : (routeSet s key n k v).kept = s.kept := by
  unfold routeSet; split <;> simp

@[simp] theorem gainsTaken_kept (s : State) (key : Nat) : (gainsTaken s key).kept = s.kept := by
  unfold gainsTaken; simp

@[simp] theorem editSet_kept (s : State) (key : Nat) (v : Val) : (editSet s key v).kept = s.kept := by
  unfold editSet
  split
  · simp
  · split
    · exact (dict_kept _ _).trans (by simp)
    · rw [gainsTaken_kept, State.wrV_kept]

@[simp] theorem liveSet_kept (s : State) (key : Nat) (k : Nat) (v : Val) : (liveSet s key k v).kept = s.kept := by
  unfold liveSet; simp

@[simp] theorem startLoad_kept (s : State) (i : Nat) : (startLoad s i).kept = s.kept := by
  unfold startLoad; simp

@[simp] theorem preload_kept (s : State) (i : Nat) : (preload s i).kept = s.kept := by
  unfold preload; simp

@[simp] theorem stagedWritten_kept (s : State) (i : Nat) : (stagedWritten s i).kept = s.kept := by
  unfold stagedWritten; simp

@[simp] theorem loadRefused_kept (s : State) (i : Nat) : (loadRefused s i).kept = s.kept := by
  unfold loadRefused; simp

@[simp] theorem loadsGranted_kept (s : State) : (loadsGranted s).kept = s.kept := by
  unfold loadsGranted; simp

@[simp] theorem showTwills_kept (s : State) : (showTwills s).kept = s.kept := by
  unfold showTwills; simp

@[simp] theorem countActed_kept (s : State) (a : Action) : (countActed s a).kept = s.kept := by
  unfold countActed; simp

@[simp] theorem countLate_kept (s : State) (a : Action) : (countLate s a).kept = s.kept := by
  unfold countLate; simp

@[simp] theorem startTwill_kept (s : State) (i : Nat) (ms : Nat) (k : Nat) (a : Action) :
    (startTwill s i ms k a).kept = s.kept := by
  unfold startTwill; simp

@[simp] theorem twillDue_kept (s : State) (a : Action) (k : Nat) : (twillDue s a k).kept = s.kept := by
  unfold twillDue; simp

@[simp] theorem startWaiting_kept (s : State) (k : Nat) : (startWaiting s k).kept = s.kept := by
  unfold startWaiting; simp

@[simp] theorem takeStaged_kept (s : State) (i : Nat) : (takeStaged s i).kept = s.kept := by
  unfold takeStaged; simp

@[simp] theorem endTwill_kept (s : State) (i : Nat) : (endTwill s i).kept = s.kept := by
  unfold endTwill; simp

@[simp] theorem markEnded_kept (s : State) (f : Fade) : (markEnded s f).kept = s.kept := by
  unfold markEnded; simp

@[simp] theorem applyDeferred_kept (s : State) (f : Fade) (len : Nat) (law : Nat) :
    (applyDeferred s f len law).kept = s.kept := by
  unfold applyDeferred; split <;> simp

@[simp] theorem rampEnds_kept (s : State) (key : Nat) (k : Nat) : (rampEnds s key k).kept = s.kept := by
  unfold rampEnds; simp

@[simp] theorem graphRefused_kept (s : State) (e : Nat × Nat × Nat) : (graphRefused s e).kept = s.kept := by
  unfold graphRefused; simp

@[simp] theorem fadeRoutes_kept (s : State) (old : Map Val) (new : Map Val) (k : Nat) :
    (fadeRoutes s old new k).kept = s.kept := by
  unfold fadeRoutes; simp

@[simp] theorem fadeBus_kept (old : Map Val) (new : Map Val) (k : Nat) (s : State) (b : Nat) :
    (fadeBus old new k s b).kept = s.kept := by
  unfold fadeBus; repeat' (first | (simp; done) | (refine each_kept_of ?_ ?_ <;> (try intro _ _)) | (refine foldl_kept_of ?_ ?_ <;> (try intro _ _)) | (refine whenever_kept_of ?_ ?_) | split)

@[simp] theorem putShift_kept (s : State) (dest : Nat) (old : Nat) (k : Nat) (len : Nat) (law : Nat) :
    (putShift s dest old k len law).kept = s.kept := by
  unfold putShift; simp

@[simp] theorem shiftOutputs_kept (s : State) (p : Plan) (old : Map Val) (new : Map Val) (k : Nat) :
    (shiftOutputs s p old new k).kept = s.kept := by
  unfold shiftOutputs; repeat' (first | (simp; done) | (refine each_kept_of ?_ ?_ <;> (try intro _ _)) | (refine foldl_kept_of ?_ ?_ <;> (try intro _ _)) | (refine whenever_kept_of ?_ ?_) | split)

@[simp] theorem assignAsrc_kept (s : State) (new : Map Val) : (assignAsrc s new).kept = s.kept := by
  unfold assignAsrc; repeat' (first | (simp; done) | (refine each_kept_of ?_ ?_ <;> (try intro _ _)) | (refine foldl_kept_of ?_ ?_ <;> (try intro _ _)) | (refine whenever_kept_of ?_ ?_) | split)

@[simp] theorem showPlan_kept (s : State) : (showPlan s).kept = s.kept := by
  unfold showPlan; simp

@[simp] theorem switchPlan_kept (s : State) (p : Plan) : (switchPlan s p).kept = s.kept := by
  unfold switchPlan; simp

@[simp] theorem readInst_kept (n : Nat) (s : State) (e : Nat × Nat) : (readInst n s e).kept = s.kept := by
  unfold readInst; dsimp only; (repeat' split) <;> simp

@[simp] theorem readAll_kept (s : State) (n : Nat) : (readAll s n).kept = s.kept := by
  unfold readAll; simp

end Machine
end Sys2Proof
end

