-- ==== Sys2Proof/Laws/KeptPlacement.lean ====
section
/-! SUPPORT. What the operations of Machine/Placement.lean leave alone: the queue, the creel's memory, local time and the pick counter. -/

namespace Sys2Proof
namespace Machine

@[simp] theorem showBudgets_kept (s : State) : (showBudgets s).kept = s.kept := by
  unfold showBudgets
  simp only [State.wr_kept]
  exact each_kept_of (fun u x => by simp only [State.wr_kept]) rfl

@[simp] theorem setHarness_kept (s : State) (h : Nat) (st : Nat) : (setHarness s h st).kept = s.kept := by
  unfold setHarness; simp

@[simp] theorem showReserve_kept (s : State) : (showReserve s).kept = s.kept := by
  unfold showReserve; simp

@[simp] theorem relocate_kept (s : State) (i : Nat) (dst : Nat) (items : List Holding) :
    (relocate s i dst items).1.kept = s.kept := by
  unfold relocate; simp

@[simp] theorem showMoves_kept (s : State) : (showMoves s).kept = s.kept := by
  unfold showMoves; simp

@[simp] theorem setMove_kept (s : State) (m : Move) (n : Move) : (setMove s m n).kept = s.kept := by
  unfold setMove; simp

@[simp] theorem takeOut_kept (s : State) (p : Move → Bool) : (takeOut s p).kept = s.kept := by
  unfold takeOut; simp

@[simp] theorem dropMove_kept (s : State) (m : Move) : (dropMove s m).kept = s.kept := by
  unfold dropMove; simp

@[simp] theorem abandon_kept (s : State) (m : Move) : (abandon s m).kept = s.kept := by
  unfold abandon; simp

@[simp] theorem addMove_kept (s : State) (m : Move) : (addMove s m).kept = s.kept := by
  unfold addMove; simp

@[simp] theorem planMove_kept (s : State) (i : Nat) (kind : Nat) (dst : Nat) : (planMove s i kind dst).kept = s.kept := by
  unfold planMove; simp

@[simp] theorem switchMove_kept (s : State) (m : Move) : (switchMove s m).kept = s.kept := by
  unfold switchMove; simp

@[simp] theorem startCopy_kept (s : State) (m : Move) : (startCopy s m).kept = s.kept := by
  unfold startCopy; split <;> simp

@[simp] theorem advanceMove_kept (n : Nat) (s : State) (m : Move) : (advanceMove n s m).kept = s.kept := by
  unfold advanceMove; (repeat' split) <;> simp

@[simp] theorem planCommit_kept (s : State) : (planCommit s).kept = s.kept := by
  unfold planCommit; (repeat' split) <;> simp

@[simp] theorem overcommit_kept (s : State) : (overcommit s).kept = s.kept := by
  unfold overcommit; simp

@[simp] theorem startFault_kept (s : State) (i : Nat) (avoid : List Nat) (pref : Option Nat) :
    (startFault s i avoid pref).kept = s.kept := by
  unfold startFault; dsimp only; (repeat' split) <;> simp

@[simp] theorem retryFaults_kept (s : State) : (retryFaults s).kept = s.kept := by
  unfold retryFaults; simp

@[simp] theorem stopTest_kept (s : State) (h : Nat) (st : Nat) : (stopTest s h st).kept = s.kept := by
  unfold stopTest; simp

@[simp] theorem planDrains_kept (s : State) (h : Nat) (home : Option Nat) : (planDrains s h home).kept = s.kept := by
  unfold planDrains; repeat' (first | (simp; done) | (refine each_kept_of ?_ ?_ <;> (try intro _ _)) | (refine foldl_kept_of ?_ ?_ <;> (try intro _ _)) | (refine whenever_kept_of ?_ ?_) | split)

@[simp] theorem takeHome_kept (s : State) : (takeHome s).1.kept = s.kept := by
  unfold takeHome; (repeat' split) <;> simp

@[simp] theorem rehouseGuests_kept (s : State) : (rehouseGuests s).kept = s.kept := by
  unfold rehouseGuests
  refine each_kept _ _ _ (fun u g => ?_)
  dsimp only
  split <;> rfl

@[simp] theorem dropCopy_kept (gone : List Nat) (s : State) (m : Move) : (dropCopy gone s m).kept = s.kept := by
  unfold dropCopy
  have key : ∀ (u : State) (v : Nat), ({ u with governor := { u.governor with faultMoves := v } } : State).kept = u.kept :=
    fun _ _ => rfl
  dsimp only
  rw [startFault_kept, key, takeOut_kept]

@[simp] theorem withdrawShuttles_kept (s : State) (gone : List Nat) : (withdrawShuttles s gone).kept = s.kept := by
  unfold withdrawShuttles
  extract_lets fresh s1 f s2 r home s3 s4 ends s5 lost s6 is s7 s8
  have h1 : s1.kept = s.kept := by simp [s1]
  clear_value s1 f
  have h2 : s2.kept = s.kept := by simp [s2, h1]
  clear_value s2
  have hr : r.1.kept = s.kept := by simp only [r]; split <;> simp [h2]
  have h3 : s3.kept = s.kept := by simp only [s3]; split <;> simp [hr]
  clear_value home r s3
  have h4 : s4.kept = s.kept := by simp [s4, h3]
  clear_value s4
  have h5 : s5.kept = s.kept := by simp [s5, h4]
  clear_value s5 ends lost
  have h6 : s6.kept = s.kept := each_kept_of (fun u m => by simp) h5
  clear_value s6
  have h7 : s7.kept = s.kept := each_kept_of (fun u i => by simp) h6
  clear_value s7 is
  have h8 : s8.kept = s.kept := each_kept_of (fun u h => by dsimp only; split <;> simp) h7
  clear_value s8
  simp [h8]

@[simp] theorem mismatched_kept (s : State) (m : Move) : (mismatched s m).kept = s.kept := by
  unfold mismatched; simp

@[simp] theorem judgeShadow_kept (missed : List Nat) (failed : List Nat) (n : Nat) (s : State) (m : Move) :
    (judgeShadow missed failed n s m).kept = s.kept := by
  unfold judgeShadow; (repeat' split) <;> simp

@[simp] theorem offload_kept (sh : Nat) (one : Bool) (s : State) : (offload sh one s).kept = s.kept := by
  unfold offload
  refine foldl_fst_kept _ _ _ (fun a x => ?_)
  (repeat' split) <;> simp

@[simp] theorem spill_kept (sh : Nat) (s : State) : (spill sh s).kept = s.kept := by
  unfold spill
  extract_lets above
  clear_value above
  split
  · rfl
  · refine foldl_kept_of (fun u i => ?_) (by simp)
    (repeat' split) <;> simp

@[simp] theorem rebalanceDerated_kept (s : State) : (rebalanceDerated s).kept = s.kept := by
  unfold rebalanceDerated; simp

@[simp] theorem measureSpeed_kept (s : State) (e : Nat × Nat) : (measureSpeed s e).kept = s.kept := by
  unfold measureSpeed; simp

@[simp] theorem chooseDrain_kept (s : State) (order : List Nat) : (chooseDrain s order).kept = s.kept := by
  unfold chooseDrain; dsimp only; (repeat' split) <;> simp

@[simp] theorem mendGranted_kept (s : State) : (mendGranted s).kept = s.kept := by
  unfold mendGranted; dsimp only; (repeat' split) <;> simp

@[simp] theorem rateShuttle_kept (s : State) (e : Nat × Nat) : (rateShuttle s e).kept = s.kept := by
  unfold rateShuttle; simp

@[simp] theorem agingAhead_kept (s : State) (shs : List Nat) : (agingAhead s shs).kept = s.kept := by
  unfold agingAhead; simp

@[simp] theorem mendTooHot_kept (s : State) : (mendTooHot s).kept = s.kept := by
  unfold mendTooHot; split <;> simp

@[simp] theorem quietWritten_kept (s : State) (v : Nat) : (quietWritten s v).kept = s.kept := by
  unfold quietWritten; simp

@[simp] theorem showQuiet_kept (s : State) : (showQuiet s).kept = s.kept := by
  unfold showQuiet; simp

@[simp] theorem clearOvercommitted_kept (s : State) : (clearOvercommitted s).kept = s.kept := by
  unfold clearOvercommitted; simp

@[simp] theorem overflowLost_kept (s : State) (i : Nat) : (overflowLost s i).kept = s.kept := by
  unfold overflowLost; dsimp only; (repeat' split) <;> simp

@[simp] theorem endEvictions_kept (s : State) : (endEvictions s).kept = s.kept := by
  unfold endEvictions; simp

@[simp] theorem showGuests_kept (s : State) : (showGuests s).kept = s.kept := by
  unfold showGuests; simp

@[simp] theorem takeGuest_kept (s : State) (port : Nat) (i : Nat) (load : Nat) : (takeGuest s port i load).kept = s.kept := by
  unfold takeGuest; dsimp only; (repeat' split) <;> simp

@[simp] theorem overflowState_kept (s : State) (port : Nat) (payload : Nat) : (overflowState s port payload).kept = s.kept := by
  unfold overflowState; dsimp only; (repeat' split) <;> simp

@[simp] theorem movesBatten_kept (lost : List Nat) (s : State) : (movesBatten lost s).kept = s.kept := by
  unfold movesBatten; dsimp only; (repeat' split) <;> simp

end Machine
end Sys2Proof
end

