-- ==== Sys2Proof/Laws/KeptTreadle.lean ====
section
/-! SUPPORT. What the operations of Machine/Treadle.lean leave alone: the queue, the creel's memory, local time and the pick counter. -/

namespace Sys2Proof
namespace Machine

@[simp] theorem State.singular_kept (s : State) (name : String) (n : Nat) (v : Bool) :
    (State.singular s name n v).kept = s.kept := by
  unfold State.singular; simp

@[simp] theorem State.setTd_kept (s : State) (n : Nat) (f : Channel → Channel) : (State.setTd s n f).kept = s.kept := by
  unfold State.setTd; simp

@[simp] theorem State.setTdState_kept (s : State) (n : Nat) (v : Nat) : (State.setTdState s n v).kept = s.kept := by
  unfold State.setTdState; simp

@[simp] theorem State.pwmLow_kept (s : State) (n : Nat) : (State.pwmLow s n).kept = s.kept := by
  unfold State.pwmLow; simp

@[simp] theorem State.tdEn_kept (s : State) (n : Nat) (v : Bool) : (State.tdEn s n v).kept = s.kept := by
  unfold State.tdEn; simp

@[simp] theorem State.tdRelay_kept (s : State) (n : Nat) (v : Bool) : (State.tdRelay s n v).kept = s.kept := by
  unfold State.tdRelay; simp

@[simp] theorem State.tdStep_kept (s : State) (n : Nat) (step : Nat) : (State.tdStep s n step).kept = s.kept := by
  unfold State.tdStep; simp

@[simp] theorem State.rampSeq_kept (s : State) (n : Nat) (to_ : Int) (len : Nat) (db : Bool) :
    (State.rampSeq s n to_ len db).kept = s.kept := by
  unfold State.rampSeq; simp

@[simp] theorem abortAc_kept (s : State) (n : Nat) : (abortAc s n).kept = s.kept := by
  unfold abortAc; simp

@[simp] theorem startChannel_kept (s : State) (n : Nat) (test : Bool) (retry : Bool) :
    (startChannel s n test retry).kept = s.kept := by
  unfold startChannel; simp

@[simp] theorem restChannel_kept (s : State) (n : Nat) (st : Nat) : (restChannel s n st).kept = s.kept := by
  unfold restChannel; simp

@[simp] theorem stopChannel_kept (s : State) (n : Nat) (after : Nat) : (stopChannel s n after).kept = s.kept := by
  unfold stopChannel; split <;> simp

@[simp] theorem fadeInChannel_kept (s : State) (n : Nat) : (fadeInChannel s n).kept = s.kept := by
  unfold fadeInChannel; simp

@[simp] theorem failChannel_kept (s : State) (n : Nat) : (failChannel s n).1.kept = s.kept := by
  unfold failChannel; dsimp only; (repeat' split) <;> simp

@[simp] theorem driveSdclk_kept (s : State) : (driveSdclk s).kept = s.kept := by
  unfold driveSdclk; simp

@[simp] theorem dropAfterShort_kept (s : State) (n : Nat) : (dropAfterShort s n).kept = s.kept := by
  unfold dropAfterShort; simp

@[simp] theorem clearChannel_kept (s : State) (n : Nat) : (clearChannel s n).kept = s.kept := by
  unfold clearChannel; simp

@[simp] theorem senseRail_kept (s : State) (e : Nat × BitVec 382) : (senseRail s e).kept = s.kept := by
  unfold senseRail; simp

@[simp] theorem thermalLevel_kept (s : State) (src : Nat) (n : Nat) (above : Bool) (below : Bool) :
    (thermalLevel s src n above below).kept = s.kept := by
  unfold thermalLevel; simp

@[simp] theorem showThermal_kept (s : State) (n : Nat) : (showThermal s n).kept = s.kept := by
  unfold showThermal; simp

@[simp] theorem thermalBatten_kept (s : State) (n : Nat) (p : Int) : (thermalBatten s n p).kept = s.kept := by
  unfold thermalBatten; simp

@[simp] theorem thermalStarts_kept (s : State) (n : Nat) : (thermalStarts s n).kept = s.kept := by
  unfold thermalStarts; simp

@[simp] theorem tdSample_kept (n : Nat) (k : Nat) (s : State) (x : Int) : (tdSample n k s x).1.kept = s.kept := by
  unfold tdSample; dsimp only; (repeat' split) <;> simp

@[simp] theorem tdSamples_kept (n k : Nat) (xs : List Int) (s : State) : (tdSamples n k xs s).1.kept = s.kept := by
  induction xs generalizing k s with
  | nil => rfl
  | cons x r ih => unfold tdSamples; simp [ih]

@[simp] theorem drivePwm_kept (s : State) (n : Nat) (pick : Nat) (ms : List Int) : (drivePwm s n pick ms).kept = s.kept := by
  unfold drivePwm; simp

@[simp] theorem detect_kept (s : State) (n : Nat) (vs : List Int) (is : List Int) : (detect s n vs is).kept = s.kept := by
  unfold detect; simp

@[simp] theorem senseStopped_kept (s : State) (b : SenseBits) (i : List Int) : (senseStopped s b i).kept = s.kept := by
  unfold senseStopped; simp

@[simp] theorem senseChannel_kept (s : State) (b : SenseBits) : (senseChannel s b).1.kept = s.kept := by
  unfold senseChannel; simp

@[simp] theorem treadleBatten_kept (fed : List Nat) (sense : List SenseBits) (rails : List (Nat × BitVec 382)) (s : State) :
    (treadleBatten fed sense rails s).kept = s.kept := by
  unfold treadleBatten
  extract_lets s1
  have h1 : s1.kept = s.kept := by simp [s1]
  clear_value s1
  refine each_kept_of (fun u n => ?_) h1
  extract_lets r u1 m u2 c
  have hr : r.1.kept = u.kept := by simp only [r]; split <;> simp
  have k1 : u1.kept = u.kept := by simp [u1, hr]
  clear_value u1 r
  have k2 : u2.kept = u.kept := by simp only [u2]; split <;> simp [m, k1]
  clear_value u2
  simp [k2]

@[simp] theorem startAc_kept (s : State) (n : Nat) : (startAc s n).kept = s.kept := by
  unfold startAc; simp

@[simp] theorem leaveDiag_kept (s : State) (n : Nat) : (leaveDiag s n).kept = s.kept := by
  unfold leaveDiag; simp

@[simp] theorem pwmWritten_kept (s : State) (n : Nat) : (pwmWritten s n).kept = s.kept := by
  unfold pwmWritten; simp

@[simp] theorem enableApplied_kept (s : State) (n : Nat) : (enableApplied s n).kept = s.kept := by
  unfold enableApplied; simp

end Machine
end Sys2Proof
end

