-- ==== Sys2Proof/Laws/KeptSelvedge.lean ====
section
/-! SUPPORT. What the operations of Machine/Selvedge.lean leave alone: the queue, the creel's memory, local time and the pick counter. -/

namespace Sys2Proof
namespace Machine

@[simp] theorem State.setSelv_kept (s : State) (v : Selv) : (State.setSelv s v).kept = s.kept := by
  unfold State.setSelv; simp

@[simp] theorem loadRamp_kept (s : State) (o : Nat) (b : Nat) (pos : Nat) (value : Int) :
    (loadRamp s o b pos value).kept = s.kept := by
  unfold loadRamp; dsimp only; (repeat' split) <;> simp

@[simp] theorem endRamps_kept (s : State) (o : Nat) : (endRamps s o).kept = s.kept := by
  unfold endRamps; simp

@[simp] theorem reseed_kept (s : State) (o : Nat) (k : Nat) (v : Selv) : (reseed s o k v).1.kept = s.kept := by
  unfold reseed; dsimp only; (repeat' split) <;> simp

@[simp] theorem selvOut_kept (s : State) (o : Nat) (k : Nat) (f : Option SelvCopy) : (selvOut s o k f).1.kept = s.kept := by
  unfold selvOut
  extract_lets v both one bad s1 s2 s3 s4 low seed s5 r s6 y
  have h1 : s1.kept = s.kept := by simp only [s1]; split <;> simp
  clear_value s1
  have h2 : s2.kept = s.kept := by simp only [s2]; split <;> simp [h1]
  clear_value s2
  have h3 : s3.kept = s.kept := by simp only [s3]; split <;> simp [h2]
  clear_value s3
  have h4 : s4.kept = s.kept := by simp only [s4]; split <;> simp [h3]
  clear_value low y
  have h5 : s5.kept = s.kept := by simp only [s5, seed]; split <;> simp [h4]
  clear_value s5
  have h6 : s6.kept = s.kept := by simp only [s6]; split <;> simp [h5]
  clear_value s6 r seed s4 bad one both v
  (repeat' split) <;> simp [h4, h5, h6]

@[simp] theorem selvSample_kept (faults : List SelvCopy) (k : Nat) (s : State) (o : Nat) :
    (selvSample faults k s o).kept = s.kept := by
  unfold selvSample
  extract_lets r dest pos s1 y m
  have h : r.1.kept = s.kept := by simp [r]
  have h1 : s1.kept = s.kept := by simp [s1, h]
  have h2 : m.1.kept = s.kept := by simp [m, h1]
  clear_value m s1 y r
  split <;> simp [h1, h2]

end Machine
end Sys2Proof
end

