-- ==== Sys2Proof/Laws/KeptMessage.lean ====
section
/-! SUPPORT. What the operations of Machine/Message.lean leave alone: the queue, the creel's memory, local time and the pick counter. -/

namespace Sys2Proof
namespace Machine

@[simp] theorem State.sendMsg_kept (s : State) (p : Path) (peer : Nat) (msg : List Byte) :
    (State.sendMsg s p peer msg).kept = s.kept := by
  unfold State.sendMsg; dsimp only; (repeat' split) <;> simp

@[simp] theorem State.sendTransfer_kept (s : State) (port : Nat) (kind : Nat) (bytes : List Byte) :
    (State.sendTransfer s port kind bytes).kept = s.kept := by
  unfold State.sendTransfer; simp

@[simp] theorem State.sendBulk_kept (s : State) (port : Nat) (number : Nat) (msg : List Byte) :
    (State.sendBulk s port number msg).kept = s.kept := by
  unfold State.sendBulk; simp

end Machine
end Sys2Proof
end

