-- ==== Sys2Proof/Laws/KeptTwin.lean ====
section
/-! SUPPORT. What the operations of Machine/Twin.lean leave alone: the queue, the creel's memory, local time and the pick counter. -/

namespace Sys2Proof
namespace Machine

@[simp] theorem State.setTwin_kept (s : State) (f : Twin → Twin) : (State.setTwin s f).kept = s.kept := by
  unfold State.setTwin; simp

@[simp] theorem State.setTwinState_kept (s : State) (v : Nat) : (State.setTwinState s v).kept = s.kept := by
  unfold State.setTwinState; simp

@[simp] theorem driveTallies_kept (s : State) : (driveTallies s).kept = s.kept := by
  unfold driveTallies; simp

@[simp] theorem driveRelays_kept (s : State) : (driveRelays s).kept = s.kept := by
  unfold driveRelays; simp

@[simp] theorem showClaims_kept (s : State) : (showClaims s).kept = s.kept := by
  unfold showClaims; simp

@[simp] theorem dropClaims_kept (p : Claim → Bool) (s : State) : (dropClaims p s).kept = s.kept := by
  unfold dropClaims; simp

@[simp] theorem sendTwin_kept (s : State) (body : Nat) : (sendTwin s body).kept = s.kept := by
  unfold sendTwin; simp

@[simp] theorem notePartner_kept (state : Nat) (prefer : Bool) (s : State) : (notePartner state prefer s).kept = s.kept := by
  unfold notePartner; dsimp only; (repeat' split) <;> simp

@[simp] theorem noteHeader_kept (b : BitVec 1024) (s : State) : (noteHeader b s).kept = s.kept := by
  unfold noteHeader; simp

@[simp] theorem showGuard_kept (s : State) : (showGuard s).kept = s.kept := by
  unfold showGuard; simp

@[simp] theorem sendPeers_kept (s : State) (type : Nat) (reqId : Nat) (counter : Nat) (body : List Byte) :
    (sendPeers s type reqId counter body).kept = s.kept := by
  unfold sendPeers; simp

@[simp] theorem sendLease_kept (s : State) (msg : Nat) (epoch : Nat) (seq : Nat) (take : Nat) :
    (sendLease s msg epoch seq take).kept = s.kept := by
  unfold sendLease; simp

@[simp] theorem catchUp_kept (s : State) (step : Nat) : (catchUp s step).kept = s.kept := by
  unfold catchUp; simp

@[simp] theorem startHandover_kept (s : State) : (startHandover s).kept = s.kept := by
  unfold startHandover; simp

@[simp] theorem flagSelf_kept (s : State) : (flagSelf s).kept = s.kept := by
  unfold flagSelf; simp

@[simp] theorem verifyFails_kept (s : State) : (verifyFails s).kept = s.kept := by
  unfold verifyFails; simp

@[simp] theorem compareDigests_kept (s : State) (o : Digest) (p : Digest) : (compareDigests s o p).kept = s.kept := by
  unfold compareDigests; simp

@[simp] theorem sendDigest_kept (s : State) (cloth : List Int) (selv : List Int) : (sendDigest s cloth selv).kept = s.kept := by
  unfold sendDigest; dsimp only; (repeat' split) <;> simp

@[simp] theorem sendSelvStates_kept (s : State) : (sendSelvStates s).kept = s.kept := by
  unfold sendSelvStates; simp

@[simp] theorem releaseLease_kept (s : State) (contended : Bool) : (releaseLease s contended).kept = s.kept := by
  unfold releaseLease; simp

@[simp] theorem takeLease_kept (s : State) (epoch : Nat) (first : Nat) (silent : Bool) :
    (takeLease s epoch first silent).kept = s.kept := by
  unfold takeLease; simp

@[simp] theorem notAligned_kept (s : State) (n : Nat) : (notAligned s n).kept = s.kept := by
  unfold notAligned; simp

@[simp] theorem twinWritten_kept (s : State) : (twinWritten s).kept = s.kept := by
  unfold twinWritten; simp

@[simp] theorem takeActions_kept (s : State) (acts : List SentAction) : (takeActions s acts).kept = s.kept := by
  unfold takeActions; simp

@[simp] theorem startsSending_kept (s : State) : (startsSending s).kept = s.kept := by
  unfold startsSending; simp

@[simp] theorem twinBatten_kept (s : State) : (twinBatten s).kept = s.kept := by
  unfold twinBatten; simp

@[simp] theorem leaseArrives_kept (s : State) (msg : Nat) (m : LeaseMsg) : (leaseArrives s msg m).1.kept = s.kept := by
  unfold leaseArrives; dsimp only; (repeat' split) <;> simp

@[simp] theorem handsOver_kept (s : State) : (handsOver s).kept = s.kept := by
  unfold handsOver; dsimp only; (repeat' split) <;> simp

@[simp] theorem forward_kept (s : State) (items : List (Item)) (pick : Nat) (offset : Nat) (tag : Nat) (timed : Bool) :
    (forward s items pick offset tag timed).kept = s.kept := by
  unfold forward; dsimp only; (repeat' split) <;> simp

@[simp] theorem takeForwarded_kept (pick : Nat) (offset : Nat) (tag : Nat) (timed : Bool) (now : Bool) (s : State) (i : Item) :
    (takeForwarded pick offset tag timed now s i).kept = s.kept := by
  unfold takeForwarded; simp

@[simp] theorem removeActions_kept (p : Action → Bool) (s : State) : (removeActions p s).kept = s.kept := by
  unfold removeActions; simp

@[simp] theorem forwarded_kept (s : State) (seq : Nat) (pick : Nat) (offset : Nat) (tag : Nat) (timed : Bool) (items : List Item) :
    (forwarded s seq pick offset tag timed items).kept = s.kept := by
  unfold forwarded; simp

end Machine
end Sys2Proof
end

