-- ==== Sys2Proof/Laws/KeptIdentity.lean ====
section
/-! SUPPORT. What the operations of Machine/Identity.lean leave alone: the queue, the creel's memory, local time and the pick counter. -/

namespace Sys2Proof
namespace Machine

@[simp] theorem showScope_kept (s : State) : (showScope s).kept = s.kept := by
  unfold showScope; simp

@[simp] theorem endGrant_kept (s : State) : (endGrant s).kept = s.kept := by
  unfold endGrant; simp

@[simp] theorem endGrantOf_kept (session : Nat) (s : State) : (endGrantOf session s).kept = s.kept := by
  unfold endGrantOf; simp

@[simp] theorem debugNonce_kept (s : State) (scope : Nat) : (debugNonce s scope).kept = s.kept := by
  unfold debugNonce; simp

@[simp] theorem debugFailed_kept (s : State) (op : Nat) : (debugFailed s op).kept = s.kept := by
  unfold debugFailed; simp

@[simp] theorem debugGrant_kept (s : State) (session : Nat) (scope : Nat) : (debugGrant s session scope).kept = s.kept := by
  unfold debugGrant; simp

@[simp] theorem blowFieldLock_kept (s : State) : (blowFieldLock s).kept = s.kept := by
  unfold blowFieldLock; simp

@[simp] theorem setHalted_kept (s : State) (core : Nat) (v : Bool) : (setHalted s core v).kept = s.kept := by
  unfold setHalted; simp

@[simp] theorem putSlot_kept (s : State) (n : Nat) (b : List Byte) : (putSlot s n b).kept = s.kept := by
  unfold putSlot; simp

@[simp] theorem showSlot_kept (s : State) (n : Nat) : (showSlot s n).kept = s.kept := by
  unfold showSlot; simp

@[simp] theorem showSlots_kept (s : State) : (showSlots s).kept = s.kept := by
  unfold showSlots; simp

@[simp] theorem startProgramming_kept (s : State) (b : List Byte) : (startProgramming s b).kept = s.kept := by
  unfold startProgramming; simp

@[simp] theorem endProgramming_kept (s : State) : (endProgramming s).kept = s.kept := by
  unfold endProgramming; split <;> simp

@[simp] theorem cutProgramming_kept (s : State) : (cutProgramming s).kept = s.kept := by
  unfold cutProgramming; split <;> simp

@[simp] theorem secCommit_kept (s : State) : (secCommit s).kept = s.kept := by
  unfold secCommit; simp

@[simp] theorem revokeKeys_kept (s : State) (v : Nat) : (revokeKeys s v).kept = s.kept := by
  unfold revokeKeys; simp

@[simp] theorem restartCore_kept (s : State) (core : Nat) : (restartCore s core).kept = s.kept := by
  unfold restartCore; simp

@[simp] theorem reloadValue_kept (s : State) (k : Nat) : (reloadValue s k).kept = s.kept := by
  unfold reloadValue; dsimp only; (repeat' split) <;> simp

@[simp] theorem rewriteLine_kept (s : State) (i : Nat) (pos : Nat) : (rewriteLine s i pos).kept = s.kept := by
  unfold rewriteLine; split <;> simp

end Machine
end Sys2Proof
end

