-- ==== Sys2Proof/Laws/KeptStart.lean ====
section
/-! SUPPORT. What the operations of Machine/Start.lean leave alone: the queue, the creel's memory, local time and the pick counter. -/

namespace Sys2Proof
namespace Machine

@[simp] theorem saveImage_kept (s : State) : (saveImage s).kept = s.kept := by
  unfold saveImage; simp

@[simp] theorem restoreSaved_kept (s : State) : (restoreSaved s).kept = s.kept := by
  unfold restoreSaved; simp

@[simp] theorem restPins_kept (s : State) : (restPins s).kept = s.kept := by
  unfold restPins; simp

@[simp] theorem resetPins_kept (held : Bool) (s : State) : (resetPins held s).kept = s.kept := by
  unfold resetPins; simp

@[simp] theorem rimReset_kept (s : State) : (rimReset s).kept = s.kept := by
  rfl

@[simp] theorem resetRim_kept (held : Bool) (s : State) : (resetRim held s).kept = s.kept := by
  unfold resetRim; simp

@[simp] theorem resetEngine_kept (s : State) : (resetEngine s).kept = s.kept := by
  unfold resetEngine; simp

@[simp] theorem countAttempt_kept (s : State) (kind : Nat) : (countAttempt s kind).kept = s.kept := by
  unfold countAttempt; simp

@[simp] theorem enterFallback_kept (s : State) : (enterFallback s).kept = s.kept := by
  unfold enterFallback; simp

@[simp] theorem runImage_kept (s : State) (slot : Nat) (b : List Byte) : (runImage s slot b).kept = s.kept := by
  unfold runImage; simp

@[simp] theorem bootProceeds_kept (s : State) : (bootProceeds s).kept = s.kept := by
  unfold bootProceeds; dsimp only; (repeat' split) <;> simp

@[simp] theorem releaseReset_kept (s : State) (cause : Nat) (delay : Nat) : (releaseReset s cause delay).kept = s.kept := by
  unfold releaseReset; simp

@[simp] theorem failStart_kept (s : State) : (failStart s).kept = s.kept := by
  unfold failStart; simp

@[simp] theorem verifyHost_kept (s : State) : (verifyHost s).kept = s.kept := by
  unfold verifyHost; simp

@[simp] theorem testHarnesses_kept (rs : List SelfTest) (s : State) : (testHarnesses rs s).kept = s.kept := by
  unfold testHarnesses; simp

@[simp] theorem recallHarnesses_kept (s : State) : (recallHarnesses s).kept = s.kept := by
  unfold recallHarnesses; simp

@[simp] theorem startGraph_kept (s : State) : (startGraph s).kept = s.kept := by
  unfold startGraph
  extract_lets d s1 g
  have h1 : s1.kept = s.kept := by simp only [s1]; split <;> simp
  clear_value g s1
  exact h1

@[simp] theorem startRim_kept (s : State) : (startRim s).kept = s.kept := by
  unfold startRim
  extract_lets s1 s2 s3 s4 s5 s6 s7 s8 s9 sa
  have h1 : s1.kept = s.kept := by simp [s1]
  clear_value s1
  have h2 : s2.kept = s.kept := by simp [s2, h1]
  clear_value s2
  have h3 : s3.kept = s.kept := each_kept_of (fun u x => by split <;> simp) h2
  clear_value s3
  have h4 : s4.kept = s.kept := each_kept_of (fun u x => by split <;> simp) h3
  clear_value s4
  have h5 : s5.kept = s.kept := each_kept_of (fun u x => by split <;> simp) h4
  clear_value s5
  have h6 : s6.kept = s.kept := by simp [s6, h5]
  clear_value s6
  have h7 : s7.kept = s.kept := by simp [s7, h6]
  clear_value s7
  have h8 : s8.kept = s.kept := each_kept_of (fun u x => by split <;> simp) h7
  clear_value s8
  have h9 : s9.kept = s.kept := each_kept_of (fun u x => by split <;> simp) h8
  clear_value s9
  have ha : sa.kept = s.kept := each_kept_of (fun u x => by split <;> simp) h9
  clear_value sa
  simp [ha]

@[simp] theorem startSpindles_kept (s : State) : (startSpindles s).kept = s.kept := by
  unfold startSpindles; simp

@[simp] theorem startTwin_kept (s : State) : (startTwin s).kept = s.kept := by
  unfold startTwin; simp

@[simp] theorem enterService_kept (s : State) : (enterService s).kept = s.kept := by
  unfold enterService; dsimp only; (repeat' split) <;> simp

@[simp] theorem ddrTrained_kept (s : State) (x1 : DdrTraining) : (ddrTrained s x1).kept = s.kept := by
  unfold ddrTrained; split <;> simp

@[simp] theorem forgetTaps_kept (s : State) : (forgetTaps s).kept = s.kept := by
  unfold forgetTaps; simp

@[simp] theorem writeRecord_kept (s : State) : (writeRecord s).kept = s.kept := by
  unfold writeRecord; simp

@[simp] theorem leaveService_kept (s : State) (cold : Bool) : (leaveService s cold).kept = s.kept := by
  unfold leaveService; simp

@[simp] theorem requestStart_kept (s : State) (cold : Bool) : (requestStart s cold).kept = s.kept := by
  unfold requestStart; (repeat' split) <;> simp

@[simp] theorem leaveBatten_kept (s : State) : (leaveBatten s).kept = s.kept := by
  unfold leaveBatten; split <;> simp

@[simp] theorem leaveDoff_kept (s : State) : (leaveDoff s).kept = s.kept := by
  unfold leaveDoff; simp

@[simp] theorem wake_kept (s : State) (src : Nat) : (wake s src).kept = s.kept := by
  unfold wake; simp

end Machine
end Sys2Proof
end

