-- ==== Sys2Proof/Laws/KeptSession.lean ====
section
/-! SUPPORT. What the operations of Machine/Session.lean leave alone: the queue, the creel's memory, local time and the pick counter. -/

namespace Sys2Proof
namespace Machine

@[simp] theorem State.setAgent_kept (s : State) (f : Agent → Agent) : (State.setAgent s f).kept = s.kept := by
  unfold State.setAgent; simp

@[simp] theorem State.setSession_kept (s : State) (id : Nat) (f : Session → Session) :
    (State.setSession s id f).kept = s.kept := by
  unfold State.setSession; simp

@[simp] theorem showSessions_kept (s : State) : (showSessions s).kept = s.kept := by
  unfold showSessions; simp

@[simp] theorem showSubs_kept (s : State) (id : Nat) : (showSubs s id).kept = s.kept := by
  unfold showSubs; split <;> simp

@[simp] theorem showSession_kept (s : State) (x : Session) : (showSession s x).kept = s.kept := by
  unfold showSession; simp

@[simp] theorem freeRecords_kept (s : State) : (freeRecords s).kept = s.kept := by
  unfold freeRecords; simp

@[simp] theorem unwait_kept (id : Nat) (p : Nat → Bool) (s : State) : (unwait id p s).kept = s.kept := by
  unfold unwait; simp

@[simp] theorem eventsEnd_kept (s : State) (id : Nat) : (eventsEnd s id).kept = s.kept := by
  unfold eventsEnd; simp

@[simp] theorem endSession_kept (id : Nat) (s : State) : (endSession id s).kept = s.kept := by
  unfold endSession; split <;> simp

@[simp] theorem endSessions_kept (s : State) : (endSessions s).kept = s.kept := by
  unfold endSessions; simp

@[simp] theorem takeClaim_kept (s : State) (session : Nat) (v : Nat) : (takeClaim s session v).kept = s.kept := by
  unfold takeClaim; simp

@[simp] theorem releaseClaim_kept (s : State) (session : Nat) (v : Nat) : (releaseClaim s session v).kept = s.kept := by
  unfold releaseClaim; simp

@[simp] theorem breakClaim_kept (s : State) (v : Nat) : (breakClaim s v).kept = s.kept := by
  unfold breakClaim; simp

end Machine
end Sys2Proof
end

