-- ==== Sys2Proof/Laws/KeptWrites.lean ====
section
/-! SUPPORT. What the operations of Machine/Writes.lean leave alone: the queue, the creel's memory, local time and the pick counter. -/

namespace Sys2Proof
namespace Machine

@[simp] theorem storeValue_kept (s : State) (k : Nat) (v : Val) : (storeValue s k v).kept = s.kept := by
  unfold storeValue; (repeat' split) <;> simp

@[simp] theorem State.unit_kept (s : State) (i first count : Nat) (f : State → Nat → State) (h : ∀ (x : State) u, (f x u).kept = x.kept) :
    (s.unit i first count f).kept = s.kept := by
  unfold State.unit; split <;> simp [h]

@[simp] theorem State.if_kept (s : State) (c : Bool) (f : State → State) (h : ∀ x : State, (f x).kept = x.kept) :
    (s.if_ c f).kept = s.kept := by
  unfold State.if_; split <;> simp [h]

@[simp] theorem followReference_kept (old : Nat) (i : Nat) (p : Nat) (s : State) :
    (followReference old i p s).kept = s.kept := by
  unfold followReference; simp

@[simp] theorem inputWritten_kept (s : State) (u : Nat) : (inputWritten s u).kept = s.kept := by
  unfold inputWritten; simp

@[simp] theorem followPorts_kept (old : Nat) (new : Nat) (i : Nat) (p : Nat) (s : State) :
    (followPorts old new i p s).kept = s.kept := by
  unfold followPorts; simp

@[simp] theorem restartTx_kept (s : State) (n : Nat) : (restartTx s n).kept = s.kept := by
  unfold restartTx; simp

@[simp] theorem streamWritten_kept (s : State) (tx : Bool) (u : Nat) (p : Nat) : (streamWritten s tx u p).kept = s.kept := by
  unfold streamWritten; simp

@[simp] theorem profileWritten_kept (s : State) (m : Nat) : (profileWritten s m).kept = s.kept := by
  unfold profileWritten; simp

@[simp] theorem followNetwork_kept (i : Nat) (p : Nat) (s : State) : (followNetwork i p s).kept = s.kept := by
  unfold followNetwork; simp

@[simp] theorem followSwiska_kept (old : Nat) (new : Nat) (i : Nat) (p : Nat) (s : State) :
    (followSwiska old new i p s).kept = s.kept := by
  unfold followSwiska; simp

@[simp] theorem followTreadle_kept (new : Nat) (i : Nat) (p : Nat) (s : State) : (followTreadle new i p s).kept = s.kept := by
  unfold followTreadle; simp

@[simp] theorem cancelWritten_kept (s : State) (session : Nat) (k : Nat) (v : Nat) :
    (cancelWritten s session k v).kept = s.kept := by
  unfold cancelWritten; simp

@[simp] theorem commitWritten_kept (s : State) (v : Nat) : (commitWritten s v).kept = s.kept := by
  unfold commitWritten; simp

@[simp] theorem clearSlack_kept (s : State) : (clearSlack s).kept = s.kept := by
  unfold clearSlack; simp

@[simp] theorem keyWritten_kept (s : State) (k : Nat) (b : List Byte) : (keyWritten s k b).kept = s.kept := by
  unfold keyWritten; simp

@[simp] theorem commandWritten_kept (s : State) (session : Nat) (k : Nat) (v : Nat) :
    (commandWritten s session k v).kept = s.kept := by
  unfold commandWritten
  refine ite_kept_of ?_ ?_
  · exact commitWritten_kept s v
  refine ite_kept_of ?_ ?_
  · (unfold State.if_; split <;> simp)
  refine ite_kept_of ?_ ?_
  · rfl
  refine ite_kept_of ?_ ?_
  · simp
  refine ite_kept_of ?_ ?_
  · simp
  refine ite_kept_of ?_ ?_
  · simp
  refine ite_kept_of ?_ ?_
  · simp
  refine ite_kept_of ?_ ?_
  · simp
  refine ite_kept_of ?_ ?_
  · (unfold State.if_; split <;> simp)
  refine ite_kept_of ?_ ?_
  · simp
  refine ite_kept_of ?_ ?_
  · simp
  refine ite_kept_of ?_ ?_
  · (unfold State.if_; split <;> rfl)
  refine ite_kept_of ?_ ?_
  · simp
  refine ite_kept_of ?_ ?_
  · (unfold State.if_; split <;> rfl)
  refine ite_kept_of ?_ ?_
  · simp
  refine ite_kept_of ?_ ?_
  · simp
  refine ite_kept_of ?_ ?_
  · simp
  rfl

@[simp] theorem blobWritten_kept (s : State) (k : Nat) (b : List Byte) : (blobWritten s k b).kept = s.kept := by
  unfold blobWritten; simp

@[simp] theorem followOther_kept (new : Nat) (i : Nat) (p : Nat) (s : State) : (followOther new i p s).kept = s.kept := by
  unfold followOther; simp

@[simp] theorem effect_kept (session : Nat) (k : Nat) (v : Val) (s : State) : (effect session k v s).kept = s.kept := by
  unfold effect; dsimp only; (repeat' split) <;> simp

@[simp] theorem clearMeter_kept (s : State) (i : Nat) : (clearMeter s i).kept = s.kept := by
  unfold clearMeter; simp

@[simp] theorem instanceWritten_kept (s : State) (k : Nat) (v : Val) : (instanceWritten s k v).kept = s.kept := by
  unfold instanceWritten; simp

@[simp] theorem graphWritten_kept (s : State) (k : Nat) (v : Val) : (graphWritten s k v).kept = s.kept := by
  unfold graphWritten; simp

@[simp] theorem directWritten_kept (s : State) (session : Nat) (k : Nat) (v : Val) :
    (directWritten s session k v).kept = s.kept := by
  unfold directWritten; simp

@[simp] theorem ledWrite_kept (s : State) (session : Nat) (k : Nat) (v : Val) : (ledWrite s session k v).kept = s.kept := by
  unfold ledWrite; simp

@[simp] theorem applyWrite_kept (s : State) (w : Writer) (k : Nat) (v : Val) : (applyWrite s w k v).kept = s.kept := by
  unfold applyWrite; (repeat' split) <;> simp

@[simp] theorem writeItem_kept (s : State) (w : Writer) (k : Nat) (pre : Nat) (v : Val) :
    (writeItem s w k pre v).1.kept = s.kept := by
  unfold writeItem; dsimp only; (repeat' split) <;> simp

@[simp] theorem forwardWrite_kept (s : State) (before : State) (items : List (Nat × Val)) :
    (forwardWrite s before items).kept = s.kept := by
  unfold forwardWrite; simp

@[simp] theorem writeItems_kept (w : Writer) (items : List (Nat × Nat × Val)) (s : State) : (writeItems w items s).1.kept = s.kept := by
  induction items generalizing s with
  | nil => rfl
  | cons e r ih => obtain ⟨k, pre, v⟩ := e; unfold writeItems; simp [ih]

@[simp] theorem writeAll_kept (s : State) (w : Writer) (items : List (Nat × Nat × Val)) :
    (writeAll s w items).1.kept = s.kept := by
  unfold writeAll; dsimp only; (repeat' split) <;> simp

@[simp] theorem writeOne_kept (t : Nat) (w : Writer) (k : Nat) (v : Val) (s : State) : (writeOne t w k v s).kept = (s.at_ t).kept := by
  unfold writeOne; dsimp only; split <;> simp

end Machine
end Sys2Proof
end

