-- ==== Sys2Proof/Laws/KeptActions.lean ====
section
/-! SUPPORT. What the operations of Machine/Actions.lean leave alone: the queue, the creel's memory, local time and the pick counter. -/

namespace Sys2Proof
namespace Machine

@[simp] theorem orphan_kept (s : State) (a : Action) : (orphan s a).kept = s.kept := by
  unfold orphan; simp

@[simp] theorem countTaken_kept (s : State) (a : Action) (late : Bool) : (countTaken s a late).kept = s.kept := by
  unfold countTaken; simp

@[simp] theorem editTakes_kept (s : State) (a : Action) : (editTakes s a).kept = s.kept := by
  unfold editTakes; simp

@[simp] theorem waitForSwap_kept (s : State) (a : Action) (late : Bool) : (waitForSwap s a late).kept = s.kept := by
  unfold waitForSwap; simp

@[simp] theorem handParam_kept (s : State) (a : Action) (k : Nat) (late : Bool) : (handParam s a k late).kept = s.kept := by
  unfold handParam; simp

@[simp] theorem handGraph_kept (s : State) (a : Action) (k : Nat) (late : Bool) : (handGraph s a k late).kept = s.kept := by
  unfold handGraph; simp

@[simp] theorem handOutput_kept (s : State) (a : Action) (k : Nat) (late : Bool) : (handOutput s a k late).kept = s.kept := by
  unfold handOutput; simp

@[simp] theorem handTwill_kept (s : State) (a : Action) (k : Nat) (late : Bool) : (handTwill s a k late).kept = s.kept := by
  unfold handTwill; simp

@[simp] theorem handOther_kept (s : State) (a : Action) (late : Bool) : (handOther s a late).kept = s.kept := by
  unfold handOther; simp

@[simp] theorem hand_kept (s : State) (a : Action) (k : Nat) (late : Bool) : (hand s a k late).kept = s.kept := by
  unfold hand; simp

@[simp] theorem handOver_kept (s : State) (n : Nat) : (handOver s n).kept = s.kept := by
  unfold handOver; simp

@[simp] theorem handNow_kept (s : State) : (handNow s).kept = s.kept := by
  unfold handNow; simp

end Machine
end Sys2Proof
end

