-- ==== Sys2Proof/Laws/KeptService.lean ====
section
/-! SUPPORT. What the operations of Machine/Service.lean leave alone: the queue, the creel's memory, local time and the pick counter. -/

namespace Sys2Proof
namespace Machine

@[simp] theorem refresh_kept (s : State) : (refresh s).kept = s.kept := by
  unfold refresh
  extract_lets s1 s2 s3 s4
  have h1 : s1.kept = s.kept := by simp [s1]
  clear_value s1
  have h2 : s2.kept = s.kept := by simp [s2, h1]
  clear_value s2
  have h3 : s3.kept = s.kept := by
    unfold s3
    split
    · exact each_kept_of (fun u x => State.wr_kept u _ _) h2
    · exact h2
  clear_value s3
  have h4 : s4.kept = s.kept := by simp [s4, h3]
  clear_value s4
  split <;> simp [h4]

@[simp] theorem serveRead_kept (s : State) (m : Msg) : (serveRead s m).1.kept = s.kept := by
  unfold serveRead; split <;> simp

@[simp] theorem serveWrite_kept (s : State) (w : Writer) (m : Msg) : (serveWrite s w m).1.kept = s.kept := by
  unfold serveWrite; split <;> simp

@[simp] theorem insertTimed_kept (s : State) (session : Nat) (sample : Nat) (late : Nat) (tag : Nat) (e : Nat × Val) :
    (insertTimed s session sample late tag e).kept = s.kept := by
  unfold insertTimed; simp

@[simp] theorem insertAll_kept (s : State) (w : Writer) (sample : Nat) (control : Nat) (items : List Item) :
    (insertAll s w sample control items).kept = s.kept := by
  unfold insertAll; simp

@[simp] theorem serveTimed_kept (s : State) (w : Writer) (m : Msg) : (serveTimed s w m).1.kept = s.kept := by
  unfold serveTimed; dsimp only; (repeat' split) <;> simp

@[simp] theorem addSub_kept (s : State) (u : Sub) : (addSub s u).1.kept = s.kept := by
  unfold addSub; simp

@[simp] theorem serveSubValue_kept (s : State) (m : Msg) : (serveSubValue s m).1.kept = s.kept := by
  unfold serveSubValue; dsimp only; (repeat' split) <;> simp

@[simp] theorem serveSubEvents_kept (s : State) (m : Msg) : (serveSubEvents s m).1.kept = s.kept := by
  unfold serveSubEvents; (repeat' split) <;> simp

@[simp] theorem serveSubRemove_kept (s : State) (m : Msg) : (serveSubRemove s m).1.kept = s.kept := by
  unfold serveSubRemove; dsimp only; (repeat' split) <;> simp

@[simp] theorem openXfer_kept (s : State) (x : Xfer) : (openXfer s x).kept = s.kept := by
  unfold openXfer; simp

@[simp] theorem dropXfer_kept (s : State) (id : Nat) : (dropXfer s id).kept = s.kept := by
  unfold dropXfer; simp

@[simp] theorem serveWriteBegin_kept (s : State) (w : Writer) (m : Msg) : (serveWriteBegin s w m).1.kept = s.kept := by
  unfold serveWriteBegin; dsimp only; (repeat' split) <;> simp

@[simp] theorem finishXfer_kept (s : State) (x : Xfer) (head : List Byte) : (finishXfer s x head).1.kept = s.kept := by
  unfold finishXfer; dsimp only; (repeat' split) <;> simp

@[simp] theorem serveWriteData_kept (s : State) (m : Msg) : (serveWriteData s m).1.kept = s.kept := by
  unfold serveWriteData; dsimp only; (repeat' split) <;> simp

@[simp] theorem serveReadBegin_kept (s : State) (w : Writer) (m : Msg) : (serveReadBegin s w m).1.kept = s.kept := by
  unfold serveReadBegin; dsimp only; (repeat' split) <;> simp

@[simp] theorem serveReadData_kept (s : State) (m : Msg) : (serveReadData s m).1.kept = s.kept := by
  unfold serveReadData; dsimp only; (repeat' split) <;> simp

@[simp] theorem serveAbort_kept (s : State) (m : Msg) : (serveAbort s m).1.kept = s.kept := by
  unfold serveAbort; dsimp only; (repeat' split) <;> simp

@[simp] theorem openSession_kept (s : State) (e : Envelope) (kid : Nat) (want : Nat) (nh : List Byte) :
    (openSession s e kid want nh).1.kept = s.kept := by
  unfold openSession; simp

@[simp] theorem serveDebugRequest_kept (s : State) (rights : Nat) (m : Msg) :
    (serveDebugRequest s rights m).1.kept = s.kept := by
  unfold serveDebugRequest; dsimp only; (repeat' split) <;> simp

@[simp] theorem debugOutcome_kept (s : State) (session : Nat) (op : Nat) (scope : Nat) (good : Bool) :
    (debugOutcome s session op scope good).1.kept = s.kept := by
  unfold debugOutcome; split <;> simp

@[simp] theorem serveDebugAnswer_kept (s : State) (rights : Nat) (m : Msg) : (serveDebugAnswer s rights m).1.kept = s.kept := by
  unfold serveDebugAnswer; dsimp only; (repeat' split) <;> simp

@[simp] theorem serveDebugPassword_kept (s : State) (rights : Nat) (p : Path) (m : Msg) :
    (serveDebugPassword s rights p m).1.kept = s.kept := by
  unfold serveDebugPassword; dsimp only; (repeat' split) <;> simp

@[simp] theorem serveDebugClose_kept (s : State) (rights : Nat) (m : Msg) : (serveDebugClose s rights m).1.kept = s.kept := by
  unfold serveDebugClose; (repeat' split) <;> simp

end Machine
end Sys2Proof
end

