-- ==== Sys2Proof/Laws/KeptHapol.lean ====
section
/-! SUPPORT. What the operations of Machine/Hapol.lean leave alone: the queue, the creel's memory, local time and the pick counter. -/

namespace Sys2Proof
namespace Machine

@[simp] theorem sendAs_kept (s : State) (path : Path) (peer : Nat) (x : Option Session) (m : Msg) :
    (sendAs s path peer x m).kept = s.kept := by
  unfold sendAs; split <;> simp

@[simp] theorem answer_kept (s : State) (e : Envelope) (x : Option Session) (type : Nat) (session : Nat) (reqId : Nat) (status : Nat) (body : List Byte) :
    (answer s e x type session reqId status body).kept = s.kept := by
  unfold answer; simp

@[simp] theorem keepReply_kept (s : State) (session : Nat) (r : Nat × Nat × Nat × List Byte) :
    (keepReply s session r).kept = s.kept := by
  unfold keepReply; simp

@[simp] theorem authFail_kept (s : State) (e : Envelope) : (authFail s e).kept = s.kept := by
  unfold authFail; simp

@[simp] theorem touch_kept (s : State) (m : Msg) : (touch s m).kept = s.kept := by
  unfold touch; simp

@[simp] theorem acked_kept (s : State) (m : Msg) : (acked s m).kept = s.kept := by
  unfold acked; split <;> simp

@[simp] theorem takeOpen_kept (s : State) (e : Envelope) (m : Msg) : (takeOpen s e m).kept = s.kept := by
  unfold takeOpen; simp

@[simp] theorem takeProve_kept (s : State) (e : Envelope) (m : Msg) : (takeProve s e m).kept = s.kept := by
  unfold takeProve; split <;> simp

@[simp] theorem takeClose_kept (s : State) (e : Envelope) (m : Msg) : (takeClose s e m).kept = s.kept := by
  unfold takeClose; split <;> simp

@[simp] theorem takeForwardedMsg_kept (s : State) (e : Envelope) (m : Msg) : (takeForwardedMsg s e m).kept = s.kept := by
  unfold takeForwardedMsg; dsimp only; (repeat' split) <;> simp

@[simp] theorem serveBody_kept (k : Kind) (s : State) (e : Envelope) (rights : Nat) (m : Msg) :
    (serveBody k s e rights m).1.kept = s.kept := by
  unfold serveBody; split <;> simp

@[simp] theorem serveOnce_kept (k : Kind) (s : State) (e : Envelope) (rights : Nat) (m : Msg) :
    (serveOnce k s e rights m).kept = s.kept := by
  unfold serveOnce; dsimp only; (repeat' split) <;> simp

@[simp] theorem serveKind_kept (k : Kind) (s : State) (e : Envelope) (m : Msg) : (serveKind k s e m).kept = s.kept := by
  unfold serveKind; (repeat' split) <;> simp

@[simp] theorem serveNone_kept (s : State) (e : Envelope) (m : Msg) : (serveNone s e m).kept = s.kept := by
  unfold serveNone; (repeat' split) <;> simp

@[simp] theorem takeMessage_kept (want : Option Kind) (s : State) (e : Envelope) : (takeMessage want s e).kept = s.kept := by
  unfold takeMessage; dsimp only; (repeat' split) <;> simp

@[simp] theorem serveQueue_kept (s : State) : (serveQueue s).kept = s.kept := by
  unfold serveQueue; simp

@[simp] theorem takeIn_kept (want : Option Kind) (e : Envelope) (s : State) : (takeIn want e s).kept = s.kept := by
  unfold takeIn
  extract_lets boxed s1 c1 m
  clear_value boxed
  exact ite_kept_of (by simp) (ite_kept_of rfl (ite_kept_of rfl (by simp)))

@[simp] theorem receive_kept (t : Nat) (want : Kind) (e : Envelope) (s : State) : (receive t want e s).kept = (s.at_ t).kept := by
  unfold receive
  generalize s.at_ t = q
  dsimp only
  exact ite_kept_of rfl (ite_kept_of rfl (ite_kept_of rfl (by simp)))

@[simp] theorem sendNotify_kept (s : State) (x : Session) (req : Nat) (ack : Bool) (body : List Byte) :
    (sendNotify s x req ack body).kept = s.kept := by
  unfold sendNotify; simp

@[simp] theorem nextReq_kept (s : State) : (nextReq s).2.kept = s.kept := by
  unfold nextReq; simp

@[simp] theorem notifyEvents_kept (s : State) (id : Nat) (rs : List Record) : (notifyEvents s id rs).kept = s.kept := by
  unfold notifyEvents; split <;> simp

@[simp] theorem notifyValues_kept (s : State) (id : Nat) (us : List Sub) : (notifyValues s id us).kept = s.kept := by
  unfold notifyValues; split <;> simp

@[simp] theorem sampleSubs_kept (s : State) : (sampleSubs s).kept = s.kept := by
  unfold sampleSubs; simp

end Machine
end Sys2Proof
end

