-- ==== Sys2Proof/Laws/KeptStandby.lean ====
section
/-! SUPPORT. What the operations of Machine/Standby.lean leave alone: the queue, the creel's memory, local time and the pick counter. -/

namespace Sys2Proof
namespace Machine

@[simp] theorem sampleMonitors_kept (s : State) : (sampleMonitors s).kept = s.kept := by
  unfold sampleMonitors; simp

@[simp] theorem assessHeat_kept (sensors : List Int) (s : State) : (assessHeat sensors s).kept = s.kept := by
  unfold assessHeat; simp

@[simp] theorem refusalFollows_kept (s : State) (r : Request) : (refusalFollows s r).kept = s.kept := by
  unfold refusalFollows; split <;> simp

@[simp] theorem dropAuthority_kept (s : State) : (dropAuthority s).kept = s.kept := by
  unfold dropAuthority; simp

@[simp] theorem doffFades_kept (s : State) : (doffFades s).kept = s.kept := by
  unfold doffFades; simp

@[simp] theorem abortDoff_kept (s : State) : (abortDoff s).kept = s.kept := by
  unfold abortDoff; simp

end Machine
end Sys2Proof
end

