-- ==== Sys2Proof/Laws/KeptBatten.lean ====
section
/-! SUPPORT. What the operations of Machine/Batten.lean leave alone: the queue, the creel's memory, local time and the pick counter. -/

namespace Sys2Proof
namespace Machine

@[simp] theorem holdNext_kept (s : State) (e : Nat) (fade : Bool) : (holdNext s e fade).kept = s.kept := by
  unfold holdNext; split <;> simp

@[simp] theorem holdLate_kept (n : Nat) (s : State) (e : Nat) : (holdLate n s e).kept = s.kept := by
  unfold holdLate; repeat' (first | (simp; done) | (refine each_kept_of ?_ ?_ <;> (try intro _ _)) | (refine foldl_kept_of ?_ ?_ <;> (try intro _ _)) | (refine whenever_kept_of ?_ ?_) | split)

@[simp] theorem holdMoving_kept (n : Nat) (s : State) : (holdMoving n s).kept = s.kept := by
  unfold holdMoving; repeat' (first | (simp; done) | (refine each_kept_of ?_ ?_ <;> (try intro _ _)) | (refine foldl_kept_of ?_ ?_ <;> (try intro _ _)) | (refine whenever_kept_of ?_ ?_) | split)

@[simp] theorem missed_kept (s : State) (shuttles : List Nat) : (missed s shuttles).kept = s.kept := by
  unfold missed; simp

@[simp] theorem noteShuttle_kept (s : State) (sh : Nat) (slack : Nat) : (noteShuttle s sh slack).kept = s.kept := by
  unfold noteShuttle; simp

@[simp] theorem actOnSlack_kept (s : State) (slack : Nat) : (actOnSlack s slack).kept = s.kept := by
  unfold actOnSlack; simp

@[simp] theorem measureSlack_kept (n : Nat) (shuttles : List Nat) (anyLate : Bool) (done : Option Nat) (s : State) :
    (measureSlack n shuttles anyLate done s).kept = s.kept := by
  unfold measureSlack; simp

@[simp] theorem judgeDeadline_kept (env : BattenEnv) (n : Nat) (s : State) : (judgeDeadline env n s).kept = s.kept := by
  unfold judgeDeadline; simp

@[simp] theorem released1_kept (s : State) (n : Nat) (late : List Nat) (x : Edge × Map Val × Nat) :
    (released1 s n late x).1.kept = s.kept := by
  unfold released1; (repeat' split) <;> simp

@[simp] theorem sendAsrc_kept (s : State) (d : Map Val) (n : Nat) (i : Nat) (dithered : Bool) (ys : List Int) (degraded : Bool) :
    (sendAsrc s d n i dithered ys degraded).kept = s.kept := by
  unfold sendAsrc; simp

@[simp] theorem deliver_kept (s : State) (n : Nat) (x : Edge × Map Val × Nat) (ys : List Int) (degraded : Bool) :
    (deliver s n x ys degraded).kept = s.kept := by
  unfold deliver; dsimp only; (repeat' split) <;> simp

@[simp] theorem releaseCuts_kept (s : State) (n : Nat) : (releaseCuts s n).kept = s.kept := by
  unfold releaseCuts; simp

@[simp] theorem sendStatus_kept (s : State) (n : Nat) : (sendStatus s n).kept = s.kept := by
  unfold sendStatus; simp

@[simp] theorem putCloth_kept (s : State) (b : Block) : (putCloth s b).kept = s.kept := by
  unfold putCloth; simp

@[simp] theorem releaseCloth_kept (late : List Nat) (n : Nat) (s : State) : (releaseCloth late n s).1.kept = s.kept := by
  unfold releaseCloth
  dsimp only
  rw [sendStatus_kept, releaseCuts_kept]
  refine foldl_fst_kept _ _ _ (fun a x => ?_)
  simp

@[simp] theorem readAsrc_kept (s : State) (pick : Nat) : (readAsrc s pick).kept = s.kept := by
  unfold readAsrc; simp

@[simp] theorem handSlot_kept (n : Nat) (s : State) : (handSlot n s).kept = s.kept := by
  unfold handSlot; simp

@[simp] theorem closeSlots_kept (n : Nat) (s : State) : (closeSlots n s).kept = s.kept := by
  unfold closeSlots; simp

@[simp] theorem readGpio_kept (mask : Nat) (s : State) : (readGpio mask s).kept = s.kept := by
  unfold readGpio; simp

@[simp] theorem takeTraces_kept (s : State) : (takeTraces s).1.kept = s.kept := by
  unfold takeTraces; simp

@[simp] theorem runGovernor_kept (s : State) : (runGovernor s).kept = s.kept := by
  unfold runGovernor; simp

@[simp] theorem prune_kept (n : Nat) (s : State) : (prune n s).kept = s.kept := by
  unfold prune; simp

@[simp] theorem changesAndMoves_kept (env : BattenEnv) (n : Nat) (s : State) : (changesAndMoves env n s).kept = s.kept := by
  unfold changesAndMoves
  extract_lets g s1 bad g2 s2 s3 c s4 s5 s6 s7 s8
  have h1 : s1.kept = s.kept := by simp [s1]
  clear_value s1
  have h2 : s2.kept = s.kept := by
    refine each_kept_of (fun u x => ?_) h1
    split <;> simp
  clear_value s2
  have h3 : s3.kept = s.kept := by simp [s3, h2]
  clear_value s3
  have h4 : s4.kept = s.kept := h3
  clear_value s4
  have h5 : s5.kept = s.kept := by simp [s5, h4]
  clear_value s5
  have h6 : s6.kept = s.kept := by simp [s6, h5]
  clear_value s6
  have h7 : s7.kept = s.kept := by simp [s7, h6]
  clear_value s7
  have h8 : s8.kept = s.kept := by simp only [s8]; split <;> simp [h7]
  clear_value s8
  simp [h8]

@[simp] theorem unitsAtBatten_kept (env : BattenEnv) (n : Nat) (cloth : List Int) (s : State) :
    (unitsAtBatten env n cloth s).kept = s.kept := by
  unfold unitsAtBatten; simp

end Machine
end Sys2Proof
end

