-- ==== Sys2Proof/Laws/Tables.lean ====
section
/-! SUPPORT. Laws of the tables and of the dictionary: what a read gives after a write. -/

namespace Sys2Proof
namespace Machine

/-- A table read at the key just set. -/
@[simp] theorem mapGet_mapSet_same {α : Type} (m : Map α) (k : Nat) (v : α) : mapGet (mapSet m k v) k = some v := by
  induction m with
  | nil => simp [mapSet, mapGet]
  | cons e r ih =>
    obtain ⟨a, x⟩ := e
    simp only [mapSet]
    split
    · simp [mapGet]
    · split
      · simp [mapGet]
      · rename_i h; simp only [mapGet]; rw [if_neg (fun c => h c.symm)]; exact ih

/-- A table read at another key than the one set. -/
theorem mapGet_mapSet_ne {α : Type} (m : Map α) (k k' : Nat) (v : α) (h : k' ≠ k) : mapGet (mapSet m k v) k' = mapGet m k' := by
  induction m with
  | nil => simp [mapSet, mapGet, Ne.symm h]
  | cons e r ih =>
    obtain ⟨a, x⟩ := e
    simp only [mapSet]
    split
    · rw [mapGet]; exact if_neg (Ne.symm h)
    · split
      · rename_i c; subst c; simp [mapGet, Ne.symm h]
      · simp only [mapGet, ih]

/-- A table read at the key just removed. -/
@[simp] theorem mapGet_mapDel_same {α : Type} (m : Map α) (k : Nat) : mapGet (mapDel m k) k = none := by
  induction m with
  | nil => rfl
  | cons e r ih =>
    obtain ⟨a, x⟩ := e
    by_cases h : a = k
    · simpa [mapDel, h] using ih
    · simpa [mapDel, h, mapGet] using ih

/-- A table read at another key than the one removed. -/
theorem mapGet_mapDel_ne {α : Type} (m : Map α) (k k' : Nat) (h : k' ≠ k) : mapGet (mapDel m k) k' = mapGet m k' := by
  induction m with
  | nil => rfl
  | cons e r ih =>
    obtain ⟨a, x⟩ := e
    by_cases c : a = k
    · have : a ≠ k' := fun d => h (d.symm.trans c)
      simpa [mapDel, c, mapGet, this, c ▸ this] using ih
    · have f : mapDel ((a, x) :: r) k = (a, x) :: mapDel r k := by simp [mapDel, c]
      rw [f, mapGet, mapGet, ih]

/-- A copy of the dictionary read at the key just written. -/
@[simp] theorem getIn_putIn_same (d : Map Val) (k : Nat) (v : Val) : getIn (putIn d k v) k = v := by
  unfold putIn
  split
  · simp [getIn]
  · split
    · rename_i h c; simp [getIn, h, c]
    · simp [getIn]

/-- A copy of the dictionary read at another key than the one written. Parameter slots are left out: the default of one follows
the type and the shape that other keys give. -/
theorem getIn_putIn_ne (d : Map Val) (k k' : Nat) (v : Val) (h : k' ≠ k) (p : isParam k' = false) :
    getIn (putIn d k v) k' = getIn d k' := by
  have g : mapGet (putIn d k v) k' = mapGet d k' := by
    unfold putIn
    split
    · exact mapGet_mapSet_ne _ _ _ _ h
    · split
      · exact mapGet_mapDel_ne _ _ _ h
      · exact mapGet_mapSet_ne _ _ _ _ h
  simp [getIn, g, p]

/-- A number read where it was just written. -/
@[simp] theorem State.rd_wr_same (s : State) (k : Nat) (v : Int) : (s.wr k v).rd k = v := by
  simp [State.rd, State.wr, State.wrV, Val.int]

/-- A number read elsewhere than where one was written. -/
theorem State.rd_wr_ne (s : State) (k k' : Nat) (v : Int) (h : k' ≠ k) (p : isParam k' = false) : (s.wr k v).rd k' = s.rd k' := by
  simp [State.rd, State.wr, State.wrV, getIn_putIn_ne _ _ _ _ h p]

/-- A counter after it was raised. -/
@[simp] theorem State.rd_bump_same (s : State) (k n : Nat) : (s.bump k n).rd k = (s.rd k + n) % 4294967296 := by
  simp [State.bump]

/-- Another object after a counter was raised. -/
theorem State.rd_bump_ne (s : State) (k k' n : Nat) (h : k' ≠ k) (p : isParam k' = false) : (s.bump k n).rd k' = s.rd k' :=
  s.rd_wr_ne _ _ _ h p

/-- Setting an entry keeps the keys rising. -/
theorem mapSorted_cons {α : Type} (e : Nat × α) (m : Map α) :
    mapSorted (e :: m) = true ↔ mapSorted m = true ∧ ∀ x ∈ m.head?, e.1 < x.1 := by
  cases m with
  | nil => simp [mapSorted]
  | cons b r => simp [mapSorted, and_comm]

/-- Setting an entry keeps the keys rising. -/
theorem mapSorted_mapSet {α : Type} (m : Map α) (k : Nat) (v : α) (h : mapSorted m = true) : mapSorted (mapSet m k v) = true := by
  induction m with
  | nil => rfl
  | cons e r ih =>
    obtain ⟨a, x⟩ := e
    rw [mapSorted_cons] at h
    simp only [mapSet]
    split
    · rename_i c; rw [mapSorted_cons, mapSorted_cons]; exact ⟨h, by simpa using c⟩
    · split
      · rename_i c; subst c; rw [mapSorted_cons]; exact h
      · rw [mapSorted_cons]
        refine ⟨ih h.1, ?_⟩
        cases r with
        | nil => simp [mapSet]; omega
        | cons b r =>
          obtain ⟨b, y⟩ := b
          have hb : a < b := h.2 (b, y) rfl
          simp only [mapSet]
          split <;> (try split) <;> simp <;> omega

/-- Every key of a sorted table lies above its first. -/
theorem mapSorted_lt {α : Type} (e : Nat × α) (m : Map α) (h : mapSorted (e :: m) = true) : ∀ x ∈ m, e.1 < x.1 := by
  induction m generalizing e with
  | nil => simp
  | cons b r ih =>
    rw [mapSorted_cons] at h
    have hb : e.1 < b.1 := h.2 b rfl
    intro x hx
    rcases List.mem_cons.1 hx with c | c
    · exact c ▸ hb
    · exact Nat.lt_trans hb (ih b h.1 x c)

/-- Removing an entry keeps the keys rising. -/
theorem mapSorted_mapDel {α : Type} (m : Map α) (k : Nat) (h : mapSorted m = true) : mapSorted (mapDel m k) = true := by
  induction m with
  | nil => rfl
  | cons e r ih =>
    have h2 := mapSorted_lt e r h
    rw [mapSorted_cons] at h
    have hr := ih h.1
    simp only [mapDel] at hr ⊢
    by_cases c : e.1 = k
    · simpa [List.filter_cons, c] using hr
    · rw [List.filter_cons_of_pos (by simpa using c), mapSorted_cons]
      refine ⟨hr, fun x hx => h2 x ?_⟩
      have : x ∈ r.filter (fun e => decide (e.1 ≠ k)) := List.mem_of_mem_head? hx
      exact (List.mem_filter.1 this).1

/-- Removing a key leaves no entry under it. -/
theorem mapDel_mem {α : Type} (m : Map α) (k : Nat) (x : Nat × α) (h : x ∈ mapDel m k) : x ∈ m := (List.mem_filter.1 h).1

/-- An entry of a table with a key set is the new one or an old one. -/
theorem mapSet_mem {α : Type} (m : Map α) (k : Nat) (v : α) (x : Nat × α) (h : x ∈ mapSet m k v) : x = (k, v) ∨ x ∈ m := by
  induction m with
  | nil => simpa [mapSet] using h
  | cons e r ih =>
    obtain ⟨a, y⟩ := e
    simp only [mapSet] at h
    split at h
    · simpa using h
    · split at h
      · rcases List.mem_cons.1 h with c | c
        · exact .inl c
        · exact .inr (List.mem_cons_of_mem _ c)
      · rcases List.mem_cons.1 h with c | c
        · exact .inr (c ▸ List.mem_cons_self ..)
        · rcases ih c with d | d
          · exact .inl d
          · exact .inr (List.mem_cons_of_mem _ d)

end Machine
end Sys2Proof
end

