-- ==== Sys2Proof/Laws/Memory.lean ====
section
/-! SUPPORT. Laws of the creel's memory: what a read gives after a write, that every memory operation keeps the canonical form, and
what the operations that reach memory leave alone. -/

namespace Sys2Proof
namespace Machine

/-! ## Bytes -/

/-- A byte read where it was just written. -/
@[simp] theorem memRead_memWrite_same (m : List Host.Cell) (a : Nat) (b : Byte) : memRead (memWrite m a b) a = b := by
  unfold memRead memWrite
  split <;> simp_all

/-- A byte read elsewhere than where one was written. -/
theorem memRead_memWrite_ne (m : List Host.Cell) (a c : Nat) (b : Byte) (h : c ≠ a) : memRead (memWrite m a b) c = memRead m c := by
  unfold memRead memWrite
  split
  · rw [mapGet_mapDel_ne _ _ _ h]
  · rw [mapGet_mapSet_ne _ _ _ _ h]

/-- Writing a byte keeps the canonical form. -/
theorem memWrite_wf (m : List Host.Cell) (a : Nat) (b : Byte) (h : Memory.wf m = true) : Memory.wf (memWrite m a b) = true := by
  simp only [Memory.wf, Bool.and_eq_true, List.all_eq_true, decide_eq_true_eq] at h ⊢
  unfold memWrite
  split
  · exact ⟨mapSorted_mapDel m a h.1, fun x hx => h.2 x (mapDel_mem m a x hx)⟩
  · rename_i c
    refine ⟨mapSorted_mapSet m a b h.1, fun x hx => ?_⟩
    rcases mapSet_mem m a b x hx with e | e
    · subst e; exact c
    · exact h.2 x e

/-- Writing a word keeps the canonical form. -/
theorem memSetWord_wf (m : List Host.Cell) (a v : Nat) (h : Memory.wf m = true) : Memory.wf (memSetWord m a v) = true :=
  memWrite_wf _ _ _ (memWrite_wf _ _ _ (memWrite_wf _ _ _ (memWrite_wf _ _ _ h)))

/-! ## What the operations that reach memory leave alone -/

/-- From one state to another: the queue, local time and the pick counter stand, and memory keeps its canonical form. -/
def Steady (s u : State) : Prop :=
  u.pending = s.pending ∧ u.clock.now = s.clock.now ∧ u.clock.pick = s.clock.pick ∧
    (Memory.wf s.creel.mem = true → Memory.wf u.creel.mem = true)

theorem Steady.refl (s : State) : Steady s s := ⟨rfl, rfl, rfl, id⟩
theorem Steady.trans {s u v : State} (h : Steady s u) (g : Steady u v) : Steady s v :=
  ⟨g.1.trans h.1, g.2.1.trans h.2.1, g.2.2.1.trans h.2.2.1, fun w => g.2.2.2 (h.2.2.2 w)⟩
/-- What changes nothing that is kept is steady. -/
theorem steady_of_kept {s u : State} (h : u.kept = s.kept) : Steady s u := by
  obtain ⟨a, b, c, d⟩ := kept_parts h
  exact ⟨a, c, d, fun w => b ▸ w⟩

/-- A creel access touches, of all this, only memory, and a word of it at most. -/
theorem creelAccess_steady (m : Master) (a : Nat) (w : Bool) (v : Nat) (s : State) : Steady s (creelAccess m a w v s).1 := by
  unfold creelAccess
  dsimp only
  repeat' split
  all_goals first
    | exact ⟨rfl, rfl, rfl, memSetWord_wf _ _ _⟩
    | exact steady_of_kept (by simp)

theorem bridgeWrites_steady (a : Nat) (bs : List Byte) (s : State) : Steady s (bridgeWrites a bs s) := by
  fun_induction bridgeWrites a bs s with
  | case1 a b0 b1 b2 b3 rest s s' v e h ih =>
    have hc : Steady s s' := by have := creelAccess_steady .bridge a true (beNat [b0, b1, b2, b3]) s; rwa [h] at this
    refine hc.trans (Steady.trans ?_ ih)
    split <;> exact steady_of_kept (by simp)
  | case2 a s => exact Steady.refl s
  | case3 => exact steady_of_kept (by simp)

theorem bridgeReads_steady (a n : Nat) (s : State) : Steady s (bridgeReads a n s).1 := by
  induction n generalizing a s with
  | zero => exact Steady.refl s
  | succ n ih =>
    unfold bridgeReads
    dsimp only
    refine Steady.trans ?_ (ih _ _)
    refine (creelAccess_steady .bridge a false 0 s).trans ?_
    split <;> exact steady_of_kept (by simp)

theorem serveCreel_steady (s : State) (m : Master) (op : CreelOp) : Steady s (serveCreel s m op) := by
  unfold serveCreel
  split
  · exact steady_of_kept (by simp)
  · dsimp only
    split
    · exact steady_of_kept (by simp)
    · refine Steady.trans (Steady.trans ?_ (creelAccess_steady m op.addr op.write op.data.toNat _)) (steady_of_kept (by simp; rfl))
      exact steady_of_kept rfl

theorem serveAll_steady (rs : List (Master × CreelOp)) (s : State) : Steady s (serveAll s rs) := by
  induction rs generalizing s with
  | nil => exact Steady.refl s
  | cons r rest ih =>
    unfold serveAll
    split
    · exact Steady.trans (steady_of_kept rfl) (ih _)
    · exact (serveCreel_steady s r.1 r.2).trans (ih _)

theorem waiting_steady (s : State) (w : List (Master × CreelOp)) : Steady s { s with creel := { s.creel with waiting := w } } :=
  steady_of_kept rfl

theorem arbitrateWaiting_steady (n : Nat) (s : State) : Steady s (arbitrateWaiting n s) := by
  induction n generalizing s with
  | zero => exact Steady.refl s
  | succ n ih =>
    unfold arbitrateWaiting
    exact ((waiting_steady s []).trans (serveAll_steady _ _)).trans (ih _)

theorem arbitrate_steady (s : State) (rs : List (Master × CreelOp)) : Steady s (arbitrate s rs) :=
  (waiting_steady s _).trans (arbitrateWaiting_steady 6 _)

end Machine
end Sys2Proof
end

