-- ==== Sys2Proof/Laws/Commands.lean ====
section
/-! SUPPORT. What each command leaves alone: it completes, the queue stands, memory keeps its canonical form, and local time and the
pick counter move only where the rule says so. -/

namespace Sys2Proof
namespace Machine

/-- What holds of both branches of a conditional effect. -/
theorem whenever_ind {R : State → Prop} {s : State} {c : Bool} {f : State → State} (h : R (f s)) (h0 : R s) : R (s.whenever c f) := by
  unfold State.whenever; split <;> assumption
/-- A command that answers a state which has a property. -/
theorem next_ind {R : State → Prop} {u : State} (h : R u) : ∃ v, (Host.Outcome.next u : Result) = .next v ∧ R v := ⟨u, rfl, h⟩
/-- A claim that succeeds changes bobbins and counters alone. -/
theorem claim_kept {s u : State} {target n : Nat} (h : claim s target = some (u, n)) : u.kept = s.kept := by
  unfold claim at h
  split at h
  · exact absurd h (by simp)
  · simp only [Option.some.injEq, Prod.mk.injEq] at h
    obtain ⟨rfl, -⟩ := h
    split <;> simp
theorem claimOrCount_kept {s : State} {target : Nat} {r : State × Nat} (h : claimOrCount s target = some r) :
    r.1.kept = s.kept := by
  unfold claimOrCount at h
  split at h
  · split at h
    · cases h; simp
    · cases h
  · exact claim_kept h

theorem execMendDrainStart_kept (t : Nat) (s : State) : ∃ u, execMendDrainStart t s = .next u ∧ u.kept = (s.at_ t).kept := by
  unfold execMendDrainStart
  generalize s.at_ t = q
  refine next_ind (whenever_kept _ _ _ ?_)
  rw [chooseDrain_kept, kept_mk]; exact kept_fold q

theorem execHedClaim_kept (t : Nat) (core : Fin 2) (s : State) :
    ∃ u, execHedClaim t core s = .next u ∧ u.kept = (s.at_ t).kept := by
  unfold execHedClaim
  generalize s.at_ t = q
  refine ⟨_, rfl, whenever_kept _ _ _ ?_⟩
  split
  · rfl
  · rename_i h; simp [claim_kept h]

theorem execBobbinClaim_kept (t : Nat) (field : Bool) (s : State) :
    ∃ u, execBobbinClaim t field s = .next u ∧ u.kept = (s.at_ t).kept := by
  unfold execBobbinClaim
  generalize s.at_ t = q
  extract_lets q target
  clear_value target
  have one : (match claimOrCount q target with | some r => r.1 | none => q).kept = q.kept := by
    split
    · rename_i h; exact claimOrCount_kept h
    · rfl
  split
  · exact ⟨_, rfl, one⟩
  · split
    · exact ⟨_, rfl, rfl⟩
    · rename_i h
      have hk := claim_kept h
      extract_lets ids
      split
      · exact ⟨_, rfl, hk⟩
      · exact ⟨_, rfl, each_kept_of (fun _ _ => by simp) (by simp [hk, q])⟩

theorem dropCore_steady (s : State) : Steady s (dropCore s) := ⟨rfl, rfl, rfl, fun _ => rfl⟩

theorem execCreelWrite_steady (t addr : Nat) (data : List Byte) (s : State) :
    ∃ u, execCreelWrite t addr data s = .next u ∧ Steady (s.at_ t) u := by
  refine ⟨_, rfl, ?_⟩
  unfold State.whenever
  split
  · exact (bridgeWrites_steady _ _ _).trans (steady_of_kept (verifyHost_kept _))
  · exact Steady.refl _

theorem execCreelTransaction_steady (t : Nat) (reqs : List (Master × CreelOp)) (s : State) :
    ∃ u, execCreelTransaction t reqs s = .next u ∧ Steady (s.at_ t) u :=
  ⟨_, rfl, (arbitrate_steady _ _).trans (steady_of_kept (verifyHost_kept _))⟩

theorem execCreelLockBroken_steady (t : Nat) (m : Master) (s : State) :
    ∃ u, execCreelLockBroken t m s = .next u ∧ Steady (s.at_ t) u := by
  unfold execCreelLockBroken
  dsimp only
  split
  · exact ⟨_, rfl, (steady_of_kept (by simp)).trans (arbitrate_steady _ _)⟩
  · exact ⟨_, rfl, Steady.refl _⟩

/-- A creel read changes nothing that is kept. -/
theorem creelAccess_read_kept (m : Master) (a v : Nat) (s : State) : (creelAccess m a false v s).1.kept = s.kept := by
  unfold creelAccess
  dsimp only
  (repeat' split) <;> simp_all

theorem bridgeReads_kept (a n : Nat) (s : State) : (bridgeReads a n s).1.kept = s.kept := by
  induction n generalizing a s with
  | zero => rfl
  | succ n ih =>
    unfold bridgeReads
    dsimp only
    rw [ih]
    split <;> simp [creelAccess_read_kept]

theorem execCreelRead_kept (t addr words fillers : Nat) (s : State) :
    ∃ u, execCreelRead t addr words fillers s = .next u ∧ u.kept = (s.at_ t).kept := by
  unfold execCreelRead
  generalize s.at_ t = q
  refine ⟨_, rfl, whenever_kept _ _ _ ?_⟩
  split
  · rw [State.emit_kept, bridgeErr_kept]
  · dsimp only; rw [State.emit_kept, bridgeReads_kept]

theorem execBootImageLen_kept (t : Nat) (m : Master) (v : Nat) (s : State) :
    ∃ u, execBootImageLen t m v s = .next u ∧ u.kept = (s.at_ t).kept := by
  unfold execBootImageLen
  generalize s.at_ t = q
  refine ⟨_, rfl, ?_⟩
  rw [verifyHost_kept]
  have h : targetOf (0x2040C004 / 4 * 4) = some 1 := by decide
  unfold creelAccess
  dsimp only
  rw [h]
  dsimp only
  split
  · simp
  · rw [if_neg (by simp), if_neg (by decide), if_neg (by decide), if_pos (by decide), if_pos rfl]
    simp

theorem execCorePgTimeout_steady (t : Nat) (s : State) : ∃ u, execCorePgTimeout t s = .next u ∧ Steady (s.at_ t) u := by
  refine ⟨_, rfl, ?_⟩
  unfold State.whenever
  split
  · exact (dropCore_steady _).trans (steady_of_kept (failStart_kept _))
  · exact Steady.refl _

theorem execCorePgFall_steady (t : Nat) (s : State) : ∃ u, execCorePgFall t s = .next u ∧ Steady (s.at_ t) u := by
  refine ⟨_, rfl, ?_⟩
  unfold State.whenever
  split
  · dsimp only
    split
    · exact steady_of_kept rfl
    · have h : Steady (s.at_ t) (resetEngine (s.at_ t)) := steady_of_kept (resetEngine_kept _)
      generalize resetEngine (s.at_ t) = q at h ⊢
      exact (h.trans (dropCore_steady q)).trans (steady_of_kept (releaseReset_kept (dropCore q) 1 100000000))
  · exact Steady.refl _

theorem enterDoff_steady (s : State) : Steady s (enterDoff s) := by
  unfold enterDoff
  have h : Steady s (resetEngine (s.bump Obj.DOFF_COUNT)) := steady_of_kept (by rw [resetEngine_kept, State.bump_kept])
  generalize resetEngine (s.bump Obj.DOFF_COUNT) = q at h
  extract_lets at_ u
  have h1 : Steady s u := h.trans (dropCore_steady q)
  clear_value u
  exact h1.trans (steady_of_kept (by rw [showReference_kept]; rfl))

theorem execDoffLatchSample_steady (t : Nat) (s : State) : ∃ u, execDoffLatchSample t s = .next u ∧ Steady (s.at_ t) u := by
  refine ⟨_, rfl, ?_⟩
  unfold State.whenever
  split
  · dsimp only
    refine Steady.trans (u := writeRecord (saveImage (s.at_ t))) (steady_of_kept (by simp)) ?_
    split
    · exact steady_of_kept (by simp)
    · exact enterDoff_steady _
  · exact Steady.refl _

/-- What a loss of the standby rails, PORST_N and the start of the pick counter leave: the queue, and memory in its form. -/
def Sound (s u : State) : Prop := u.pending = s.pending ∧ (Memory.wf s.creel.mem = true → Memory.wf u.creel.mem = true)

theorem Steady.sound {s u : State} (h : Steady s u) : Sound s u := ⟨h.1, h.2.2.2⟩

theorem resetAll_sound (s : State) : Sound s (resetAll s) := by
  have h := (kept_parts (resetRim_kept false s)).1
  unfold resetAll Sound
  generalize resetRim false s = q at h ⊢
  exact ⟨h, fun _ => rfl⟩

theorem execPowerLoss_sound (t : Nat) (s : State) : ∃ u, execPowerLoss t s = .next u ∧ Sound s u := by
  have h := resetAll_sound (s.at_ t)
  unfold execPowerLoss
  refine next_ind (whenever_ind ?_ ⟨rfl, id⟩)
  generalize resetAll (s.at_ t) = q at h ⊢
  exact h

theorem execPorstNFall_sound (t : Nat) (s : State) : ∃ u, execPorstNFall t s = .next u ∧ Sound s u := by
  have h := resetAll_sound (s.at_ t)
  unfold execPorstNFall
  refine next_ind (whenever_ind ?_ ⟨rfl, id⟩)
  generalize resetAll (s.at_ t) = q at h ⊢
  exact h

theorem execPorstNRise_sound (t straps : Nat) (flash : Option (List Byte × List Byte)) (s : State) :
    ∃ u, execPorstNRise t straps flash s = .next u ∧ Sound s u := by
  unfold execPorstNRise
  refine next_ind (whenever_ind ?_ ⟨rfl, id⟩)
  extract_lets p s1 p2 s2 s3 q s4
  have h1 : Sound s s1 := ⟨rfl, id⟩
  clear_value s1
  have h2 : Sound s s2 := by unfold s2; split <;> exact h1
  clear_value s2
  have h3 : Sound s s3 := h2
  clear_value s3
  have h4 : Sound s s4 := h3
  clear_value s4
  obtain ⟨a, b, -, -⟩ := kept_parts (releaseReset_kept s4 0 100000)
  exact ⟨a.trans h4.1, fun w => b ▸ h4.2 w⟩

/-- A renumbering of picks and samples touches neither the queue nor memory nor local time. -/
theorem renumber_parts (s : State) (d : Int) :
    (renumber s d).pending = s.pending ∧ (renumber s d).creel.mem = s.creel.mem ∧ (renumber s d).clock.now = s.clock.now :=
  ⟨rfl, rfl, rfl⟩

/-- Queue, memory and local time are kept. -/
def Timely (s u : State) : Prop := u.pending = s.pending ∧ u.creel.mem = s.creel.mem ∧ u.clock.now = s.clock.now
theorem timely_of_kept {s u : State} (h : u.kept = s.kept) : Timely s u := ⟨(kept_parts h).1, (kept_parts h).2.1, (kept_parts h).2.2.1⟩
theorem Timely.trans {s u v : State} (h : Timely s u) (g : Timely u v) : Timely s v :=
  ⟨g.1.trans h.1, g.2.1.trans h.2.1, g.2.2.trans h.2.2⟩

theorem execTimeStepped_timely (t : Nat) (s : State) : ∃ u, execTimeStepped t s = .next u ∧ Timely (s.at_ t) u := by
  unfold execTimeStepped
  generalize s.at_ t = q
  refine ⟨_, rfl, whenever_ind (R := Timely q) ?_ ⟨rfl, rfl, rfl⟩⟩
  extract_lets d c s1 s2 e s3 n s4
  split
  · exact ⟨rfl, rfl, rfl⟩
  · have h1 : Timely q s2 := Timely.trans (u := s1) ⟨rfl, rfl, rfl⟩ (renumber_parts s1 d)
    clear_value s2
    have h2 : Timely q s3 := h1
    clear_value s3 n e
    exact h2.trans (timely_of_kept (by simp [s4]))

theorem execStartDone_timely (t : Nat) (ddr : DdrTraining) (selfTests : List SelfTest) (s : State) :
    ∃ u, execStartDone t ddr selfTests s = .next u ∧ Timely (s.at_ t) u := by
  unfold execStartDone
  generalize s.at_ t = q
  extract_lets q2 cold bad
  refine ⟨_, rfl, whenever_ind (R := Timely q) ?_ ⟨rfl, rfl, rfl⟩⟩
  clear_value bad
  extract_lets s1 s2 c s3 s4 s5 s6 s7 s8 s9
  have h1 : Timely q s1 := by
    unfold s1; split
    · exact timely_of_kept (by simp [q2])
    · exact ⟨rfl, rfl, rfl⟩
  clear_value s1
  have h2 : Timely q s2 := h1.trans (timely_of_kept (by simp [s2]))
  clear_value s2
  have h3 : Timely q s3 := h2
  clear_value s3 c
  have h4 : Timely q s4 := h3.trans (timely_of_kept (by simp [s4]))
  clear_value s4
  have h5 : Timely q s5 := h4.trans (timely_of_kept (each_kept _ _ _ (fun _ _ => by simp)))
  clear_value s5
  have h6 : Timely q s6 := h5.trans (timely_of_kept (by unfold s6; split <;> simp))
  clear_value s6
  have h7 : Timely q s7 := h6.trans (timely_of_kept (by simp [s7]))
  clear_value s7
  have h8 : Timely q s8 := h7.trans (timely_of_kept (by simp [s8]))
  clear_value s8
  have h9 : Timely q s9 := h8.trans (timely_of_kept (each_kept _ _ _ (fun _ _ => by simp)))
  clear_value s9
  exact h9.trans (timely_of_kept (by simp))

/-- What a BATTEN may move forward: local time. -/
theorem openBatten_parts (s : State) : (openBatten s).pending = s.pending ∧ (openBatten s).creel.mem = s.creel.mem ∧
    s.clock.now ≤ (openBatten s).clock.now :=
  ⟨rfl, rfl, Nat.le_max_left _ _⟩

theorem execBatten_forward (env : BattenEnv) (s : State) : ∃ u, execBatten env s = .next u ∧
    u.pending = s.pending ∧ u.creel.mem = s.creel.mem ∧ s.clock.now ≤ u.clock.now := by
  unfold execBatten
  have h0 : (s.at_ 0).pending = s.pending ∧ (s.at_ 0).creel.mem = s.creel.mem ∧ s.clock.now ≤ (s.at_ 0).clock.now :=
    ⟨rfl, rfl, Nat.le_max_left _ _⟩
  generalize s.at_ 0 = q at h0
  refine ⟨_, rfl, ?_⟩
  refine whenever_ind (R := fun u : State => u.pending = s.pending ∧ u.creel.mem = s.creel.mem ∧ s.clock.now ≤ u.clock.now) ?_ ?_
  · extract_lets s1 n s2 r s3 s4 s5 s6 s7 s8
    have h1 := openBatten_parts q
    have hs1 : s1.kept = (openBatten q).kept := by simp [s1]
    clear_value s1 n
    have h2 : s2.kept = (openBatten q).kept := (judgeDeadline_kept _ _ _).trans hs1
    clear_value s2
    have h3 : r.1.kept = (openBatten q).kept := (releaseCloth_kept _ _ _).trans h2
    clear_value r
    have h4 : s3.kept = (openBatten q).kept := by simp [s3, h3]
    clear_value s3
    have h5 : s4.kept = (openBatten q).kept := by simp [s4, h4]
    clear_value s4
    have h6 : s5.kept = (openBatten q).kept := by simp [s5, h5]
    clear_value s5
    have h7 : s6.kept = (openBatten q).kept := by simp [s6, h6]
    clear_value s6
    have h8 : s7.kept = (openBatten q).kept := by simp [s7, h7]
    clear_value s7
    have h9 : s8.kept = (openBatten q).kept := by unfold s8; split <;> simp [h8]
    clear_value s8
    have hk : (leaveBatten (sampleSubs (prune n s8))).kept = (openBatten q).kept := by simp [h9]
    obtain ⟨a, b, c, -⟩ := kept_parts hk
    exact ⟨a.trans (h1.1.trans h0.1), b.trans (h1.2.1.trans h0.2.1), by rw [c]; exact Nat.le_trans h0.2.2 h1.2.2⟩
  · exact h0

/-! ## Commands that change none of the four -/

theorem execTaskComplete_kept (t : Nat) (e : Elem) (f : TaskFaults) (s : State) :
    ∃ u, execTaskComplete t e f s = .next u ∧ u.kept = (s.at_ t).kept := by
  unfold execTaskComplete
  generalize s.at_ t = q
  dsimp only
  (repeat' split) <;> exact ⟨_, rfl, by simp⟩

theorem execSlackWarn_kept (t : Nat) (s : State) : ∃ u, execSlackWarn t s = .next u ∧ u.kept = (s.at_ t).kept := by
  unfold execSlackWarn
  generalize s.at_ t = q
  refine ⟨_, rfl, ?_⟩; simp

theorem execSlackWarnClear_kept (t : Nat) (s : State) : ∃ u, execSlackWarnClear t s = .next u ∧ u.kept = (s.at_ t).kept := by
  unfold execSlackWarnClear
  refine ⟨_, rfl, ?_⟩; simp

theorem execSlackAlarmClear_kept (t : Nat) (s : State) : ∃ u, execSlackAlarmClear t s = .next u ∧ u.kept = (s.at_ t).kept := by
  unfold execSlackAlarmClear
  generalize s.at_ t = q
  refine ⟨_, rfl, ?_⟩; simp

theorem execSlackClear_kept (t : Nat) (w : Writer) (v : Nat) (s : State) :
    ∃ u, execSlackClear t w v s = .next u ∧ u.kept = (s.at_ t).kept := by
  unfold execSlackClear
  refine ⟨_, rfl, ?_⟩; simp

theorem execGraphCommit_kept (t : Nat) (w : Writer) (s : State) :
    ∃ u, execGraphCommit t w s = .next u ∧ u.kept = (s.at_ t).kept := by
  unfold execGraphCommit
  refine ⟨_, rfl, ?_⟩; simp

theorem execDiscardEdits_kept (t : Nat) (w : Writer) (s : State) :
    ∃ u, execDiscardEdits t w s = .next u ∧ u.kept = (s.at_ t).kept := by
  unfold execDiscardEdits
  refine ⟨_, rfl, ?_⟩; simp

theorem execCompileDone_kept (t : Nat) (s : State) : ∃ u, execCompileDone t s = .next u ∧ u.kept = (s.at_ t).kept := by
  unfold execCompileDone
  generalize s.at_ t = q
  dsimp only
  (repeat' split) <;> (refine ⟨_, rfl, ?_⟩; (repeat' (first | (simp; done) | (refine whenever_kept_of ?_ ?_) | (refine each_kept_of ?_ ?_ <;> (try intro _ _)) | split)))

theorem execGraphSwitch_kept (t : Nat) (s : State) : ∃ u, execGraphSwitch t s = .next u ∧ u.kept = (s.at_ t).kept := by
  unfold execGraphSwitch
  generalize s.at_ t = q
  dsimp only
  (repeat' split) <;> (refine ⟨_, rfl, ?_⟩; (repeat' (first | (simp; done) | (refine whenever_kept_of ?_ ?_) | (refine each_kept_of ?_ ?_ <;> (try intro _ _)) | split)))

theorem execObjectWrite_kept (t : Nat) (w : Writer) (key : Nat) (v : Val) (s : State) :
    ∃ u, execObjectWrite t w key v s = .next u ∧ u.kept = (s.at_ t).kept := by
  unfold execObjectWrite
  refine ⟨_, rfl, ?_⟩; simp

theorem execContribSet_kept (t : Nat) (w : Writer) (v : Nat) (s : State) :
    ∃ u, execContribSet t w v s = .next u ∧ u.kept = (s.at_ t).kept := by
  unfold execContribSet
  refine ⟨_, rfl, ?_⟩; simp

theorem execTwillRequest_kept (t : Nat) (w : Writer) (v : Nat) (s : State) :
    ∃ u, execTwillRequest t w v s = .next u ∧ u.kept = (s.at_ t).kept := by
  unfold execTwillRequest
  refine ⟨_, rfl, ?_⟩; simp

theorem execTwillDone_kept (t : Nat) (i : Nat) (s : State) : ∃ u, execTwillDone t i s = .next u ∧ u.kept = (s.at_ t).kept := by
  unfold execTwillDone
  generalize s.at_ t = q
  dsimp only
  split <;> exact ⟨_, rfl, by simp⟩

theorem execRouteFadeEnd_kept (t : Nat) (dest : Nat) (s : State) :
    ∃ u, execRouteFadeEnd t dest s = .next u ∧ u.kept = (s.at_ t).kept := by
  unfold execRouteFadeEnd
  generalize s.at_ t = q
  dsimp only
  split <;> exact ⟨_, rfl, by simp⟩

theorem execRouteDeferredApply_kept (t : Nat) (dest : Nat) (s : State) :
    ∃ u, execRouteDeferredApply t dest s = .next u ∧ u.kept = (s.at_ t).kept := by
  unfold execRouteDeferredApply
  generalize s.at_ t = q
  dsimp only
  split <;> exact ⟨_, rfl, by simp⟩

theorem execDelayFadeEnd_kept (t : Nat) (i : Nat) (s : State) :
    ∃ u, execDelayFadeEnd t i s = .next u ∧ u.kept = (s.at_ t).kept := by
  unfold execDelayFadeEnd
  generalize s.at_ t = q
  dsimp only
  refine ⟨_, rfl, ?_⟩; (repeat' (first | (simp; done) | (refine whenever_kept_of ?_ ?_) | (refine each_kept_of ?_ ?_ <;> (try intro _ _)) | split))

theorem execTrimRampEnd_kept (t : Nat) (i : Nat) (s : State) :
    ∃ u, execTrimRampEnd t i s = .next u ∧ u.kept = (s.at_ t).kept := by
  unfold execTrimRampEnd
  generalize s.at_ t = q
  dsimp only
  split <;> exact ⟨_, rfl, by simp⟩

theorem execGenCrossfadeEnd_kept (t : Nat) (i : Nat) (s : State) :
    ∃ u, execGenCrossfadeEnd t i s = .next u ∧ u.kept = (s.at_ t).kept := by
  unfold execGenCrossfadeEnd
  generalize s.at_ t = q
  dsimp only
  refine ⟨_, rfl, ?_⟩; (repeat' (first | (simp; done) | (refine whenever_kept_of ?_ ?_) | (refine each_kept_of ?_ ?_ <;> (try intro _ _)) | split))

theorem execSelvRampEnd_kept (t : Nat) (o : Fin 64) (s : State) :
    ∃ u, execSelvRampEnd t o s = .next u ∧ u.kept = (s.at_ t).kept := by
  unfold execSelvRampEnd
  refine ⟨_, rfl, ?_⟩; simp

theorem execFirpLoadDone_kept (t : Nat) (i : Nat) (s : State) :
    ∃ u, execFirpLoadDone t i s = .next u ∧ u.kept = (s.at_ t).kept := by
  unfold execFirpLoadDone
  generalize s.at_ t = q
  dsimp only
  refine ⟨_, rfl, ?_⟩; (repeat' (first | (simp; done) | (refine whenever_kept_of ?_ ?_) | (refine each_kept_of ?_ ?_ <;> (try intro _ _)) | split))

theorem execLdRun_kept (t : Nat) (w : Writer) (i : Nat) (v : Nat) (s : State) :
    ∃ u, execLdRun t w i v s = .next u ∧ u.kept = (s.at_ t).kept := by
  unfold execLdRun
  refine ⟨_, rfl, ?_⟩; simp

theorem execLoudnessUpdate_kept (t : Nat) (i : Nat) (s : State) :
    ∃ u, execLoudnessUpdate t i s = .next u ∧ u.kept = (s.at_ t).kept := by
  unfold execLoudnessUpdate
  generalize s.at_ t = q
  dsimp only
  split <;> exact ⟨_, rfl, by simp⟩

theorem execMtrClear_kept (t : Nat) (w : Writer) (i : Nat) (v : Nat) (s : State) :
    ∃ u, execMtrClear t w i v s = .next u ∧ u.kept = (s.at_ t).kept := by
  unfold execMtrClear
  refine ⟨_, rfl, ?_⟩; simp

theorem execReweaveBulkCopyDone_kept (t : Nat) (i : Nat) (logged : Nat) (s : State) :
    ∃ u, execReweaveBulkCopyDone t i logged s = .next u ∧ u.kept = (s.at_ t).kept := by
  unfold execReweaveBulkCopyDone
  generalize s.at_ t = q
  dsimp only
  split <;> exact ⟨_, rfl, by simp⟩

theorem execReweaveAbandoned_kept (t : Nat) (i : Nat) (s : State) :
    ∃ u, execReweaveAbandoned t i s = .next u ∧ u.kept = (s.at_ t).kept := by
  unfold execReweaveAbandoned
  generalize s.at_ t = q
  dsimp only
  split <;> exact ⟨_, rfl, by simp⟩

theorem execFaultMoveStart_kept (t : Nat) (i : Nat) (readable : Bool) (s : State) :
    ∃ u, execFaultMoveStart t i readable s = .next u ∧ u.kept = (s.at_ t).kept := by
  unfold execFaultMoveStart
  generalize s.at_ t = q
  dsimp only
  split <;> exact ⟨_, rfl, by simp⟩

theorem execMendSelfTest_kept (t : Nat) (h : Fin 9) (s : State) :
    ∃ u, execMendSelfTest t h s = .next u ∧ u.kept = (s.at_ t).kept := by
  unfold execMendSelfTest
  generalize s.at_ t = q
  refine ⟨_, rfl, ?_⟩; simp

theorem execMendSelfTestDone_kept (t : Nat) (h : Fin 9) (r : SelfTest) (s : State) :
    ∃ u, execMendSelfTestDone t h r s = .next u ∧ u.kept = (s.at_ t).kept := by
  unfold execMendSelfTestDone
  refine ⟨_, rfl, ?_⟩; simp

theorem execPlaceQuiet_kept (t : Nat) (w : Writer) (v : Nat) (s : State) :
    ∃ u, execPlaceQuiet t w v s = .next u ∧ u.kept = (s.at_ t).kept := by
  unfold execPlaceQuiet
  refine ⟨_, rfl, ?_⟩; simp

theorem execPlaceQuietEnd_kept (t : Nat) (s : State) : ∃ u, execPlaceQuietEnd t s = .next u ∧ u.kept = (s.at_ t).kept := by
  unfold execPlaceQuietEnd
  generalize s.at_ t = q
  refine ⟨_, rfl, ?_⟩; simp

theorem execOverflowEvict_kept (t : Nat) (i : Nat) (s : State) :
    ∃ u, execOverflowEvict t i s = .next u ∧ u.kept = (s.at_ t).kept := by
  unfold execOverflowEvict
  generalize s.at_ t = q
  dsimp only
  refine ⟨_, rfl, ?_⟩; (repeat' (first | (simp; done) | (refine whenever_kept_of ?_ ?_) | (refine each_kept_of ?_ ?_ <;> (try intro _ _)) | split))

theorem execOverflowEvictFailed_kept (t : Nat) (i : Nat) (s : State) :
    ∃ u, execOverflowEvictFailed t i s = .next u ∧ u.kept = (s.at_ t).kept := by
  unfold execOverflowEvictFailed
  generalize s.at_ t = q
  dsimp only
  split <;> exact ⟨_, rfl, by simp⟩

theorem execGuestEvictEnd_kept (t : Nat) (p : Fin 6) (s : State) :
    ∃ u, execGuestEvictEnd t p s = .next u ∧ u.kept = (s.at_ t).kept := by
  unfold execGuestEvictEnd
  generalize s.at_ t = q
  refine ⟨_, rfl, ?_⟩; simp

theorem execSelvedgeSample_kept (t : Nat) (faults : List SelvCopy) (s : State) :
    ∃ u, execSelvedgeSample t faults s = .next u ∧ u.kept = (s.at_ t).kept := by
  unfold execSelvedgeSample
  refine ⟨_, rfl, ?_⟩; simp

theorem execAssessment_kept (t : Nat) (env : AssessEnv) (s : State) :
    ∃ u, execAssessment t env s = .next u ∧ u.kept = (s.at_ t).kept := by
  unfold execAssessment
  refine ⟨_, rfl, ?_⟩; simp

theorem execRefRate_kept (t : Nat) (slot : Fin 24) (s : State) :
    ∃ u, execRefRate t slot s = .next u ∧ u.kept = (s.at_ t).kept := by
  unfold execRefRate
  refine ⟨_, rfl, ?_⟩; simp

theorem execRefDisagreeClear_kept (t : Nat) (a : Fin 24) (b : Fin 24) (s : State) :
    ∃ u, execRefDisagreeClear t a b s = .next u ∧ u.kept = (s.at_ t).kept := by
  unfold execRefDisagreeClear
  refine ⟨_, rfl, ?_⟩; simp

theorem execRefCandQualified_kept (t : Nat) (slot : Fin 24) (s : State) :
    ∃ u, execRefCandQualified t slot s = .next u ∧ u.kept = (s.at_ t).kept := by
  unfold execRefCandQualified
  refine ⟨_, rfl, ?_⟩; simp

theorem execSuccessorPrequalified_kept (t : Nat) (s : State) :
    ∃ u, execSuccessorPrequalified t s = .next u ∧ u.kept = (s.at_ t).kept := by
  unfold execSuccessorPrequalified
  refine ⟨_, rfl, ?_⟩; simp

theorem execRefWtrExpired_kept (t : Nat) (s : State) : ∃ u, execRefWtrExpired t s = .next u ∧ u.kept = (s.at_ t).kept := by
  unfold execRefWtrExpired
  generalize s.at_ t = q
  dsimp only
  split <;> exact ⟨_, rfl, by simp⟩

theorem execRefCandLost_kept (t : Nat) (slot : Fin 24) (s : State) :
    ∃ u, execRefCandLost t slot s = .next u ∧ u.kept = (s.at_ t).kept := by
  unfold execRefCandLost
  refine ⟨_, rfl, ?_⟩; simp

theorem execRefSwitched_kept (t : Nat) (offset : Int) (s : State) :
    ∃ u, execRefSwitched t offset s = .next u ∧ u.kept = (s.at_ t).kept := by
  unfold execRefSwitched
  generalize s.at_ t = q
  dsimp only
  split <;> exact ⟨_, rfl, by simp⟩

theorem execHoldover_kept (t : Nat) (s : State) : ∃ u, execHoldover t s = .next u ∧ u.kept = (s.at_ t).kept := by
  unfold execHoldover
  generalize s.at_ t = q
  refine ⟨_, rfl, ?_⟩; simp

theorem execBuildoutSteerDone_kept (t : Nat) (offset : Int) (s : State) :
    ∃ u, execBuildoutSteerDone t offset s = .next u ∧ u.kept = (s.at_ t).kept := by
  unfold execBuildoutSteerDone
  refine ⟨_, rfl, ?_⟩; simp

theorem execSlewDone_kept (t : Nat) (s : State) : ∃ u, execSlewDone t s = .next u ∧ u.kept = (s.at_ t).kept := by
  unfold execSlewDone
  refine ⟨_, rfl, ?_⟩; simp

theorem execTimeLocked_kept (t : Nat) (s : State) : ∃ u, execTimeLocked t s = .next u ∧ u.kept = (s.at_ t).kept := by
  unfold execTimeLocked
  generalize s.at_ t = q
  refine ⟨_, rfl, ?_⟩; simp

theorem execTimeSet_kept (t : Nat) (w : Writer) (v : Nat) (s : State) :
    ∃ u, execTimeSet t w v s = .next u ∧ u.kept = (s.at_ t).kept := by
  unfold execTimeSet
  refine ⟨_, rfl, ?_⟩; simp

theorem execXoOffsetUpdate_kept (t : Nat) (s : State) : ∃ u, execXoOffsetUpdate t s = .next u ∧ u.kept = (s.at_ t).kept := by
  unfold execXoOffsetUpdate
  generalize s.at_ t = q
  dsimp only
  refine ⟨_, rfl, ?_⟩; (repeat' (first | (simp; done) | (refine whenever_kept_of ?_ ?_) | (refine each_kept_of ?_ ?_ <;> (try intro _ _)) | split))

theorem execTimedCancel_kept (t : Nat) (w : Writer) (v : Nat) (s : State) :
    ∃ u, execTimedCancel t w v s = .next u ∧ u.kept = (s.at_ t).kept := by
  unfold execTimedCancel
  refine ⟨_, rfl, ?_⟩; simp

theorem execTimedCancelTag_kept (t : Nat) (w : Writer) (v : Nat) (s : State) :
    ∃ u, execTimedCancelTag t w v s = .next u ∧ u.kept = (s.at_ t).kept := by
  unfold execTimedCancelTag
  refine ⟨_, rfl, ?_⟩; simp

theorem execSpSourceWrite_kept (t : Nat) (w : Writer) (sp : Fin 8) (rate : Bool) (v : Nat) (s : State) :
    ∃ u, execSpSourceWrite t w sp rate v s = .next u ∧ u.kept = (s.at_ t).kept := by
  unfold execSpSourceWrite
  refine ⟨_, rfl, ?_⟩; simp

theorem execSpAcquired_kept (t : Nat) (sp : Fin 8) (s : State) :
    ∃ u, execSpAcquired t sp s = .next u ∧ u.kept = (s.at_ t).kept := by
  unfold execSpAcquired
  refine ⟨_, rfl, ?_⟩; simp

theorem execSpHoldoverOos_kept (t : Nat) (sp : Fin 8) (s : State) :
    ∃ u, execSpHoldoverOos t sp s = .next u ∧ u.kept = (s.at_ t).kept := by
  unfold execSpHoldoverOos
  generalize s.at_ t = q
  dsimp only
  split <;> exact ⟨_, rfl, by simp⟩

theorem execSyncInPulse_kept (t : Nat) (p : Fin 2) (s : State) :
    ∃ u, execSyncInPulse t p s = .next u ∧ u.kept = (s.at_ t).kept := by
  unfold execSyncInPulse
  generalize s.at_ t = q
  dsimp only
  refine ⟨_, rfl, ?_⟩; (repeat' (first | (simp; done) | (refine whenever_kept_of ?_ ?_) | (refine each_kept_of ?_ ?_ <;> (try intro _ _)) | split))

theorem execAlignCheck_kept (t : Nat) (s : State) : ∃ u, execAlignCheck t s = .next u ∧ u.kept = (s.at_ t).kept := by
  unfold execAlignCheck
  refine ⟨_, rfl, ?_⟩; simp

theorem execAlignSlewDone_kept (t : Nat) (k : Fin 6) (s : State) :
    ∃ u, execAlignSlewDone t k s = .next u ∧ u.kept = (s.at_ t).kept := by
  unfold execAlignSlewDone
  refine ⟨_, rfl, ?_⟩; simp

theorem execAlignLost_kept (t : Nat) (p : Fin 2) (s : State) :
    ∃ u, execAlignLost t p s = .next u ∧ u.kept = (s.at_ t).kept := by
  unfold execAlignLost
  generalize s.at_ t = q
  refine ⟨_, rfl, ?_⟩; simp

theorem execAlignOffsetWrite_kept (t : Nat) (w : Writer) (k : Fin 6) (source : Bool) (v : Int) (s : State) :
    ∃ u, execAlignOffsetWrite t w k source v s = .next u ∧ u.kept = (s.at_ t).kept := by
  unfold execAlignOffsetWrite
  refine ⟨_, rfl, ?_⟩; simp

theorem execPtpMessageRx_kept (t : Nat) (mac : Fin 3) (m : PtpMsg) (s : State) :
    ∃ u, execPtpMessageRx t mac m s = .next u ∧ u.kept = (s.at_ t).kept := by
  unfold execPtpMessageRx
  generalize s.at_ t = q
  dsimp only
  split <;> exact ⟨_, rfl, by simp⟩

theorem execPtpMessageTx_kept (t : Nat) (mac : Fin 3) (m : PtpTx) (s : State) :
    ∃ u, execPtpMessageTx t mac m s = .next u ∧ u.kept = (s.at_ t).kept := by
  unfold execPtpMessageTx
  generalize s.at_ t = q
  dsimp only
  split <;> exact ⟨_, rfl, by simp⟩

theorem execPtpHoldoverClass_kept (t : Nat) (s : State) :
    ∃ u, execPtpHoldoverClass t s = .next u ∧ u.kept = (s.at_ t).kept := by
  unfold execPtpHoldoverClass
  generalize s.at_ t = q
  refine ⟨_, rfl, ?_⟩; simp

theorem execPtpGmDomainWrite_kept (t : Nat) (w : Writer) (mac : Fin 3) (v : Nat) (s : State) :
    ∃ u, execPtpGmDomainWrite t w mac v s = .next u ∧ u.kept = (s.at_ t).kept := by
  unfold execPtpGmDomainWrite
  refine ⟨_, rfl, ?_⟩; simp

theorem execPortFrame_kept (t : Nat) (port : Fin 28) (f : PortFrame) (s : State) :
    ∃ u, execPortFrame t port f s = .next u ∧ u.kept = (s.at_ t).kept := by
  unfold execPortFrame
  generalize s.at_ t = q
  refine ⟨_, rfl, ?_⟩; simp

theorem execClockStop_kept (t : Nat) (port : Fin 28) (s : State) :
    ∃ u, execClockStop t port s = .next u ∧ u.kept = (s.at_ t).kept := by
  unfold execClockStop
  refine ⟨_, rfl, ?_⟩; simp

theorem execLockLoss_kept (t : Nat) (port : Fin 28) (c : LockCause) (s : State) :
    ∃ u, execLockLoss t port c s = .next u ∧ u.kept = (s.at_ t).kept := by
  unfold execLockLoss
  refine ⟨_, rfl, ?_⟩; simp

theorem execPortErrorLockLoss_kept (t : Nat) (port : Fin 28) (s : State) :
    ∃ u, execPortErrorLockLoss t port s = .next u ∧ u.kept = (s.at_ t).kept := by
  unfold execPortErrorLockLoss
  refine ⟨_, rfl, ?_⟩; simp

theorem execPortRelocked_kept (t : Nat) (port : Fin 28) (s : State) :
    ∃ u, execPortRelocked t port s = .next u ∧ u.kept = (s.at_ t).kept := by
  unfold execPortRelocked
  refine ⟨_, rfl, ?_⟩; simp

theorem execPortFadeInDone_kept (t : Nat) (port : Fin 28) (s : State) :
    ∃ u, execPortFadeInDone t port s = .next u ∧ u.kept = (s.at_ t).kept := by
  unfold execPortFadeInDone
  refine ⟨_, rfl, ?_⟩; simp

theorem execTdmConfigWrite_kept (t : Nat) (w : Writer) (port : Fin 16) (sub : Nat) (v : Nat) (s : State) :
    ∃ u, execTdmConfigWrite t w port sub v s = .next u ∧ u.kept = (s.at_ t).kept := by
  unfold execTdmConfigWrite
  refine ⟨_, rfl, ?_⟩; simp

theorem execTdmMaskWrite_kept (t : Nat) (w : Writer) (port : Fin 16) (tx : Bool) (v : Nat) (s : State) :
    ∃ u, execTdmMaskWrite t w port tx v s = .next u ∧ u.kept = (s.at_ t).kept := by
  unfold execTdmMaskWrite
  refine ⟨_, rfl, ?_⟩; simp

theorem execNonaudioClear_kept (t : Nat) (port : Fin 284) (ch : Nat) (s : State) :
    ∃ u, execNonaudioClear t port ch s = .next u ∧ u.kept = (s.at_ t).kept := by
  unfold execNonaudioClear
  generalize s.at_ t = q
  dsimp only
  (repeat' split) <;> exact ⟨_, rfl, by simp⟩

theorem execAsrcAcquired_kept (t : Nat) (ch : Fin 256) (s : State) :
    ∃ u, execAsrcAcquired t ch s = .next u ∧ u.kept = (s.at_ t).kept := by
  unfold execAsrcAcquired
  generalize s.at_ t = q
  refine ⟨_, rfl, ?_⟩; simp

theorem execSampleInstant_kept (t : Nat) (s : State) : ∃ u, execSampleInstant t s = .next u ∧ u.kept = (s.at_ t).kept := by
  unfold execSampleInstant
  refine ⟨_, rfl, ?_⟩; simp

theorem execFrameRx_kept (t : Nat) (mac : Fin 3) (f : EthFrame) (s : State) :
    ∃ u, execFrameRx t mac f s = .next u ∧ u.kept = (s.at_ t).kept := by
  unfold execFrameRx
  generalize s.at_ t = q
  dsimp only
  split <;> exact ⟨_, rfl, by simp⟩

theorem execMacLinkUp_kept (t : Nat) (mac : Fin 3) (s : State) :
    ∃ u, execMacLinkUp t mac s = .next u ∧ u.kept = (s.at_ t).kept := by
  unfold execMacLinkUp
  refine ⟨_, rfl, ?_⟩; simp

theorem execMacLinkDown_kept (t : Nat) (mac : Fin 3) (s : State) :
    ∃ u, execMacLinkDown t mac s = .next u ∧ u.kept = (s.at_ t).kept := by
  unfold execMacLinkDown
  refine ⟨_, rfl, ?_⟩; simp

theorem execIpAddressWrite_kept (t : Nat) (w : Writer) (mac : Fin 3) (sub : Nat) (v : Nat) (s : State) :
    ∃ u, execIpAddressWrite t w mac sub v s = .next u ∧ u.kept = (s.at_ t).kept := by
  unfold execIpAddressWrite
  refine ⟨_, rfl, ?_⟩; simp

theorem execPauseRepeat_kept (t : Nat) (s : State) : ∃ u, execPauseRepeat t s = .next u ∧ u.kept = (s.at_ t).kept := by
  unfold execPauseRepeat
  refine ⟨_, rfl, ?_⟩; simp

theorem execControlBufferLow_kept (t : Nat) (s : State) :
    ∃ u, execControlBufferLow t s = .next u ∧ u.kept = (s.at_ t).kept := by
  unfold execControlBufferLow
  refine ⟨_, rfl, ?_⟩; simp

theorem execPfcRepeat_kept (t : Nat) (mac : Fin 2) (s : State) :
    ∃ u, execPfcRepeat t mac s = .next u ∧ u.kept = (s.at_ t).kept := by
  unfold execPfcRepeat
  refine ⟨_, rfl, ?_⟩; simp

theorem execBulkBufferLow_kept (t : Nat) (mac : Fin 2) (s : State) :
    ∃ u, execBulkBufferLow t mac s = .next u ∧ u.kept = (s.at_ t).kept := by
  unfold execBulkBufferLow
  refine ⟨_, rfl, ?_⟩; simp

theorem execPauseQuantaExpire_kept (t : Nat) (mac : Fin 3) (s : State) :
    ∃ u, execPauseQuantaExpire t mac s = .next u ∧ u.kept = (s.at_ t).kept := by
  unfold execPauseQuantaExpire
  refine ⟨_, rfl, ?_⟩; simp

theorem execMediaPacketTx_kept (t : Nat) (stream : Fin 256) (s : State) :
    ∃ u, execMediaPacketTx t stream s = .next u ∧ u.kept = (s.at_ t).kept := by
  unfold execMediaPacketTx
  generalize s.at_ t = q
  refine ⟨_, rfl, ?_⟩; simp

theorem execMsRxRestart_kept (t : Nat) (stream : Fin 256) (s : State) :
    ∃ u, execMsRxRestart t stream s = .next u ∧ u.kept = (s.at_ t).kept := by
  unfold execMsRxRestart
  refine ⟨_, rfl, ?_⟩; simp

theorem execMsRxSilent_kept (t : Nat) (stream : Fin 256) (s : State) :
    ∃ u, execMsRxSilent t stream s = .next u ∧ u.kept = (s.at_ t).kept := by
  unfold execMsRxSilent
  refine ⟨_, rfl, ?_⟩; simp

theorem execStreamWrite_kept (t : Nat) (w : Writer) (key : Nat) (v : Int) (s : State) :
    ∃ u, execStreamWrite t w key v s = .next u ∧ u.kept = (s.at_ t).kept := by
  unfold execStreamWrite
  refine ⟨_, rfl, ?_⟩; simp

theorem execNetStatsSnapshot_kept (t : Nat) (w : Writer) (v : Nat) (s : State) :
    ∃ u, execNetStatsSnapshot t w v s = .next u ∧ u.kept = (s.at_ t).kept := by
  unfold execNetStatsSnapshot
  refine ⟨_, rfl, ?_⟩; simp

theorem execSwEnable_kept (t : Nat) (w : Writer) (port : Fin 6) (v : Nat) (s : State) :
    ∃ u, execSwEnable t w port v s = .next u ∧ u.kept = (s.at_ t).kept := by
  unfold execSwEnable
  refine ⟨_, rfl, ?_⟩; simp

theorem execSwClockLock_kept (t : Nat) (port : Fin 6) (ppb : Int) (s : State) :
    ∃ u, execSwClockLock t port ppb s = .next u ∧ u.kept = (s.at_ t).kept := by
  unfold execSwClockLock
  refine ⟨_, rfl, ?_⟩; simp

theorem execSwBlockLock_kept (t : Nat) (port : Fin 6) (lane : Fin 4) (phys : Nat) (inverted : Bool) (s : State) :
    ∃ u, execSwBlockLock t port lane phys inverted s = .next u ∧ u.kept = (s.at_ t).kept := by
  unfold execSwBlockLock
  refine ⟨_, rfl, ?_⟩; simp

theorem execSwMarkerLock_kept (t : Nat) (port : Fin 6) (skew : List Int) (s : State) :
    ∃ u, execSwMarkerLock t port skew s = .next u ∧ u.kept = (s.at_ t).kept := by
  unfold execSwMarkerLock
  refine ⟨_, rfl, ?_⟩; simp

theorem execSwTrainStepTimeout_kept (t : Nat) (port : Fin 6) (lane : Fin 4) (s : State) :
    ∃ u, execSwTrainStepTimeout t port lane s = .next u ∧ u.kept = (s.at_ t).kept := by
  unfold execSwTrainStepTimeout
  refine ⟨_, rfl, ?_⟩; simp

theorem execSwTrainFailed_kept (t : Nat) (port : Fin 6) (s : State) :
    ∃ u, execSwTrainFailed t port s = .next u ∧ u.kept = (s.at_ t).kept := by
  unfold execSwTrainFailed
  refine ⟨_, rfl, ?_⟩; simp

theorem execSwTrainRetry_kept (t : Nat) (port : Fin 6) (s : State) :
    ∃ u, execSwTrainRetry t port s = .next u ∧ u.kept = (s.at_ t).kept := by
  unfold execSwTrainRetry
  refine ⟨_, rfl, ?_⟩; simp

theorem execSwLinkDown_kept (t : Nat) (port : Fin 6) (c : LinkCause) (s : State) :
    ∃ u, execSwLinkDown t port c s = .next u ∧ u.kept = (s.at_ t).kept := by
  unfold execSwLinkDown
  refine ⟨_, rfl, ?_⟩; simp

theorem execTrainingRestart_kept (t : Nat) (port : Fin 6) (s : State) :
    ∃ u, execTrainingRestart t port s = .next u ∧ u.kept = (s.at_ t).kept := by
  unfold execTrainingRestart
  refine ⟨_, rfl, ?_⟩; simp

theorem execAlignmentMarker_kept (t : Nat) (port : Fin 6) (block : BitVec 1024) (corrected : Nat) (failed : Nat) (s : State) :
    ∃ u, execAlignmentMarker t port block corrected failed s = .next u ∧ u.kept = (s.at_ t).kept := by
  unfold execAlignmentMarker
  refine ⟨_, rfl, ?_⟩; simp

theorem execAlignmentMarkerTx_kept (t : Nat) (port : Fin 6) (s : State) :
    ∃ u, execAlignmentMarkerTx t port s = .next u ∧ u.kept = (s.at_ t).kept := by
  unfold execAlignmentMarkerTx
  refine ⟨_, rfl, ?_⟩; simp

theorem execTrainingBlock_kept (t : Nat) (port : Fin 6) (block : BitVec 1024) (s : State) :
    ∃ u, execTrainingBlock t port block s = .next u ∧ u.kept = (s.at_ t).kept := by
  unfold execTrainingBlock
  generalize s.at_ t = q
  refine ⟨_, rfl, ?_⟩; simp

theorem execIdleBlock_kept (t : Nat) (port : Fin 6) (block : BitVec 1024) (s : State) :
    ∃ u, execIdleBlock t port block s = .next u ∧ u.kept = (s.at_ t).kept := by
  unfold execIdleBlock
  refine ⟨_, rfl, ?_⟩; simp

theorem execAudioCut_kept (t : Nat) (port : Fin 6) (block : BitVec 1024) (s : State) :
    ∃ u, execAudioCut t port block s = .next u ∧ u.kept = (s.at_ t).kept := by
  unfold execAudioCut
  generalize s.at_ t = q
  dsimp only
  refine ⟨_, rfl, ?_⟩; (repeat' (first | (simp; done) | (refine whenever_kept_of ?_ ?_) | (refine each_kept_of ?_ ?_ <;> (try intro _ _)) | split))

theorem execBulkBlock_kept (t : Nat) (port : Fin 6) (block : BitVec 1024) (s : State) :
    ∃ u, execBulkBlock t port block s = .next u ∧ u.kept = (s.at_ t).kept := by
  unfold execBulkBlock
  generalize s.at_ t = q
  dsimp only
  (repeat' split) <;> exact ⟨_, rfl, by simp⟩

theorem execTestPattern_kept (t : Nat) (port : Fin 6) (block : BitVec 1024) (s : State) :
    ∃ u, execTestPattern t port block s = .next u ∧ u.kept = (s.at_ t).kept := by
  unfold execTestPattern
  refine ⟨_, rfl, ?_⟩; simp

theorem execSwPickDecide_kept (t : Nat) (port : Fin 6) (s : State) :
    ∃ u, execSwPickDecide t port s = .next u ∧ u.kept = (s.at_ t).kept := by
  unfold execSwPickDecide
  refine ⟨_, rfl, ?_⟩; simp

theorem execSwPickChanged_kept (t : Nat) (port : Fin 6) (s : State) :
    ∃ u, execSwPickChanged t port s = .next u ∧ u.kept = (s.at_ t).kept := by
  unfold execSwPickChanged
  refine ⟨_, rfl, ?_⟩; simp

theorem execSwEqfUpdate_kept (t : Nat) (port : Fin 6) (lane : Fin 4) (o1 : Nat) (o2 : Nat) (o3 : Nat) (e : Nat) (s : State) :
    ∃ u, execSwEqfUpdate t port lane o1 o2 o3 e s = .next u ∧ u.kept = (s.at_ t).kept := by
  unfold execSwEqfUpdate
  refine ⟨_, rfl, ?_⟩; simp

theorem execSwEqfLow_kept (t : Nat) (port : Fin 6) (lane : Fin 4) (s : State) :
    ∃ u, execSwEqfLow t port lane s = .next u ∧ u.kept = (s.at_ t).kept := by
  unfold execSwEqfLow
  refine ⟨_, rfl, ?_⟩; simp

theorem execAdaptationBurstEnd_kept (t : Nat) (port : Fin 6) (s : State) :
    ∃ u, execAdaptationBurstEnd t port s = .next u ∧ u.kept = (s.at_ t).kept := by
  unfold execAdaptationBurstEnd
  refine ⟨_, rfl, ?_⟩; simp

theorem execSwLoopback_kept (t : Nat) (w : Writer) (port : Fin 6) (v : Nat) (s : State) :
    ∃ u, execSwLoopback t w port v s = .next u ∧ u.kept = (s.at_ t).kept := by
  unfold execSwLoopback
  refine ⟨_, rfl, ?_⟩; simp

theorem execSwRetrain_kept (t : Nat) (w : Writer) (port : Fin 6) (v : Nat) (s : State) :
    ∃ u, execSwRetrain t w port v s = .next u ∧ u.kept = (s.at_ t).kept := by
  unfold execSwRetrain
  refine ⟨_, rfl, ?_⟩; simp

theorem execTwinPaired_kept (t : Nat) (enabled : Bool) (names : Nat) (s : State) :
    ∃ u, execTwinPaired t enabled names s = .next u ∧ u.kept = (s.at_ t).kept := by
  unfold execTwinPaired
  refine ⟨_, rfl, ?_⟩; simp

theorem execDigest_kept (t : Nat) (port : Fin 6) (block : BitVec 1024) (s : State) :
    ∃ u, execDigest t port block s = .next u ∧ u.kept = (s.at_ t).kept := by
  unfold execDigest
  generalize s.at_ t = q
  dsimp only
  refine ⟨_, rfl, ?_⟩; (repeat' (first | (simp; done) | (refine whenever_kept_of ?_ ?_) | (refine each_kept_of ?_ ?_ <;> (try intro _ _)) | split))

theorem execTwinDigestMissing_kept (t : Nat) (pick : Nat) (s : State) :
    ∃ u, execTwinDigestMissing t pick s = .next u ∧ u.kept = (s.at_ t).kept := by
  unfold execTwinDigestMissing
  refine ⟨_, rfl, ?_⟩; simp

theorem execTwinExchangeLost_kept (t : Nat) (s : State) :
    ∃ u, execTwinExchangeLost t s = .next u ∧ u.kept = (s.at_ t).kept := by
  unfold execTwinExchangeLost
  refine ⟨_, rfl, ?_⟩; simp

theorem execCatchupImageDone_kept (t : Nat) (image : List (Nat × Val)) (acts : List SentAction) (s : State) :
    ∃ u, execCatchupImageDone t image acts s = .next u ∧ u.kept = (s.at_ t).kept := by
  unfold execCatchupImageDone
  generalize s.at_ t = q
  dsimp only
  refine ⟨_, rfl, ?_⟩; (repeat' (first | (simp; done) | (refine whenever_kept_of ?_ ?_) | (refine each_kept_of ?_ ?_ <;> (try intro _ _)) | split))

theorem execCatchupClosing_kept (t : Nat) (seq : Nat) (words : List (Nat × List Int)) (acts : List SentAction) (s : State) :
    ∃ u, execCatchupClosing t seq words acts s = .next u ∧ u.kept = (s.at_ t).kept := by
  unfold execCatchupClosing
  generalize s.at_ t = q
  refine ⟨_, rfl, ?_⟩; simp

theorem execTwinFillDone_kept (t : Nat) (s : State) : ∃ u, execTwinFillDone t s = .next u ∧ u.kept = (s.at_ t).kept := by
  unfold execTwinFillDone
  refine ⟨_, rfl, ?_⟩; simp

theorem execTwinVerified_kept (t : Nat) (s : State) : ∃ u, execTwinVerified t s = .next u ∧ u.kept = (s.at_ t).kept := by
  unfold execTwinVerified
  refine ⟨_, rfl, ?_⟩; simp

theorem execCatchupRestart_kept (t : Nat) (s : State) : ∃ u, execCatchupRestart t s = .next u ∧ u.kept = (s.at_ t).kept := by
  unfold execCatchupRestart
  refine ⟨_, rfl, ?_⟩; simp

theorem execForwardedWrite_kept (t : Nat) (env : Envelope) (s : State) :
    ∃ u, execForwardedWrite t env s = .next u ∧ u.kept = (s.at_ t).kept := by
  unfold execForwardedWrite
  refine ⟨_, rfl, ?_⟩; simp

theorem execLeaseMessageTx_kept (t : Nat) (s : State) : ∃ u, execLeaseMessageTx t s = .next u ∧ u.kept = (s.at_ t).kept := by
  unfold execLeaseMessageTx
  generalize s.at_ t = q
  refine ⟨_, rfl, ?_⟩; simp

theorem execLeaseRenew_kept (t : Nat) (m : LeaseMsg) (s : State) :
    ∃ u, execLeaseRenew t m s = .next u ∧ u.kept = (s.at_ t).kept := by
  unfold execLeaseRenew
  generalize s.at_ t = q
  refine ⟨_, rfl, ?_⟩; simp

theorem execLeaseStandby_kept (t : Nat) (m : LeaseMsg) (s : State) :
    ∃ u, execLeaseStandby t m s = .next u ∧ u.kept = (s.at_ t).kept := by
  unfold execLeaseStandby
  generalize s.at_ t = q
  dsimp only
  (repeat' split) <;> exact ⟨_, rfl, by simp⟩

theorem execLeaseHandover_kept (t : Nat) (m : LeaseMsg) (s : State) :
    ∃ u, execLeaseHandover t m s = .next u ∧ u.kept = (s.at_ t).kept := by
  unfold execLeaseHandover
  refine ⟨_, rfl, ?_⟩; simp

theorem execSelvedgeState_kept (t : Nat) (port : Fin 6) (block : BitVec 1024) (s : State) :
    ∃ u, execSelvedgeState t port block s = .next u ∧ u.kept = (s.at_ t).kept := by
  unfold execSelvedgeState
  refine ⟨_, rfl, ?_⟩; simp

theorem execLeaseRelease_kept (t : Nat) (s : State) : ∃ u, execLeaseRelease t s = .next u ∧ u.kept = (s.at_ t).kept := by
  unfold execLeaseRelease
  generalize s.at_ t = q
  dsimp only
  split <;> exact ⟨_, rfl, by simp⟩

theorem execLeaseTaken_kept (t : Nat) (s : State) : ∃ u, execLeaseTaken t s = .next u ∧ u.kept = (s.at_ t).kept := by
  unfold execLeaseTaken
  refine ⟨_, rfl, ?_⟩; simp

theorem execTakePick_kept (t : Nat) (s : State) : ∃ u, execTakePick t s = .next u ∧ u.kept = (s.at_ t).kept := by
  unfold execTakePick
  refine ⟨_, rfl, ?_⟩; simp

theorem execLeaseSwap_kept (t : Nat) (w : Writer) (v : Nat) (s : State) :
    ∃ u, execLeaseSwap t w v s = .next u ∧ u.kept = (s.at_ t).kept := by
  unfold execLeaseSwap
  refine ⟨_, rfl, ?_⟩; simp

theorem execLeaseDrill_kept (t : Nat) (s : State) : ∃ u, execLeaseDrill t s = .next u ∧ u.kept = (s.at_ t).kept := by
  unfold execLeaseDrill
  refine ⟨_, rfl, ?_⟩; simp

theorem execSingularReadback_kept (t : Nat) (differs : Bool) (s : State) :
    ∃ u, execSingularReadback t differs s = .next u ∧ u.kept = (s.at_ t).kept := by
  unfold execSingularReadback
  refine ⟨_, rfl, ?_⟩; simp

theorem execTdStart_kept (t : Nat) (ch : Fin 32) (s : State) : ∃ u, execTdStart t ch s = .next u ∧ u.kept = (s.at_ t).kept := by
  unfold execTdStart
  refine ⟨_, rfl, ?_⟩; simp

theorem execTdRelayClose_kept (t : Nat) (ch : Fin 32) (s : State) :
    ∃ u, execTdRelayClose t ch s = .next u ∧ u.kept = (s.at_ t).kept := by
  unfold execTdRelayClose
  refine ⟨_, rfl, ?_⟩; simp

theorem execTdContactsSettled_kept (t : Nat) (ch : Fin 32) (s : State) :
    ∃ u, execTdContactsSettled t ch s = .next u ∧ u.kept = (s.at_ t).kept := by
  unfold execTdContactsSettled
  refine ⟨_, rfl, ?_⟩; simp

theorem execTdDcTestMeasure_kept (t : Nat) (ch : Fin 32) (volts : BitVec 382) (amps : BitVec 382) (s : State) :
    ∃ u, execTdDcTestMeasure t ch volts amps s = .next u ∧ u.kept = (s.at_ t).kept := by
  unfold execTdDcTestMeasure
  generalize s.at_ t = q
  dsimp only
  refine ⟨_, rfl, ?_⟩; (repeat' (first | (simp; done) | (refine whenever_kept_of ?_ ?_) | (refine each_kept_of ?_ ?_ <;> (try intro _ _)) | split))

theorem execTdTestRampDownDone_kept (t : Nat) (ch : Fin 32) (s : State) :
    ∃ u, execTdTestRampDownDone t ch s = .next u ∧ u.kept = (s.at_ t).kept := by
  unfold execTdTestRampDownDone
  refine ⟨_, rfl, ?_⟩; simp

theorem execTdSequenceGainDone_kept (t : Nat) (ch : Fin 32) (s : State) :
    ∃ u, execTdSequenceGainDone t ch s = .next u ∧ u.kept = (s.at_ t).kept := by
  unfold execTdSequenceGainDone
  refine ⟨_, rfl, ?_⟩; simp

theorem execTdStop_kept (t : Nat) (ch : Fin 32) (s : State) : ∃ u, execTdStop t ch s = .next u ∧ u.kept = (s.at_ t).kept := by
  unfold execTdStop
  refine ⟨_, rfl, ?_⟩; simp

theorem execTdGainRampDownDone_kept (t : Nat) (ch : Fin 32) (s : State) :
    ∃ u, execTdGainRampDownDone t ch s = .next u ∧ u.kept = (s.at_ t).kept := by
  unfold execTdGainRampDownDone
  refine ⟨_, rfl, ?_⟩; simp

theorem execTdRelayOpen_kept (t : Nat) (ch : Fin 32) (s : State) :
    ∃ u, execTdRelayOpen t ch s = .next u ∧ u.kept = (s.at_ t).kept := by
  unfold execTdRelayOpen
  refine ⟨_, rfl, ?_⟩; simp

theorem execTdRelayReleased_kept (t : Nat) (ch : Fin 32) (s : State) :
    ∃ u, execTdRelayReleased t ch s = .next u ∧ u.kept = (s.at_ t).kept := by
  unfold execTdRelayReleased
  refine ⟨_, rfl, ?_⟩; simp

theorem execTdOvercurrent_kept (t : Nat) (ch : Fin 32) (bits : BitVec 31) (s : State) :
    ∃ u, execTdOvercurrent t ch bits s = .next u ∧ u.kept = (s.at_ t).kept := by
  unfold execTdOvercurrent
  refine ⟨_, rfl, ?_⟩; simp

theorem execTdShort_kept (t : Nat) (ch : Fin 32) (s : State) : ∃ u, execTdShort t ch s = .next u ∧ u.kept = (s.at_ t).kept := by
  unfold execTdShort
  refine ⟨_, rfl, ?_⟩; simp

theorem execTdRelayHot_kept (t : Nat) (ch : Fin 32) (s : State) :
    ∃ u, execTdRelayHot t ch s = .next u ∧ u.kept = (s.at_ t).kept := by
  unfold execTdRelayHot
  refine ⟨_, rfl, ?_⟩; simp

theorem execTdRetry_kept (t : Nat) (ch : Fin 32) (s : State) : ∃ u, execTdRetry t ch s = .next u ∧ u.kept = (s.at_ t).kept := by
  unfold execTdRetry
  refine ⟨_, rfl, ?_⟩; simp

theorem execTdGainRecover_kept (t : Nat) (ch : Fin 32) (s : State) :
    ∃ u, execTdGainRecover t ch s = .next u ∧ u.kept = (s.at_ t).kept := by
  unfold execTdGainRecover
  refine ⟨_, rfl, ?_⟩; simp

theorem execTdOcFailsReset_kept (t : Nat) (ch : Fin 32) (s : State) :
    ∃ u, execTdOcFailsReset t ch s = .next u ∧ u.kept = (s.at_ t).kept := by
  unfold execTdOcFailsReset
  refine ⟨_, rfl, ?_⟩; simp

theorem execTdSenseFault_kept (t : Nat) (ch : Fin 32) (bits : BitVec 64) (s : State) :
    ∃ u, execTdSenseFault t ch bits s = .next u ∧ u.kept = (s.at_ t).kept := by
  unfold execTdSenseFault
  refine ⟨_, rfl, ?_⟩; simp

theorem execTdSenseRelayDrop_kept (t : Nat) (ch : Fin 32) (s : State) :
    ∃ u, execTdSenseRelayDrop t ch s = .next u ∧ u.kept = (s.at_ t).kept := by
  unfold execTdSenseRelayDrop
  refine ⟨_, rfl, ?_⟩; simp

theorem execTdSenseRecover_kept (t : Nat) (ch : Fin 32) (s : State) :
    ∃ u, execTdSenseRecover t ch s = .next u ∧ u.kept = (s.at_ t).kept := by
  unfold execTdSenseRecover
  refine ⟨_, rfl, ?_⟩; simp

theorem execTdRailFault_kept (t : Nat) (rail : Fin 4) (s : State) :
    ∃ u, execTdRailFault t rail s = .next u ∧ u.kept = (s.at_ t).kept := by
  unfold execTdRailFault
  generalize s.at_ t = q
  refine ⟨_, rfl, ?_⟩; simp

theorem execTdRailRecover_kept (t : Nat) (rail : Fin 4) (s : State) :
    ∃ u, execTdRailRecover t rail s = .next u ∧ u.kept = (s.at_ t).kept := by
  unfold execTdRailRecover
  generalize s.at_ t = q
  refine ⟨_, rfl, ?_⟩; simp

theorem execThPilotMeasure_kept (t : Nat) (ch : Fin 32) (s : State) :
    ∃ u, execThPilotMeasure t ch s = .next u ∧ u.kept = (s.at_ t).kept := by
  unfold execThPilotMeasure
  refine ⟨_, rfl, ?_⟩; simp

theorem execAcRun_kept (t : Nat) (w : Writer) (ch : Fin 32) (v : Nat) (s : State) :
    ∃ u, execAcRun t w ch v s = .next u ∧ u.kept = (s.at_ t).kept := by
  unfold execAcRun
  refine ⟨_, rfl, ?_⟩; simp

theorem execAcTestDone_kept (t : Nat) (ch : Fin 32) (s : State) :
    ∃ u, execAcTestDone t ch s = .next u ∧ u.kept = (s.at_ t).kept := by
  unfold execAcTestDone
  refine ⟨_, rfl, ?_⟩; simp

theorem execTdClear_kept (t : Nat) (w : Writer) (ch : Fin 32) (v : Nat) (s : State) :
    ∃ u, execTdClear t w ch v s = .next u ∧ u.kept = (s.at_ t).kept := by
  unfold execTdClear
  refine ⟨_, rfl, ?_⟩; simp

theorem execTdPwmRateWrite_kept (t : Nat) (w : Writer) (ch : Fin 32) (v : Nat) (s : State) :
    ∃ u, execTdPwmRateWrite t w ch v s = .next u ∧ u.kept = (s.at_ t).kept := by
  unfold execTdPwmRateWrite
  refine ⟨_, rfl, ?_⟩; simp

theorem execTdDiagModeWrite_kept (t : Nat) (w : Writer) (v : Nat) (s : State) :
    ∃ u, execTdDiagModeWrite t w v s = .next u ∧ u.kept = (s.at_ t).kept := by
  unfold execTdDiagModeWrite
  refine ⟨_, rfl, ?_⟩; simp

theorem execRead_kept (t : Nat) (env : Envelope) (s : State) : ∃ u, execRead t env s = .next u ∧ u.kept = (s.at_ t).kept := by
  unfold execRead
  refine ⟨_, rfl, ?_⟩; simp

theorem execWrite_kept (t : Nat) (env : Envelope) (s : State) : ∃ u, execWrite t env s = .next u ∧ u.kept = (s.at_ t).kept := by
  unfold execWrite
  refine ⟨_, rfl, ?_⟩; simp

theorem execWriteTimed_kept (t : Nat) (env : Envelope) (s : State) :
    ∃ u, execWriteTimed t env s = .next u ∧ u.kept = (s.at_ t).kept := by
  unfold execWriteTimed
  refine ⟨_, rfl, ?_⟩; simp

theorem execSubscribeValue_kept (t : Nat) (env : Envelope) (s : State) :
    ∃ u, execSubscribeValue t env s = .next u ∧ u.kept = (s.at_ t).kept := by
  unfold execSubscribeValue
  refine ⟨_, rfl, ?_⟩; simp

theorem execSubscribeEvents_kept (t : Nat) (env : Envelope) (s : State) :
    ∃ u, execSubscribeEvents t env s = .next u ∧ u.kept = (s.at_ t).kept := by
  unfold execSubscribeEvents
  refine ⟨_, rfl, ?_⟩; simp

theorem execSubscribeRemove_kept (t : Nat) (env : Envelope) (s : State) :
    ∃ u, execSubscribeRemove t env s = .next u ∧ u.kept = (s.at_ t).kept := by
  unfold execSubscribeRemove
  refine ⟨_, rfl, ?_⟩; simp

theorem execNotifyPeriod_kept (t : Nat) (sub : Nat) (s : State) :
    ∃ u, execNotifyPeriod t sub s = .next u ∧ u.kept = (s.at_ t).kept := by
  unfold execNotifyPeriod
  generalize s.at_ t = q
  dsimp only
  split <;> exact ⟨_, rfl, by simp⟩

theorem execNotifyAck_kept (t : Nat) (env : Envelope) (s : State) :
    ∃ u, execNotifyAck t env s = .next u ∧ u.kept = (s.at_ t).kept := by
  unfold execNotifyAck
  refine ⟨_, rfl, ?_⟩; simp

theorem execNotifyTimeout_kept (t : Nat) (session : Nat) (req : Nat) (s : State) :
    ∃ u, execNotifyTimeout t session req s = .next u ∧ u.kept = (s.at_ t).kept := by
  unfold execNotifyTimeout
  generalize s.at_ t = q
  dsimp only
  split <;> exact ⟨_, rfl, by simp⟩

theorem execBlockWriteBegin_kept (t : Nat) (env : Envelope) (s : State) :
    ∃ u, execBlockWriteBegin t env s = .next u ∧ u.kept = (s.at_ t).kept := by
  unfold execBlockWriteBegin
  refine ⟨_, rfl, ?_⟩; simp

theorem execBlockWriteData_kept (t : Nat) (env : Envelope) (s : State) :
    ∃ u, execBlockWriteData t env s = .next u ∧ u.kept = (s.at_ t).kept := by
  unfold execBlockWriteData
  refine ⟨_, rfl, ?_⟩; simp

theorem execBlockReadBegin_kept (t : Nat) (env : Envelope) (s : State) :
    ∃ u, execBlockReadBegin t env s = .next u ∧ u.kept = (s.at_ t).kept := by
  unfold execBlockReadBegin
  refine ⟨_, rfl, ?_⟩; simp

theorem execBlockReadData_kept (t : Nat) (env : Envelope) (s : State) :
    ∃ u, execBlockReadData t env s = .next u ∧ u.kept = (s.at_ t).kept := by
  unfold execBlockReadData
  refine ⟨_, rfl, ?_⟩; simp

theorem execBlockAbort_kept (t : Nat) (env : Envelope) (s : State) :
    ∃ u, execBlockAbort t env s = .next u ∧ u.kept = (s.at_ t).kept := by
  unfold execBlockAbort
  refine ⟨_, rfl, ?_⟩; simp

theorem execBlockIdle_kept (t : Nat) (xfer : Nat) (s : State) :
    ∃ u, execBlockIdle t xfer s = .next u ∧ u.kept = (s.at_ t).kept := by
  unfold execBlockIdle
  generalize s.at_ t = q
  dsimp only
  split <;> exact ⟨_, rfl, by simp⟩

theorem execChallengeOpen_kept (t : Nat) (env : Envelope) (s : State) :
    ∃ u, execChallengeOpen t env s = .next u ∧ u.kept = (s.at_ t).kept := by
  unfold execChallengeOpen
  refine ⟨_, rfl, ?_⟩; simp

theorem execChallengeProve_kept (t : Nat) (env : Envelope) (s : State) :
    ∃ u, execChallengeProve t env s = .next u ∧ u.kept = (s.at_ t).kept := by
  unfold execChallengeProve
  refine ⟨_, rfl, ?_⟩; simp

theorem execChallengeClose_kept (t : Nat) (env : Envelope) (s : State) :
    ∃ u, execChallengeClose t env s = .next u ∧ u.kept = (s.at_ t).kept := by
  unfold execChallengeClose
  refine ⟨_, rfl, ?_⟩; simp

theorem execDebugRequest_kept (t : Nat) (env : Envelope) (s : State) :
    ∃ u, execDebugRequest t env s = .next u ∧ u.kept = (s.at_ t).kept := by
  unfold execDebugRequest
  refine ⟨_, rfl, ?_⟩; simp

theorem execDebugAnswer_kept (t : Nat) (env : Envelope) (s : State) :
    ∃ u, execDebugAnswer t env s = .next u ∧ u.kept = (s.at_ t).kept := by
  unfold execDebugAnswer
  refine ⟨_, rfl, ?_⟩; simp

theorem execDebugPassword_kept (t : Nat) (env : Envelope) (s : State) :
    ∃ u, execDebugPassword t env s = .next u ∧ u.kept = (s.at_ t).kept := by
  unfold execDebugPassword
  refine ⟨_, rfl, ?_⟩; simp

theorem execDebugClose_kept (t : Nat) (env : Envelope) (s : State) :
    ∃ u, execDebugClose t env s = .next u ∧ u.kept = (s.at_ t).kept := by
  unfold execDebugClose
  refine ⟨_, rfl, ?_⟩; simp

theorem execDebugExpiry_kept (t : Nat) (s : State) : ∃ u, execDebugExpiry t s = .next u ∧ u.kept = (s.at_ t).kept := by
  unfold execDebugExpiry
  refine ⟨_, rfl, ?_⟩; simp

theorem execDebugLockoutEnd_kept (t : Nat) (s : State) : ∃ u, execDebugLockoutEnd t s = .next u ∧ u.kept = (s.at_ t).kept := by
  unfold execDebugLockoutEnd
  generalize s.at_ t = q
  dsimp only
  refine ⟨_, rfl, ?_⟩; (repeat' (first | (simp; done) | (refine whenever_kept_of ?_ ?_) | (refine each_kept_of ?_ ?_ <;> (try intro _ _)) | split))

theorem execDebugCoreHalt_kept (t : Nat) (core : Fin 2) (s : State) :
    ∃ u, execDebugCoreHalt t core s = .next u ∧ u.kept = (s.at_ t).kept := by
  unfold execDebugCoreHalt
  refine ⟨_, rfl, ?_⟩; simp

theorem execTapInstruction_kept (t : Nat) (ins : Tap) (s : State) :
    ∃ u, execTapInstruction t ins s = .next u ∧ u.kept = (s.at_ t).kept := by
  unfold execTapInstruction
  generalize s.at_ t = q
  refine ⟨_, rfl, ?_⟩; simp

theorem execSessionIdle_kept (t : Nat) (session : Nat) (s : State) :
    ∃ u, execSessionIdle t session s = .next u ∧ u.kept = (s.at_ t).kept := by
  unfold execSessionIdle
  generalize s.at_ t = q
  dsimp only
  split <;> exact ⟨_, rfl, by simp⟩

theorem execSessionClose_kept (t : Nat) (w : Writer) (slot : Fin 32) (v : Nat) (s : State) :
    ∃ u, execSessionClose t w slot v s = .next u ∧ u.kept = (s.at_ t).kept := by
  unfold execSessionClose
  refine ⟨_, rfl, ?_⟩; simp

theorem execHapolClaim_kept (t : Nat) (w : Writer) (v : Nat) (s : State) :
    ∃ u, execHapolClaim t w v s = .next u ∧ u.kept = (s.at_ t).kept := by
  unfold execHapolClaim
  refine ⟨_, rfl, ?_⟩; simp

theorem execHapolRelease_kept (t : Nat) (w : Writer) (v : Nat) (s : State) :
    ∃ u, execHapolRelease t w v s = .next u ∧ u.kept = (s.at_ t).kept := by
  unfold execHapolRelease
  refine ⟨_, rfl, ?_⟩; simp

theorem execHapolClaimBreak_kept (t : Nat) (w : Writer) (v : Nat) (s : State) :
    ∃ u, execHapolClaimBreak t w v s = .next u ∧ u.kept = (s.at_ t).kept := by
  unfold execHapolClaimBreak
  refine ⟨_, rfl, ?_⟩; simp

theorem execDictSave_kept (t : Nat) (s : State) : ∃ u, execDictSave t s = .next u ∧ u.kept = (s.at_ t).kept := by
  unfold execDictSave
  refine ⟨_, rfl, ?_⟩; simp

theorem execDictRestoreDefaults_kept (t : Nat) (w : Writer) (v : Nat) (s : State) :
    ∃ u, execDictRestoreDefaults t w v s = .next u ∧ u.kept = (s.at_ t).kept := by
  unfold execDictRestoreDefaults
  refine ⟨_, rfl, ?_⟩; simp

theorem execWriteCfg_kept (t : Nat) (b : Byte) (s : State) : ∃ u, execWriteCfg t b s = .next u ∧ u.kept = (s.at_ t).kept := by
  unfold execWriteCfg
  generalize s.at_ t = q
  refine ⟨_, rfl, ?_⟩; simp

theorem execReadStatus_kept (t : Nat) (clocked : Nat) (s : State) :
    ∃ u, execReadStatus t clocked s = .next u ∧ u.kept = (s.at_ t).kept := by
  unfold execReadStatus
  generalize s.at_ t = q
  refine ⟨_, rfl, ?_⟩; simp

theorem execMbxWrite_kept (t : Nat) (sent : List Byte) (s : State) :
    ∃ u, execMbxWrite t sent s = .next u ∧ u.kept = (s.at_ t).kept := by
  unfold execMbxWrite
  generalize s.at_ t = q
  refine ⟨_, rfl, ?_⟩; simp

theorem execMbxRead_kept (t : Nat) (clocked : Nat) (s : State) :
    ∃ u, execMbxRead t clocked s = .next u ∧ u.kept = (s.at_ t).kept := by
  unfold execMbxRead
  generalize s.at_ t = q
  dsimp only
  refine ⟨_, rfl, ?_⟩; (repeat' (first | (simp; done) | (refine whenever_kept_of ?_ ?_) | (refine each_kept_of ?_ ?_ <;> (try intro _ _)) | split))

theorem execEvtRead_kept (t : Nat) (max : Nat) (clocked : Nat) (s : State) :
    ∃ u, execEvtRead t max clocked s = .next u ∧ u.kept = (s.at_ t).kept := by
  unfold execEvtRead
  refine ⟨_, rfl, ?_⟩; simp

theorem execReadId_kept (t : Nat) (clocked : Nat) (s : State) :
    ∃ u, execReadId t clocked s = .next u ∧ u.kept = (s.at_ t).kept := by
  unfold execReadId
  refine ⟨_, rfl, ?_⟩; simp

theorem execBootCtrlWrite_kept (t : Nat) (m : Master) (v : BitVec 32) (s : State) :
    ∃ u, execBootCtrlWrite t m v s = .next u ∧ u.kept = (s.at_ t).kept := by
  unfold execBootCtrlWrite
  generalize s.at_ t = q
  dsimp only
  refine ⟨_, rfl, ?_⟩; simp

theorem execCrlDdrSegWrite_kept (t : Nat) (m : Master) (reg : Master) (v : BitVec 32) (s : State) :
    ∃ u, execCrlDdrSegWrite t m reg v s = .next u ∧ u.kept = (s.at_ t).kept := by
  unfold execCrlDdrSegWrite
  generalize s.at_ t = q
  dsimp only
  refine ⟨_, rfl, ?_⟩; simp

theorem execCoreRestarted_kept (t : Nat) (core : Fin 2) (s : State) :
    ∃ u, execCoreRestarted t core s = .next u ∧ u.kept = (s.at_ t).kept := by
  unfold execCoreRestarted
  refine ⟨_, rfl, ?_⟩; simp

theorem execCoreRestartDone_kept (t : Nat) (core : Fin 2) (s : State) :
    ∃ u, execCoreRestartDone t core s = .next u ∧ u.kept = (s.at_ t).kept := by
  unfold execCoreRestartDone
  generalize s.at_ t = q
  refine ⟨_, rfl, ?_⟩; simp

theorem execFilteredLevelChange_kept (t : Nat) (source : Nat) (s : State) :
    ∃ u, execFilteredLevelChange t source s = .next u ∧ u.kept = (s.at_ t).kept := by
  unfold execFilteredLevelChange
  generalize s.at_ t = q
  refine ⟨_, rfl, ?_⟩; simp

theorem execLetoffOverrun_kept (t : Nat) (id : Nat) (s : State) :
    ∃ u, execLetoffOverrun t id s = .next u ∧ u.kept = (s.at_ t).kept := by
  unfold execLetoffOverrun
  generalize s.at_ t = q
  dsimp only
  split <;> exact ⟨_, rfl, by simp⟩

theorem execLetoffMaxWait_kept (t : Nat) (id : Nat) (s : State) :
    ∃ u, execLetoffMaxWait t id s = .next u ∧ u.kept = (s.at_ t).kept := by
  unfold execLetoffMaxWait
  generalize s.at_ t = q
  dsimp only
  split <;> exact ⟨_, rfl, by simp⟩

theorem execReadVout_kept (t : Nat) (word : Option (BitVec 16)) (s : State) :
    ∃ u, execReadVout t word s = .next u ∧ u.kept = (s.at_ t).kept := by
  unfold execReadVout
  generalize s.at_ t = q
  dsimp only
  (repeat' split) <;> exact ⟨_, rfl, by simp⟩

theorem execReadIout_kept (t : Nat) (word : Option (BitVec 16)) (s : State) :
    ∃ u, execReadIout t word s = .next u ∧ u.kept = (s.at_ t).kept := by
  unfold execReadIout
  generalize s.at_ t = q
  dsimp only
  split <;> exact ⟨_, rfl, by simp⟩

theorem execStatusWord_kept (t : Nat) (word : Option (BitVec 16)) (s : State) :
    ∃ u, execStatusWord t word s = .next u ∧ u.kept = (s.at_ t).kept := by
  unfold execStatusWord
  generalize s.at_ t = q
  dsimp only
  split <;> exact ⟨_, rfl, by simp⟩

theorem execPmbAlertN_kept (t : Nat) (s : State) : ∃ u, execPmbAlertN t s = .next u ∧ u.kept = (s.at_ t).kept := by
  unfold execPmbAlertN
  generalize s.at_ t = q
  refine ⟨_, rfl, ?_⟩; simp

theorem execVcoreNotSettled_kept (t : Nat) (s : State) : ∃ u, execVcoreNotSettled t s = .next u ∧ u.kept = (s.at_ t).kept := by
  unfold execVcoreNotSettled
  generalize s.at_ t = q
  dsimp only
  split <;> exact ⟨_, rfl, by simp⟩

theorem execVcoreStepDown_kept (t : Nat) (s : State) : ∃ u, execVcoreStepDown t s = .next u ∧ u.kept = (s.at_ t).kept := by
  unfold execVcoreStepDown
  refine ⟨_, rfl, ?_⟩; simp

theorem execPmbusRetry_kept (t : Nat) (good : Bool) (s : State) :
    ∃ u, execPmbusRetry t good s = .next u ∧ u.kept = (s.at_ t).kept := by
  unfold execPmbusRetry
  generalize s.at_ t = q
  refine ⟨_, rfl, ?_⟩; simp

theorem execThermtrip_kept (t : Nat) (s : State) : ∃ u, execThermtrip t s = .next u ∧ u.kept = (s.at_ t).kept := by
  unfold execThermtrip
  refine ⟨_, rfl, ?_⟩; simp

theorem execAgingHour_kept (t : Nat) (s : State) : ∃ u, execAgingHour t s = .next u ∧ u.kept = (s.at_ t).kept := by
  unfold execAgingHour
  generalize s.at_ t = q
  refine ⟨_, rfl, ?_⟩; simp

theorem execScrubWord_kept (t : Nat) (st : Store) (tier : Nat) (key : Nat) (pos : Nat) (double : Bool) (s : State) :
    ∃ u, execScrubWord t st tier key pos double s = .next u ∧ u.kept = (s.at_ t).kept := by
  unfold execScrubWord
  generalize s.at_ t = q
  dsimp only
  refine ⟨_, rfl, ?_⟩; (repeat' (first | (simp; done) | (refine whenever_kept_of ?_ ?_) | (refine each_kept_of ?_ ?_ <;> (try intro _ _)) | split))

theorem execScrubBurst_kept (t : Nat) (words : Nat) (s : State) :
    ∃ u, execScrubBurst t words s = .next u ∧ u.kept = (s.at_ t).kept := by
  unfold execScrubBurst
  generalize s.at_ t = q
  refine ⟨_, rfl, ?_⟩; simp

theorem execMonClear_kept (t : Nat) (w : Writer) (m : Fin 7) (v : Nat) (s : State) :
    ∃ u, execMonClear t w m v s = .next u ∧ u.kept = (s.at_ t).kept := by
  unfold execMonClear
  refine ⟨_, rfl, ?_⟩; simp

theorem execMonHistConfigWrite_kept (t : Nat) (w : Writer) (m : Fin 7) (width : Bool) (v : Int) (s : State) :
    ∃ u, execMonHistConfigWrite t w m width v s = .next u ∧ u.kept = (s.at_ t).kept := by
  unfold execMonHistConfigWrite
  refine ⟨_, rfl, ?_⟩; simp

theorem execOutputCountClear_kept (t : Nat) (w : Writer) (v : Nat) (s : State) :
    ∃ u, execOutputCountClear t w v s = .next u ∧ u.kept = (s.at_ t).kept := by
  unfold execOutputCountClear
  refine ⟨_, rfl, ?_⟩; simp

theorem execPowerUp_kept (t : Nat) (s : State) : ∃ u, execPowerUp t s = .next u ∧ u.kept = (s.at_ t).kept := by
  unfold execPowerUp
  generalize s.at_ t = q
  refine ⟨_, rfl, ?_⟩; simp

theorem execResetNFall_kept (t : Nat) (s : State) : ∃ u, execResetNFall t s = .next u ∧ u.kept = (s.at_ t).kept := by
  unfold execResetNFall
  generalize s.at_ t = q
  refine ⟨_, rfl, ?_⟩; simp

theorem execResetNRise_kept (t : Nat) (s : State) : ∃ u, execResetNRise t s = .next u ∧ u.kept = (s.at_ t).kept := by
  unfold execResetNRise
  generalize s.at_ t = q
  refine ⟨_, rfl, ?_⟩; simp

theorem execCorePgRise_kept (t : Nat) (s : State) : ∃ u, execCorePgRise t s = .next u ∧ u.kept = (s.at_ t).kept := by
  unfold execCorePgRise
  generalize s.at_ t = q
  refine ⟨_, rfl, ?_⟩; simp

theorem execStartTimeout_kept (t : Nat) (s : State) : ∃ u, execStartTimeout t s = .next u ∧ u.kept = (s.at_ t).kept := by
  unfold execStartTimeout
  refine ⟨_, rfl, ?_⟩; simp

theorem execStartRequestWarm_kept (t : Nat) (w : Writer) (s : State) :
    ∃ u, execStartRequestWarm t w s = .next u ∧ u.kept = (s.at_ t).kept := by
  unfold execStartRequestWarm
  refine ⟨_, rfl, ?_⟩; simp

theorem execStartRequestCold_kept (t : Nat) (w : Writer) (s : State) :
    ∃ u, execStartRequestCold t w s = .next u ∧ u.kept = (s.at_ t).kept := by
  unfold execStartRequestCold
  refine ⟨_, rfl, ?_⟩; simp

theorem execRetainedRecordWrite_kept (t : Nat) (s : State) :
    ∃ u, execRetainedRecordWrite t s = .next u ∧ u.kept = (s.at_ t).kept := by
  unfold execRetainedRecordWrite
  refine ⟨_, rfl, ?_⟩; simp

theorem execDoffRequest_kept (t : Nat) (w : Writer) (v : Nat) (s : State) :
    ∃ u, execDoffRequest t w v s = .next u ∧ u.kept = (s.at_ t).kept := by
  unfold execDoffRequest
  refine ⟨_, rfl, ?_⟩; simp

theorem execDoffEntry_kept (t : Nat) (s : State) : ∃ u, execDoffEntry t s = .next u ∧ u.kept = (s.at_ t).kept := by
  unfold execDoffEntry
  generalize s.at_ t = q
  refine ⟨_, rfl, ?_⟩; simp

theorem execWakeTimer_kept (t : Nat) (s : State) : ∃ u, execWakeTimer t s = .next u ∧ u.kept = (s.at_ t).kept := by
  unfold execWakeTimer
  refine ⟨_, rfl, ?_⟩; simp

theorem execWakeIn_kept (t : Nat) (n : Fin 4) (s : State) : ∃ u, execWakeIn t n s = .next u ∧ u.kept = (s.at_ t).kept := by
  unfold execWakeIn
  refine ⟨_, rfl, ?_⟩; simp

theorem execWakeCpLink_kept (t : Nat) (s : State) : ∃ u, execWakeCpLink t s = .next u ∧ u.kept = (s.at_ t).kept := by
  unfold execWakeCpLink
  generalize s.at_ t = q
  refine ⟨_, rfl, ?_⟩; simp

theorem execFieldLockBlow_kept (t : Nat) (w : Writer) (v : Nat) (s : State) :
    ∃ u, execFieldLockBlow t w v s = .next u ∧ u.kept = (s.at_ t).kept := by
  unfold execFieldLockBlow
  refine ⟨_, rfl, ?_⟩; simp

theorem execOemPwSet_kept (t : Nat) (w : Writer) (b : List Byte) (s : State) :
    ∃ u, execOemPwSet t w b s = .next u ∧ u.kept = (s.at_ t).kept := by
  unfold execOemPwSet
  refine ⟨_, rfl, ?_⟩; simp

theorem execFwImage_kept (t : Nat) (w : Writer) (image : List Byte) (s : State) :
    ∃ u, execFwImage t w image s = .next u ∧ u.kept = (s.at_ t).kept := by
  unfold execFwImage
  refine ⟨_, rfl, ?_⟩; simp

theorem execFwProgrammed_kept (t : Nat) (done : Bool) (s : State) :
    ∃ u, execFwProgrammed t done s = .next u ∧ u.kept = (s.at_ t).kept := by
  unfold execFwProgrammed
  generalize s.at_ t = q
  dsimp only
  (repeat' split) <;> exact ⟨_, rfl, by simp⟩

theorem execFwSecCommit_kept (t : Nat) (w : Writer) (v : Nat) (s : State) :
    ∃ u, execFwSecCommit t w v s = .next u ∧ u.kept = (s.at_ t).kept := by
  unfold execFwSecCommit
  refine ⟨_, rfl, ?_⟩; simp

theorem execFwKeyRevoke_kept (t : Nat) (w : Writer) (v : Nat) (s : State) :
    ∃ u, execFwKeyRevoke t w v s = .next u ∧ u.kept = (s.at_ t).kept := by
  unfold execFwKeyRevoke
  refine ⟨_, rfl, ?_⟩; simp

theorem execStartFailed_kept (t : Nat) (c : StartFault) (s : State) :
    ∃ u, execStartFailed t c s = .next u ∧ u.kept = (s.at_ t).kept := by
  unfold execStartFailed
  refine ⟨_, rfl, ?_⟩; simp

theorem execPtpAnnounceTimeout_kept (t : Nat) (mac : Fin 3) (s : State) :
    ∃ u, execPtpAnnounceTimeout t mac s = .next u ∧ u.kept = (s.at_ t).kept := by
  unfold execPtpAnnounceTimeout
  generalize s.at_ t = q
  dsimp only
  refine ⟨_, rfl, ?_⟩; (repeat' (first | (simp; done) | (refine whenever_kept_of ?_ ?_) | (refine each_kept_of ?_ ?_ <;> (try intro _ _)) | split))

theorem execDebugCoreResume_kept (t : Nat) (core : Fin 2) (s : State) :
    ∃ u, execDebugCoreResume t core s = .next u ∧ u.kept = (s.at_ t).kept := by
  unfold execDebugCoreResume
  refine ⟨_, rfl, ?_⟩; simp

end Machine
end Sys2Proof
end

