-- ==== Sys2Proof/Laws/Line.lean ====
section
/-! SUPPORT. What stands in a Swiska block that the engine makes (R265, R266). -/

namespace Sys2Proof
namespace Machine

set_option exponentiation.threshold 1100

/-- One step of the CRC keeps its register within 32 bits. -/
theorem crc32Step_lt (bs : List Bool) (c : Nat) (h : c < 2 ^ 32) :
    bs.foldl (fun c b =>
      let t := Nat.xor c (if b then 2 ^ 31 else 0) * 2
      if 2 ^ 32 ≤ t then Nat.xor (t % 2 ^ 32) 0x04C11DB7 else t) c < 2 ^ 32 := by
  induction bs generalizing c with
  | nil => exact h
  | cons b r ih =>
    refine ih _ ?_
    dsimp only
    generalize Nat.xor c (if b then 2 ^ 31 else 0) * 2 = t
    split
    · exact Nat.xor_lt_two_pow (Nat.mod_lt _ (by decide : 0 < 2 ^ 32)) (by decide : 0x04C11DB7 < 2 ^ 32)
    · omega

/-- A CRC-32 fits its 32 bits. -/
theorem crc32Bits_lt (bs : List Bool) : crc32Bits bs < 2 ^ 32 :=
  Nat.xor_lt_two_pow (crc32Step_lt bs _ (by decide)) (by decide)

/-- The number that a block stands for: header, type, body and CRC. -/
theorem makeBlock_toNat {sync type : Nat} (body : Nat) (hs : sync < 4) (ht : type < 256) :
    ∃ c, c < 2 ^ 32 ∧ c = crc32Bits (bitString 990 ((sync * 2 ^ 1022 + type * 2 ^ 1014 + body % 2 ^ 982 * 2 ^ 32) / 2 ^ 32 % 2 ^ 990)) ∧
      (makeBlock sync type body).toNat = sync * 2 ^ 1022 + type * 2 ^ 1014 + body % 2 ^ 982 * 2 ^ 32 + c := by
  refine ⟨_, crc32Bits_lt _, rfl, ?_⟩
  have hc := crc32Bits_lt (bitString 990 ((sync * 2 ^ 1022 + type * 2 ^ 1014 + body % 2 ^ 982 * 2 ^ 32) / 2 ^ 32 % 2 ^ 990))
  simp only [makeBlock, BitVec.toNat_ofNat]
  generalize crc32Bits _ = c at *
  apply Nat.mod_eq_of_lt
  have hb : body % 2 ^ 982 < 2 ^ 982 := Nat.mod_lt _ (by positivity)
  generalize body % 2 ^ 982 = b at *
  omega

/-- The CRC of a block that the engine makes is right. -/
theorem makeBlock_clean {sync type : Nat} (body : Nat) (hs : sync < 4) (ht : type < 256) :
    blockClean (makeBlock sync type body) = true := by
  obtain ⟨c, hc, he, hn⟩ := makeBlock_toNat body hs ht
  simp only [blockClean, hn, beq_iff_eq]
  have h1 : (sync * 2 ^ 1022 + type * 2 ^ 1014 + body % 2 ^ 982 * 2 ^ 32 + c) / 2 ^ 32 =
      (sync * 2 ^ 1022 + type * 2 ^ 1014 + body % 2 ^ 982 * 2 ^ 32) / 2 ^ 32 := by
    generalize body % 2 ^ 982 = b at *
    omega
  have h2 : (sync * 2 ^ 1022 + type * 2 ^ 1014 + body % 2 ^ 982 * 2 ^ 32 + c) % 2 ^ 32 = c := by
    generalize body % 2 ^ 982 = b at *
    omega
  rw [h1, h2, ← he]

/-- The type of a block that the engine makes. -/
theorem makeBlock_type {sync type : Nat} (body : Nat) (hs : sync < 4) (ht : type < 256) :
    blockType (makeBlock sync type body) = type := by
  obtain ⟨c, hc, he, hn⟩ := makeBlock_toNat body hs ht
  have hb : body % 2 ^ 982 < 2 ^ 982 := Nat.mod_lt _ (by positivity)
  simp only [blockType, blockBits, bits, hn]
  clear he hn
  generalize body % 2 ^ 982 = b at *
  norm_num
  omega

/-- The sync header of a block that the engine makes. -/
theorem makeBlock_sync {sync type : Nat} (body : Nat) (hs : sync < 4) (ht : type < 256) :
    blockBits (makeBlock sync type body) 1023 1022 = sync := by
  obtain ⟨c, hc, he, hn⟩ := makeBlock_toNat body hs ht
  have hb : body % 2 ^ 982 < 2 ^ 982 := Nat.mod_lt _ (by positivity)
  simp only [blockBits, bits, hn]
  clear he hn
  generalize body % 2 ^ 982 = b at *
  norm_num
  omega

/-- A power of two splits at any lower exponent. -/
theorem two_pow_split {a b : Nat} (h : b ≤ a) : 2 ^ a = 2 ^ b * 2 ^ (a - b) := by
  rw [← pow_add, Nat.add_sub_cancel' h]

/-- A field of the body of a block that the engine makes reads as it was put in. -/
theorem makeBlock_bits {sync type : Nat} (body hi lo : Nat) (hs : sync < 4) (ht : type < 256) (hl : 32 ≤ lo) (hh : lo ≤ hi)
    (h : hi < 1014) : blockBits (makeBlock sync type body) hi lo = bits body (hi - 32) (lo - 32) := by
  obtain ⟨c, hc, he, hn⟩ := makeBlock_toNat body hs ht
  simp only [blockBits, bits, hn]
  have h1 : ∀ n, (sync * 2 ^ 1022 + type * 2 ^ 1014 + n % 2 ^ 982 * 2 ^ 32 + c) / 2 ^ 32 = (sync * 256 + type) * 2 ^ 982 + n % 2 ^ 982 := by
    intro n
    generalize n % 2 ^ 982 = b at *
    norm_num
    omega
  have h2 : 2 ^ lo = 2 ^ 32 * 2 ^ (lo - 32) := two_pow_split hl
  rw [h2, ← Nat.div_div_eq_div_mul, h1]
  have e1 : (2 : Nat) ^ 982 = 2 ^ (lo - 32) * 2 ^ (982 - (lo - 32)) := two_pow_split (by omega)
  have e2 : hi + 1 - lo = hi - 32 + 1 - (lo - 32) := by omega
  have e3 : (2 : Nat) ^ (982 - (lo - 32)) = 2 ^ (hi + 1 - lo) * 2 ^ (982 - (lo - 32) - (hi + 1 - lo)) :=
    two_pow_split (by omega)
  rw [← e2]
  have e4 : ((sync * 256 + type) * 2 ^ 982 + body % 2 ^ 982) / 2 ^ (lo - 32) % 2 ^ (hi + 1 - lo) =
      (body % 2 ^ 982) / 2 ^ (lo - 32) % 2 ^ (hi + 1 - lo) := by
    conv_lhs => rw [show (sync * 256 + type) * 2 ^ 982 = 2 ^ (lo - 32) * ((sync * 256 + type) * 2 ^ (982 - (lo - 32))) by rw [e1]; ring]
    rw [Nat.mul_add_div (by positivity), e3, show (sync * 256 + type) * (2 ^ (hi + 1 - lo) * 2 ^ (982 - (lo - 32) - (hi + 1 - lo))) = 2 ^ (hi + 1 - lo) * ((sync * 256 + type) * 2 ^ (982 - (lo - 32) - (hi + 1 - lo))) by ring,
      Nat.mul_add_mod]
  rw [e4, e1, Nat.mod_mul_right_div_self, e3, Nat.mod_mul_right_mod]

/-- A block made with the sync header of its type is a whole block of that type. -/
theorem isBlock_makeBlock {sync type : Nat} (body : Nat) (hs : sync < 4) (ht : type < 256)
    (h : sync = if type = 0x7E || type = 0x04 || type = 0x00 then 2 else 1) : isBlock type (makeBlock sync type body) = true := by
  simp only [isBlock, syncRight, makeBlock_clean body hs ht, makeBlock_type body hs ht, makeBlock_sync body hs ht]
  split at h <;> simp_all

end Machine
end Sys2Proof
end

