-- ==== Sys2Proof/Tests/Slice0.lean ====
section
/-! SUPPORT. Tests of the model: the well-formedness checks refuse, every statement with hypotheses has a state and operands that
meet them, and single steps answer what the manual says. -/

open Sys2Proof Sys2Proof.Machine

namespace Sys2Proof.Tests

set_option Elab.async false

/-- Rails up and the engine in service. -/
def powered : Power := { Power.reset with stage := 5, porst := true, coreEn := true, corePg := true }

/-- Local time at `now` ns, in pick 100. -/
def clockAt (now : Nat) : Clock := { State.reset.clock with now := now, pick := 100 }

/-- An engine in service at `now` ns in which the listed objects hold the listed values. -/
def eng (now : Nat) (vals : List (Nat × Int)) : State :=
  { State.reset with clock := clockAt now, power := powered, dict := vals.map (fun x => (x.1, Val.num x.2)) }

/-- An engine with one command waiting. -/
def waiting : State := { State.reset with pending := [.slackWarn 0] }

/-- A commit of one object instance of no known type. -/
def badGraph : Map Val := [(entry Obj.OBJ_INSTANCE 0, .num 0xFFFF0000)]

/-- The plan of an empty graph. -/
def planOf (s : State) : Plan := match compile s [] with | .ok p => p | .error _ => Plan.reset

/-- What the compile answers of it. -/
def refusalOf (s : State) : Nat × Nat × Nat := match compile s badGraph with | .ok _ => (0, 0, 0) | .error e => e

/-- A commit of one trim. -/
def oneTrim : Map Val := [(entry Obj.OBJ_INSTANCE 0, .num 0x10000)]

/-- An engine whose one committed harness is full of a partner's instances while that commit is compiled. -/
def crowded : State :=
  { eng 0 ([1, 2, 3, 4, 5, 6, 7, 8].map (fun h => (Obj.HARNESS_STATE + h, 4))) with
    fabric := { Fabric.reset with guests := [0, 1, 2, 3, 4, 5].map (fun sh => ⟨sh, 5, 100000000, sh, 0⟩) }
    graph := { Graph.reset with compiling := some oneTrim } }

/-- The error its compile answers. -/
def crowding : Nat × Nat × Nat := match compile crowded oneTrim with | .ok _ => (0, 0, 0) | .error e => e

/-- The plan once the partner's instances have left. -/
def cleared : Plan := match compile { crowded with fabric := { crowded.fabric with guests := [] } } oneTrim with
  | .ok p => p
  | .error _ => Plan.reset

/-- An engine with SLACK_WARN pending at one target. -/
def claiming (target : Nat) : State :=
  { eng 0 [(evtKey Obj.EVT_SRC_PRIO Ev.SLACK_WARN, 4), (evtKey Obj.EVT_SRC_TARGETS Ev.SLACK_WARN, (2 ^ target : Nat))] with
    heddle := { Heddle.reset with
      pend := [⟨target, Ev.SLACK_WARN, 0, 0, false, false, false, false⟩], sizes := [256, 256, 256, 256] } }

/-- What is left once that target has claimed it. -/
def claimed (s : State) (target : Nat) : State := match claim s target with | some (u, _) => u | none => s

/-- The row of an object. -/
def rowAt (s : State) (k : Nat) : Row := (s.objRow k).getD ⟨0, 0, 0, 0, .u8, .rw, .num 0, .any⟩

/-- A lane that sends only zeros has no error against the zero state of the test pattern. -/
theorem prbsCheck_zero (n k : Nat) : prbsCheck (bitString n 0) 0 k = (0, k) := by
  induction n generalizing k with
  | zero => rfl
  | succ n ih =>
    have h : bit 0 n = false := by simp [bit]
    have e : prbsNext 0 = 0 := by decide
    simp only [bitString, prbsCheck, h, e]
    exact ih k

/-- A Hapol header of version 1 with its TYPE and flags, SRC_LOOM and body. -/
def message (type src : Nat) (body : List Byte) : List Byte :=
  beBytes 1 1 ++ beBytes 1 type ++ beBytes 2 body.length ++ beBytes 4 0 ++ beBytes 4 1 ++ beBytes 4 0 ++ beBytes 2 0 ++ beBytes 2 src ++ body

/-- Numbers one beyond their fields are refused (first part). -/
theorem test_wellFormed_first : ([
      .taskComplete 0 (.inst 16384) ⟨[], 0, 0, false⟩, .taskComplete 0 (.bus 2048) ⟨[], 0, 0, false⟩,
      .slackClear 0 ⟨.mailbox, 0⟩ (2 ^ 80), .objectWrite 0 ⟨.mailbox, 0⟩ (2 ^ 24) (.num 0),
      .objectWrite 0 ⟨.mailbox, 0⟩ 0 (.num (2 ^ 80)), .objectWrite 0 ⟨.mailbox, 0⟩ 0 (.num (-(2 ^ 79) - 1)),
      .contribSet 0 ⟨.mailbox, 0⟩ (2 ^ 80), .twillRequest 0 ⟨.mailbox, 0⟩ (2 ^ 80), .twillDone 0 16384,
      .routeFadeEnd 0 (2 ^ 32), .routeDeferredApply 0 (2 ^ 32), .delayFadeEnd 0 16384, .trimRampEnd 0 16384,
      .genCrossfadeEnd 0 16384, .firpLoadDone 0 16384, .ldRun 0 ⟨.mailbox, 0⟩ 16384 0, .ldRun 0 ⟨.mailbox, 0⟩ 0 (2 ^ 80),
      .loudnessUpdate 0 16384, .mtrClear 0 ⟨.mailbox, 0⟩ 16384 0, .mtrClear 0 ⟨.mailbox, 0⟩ 0 (2 ^ 80),
      .reweaveBulkCopyDone 0 16384 0, .reweaveAbandoned 0 16384, .faultMoveStart 0 16384 false,
      .placeQuiet 0 ⟨.mailbox, 0⟩ (2 ^ 80), .overflowEvict 0 16384, .overflowEvictFailed 0 16384,
      .timeSet 0 ⟨.mailbox, 0⟩ (2 ^ 80), .timedCancel 0 ⟨.mailbox, 0⟩ (2 ^ 80), .timedCancelTag 0 ⟨.mailbox, 0⟩ (2 ^ 80),
      .spSourceWrite 0 ⟨.mailbox, 0⟩ 0 false (2 ^ 80)] : List Instr).all
    (fun c => !c.wellFormed) = true := by decide

/-- Numbers one beyond their fields are refused (second part). -/
theorem test_wellFormed_second : ([
      .alignOffsetWrite 0 ⟨.mailbox, 0⟩ 0 false (2 ^ 63), .alignOffsetWrite 0 ⟨.mailbox, 0⟩ 0 false (-(2 ^ 63) - 1),
      .ptpGmDomainWrite 0 ⟨.mailbox, 0⟩ 0 (2 ^ 80), .tdmConfigWrite 0 ⟨.mailbox, 0⟩ 0 (2 ^ 8) 0,
      .tdmConfigWrite 0 ⟨.mailbox, 0⟩ 0 0 (2 ^ 80), .tdmMaskWrite 0 ⟨.mailbox, 0⟩ 0 false (2 ^ 80),
      .ipAddressWrite 0 ⟨.mailbox, 0⟩ 0 (2 ^ 8) 0, .ipAddressWrite 0 ⟨.mailbox, 0⟩ 0 0 (2 ^ 80),
      .streamWrite 0 ⟨.mailbox, 0⟩ (2 ^ 24) 0, .streamWrite 0 ⟨.mailbox, 0⟩ 0 (2 ^ 63),
      .streamWrite 0 ⟨.mailbox, 0⟩ 0 (-(2 ^ 63) - 1), .netStatsSnapshot 0 ⟨.mailbox, 0⟩ (2 ^ 80),
      .swEnable 0 ⟨.mailbox, 0⟩ 0 (2 ^ 80), .swLoopback 0 ⟨.mailbox, 0⟩ 0 (2 ^ 80), .swRetrain 0 ⟨.mailbox, 0⟩ 0 (2 ^ 80),
      .leaseSwap 0 ⟨.mailbox, 0⟩ (2 ^ 80), .acRun 0 ⟨.mailbox, 0⟩ 0 (2 ^ 80), .tdClear 0 ⟨.mailbox, 0⟩ 0 (2 ^ 80),
      .tdPwmRateWrite 0 ⟨.mailbox, 0⟩ 0 (2 ^ 80), .tdDiagModeWrite 0 ⟨.mailbox, 0⟩ (2 ^ 80), .notifyTimeout 0 0 (2 ^ 32),
      .sessionClose 0 ⟨.mailbox, 0⟩ 0 (2 ^ 80), .hapolClaim 0 ⟨.mailbox, 0⟩ (2 ^ 80), .hapolRelease 0 ⟨.mailbox, 0⟩ (2 ^ 80),
      .hapolClaimBreak 0 ⟨.mailbox, 0⟩ (2 ^ 80), .dictRestoreDefaults 0 ⟨.mailbox, 0⟩ (2 ^ 80), .creelWrite 0 (2 ^ 32) [],
      .creelRead 0 (2 ^ 32) 0 0, .bootImageLen 0 .coreA (2 ^ 32), .filteredLevelChange 0 (2 ^ 9)] : List Instr).all
    (fun c => !c.wellFormed) = true := by decide

/-- Numbers one beyond their fields are refused (third part). -/
theorem test_wellFormed_third : ([
      .monClear 0 ⟨.mailbox, 0⟩ 0 (2 ^ 80), .monHistConfigWrite 0 ⟨.mailbox, 0⟩ 0 false (2 ^ 63),
      .monHistConfigWrite 0 ⟨.mailbox, 0⟩ 0 false (-(2 ^ 63) - 1), .outputCountClear 0 ⟨.mailbox, 0⟩ (2 ^ 80),
      .porstNRise 0 (2 ^ 8) none, .startDone 0 (.trained 1023 .mts6400) [], .startDone 0 (.trained 16385 .mts6400) [],
      .doffRequest 0 ⟨.mailbox, 0⟩ (2 ^ 80), .fieldLockBlow 0 ⟨.mailbox, 0⟩ (2 ^ 80), .fwSecCommit 0 ⟨.mailbox, 0⟩ (2 ^ 80),
      .fwKeyRevoke 0 ⟨.mailbox, 0⟩ (2 ^ 80)] : List Instr).all
    (fun c => !c.wellFormed) = true := by decide

/-- A value of more than 65,535 octets is refused (R341). -/
theorem test_wellFormed_octets (b : List Byte) (h : valOk (.bytes b) = false) :
    Instr.wellFormed (.objectWrite 0 ⟨.mailbox, 0⟩ 0 (.bytes b)) = false := by
  simp [Instr.wellFormed, h]

/-- There are such octets. -/
theorem test_valOk : ∃ b, valOk (.bytes b) = false :=
  ⟨List.replicate 65536 0, by rw [valOk, List.length_replicate]; decide⟩

/-- Octets that no frame or message can hold are refused in every command that carries octets. -/
theorem test_wellFormed_messages (b : List Byte) (h : octetsOk b = false) : ([
      .frameRx 0 0 ⟨b, true, false⟩, .forwardedWrite 0 ⟨.mailbox, 0, b⟩, .read 0 ⟨.mailbox, 0, b⟩, .write 0 ⟨.mailbox, 0, b⟩,
      .writeTimed 0 ⟨.mailbox, 0, b⟩, .subscribeValue 0 ⟨.mailbox, 0, b⟩, .subscribeEvents 0 ⟨.mailbox, 0, b⟩,
      .subscribeRemove 0 ⟨.mailbox, 0, b⟩, .notifyAck 0 ⟨.mailbox, 0, b⟩, .blockWriteBegin 0 ⟨.mailbox, 0, b⟩,
      .blockWriteData 0 ⟨.mailbox, 0, b⟩, .blockReadBegin 0 ⟨.mailbox, 0, b⟩, .blockReadData 0 ⟨.mailbox, 0, b⟩,
      .blockAbort 0 ⟨.mailbox, 0, b⟩, .challengeOpen 0 ⟨.mailbox, 0, b⟩, .challengeProve 0 ⟨.mailbox, 0, b⟩,
      .challengeClose 0 ⟨.mailbox, 0, b⟩, .debugRequest 0 ⟨.mailbox, 0, b⟩, .debugAnswer 0 ⟨.mailbox, 0, b⟩,
      .debugPassword 0 ⟨.mailbox, 0, b⟩, .debugClose 0 ⟨.mailbox, 0, b⟩, .creelWrite 0 0 b, .mbxWrite 0 b,
      .oemPwSet 0 ⟨.mailbox, 0⟩ b, .fwImage 0 ⟨.mailbox, 0⟩ b] : List Instr).all
    (fun c => !c.wellFormed) = true := by
  simp [Instr.wellFormed, h]

/-- There are such octets. -/
theorem test_octetsOk : ∃ b, octetsOk b = false :=
  ⟨List.replicate (2 ^ 24) 0, by rw [octetsOk, List.length_replicate]; decide⟩

/-- A self-test of five or seven shuttles is refused (R9). -/
theorem test_wellFormed_selfTest : [(⟨List.replicate 5 true, List.replicate 6 0⟩ : SelfTest), ⟨List.replicate 6 true, List.replicate 7 0⟩].all
    (fun r => [.mendSelfTestDone 0 0 r, .startDone 0 (.trained 1024 .mts6400) [r]].all (fun c => !Instr.wellFormed c)) = true := by decide

/-- A lease message with any field beyond its width, or from a tenth path, is refused (R301). -/
theorem test_wellFormed_lease : [(⟨9, 0, true, 0, false, 0, 0, 0, 0, 0⟩ : LeaseMsg), ⟨0, 2 ^ 48, true, 0, false, 0, 0, 0, 0, 0⟩,
      ⟨0, 0, true, 8, false, 0, 0, 0, 0, 0⟩, ⟨0, 0, true, 0, false, 2 ^ 32, 0, 0, 0, 0⟩, ⟨0, 0, true, 0, false, 0, 2 ^ 32, 0, 0, 0⟩,
      ⟨0, 0, true, 0, false, 0, 0, 2 ^ 16, 0, 0⟩, ⟨0, 0, true, 0, false, 0, 0, 0, 2 ^ 64, 0⟩, ⟨0, 0, true, 0, false, 0, 0, 0, 0, 2 ^ 64⟩].all
    (fun m => [.leaseRenew 0 m, .leaseStandby 0 m, .leaseHandover 0 m].all (fun c => !Instr.wellFormed c)) = true := by decide

/-- States and operands that meet the hypotheses of DeadlineCommandsComplete, one for each clause that has any. -/
theorem witness_DeadlineCommandsComplete :
    (∃ (q : State), q.inService = true) ∧
    (∃ (t : Nat) (e : Elem) (w : Work) (q : State), let s := q.at_ t; s.workOf (elemNo e) = some w ∧ s.power.stage = 5 ∧
      s.canComplete (elemNo e) w = true) ∧
    (∃ (t : Nat) (b : Nat) (w : Work) (q : State), let s := q.at_ t; s.workOf (65536 + b) = some w ∧ s.power.stage = 5 ∧
      s.canComplete (65536 + b) w = true ∧ s.badReads (s.copyFor w) (65536 + b) w.next = 0) ∧
    (∃ (t : Nat) (q : State), let s := q.at_ t; 64 ≤ s.fabric.warnBelow) ∧
    (∃ (t : Nat) (q : State), let s := q.at_ t; 64 ≤ s.fabric.warnAbove) ∧
    (∃ (t : Nat) (q : State), let s := q.at_ t; 64 ≤ s.fabric.alarmAbove) :=
  ⟨⟨eng 0 [], by decide +kernel⟩,
    ⟨0, .bus 0, ⟨.bus 0, 99, [], [], 0, 0⟩,
      { eng 0 [] with graph := { Graph.reset with works := [⟨.bus 0, 99, [], [], 0, 0⟩] } }, by decide +kernel⟩,
    ⟨0, 0, ⟨.bus 0, 99, [], [], 0, 0⟩, { eng 0 [] with graph := { Graph.reset with works := [⟨.bus 0, 99, [], [], 0, 0⟩] } },
      by decide +kernel⟩,
    ⟨0, { eng 0 [] with fabric := { Fabric.reset with warnBelow := 64 } }, by decide +kernel⟩,
    ⟨0, { eng 0 [] with fabric := { Fabric.reset with warnAbove := 64 } }, by decide +kernel⟩,
    ⟨0, { eng 0 [] with fabric := { Fabric.reset with alarmAbove := 64 } }, by decide +kernel⟩⟩

/-- States and operands that meet the hypotheses of CompileCompletes, one for each clause that has any. -/
theorem witness_CompileCompletes :
    (∃ (t : Nat) (d : Map Val) (e : Nat × Nat × Nat) (q : State), let s := q.at_ t; s.graph.compiling = some d ∧
      s.coreRuns 0 = true ∧ compile s d = .error e ∧ (e.1 ≠ 0x07 ∨ s.fabric.guests = [])) ∧
    (∃ (t : Nat) (d : Map Val) (p : Plan) (q : State), let s := q.at_ t; s.graph.compiling = some d ∧ s.coreRuns 0 = true ∧
      compile s d = .ok p) ∧
    (∃ (t : Nat) (d : Map Val) (p : Plan) (e : Nat × Nat × Nat) (q : State), let s := q.at_ t; s.graph.compiling = some d ∧
      s.coreRuns 0 = true ∧ compile s d = .error e ∧ e.1 = 0x07 ∧ s.fabric.guests ≠ [] ∧
      compile { s with fabric := { s.fabric with guests := [] } } d = .ok p) ∧
    (∃ (t : Nat) (d : Map Val) (q : State), let s := q.at_ t; s.graph.compiling = some d ∧ s.coreRuns 0 = true) :=
  ⟨⟨0, badGraph, (refusalOf (eng 0 [])), { eng 0 [] with graph := { Graph.reset with compiling := some badGraph } },
      by decide +kernel⟩,
    ⟨0, [], (planOf (eng 0 [])), { eng 0 [] with graph := { Graph.reset with compiling := some [] } }, by decide +kernel⟩,
    ⟨0, oneTrim, cleared, crowding, crowded, by decide +kernel⟩,
    ⟨0, badGraph, { eng 0 [] with graph := { Graph.reset with compiling := some badGraph } }, by decide +kernel⟩⟩

/-- States and operands that meet the hypotheses of GraphSwitchCompletes, one for each clause that has any. -/
theorem witness_GraphSwitchCompletes :
    (∃ (t : Nat) (p : Plan) (r : Map Nat × List Holding) (q : State), let s := q.at_ t; s.graph.ready = some p ∧
      maySwitch s p = true ∧ settled s p = .ok r) ∧
    (∃ (t : Nat) (p : Plan) (q : State), let s := q.at_ t; s.graph.ready = some p ∧ maySwitch s p = true) :=
  ⟨⟨0, Plan.reset, ([], []), { eng 0 [] with graph := { Graph.reset with ready := some Plan.reset } }, by decide +kernel⟩,
    ⟨0, Plan.reset, { eng 0 [] with graph := { Graph.reset with ready := some Plan.reset } }, by decide +kernel⟩⟩

/-- States and operands that meet the hypotheses of SwapAndLoadComplete, one for each clause that has any. -/
theorem witness_SwapAndLoadComplete :
    (∃ (t : Nat) (i : Nat) (tw : Twill) (w : Work) (q : State), let s := q.at_ t; s.swapOf i = some tw ∧ s.workOf i = some w ∧
      tw.start + twillLen s tw ≤ w.next * s.pl) ∧
    (∃ (t : Nat) (i : Nat) (q : State), let s := q.at_ t; loadState s i = 2) ∧
    (∃ (t : Nat) (i : Nat) (q : State) (w : Work) (b : Int), let s := q.at_ t; let l := loudOf s i; let size := loudBlock s.fs;
      let last := w.start + (l.total + 1) * size; s.workOf i = some w ∧ typeIn s.run i = 0x61 ∧
      w.regs[8 * shapeOf s.run i Par.LD_INPUTS + 2]? = some b ∧
      last + mapGetD s.graph.plan.shown i 2 * s.pl ≤ (s.clock.pick + 1) * s.pl) :=
  ⟨⟨0, 0, ⟨0, 0, ⟨0, 0, .num 0, 0, 0, 0, 0, 0, false, false, false⟩, 2, 64, []⟩, ⟨.inst 0, 8, [], [], 0, 0⟩,
      { eng 0 [] with
        graph := { Graph.reset with twills := [⟨0, 0, ⟨0, 0, .num 0, 0, 0, 0, 0, 0, false, false, false⟩, 2, 64, []⟩], works := [⟨.inst 0, 8, [], [], 0, 0⟩] } },
      by decide +kernel⟩,
    ⟨0, 0, eng 0 [(paramKey 0 Par.FIRP_LOAD_STATE, 2)], by decide +kernel⟩,
    ⟨0, 0,
      { eng 1000000000000000 [] with
        graph := { Graph.reset with works := [⟨.inst 0, 1000, (List.replicate 19 0), [], 0, 0⟩] },
        run := [(entry Obj.OBJ_INSTANCE 0, .num 0x610000)],
        clock := { clockAt 1000000000000000 with pick := 601 } },
      ⟨.inst 0, 1000, (List.replicate 19 0), [], 0, 0⟩, 0, by decide +kernel⟩⟩

/-- States and operands that meet the hypotheses of FadeEndsComplete, one for each clause that has any. -/
theorem witness_FadeEndsComplete :
    (∃ (t : Nat) (d : Nat) (f : Fade) (q : State), let s := q.at_ t; endedFade s d false s.sampleNow = some f) ∧
    (∃ (t : Nat) (d : Nat) (new : Nat) (f : Fade) (q : State), let s := q.at_ t;
      endedFade s d false (s.clock.pick * s.pl - 1) = some f ∧ f.deferred = some new) ∧
    (∃ (t : Nat) (i : Nat) (f : Fade) (q : State), let s := q.at_ t; typeIn s.run i = 0x30 ∧
      endedFade s i true (s.clock.pick * s.pl) = some f ∧ f.deferred = none) ∧
    (∃ (t : Nat) (i : Nat) (new : Nat) (f : Fade) (q : State), let s := q.at_ t; typeIn s.run i = 0x30 ∧
      endedFade s i true (s.clock.pick * s.pl) = some f ∧ f.deferred = some new ∧ f.sample + f.len < s.clock.pick * s.pl) ∧
    (∃ (t : Nat) (i : Nat) (f : Fade) (q : State), let s := q.at_ t; typeIn s.run i = 0x70 ∧
      endedFade s i true s.sampleNow = some f) ∧
    (∃ (t : Nat) (i : Nat) (w : Work) (q : State), let s := q.at_ t; s.workOf i = some w ∧ typeIn s.run i = 0x01) :=
  ⟨⟨0, 0, ⟨0, false, 0, 0, 1, [], 0, none, false⟩,
      { eng 0 [] with graph := { Graph.reset with fades := [⟨0, false, 0, 0, 1, [], 0, none, false⟩] } }, by decide +kernel⟩,
    ⟨0, 0, 7, ⟨0, false, 0, 0, 1, [], 0, some 7, false⟩,
      { eng 0 [] with graph := { Graph.reset with fades := [⟨0, false, 0, 0, 1, [], 0, some 7, false⟩] } }, by decide +kernel⟩,
    ⟨0, 0, ⟨0, true, 0, 0, 1, [], 0, none, false⟩,
      { eng 0 [] with
        graph := { Graph.reset with fades := [⟨0, true, 0, 0, 1, [], 0, none, false⟩] },
        run := [(entry Obj.OBJ_INSTANCE 0, .num 0x300000)] },
      by decide +kernel⟩,
    ⟨0, 0, 7, ⟨0, true, 0, 0, 1, [], 0, some 7, false⟩,
      { eng 0 [] with
        graph := { Graph.reset with fades := [⟨0, true, 0, 0, 1, [], 0, some 7, false⟩] },
        run := [(entry Obj.OBJ_INSTANCE 0, .num 0x300000)] },
      by decide +kernel⟩,
    ⟨0, 0, ⟨0, true, 0, 0, 1, [], 0, none, false⟩,
      { eng 0 [] with
        graph := { Graph.reset with fades := [⟨0, true, 0, 0, 1, [], 0, none, false⟩] },
        run := [(entry Obj.OBJ_INSTANCE 0, .num 0x700000)] },
      by decide +kernel⟩,
    ⟨0, 0, ⟨.inst 0, 1000, [], [], 0, 0⟩,
      { eng 0 [] with
        graph := { Graph.reset with works := [⟨.inst 0, 1000, [], [], 0, 0⟩] },
        run := [(entry Obj.OBJ_INSTANCE 0, .num 0x010000)] },
      by decide +kernel⟩⟩

/-- States and operands that meet the hypotheses of MoveCommandsComplete, one for each clause that has any. -/
theorem witness_MoveCommandsComplete :
    (∃ (t : Nat) (i : Nat) (m : Move) (q : State), let s := q.at_ t;
      (s.fabric.moves.find? (fun x => x.inst == i && x.phase == 2 && copied s x && arrived s x) = some m)) ∧
    (∃ (t : Nat) (i : Nat) (m : Move) (q : State), let s := q.at_ t;
      (s.fabric.moves.find? (fun x => x.inst == i && x.phase == 3 && decide (16 ≤ x.closings)) = some m)) ∧
    (∃ (t : Nat) (i : Nat) (m : Move) (q : State), let s := q.at_ t;
      (s.fabric.moves.find? (fun x => x.inst == i && x.kind == 1 && x.phase == 6) = some m) ∧ m.src < 0x100 ∧ copied s m = true) ∧
    (∃ (t : Nat) (i : Nat) (m : Move) (q : State), let s := q.at_ t;
      (s.fabric.moves.find? (fun x => x.inst == i && x.kind == 1 && x.phase == 6) = some m)) ∧
    (∃ (t : Nat) (q : State), let s := q.at_ t; s.fabric.quietUntil ≠ 0 ∧ s.fabric.quietUntil ≤ s.clock.now) ∧
    (∃ (t : Nat) (i : Nat) (q : State), let s := q.at_ t; isPartner (mapGetD s.graph.plan.place i 0xFFFF) = true ∧
      (s.fabric.evictions.any (fun e => e.1 == i) = false)) ∧
    (∃ (t : Nat) (i : Nat) (e : Nat × Nat × Bool) (q : State), let s := q.at_ t;
      (s.fabric.evictions.find? (fun x => x.1 == i && !x.2.2) = some e) ∧ (e.2.1 ≤ s.clock.pick + 64 ∨ moving s i = false)) ∧
    (∃ (t : Nat) (p : Fin 6) (q : State), let s := q.at_ t;
      (s.fabric.guests.any (fun x => x.port == p.val && decide (x.ends ≠ 0) && decide (x.ends ≤ s.clock.pick)) = true)) :=
  ⟨⟨0, 0, ⟨0, 4, 0, 1, 2, 0, 0, 0, 0, [], 0⟩,
      { eng 0 [] with fabric := { Fabric.reset with moves := [⟨0, 4, 0, 1, 2, 0, 0, 0, 0, [], 0⟩] } }, by decide +kernel⟩,
    ⟨0, 0, ⟨0, 4, 0, 1, 3, 16, 0, 0, 0, [], 0⟩,
      { eng 0 [] with fabric := { Fabric.reset with moves := [⟨0, 4, 0, 1, 3, 16, 0, 0, 0, [], 0⟩] } }, by decide +kernel⟩,
    ⟨0, 0, ⟨0, 1, 255, 1, 6, 0, 0, 0, 0, [], 0⟩,
      { eng 1000000 [] with fabric := { Fabric.reset with moves := [⟨0, 1, 255, 1, 6, 0, 0, 0, 0, [], 0⟩] } },
      by decide +kernel⟩,
    ⟨0, 0, ⟨0, 1, 255, 1, 6, 0, 0, 0, 0, [], 0⟩,
      { eng 0 [] with fabric := { Fabric.reset with moves := [⟨0, 1, 255, 1, 6, 0, 0, 0, 0, [], 0⟩] } }, by decide +kernel⟩,
    ⟨0, { eng 5 [] with fabric := { Fabric.reset with quietUntil := 5 } }, by decide +kernel⟩,
    ⟨0, 0, { eng 0 [] with graph := { Graph.reset with plan := { Plan.reset with place := [(0, 0x105)] } } }, by decide +kernel⟩,
    ⟨0, 0, (0, 164), { eng 0 [] with fabric := { Fabric.reset with evictions := [(0, 164)] } }, by decide +kernel⟩,
    ⟨0, 5, { eng 0 [] with fabric := { Fabric.reset with guests := [⟨0, 5, 1, 0, 100⟩] } }, by decide +kernel⟩⟩

/-- States and operands that meet the hypotheses of MendingCommandsComplete, one for each clause that has any. -/
theorem witness_MendingCommandsComplete :
    (∃ (t : Nat) (q : State), let s := q.at_ t; s.on Obj.MEND_ENABLE = true ∧
      s.ran s.fabric.mendAt (s.rdN Obj.MEND_INTERVAL_S * 1000000000 / 9) = true ∧ s.fabric.mending = none ∧
      s.fabric.quietUntil ≤ s.clock.now ∧ s.inService = true) ∧
    (∃ (t : Nat) (h : Nat) (q : State), let s := q.at_ t; s.on Obj.MEND_ENABLE = true ∧
      s.ran s.fabric.mendAt (s.rdN Obj.MEND_INTERVAL_S * 1000000000 / 9) = true ∧ s.fabric.mending = none ∧
      s.fabric.quietUntil ≤ s.clock.now ∧ s.inService = true ∧ (mendOrder s).head? = some h ∧ drainable s h = true) ∧
    (∃ (t : Nat) (h : Fin 9) (q : State), let s := q.at_ t; s.harnessState h.val = 2 ∧ empty s h.val = true ∧
      s.granted 6 h.val = true) ∧
    (∃ (t : Nat) (h : Fin 9) (q : State), let s := q.at_ t; s.harnessState h.val = 4 ∧
      bit (s.rdN Obj.RETIRED_HARNESSES) h.val = false ∧ empty s h.val = true ∧ s.granted 6 h.val = true) ∧
    (∃ (t : Nat) (h : Fin 9) (q : State), let s := q.at_ t; s.fabric.mending = some h.val ∧ s.fabric.oldRatings ≠ []) :=
  ⟨⟨0, eng 1000000000000000 [(Obj.MEND_ENABLE, 1), (Obj.HARNESS_STATE + 8, 1)], by decide +kernel⟩,
    ⟨0, 0, eng 1000000000000000 [(Obj.MEND_ENABLE, 1), (Obj.HARNESS_STATE + 8, 1)], by decide +kernel⟩,
    ⟨0, 8,
      { eng 0 [(Obj.HARNESS_STATE + 8, 2)] with governor := { Governor.reset with grants := [⟨0, 6, 1, 8, 0, 0, false⟩] } },
      by decide +kernel⟩,
    ⟨0, 8,
      { eng 0 [(Obj.HARNESS_STATE + 8, 4)] with governor := { Governor.reset with grants := [⟨0, 6, 1, 8, 0, 0, false⟩] } },
      by decide +kernel⟩,
    ⟨0, 8, { eng 0 [] with fabric := { Fabric.reset with mending := some 8, oldRatings := [(48, 1)] } }, by decide +kernel⟩⟩

/-- States and operands that meet the hypotheses of SelvedgeSampleCompletes. -/
theorem witness_SelvedgeSampleCompletes :
    ∃ (t : Nat) (q : State), let s := q.at_ t; s.inService = true ∧ 0 < s.sampleNow :=
    ⟨0, eng 1000000 [], by decide +kernel⟩

/-- States and operands that meet the hypotheses of CandidateCommandsComplete, one for each clause that has any. -/
theorem witness_CandidateCommandsComplete :
    (∃ (t : Nat) (slot : Fin 24) (q : State), let s := q.at_ t; slot.val ∈ rateDue s) ∧
    (∃ (t : Nat) (a : Fin 24) (b : Fin 24) (q : State), let s := q.at_ t;
      (s.ref.disagree.any (fun d => d.1 == a.val && d.2.1 == b.val && d.2.2 != 0 && s.ran d.2.2 10000000000) = true)) ∧
    (∃ (t : Nat) (slot : Fin 24) (q : State), let s := q.at_ t; s.candState slot.val = 2 ∧
      s.ran (s.cand slot.val).since (s.rdN (if (s.cand slot.val).requal then Obj.REF_REQUAL_S else Obj.REF_QUALIFY_S) * 1000000000) = true) ∧
    (∃ (t : Nat) (q : State), let s := updateSuccessor (q.at_ t); prequalified s = true ∧ s.rd Obj.TIME_STATE = 3 ∧
      s.selected = 0xFF) ∧
    (∃ (t : Nat) (q : State), let s := updateSuccessor (q.at_ t); (s.rd Obj.TIME_STATE ≠ 3 ∨ s.selected ≠ 0xFF)) ∧
    (∃ (t : Nat) (b : Nat) (since : Nat) (q : State), let s := q.at_ t; s.ref.outrank = some (b, since) ∧
      s.ran since (s.rdN Obj.REF_WTR_S * 1000000000) = true ∧ better s = some b) ∧
    (∃ (t : Nat) (slot : Fin 24) (q : State), let s := q.at_ t; s.candType slot.val ≠ 0 ∧ s.candType slot.val ≠ 7 ∧
      2 ≤ s.candState slot.val ∧ lossStands s slot.val = true) ∧
    (∃ (t : Nat) (k : Nat) (q : State), let s := q.at_ t; s.ref.decided = some k ∧ k ≠ 0xFF ∧ s.ref.decidedAt < s.clock.pick) :=
  ⟨⟨0, 23,
      { eng 0 [(ix Obj.REF_CAND_SOURCE 23, 0x100), (ix Obj.REF_CAND_STATE 23, 4)] with
        ref := { Reference.reset with cands := setAt Reference.reset.cands 23 ⟨0, [], 4, 0, false, none, 0, 0⟩ } },
      by decide +kernel⟩,
    ⟨0, 0, 1, { eng 1000000000000000 [] with ref := { Reference.reset with disagree := [(0, 1, 5)] } }, by decide +kernel⟩,
    ⟨0, 0, eng 1000000000000000 [(ix Obj.REF_CAND_SOURCE 0, 0x100), (ix Obj.REF_CAND_STATE 0, 2)], by decide +kernel⟩,
    ⟨0,
      { eng 1000000000000000 [(Obj.TIME_STATE, 3), (Obj.REF_SELECTED, 0xFF), (ix Obj.REF_CAND_SOURCE 0, 0x100), (ix Obj.REF_CAND_STATE 0, 3), (ix Obj.REF_CAND_QUALITY 0, 5), (Obj.REF_SUCCESSOR, 0)] with
        ref := { Reference.reset with cands := setAt Reference.reset.cands 0 ⟨0, [], 0, 0, false, some 5, 0, 0⟩ } },
      by decide +kernel⟩,
    ⟨0,
      { eng 1000000000000000 [(ix Obj.REF_CAND_SOURCE 0, 0x100), (ix Obj.REF_CAND_STATE 0, 3), (ix Obj.REF_CAND_QUALITY 0, 5), (Obj.REF_SUCCESSOR, 0)] with
        ref := { Reference.reset with cands := setAt Reference.reset.cands 0 ⟨0, [], 0, 0, false, some 5, 0, 0⟩ } },
      by decide +kernel⟩,
    ⟨0, 0, 5,
      { eng 1000000000000000 [(ix Obj.REF_CAND_SOURCE 0, 0x100), (ix Obj.REF_CAND_STATE 0, 3), (ix Obj.REF_CAND_QUALITY 0, 5), (ix Obj.REF_CAND_SOURCE 1, 0x101), (ix Obj.REF_CAND_STATE 1, 3), (ix Obj.REF_CAND_QUALITY 1, 6), (Obj.REF_SELECTED, 1), (Obj.REF_FORCE, 255), (Obj.REF_REVERTIVE, 1)] with
        ref := { Reference.reset with outrank := some (0, 5) } },
      by decide +kernel⟩,
    ⟨0, 23, eng 0 [(ix Obj.REF_CAND_SOURCE 23, 0x100), (ix Obj.REF_CAND_STATE 23, 2)], by decide +kernel⟩,
    ⟨0, 23, { eng 0 [] with ref := { Reference.reset with decided := some 23, decidedAt := 99 } }, by decide +kernel⟩⟩

/-- States and operands that meet the hypotheses of TimeCommandsComplete, one for each clause that has any. -/
theorem witness_TimeCommandsComplete :
    (∃ (t : Nat) (q : State), let s := q.at_ t; s.ref.decided = some 0xFF ∧ s.ref.decidedAt < s.clock.pick ∧
      (s.rd Obj.TIME_STATE ≠ 1 ∨ s.ref.fromHoldover = false)) ∧
    (∃ (t : Nat) (q : State), let s := q.at_ t; s.ref.decided = some 0xFF ∧ s.ref.decidedAt < s.clock.pick ∧
      s.rd Obj.TIME_STATE = 1 ∧ s.ref.fromHoldover = true) ∧
    (∃ (t : Nat) (q : State), let s := q.at_ t; (s.rd Obj.TIME_STATE = 1 ∨ s.rd Obj.TIME_STATE = 2) ∧
      s.ref.steer.isSome = true ∧ (controlNow s - steerTarget s).natAbs ≤ 10000) ∧
    (∃ (t : Nat) (q : State), let s := q.at_ t; s.clock.step = 0 ∧ s.ref.steer = none ∧
      (s.clock.slewing ≠ 0 ∨ s.ref.buildout.isSome = true) ∧ s.ran s.clock.slewFrom s.slewNs = true) ∧
    (∃ (t : Nat) (q : State), let s := q.at_ t; s.rd Obj.TIME_STATE = 1 ∧ 8 ≤ s.ref.lockRuns ∧ s.ref.lockPick < s.clock.pick) ∧
    (∃ (t : Nat) (q : State), let s := q.at_ t; s.on Obj.REF_YARDSTICK = true ∧ 3 ≤ (qualified s).length ∧
      s.ran s.ref.xoAt 10000000000 = true) ∧
    (∃ (t : Nat) (q : State), let s := q.at_ t; (s.clock.set.isSome = true ∨ s.clock.step ≠ 0) ∧ stepAsked s ≠ 0) ∧
    (∃ (t : Nat) (q : State), let s := q.at_ t; s.power.stage = 5 ∧ s.coreRuns 1 = true ∧ s.ref.assessed ≠ assessmentNo s + 1) :=
  ⟨⟨0, { eng 0 [(Obj.TIME_STATE, 2)] with ref := { Reference.reset with decided := some 0xFF, decidedAt := 99 } },
      by decide +kernel⟩,
    ⟨0,
      { eng 0 [(Obj.TIME_STATE, 1)] with
        ref := { Reference.reset with decided := some 0xFF, decidedAt := 99, fromHoldover := true } },
      by decide +kernel⟩,
    ⟨0, { eng 0 [(Obj.TIME_STATE, 2)] with ref := { Reference.reset with steer := some (10000, 0) } }, by decide +kernel⟩,
    ⟨0, { eng 0 [] with ref := { Reference.reset with buildout := some 0 } }, by decide +kernel⟩,
    ⟨0, { eng 0 [(Obj.TIME_STATE, 1)] with ref := { Reference.reset with lockRuns := 8 } }, by decide +kernel⟩,
    ⟨0,
      eng 10000000000 [(Obj.REF_YARDSTICK, 1), (ix Obj.REF_CAND_SOURCE 0, 0x100), (ix Obj.REF_CAND_STATE 0, 3), (ix Obj.REF_CAND_SOURCE 1, 0x100), (ix Obj.REF_CAND_STATE 1, 4), (ix Obj.REF_CAND_SOURCE 2, 0x100), (ix Obj.REF_CAND_STATE 2, 3)],
      by decide +kernel⟩,
    ⟨0, { eng 0 [] with clock := { clockAt 0 with step := -1 } }, by decide +kernel⟩,
    ⟨0, eng 0 [], by decide +kernel⟩⟩

/-- States and operands that meet the hypotheses of SpindleCommandsComplete, one for each clause that has any. -/
theorem witness_SpindleCommandsComplete :
    (∃ (t : Nat) (sp : Fin 8) (q : State), let s := q.at_ t; let n := sp.val; let src := s.rdN (ix Obj.SP_SOURCE n); 2 ≤ n ∧
      s.rdN (ix Obj.SP_STATE n) = 2 ∧ src ≠ 0 ∧ (s.candState (src - 1) = 3 ∨ s.candState (src - 1) = 4) ∧
      auxControl s n = (s.cand (src - 1)).measured * 1000) ∧
    (∃ (t : Nat) (sp : Fin 8) (h : Nat × Nat × Nat) (q : State), let s := q.at_ t;
      (s.ref.auxHold.find? (fun x => x.1 == sp.val) = some h) ∧ s.rdN (ix Obj.SP_STATE sp.val) = 4 ∧
      s.overdue (h.2.1 + h.2.2 * 1000000000) = true) ∧
    (∃ (t : Nat) (p : Fin 2) (q : State), let s := q.at_ t; let ps := (s.engineNs :: s.ref.pulses.getD p.val []).take 8;
      pulsesQualify ps = false) ∧
    (∃ (t : Nat) (p : Fin 2) (q : State), let s := q.at_ t; let ps := (s.engineNs :: s.ref.pulses.getD p.val []).take 8;
      pulsesQualify ps = true) ∧
    (∃ (t : Nat) (q : State), let s := q.at_ t; s.ref.checked ≠ s.engineNs / 1000000000 + 1) ∧
    (∃ (t : Nat) (k : Fin 6) (q : State), let s := q.at_ t; s.rdN (ix Obj.ALIGN_STATE k.val) = 1 ∧
      ((s.align k.val).slew.map (fun y => y.1) = some (slewedEdge s (s.align k.val)))) ∧
    (∃ (t : Nat) (p : Fin 2) (q : State), let s := q.at_ t; let ps := s.ref.pulses.getD p.val []; 2 ≤ ps.length ∧
      past s.engineNs (ps.headD 0 + pulsePeriod s p.val * 3 / 2) = true) :=
  ⟨⟨0, 7, eng 0 [(ix Obj.SP_STATE 7, 2), (ix Obj.SP_SOURCE 7, 24), (ix Obj.REF_CAND_STATE 23, 4)], by decide +kernel⟩,
    ⟨0, 7, (7, 0, 1), { eng 1000000008 [(ix Obj.SP_STATE 7, 4)] with ref := { Reference.reset with auxHold := [(7, 0, 1)] } },
      by decide +kernel⟩,
    ⟨0, 0, eng 0 [], by decide +kernel⟩,
    ⟨0, 1,
      { eng 8000000 [] with
        ref := { Reference.reset with pulses := [[], [7000000, 6000000, 5000000, 4000000, 3000000, 2000000, 1000000]] } },
      by decide +kernel⟩,
    ⟨0, eng 0 [], by decide +kernel⟩,
    ⟨0, 5,
      { eng 0 [(ix Obj.ALIGN_STATE 5, 1)] with
        ref := { Reference.reset with aligns := setAt Reference.reset.aligns 5 ⟨0, true, 0, some (0, 0)⟩ } },
      by decide +kernel⟩,
    ⟨0, 0, { eng 10000 [] with ref := { Reference.reset with pulses := [[2000, 1000], []] } }, by decide +kernel⟩⟩

/-- States and operands that meet the hypotheses of PtpCommandsComplete, one for each clause that has any. -/
theorem witness_PtpCommandsComplete :
    (∃ (t : Nat) (mac : Fin 3) (q : State), let s := q.at_ t; ptpRuns s mac.val = true) ∧
    (∃ (t : Nat) (mac : Fin 3) (q : State), let s := q.at_ t; ptpRuns s mac.val = true) ∧
    (∃ (t : Nat) (mac : Fin 3) (d : Nat) (q : State), let s := q.at_ t; ptpRuns s mac.val = true ∧
      (s.bump (ix Obj.PTP_RX_STAMPED mac.val)).rdN (ix Obj.PTP_GM_DOMAIN mac.val) = d ∧
      (s.bump (ix Obj.PTP_RX_STAMPED mac.val)).rdN (ix Obj.PTP_PORT_STATE mac.val) = 6) ∧
    (∃ (t : Nat) (mac : Fin 3) (q : State), let s := q.at_ t; ptpRuns s mac.val = true ∧
      s.rdN (ix Obj.PTP_PORT_STATE mac.val) = 6 ∧
      (∀ a, mapGet s.ref.ptpSent (8 * mac.val) = some a → s.ran a (announceNs s mac.val) = true)) ∧
    (∃ (t : Nat) (mac : Fin 3) (q : State), let s := q.at_ t; ptpRuns s mac.val = true ∧
      s.rdN (ix Obj.PTP_PORT_STATE mac.val) = 6 ∧
      (∀ a, mapGet s.ref.ptpSent (8 * mac.val + 1) = some a → s.ran a (syncNs s mac.val) = true)) ∧
    (∃ (t : Nat) (mac : Fin 3) (q : State), let s := q.at_ t; ptpRuns s mac.val = true ∧
      s.rdN (ix Obj.PTP_PORT_STATE mac.val) = 9 ∧
      (∀ a, mapGet s.ref.ptpSent (8 * mac.val + 3) = some a → s.ran a (delayReqNs s mac.val) = true)) ∧
    (∃ (t : Nat) (q : State), let s := q.at_ t; s.rd Obj.TIME_STATE = 3 ∧ s.ref.degraded = false ∧
      s.ran s.ref.holdSince (s.rdN Obj.PTP_HOLDOVER_CLASS_S * 1000000000) = true) ∧
    (∃ (t : Nat) (mac : Fin 3) (q : State), let s := q.at_ t; ptpAlive s = true ∧
      (∀ f ∈ s.ref.foreign, (f.mac == mac.val && s.overdue (f.announceAt + announceLimit s mac.val)) = false) ∧
      (s.ref.foreign.any (fun f => f.mac == mac.val && f.domain == s.rdN (ix Obj.PTP_GM_DOMAIN mac.val)) = true)) ∧
    (∃ (t : Nat) (mac : Fin 3) (q : State), let s := q.at_ t; ptpAlive s = true ∧ (∀ f ∈ s.ref.foreign, f.mac ≠ mac.val) ∧
      s.overdue (s.ref.listen.getD mac.val 0 + announceLimit s mac.val) = true) :=
  ⟨⟨0, 2, eng 0 [(ix Obj.LINK_STATE 2, 1), (ix Obj.IP_ADDRESS 2, 0x0A000001)], by decide +kernel⟩,
    ⟨0, 2, eng 0 [(ix Obj.LINK_STATE 2, 1), (ix Obj.IP_ADDRESS 2, 0x0A000001)], by decide +kernel⟩,
    ⟨0, 2, 7,
      eng 0 [(ix Obj.LINK_STATE 2, 1), (ix Obj.IP_ADDRESS 2, 0x0A000001), (ix Obj.PTP_GM_DOMAIN 2, 7), (ix Obj.PTP_PORT_STATE 2, 6)],
      by decide +kernel⟩,
    ⟨0, 2, eng 0 [(ix Obj.LINK_STATE 2, 1), (ix Obj.IP_ADDRESS 2, 0x0A000001), (ix Obj.PTP_PORT_STATE 2, 6)],
      ⟨by decide +kernel, by decide +kernel, fun _ h => nomatch h⟩⟩,
    ⟨0, 2, eng 0 [(ix Obj.LINK_STATE 2, 1), (ix Obj.IP_ADDRESS 2, 0x0A000001), (ix Obj.PTP_PORT_STATE 2, 6)],
      ⟨by decide +kernel, by decide +kernel, fun _ h => nomatch h⟩⟩,
    ⟨0, 2, eng 0 [(ix Obj.LINK_STATE 2, 1), (ix Obj.IP_ADDRESS 2, 0x0A000001), (ix Obj.PTP_PORT_STATE 2, 9)],
      ⟨by decide +kernel, by decide +kernel, fun _ h => nomatch h⟩⟩,
    ⟨0, eng 1000000000000000 [(Obj.TIME_STATE, 3)], by decide +kernel⟩,
    ⟨0, 2,
      { eng 0 [(ix Obj.PTP_GM_DOMAIN 2, 7)] with
        ref := { Reference.reset with foreign := [⟨2, 7, 1, 1, 248, 0x20, 0, 0, 128, 128, 0, none, 0⟩] } },
      by decide +kernel⟩,
    ⟨0, 2, eng 1000000000000000 [], by decide +kernel⟩⟩

/-- States and operands that meet the hypotheses of PortCommandsComplete, one for each clause that has any. -/
theorem witness_PortCommandsComplete :
    (∃ (t : Nat) (port : Fin 28) (q : State), let s := q.at_ t; watched s port.val = true ∧ streaming s port.val = true ∧
      s.overdue ((s.port port.val).frameAt + watchdogNs s port.val) = true) ∧
    (∃ (t : Nat) (port : Fin 28) (q : State), let s := q.at_ t; portKind port.val = 2 ∧ watched s port.val = true ∧
      streaming s port.val = true) ∧
    (∃ (t : Nat) (port : Fin 28) (q : State), let s := q.at_ t; portKind port.val = 3 ∧ watched s port.val = true ∧
      streaming s port.val = true) ∧
    (∃ (t : Nat) (port : Fin 28) (q : State), let s := q.at_ t; portKind port.val = 3 ∧ watched s port.val = true ∧
      streaming s port.val = true) ∧
    (∃ (t : Nat) (port : Fin 28) (q : State), let s := q.at_ t; watched s port.val = true ∧ streaming s port.val = true ∧
      8 ≤ (s.port port.val).badRun) ∧
    (∃ (t : Nat) (port : Fin 28) (f : PortFrame) (q : State), let s := q.at_ t; let p := port.val; let v := (frameSeen p f s).1;
      p < 16 ∧ portOn s p = true ∧ s.portState p = 1 ∧ (tdmMaster s p = true ∨ glitched v p f = false)) ∧
    (∃ (t : Nat) (port : Fin 28) (f : PortFrame) (q : State), let s := q.at_ t; let p := port.val; let v := (frameSeen p f s).1;
      p < 24 ∧ portOn s p = true ∧ (v.portState p = 3 ∨ v.portState p = 5) ∧ tdmMaster v p = false ∧ glitched v p f = false ∧
      rateStep (v.port p).starts = false) ∧
    (∃ (t : Nat) (port : Fin 28) (f : PortFrame) (q : State), let s := q.at_ t; let p := port.val; let v := (frameSeen p f s).1;
      let mode := madiModeOf f.words.length (s.clock.now - (s.port p).frameAt); let w := v.wr (portKey p 2) mode; 24 ≤ p ∧
      portOn s p = true ∧ (s.port p).starts ≠ [] ∧ v.rdN (portKey p 2) = mode ∧ (w.portState p = 3 ∨ w.portState p = 5) ∧
      glitched w p f = false ∧ rateStep (w.port p).starts = false) ∧
    (∃ (t : Nat) (port : Fin 28) (f : PortFrame) (q : State), let s := q.at_ t; let p := port.val; let v := (frameSeen p f s).1;
      p < 24 ∧ portOn s p = true ∧ (v.portState p = 3 ∨ v.portState p = 5) ∧ tdmMaster v p = false ∧ glitched v p f = true) ∧
    (∃ (t : Nat) (port : Fin 28) (q : State), let s := q.at_ t; s.portState port.val = 2 ∧ qualifies (s.port port.val) = true) ∧
    (∃ (t : Nat) (port : Fin 28) (q : State), let s := q.at_ t; s.portState port.val = 5 ∧
      (s.port port.val).fadeAt + fade20 s ≤ s.sampleNow + 1) ∧
    (∃ (t : Nat) (ch : Fin 256) (q : State), let s := q.at_ t; let i := s.rdN (entry Obj.ASRC_CHAN_INSTANCE ch.val);
      i ≠ 0xFFFF ∧ s.rdN (entry Obj.ASRC_STATE ch.val) = 2 ∧ ratioInRange (asrcRatio s i) = false) ∧
    (∃ (t : Nat) (ch : Fin 256) (q : State), let s := q.at_ t; let i := s.rdN (entry Obj.ASRC_CHAN_INSTANCE ch.val);
      i ≠ 0xFFFF ∧ s.rdN (entry Obj.ASRC_STATE ch.val) = 2 ∧ ratioInRange (asrcRatio s i) = true) ∧
    (∃ (t : Nat) (ch : Nat) (n : Nat) (last : Nat) (port : Fin 284) (q : State), let s := q.at_ t; port.val = 28 + n ∧
      mapGet (s.rx n).marks ch = some last ∧ s.overdue (last + s.rdN Obj.NONAUDIO_HOLD_MS * 1000000) = true) ∧
    (∃ (port : Fin 284), port.val < 28) :=
  ⟨⟨0, 16, eng 1000000000000000 [(portKey 16 1, 1), (portKey 16 Obj.PORT_STATE, 2)], by decide +kernel⟩,
    ⟨0, 23, eng 0 [(portKey 23 1, 1), (portKey 23 Obj.PORT_STATE, 3)], by decide +kernel⟩,
    ⟨0, 24, eng 0 [(portKey 24 1, 1), (portKey 24 Obj.PORT_STATE, 5)], by decide +kernel⟩,
    ⟨0, 24, eng 0 [(portKey 24 1, 1), (portKey 24 Obj.PORT_STATE, 5)], by decide +kernel⟩,
    ⟨0, 15,
      { eng 0 [(portKey 15 1, 2), (portKey 15 Obj.PORT_STATE, 2)] with
        io := { Ports.reset with ports := setAt Ports.reset.ports 15 { noPort with badRun := 8 } } },
      by decide +kernel⟩,
    ⟨0, 15, ⟨[], [], [], 0, 256, true⟩, eng 0 [(portKey 15 1, 2), (portKey 15 Obj.PORT_STATE, 1), (portKey 15 4, 8)],
      by decide +kernel⟩,
    ⟨0, 23, ⟨[], [], [], 0, 256, true⟩, eng 0 [(portKey 23 1, 1), (portKey 23 Obj.PORT_STATE, 3)], by decide +kernel⟩,
    ⟨0, 27, ⟨(List.range 56).map (fun c => (c, 0)), [], [], 0, 0, true⟩,
      { eng 20834 [(portKey 27 1, 1), (portKey 27 2, 1), (portKey 27 Obj.PORT_STATE, 5)] with
        io := { Ports.reset with ports := setAt Ports.reset.ports 27 { noPort with starts := [1], frameAt := 1 } } },
      by decide +kernel⟩,
    ⟨0, 23, ⟨[], [], [], 0, 0, false⟩, eng 0 [(portKey 23 1, 1), (portKey 23 Obj.PORT_STATE, 5)], by decide +kernel⟩,
    ⟨0, 27,
      { eng 0 [(portKey 27 1, 1), (portKey 27 Obj.PORT_STATE, 2)] with
        io := { Ports.reset with ports := setAt Ports.reset.ports 27 { noPort with run := 64, starts := (List.range 64).map (fun n => (64 - n) * 20833) } } },
      by decide +kernel⟩,
    ⟨0, 27, eng 20000000 [(portKey 27 Obj.PORT_STATE, 5)], by decide +kernel⟩,
    ⟨0, 255,
      { eng 0 [(entry Obj.ASRC_CHAN_INSTANCE 255, 0), (entry Obj.ASRC_STATE 255, 2), (portKey 16 Obj.PORT_RATE_MEAS, 216000025)] with
        run := [(paramKey 0 Par.ASRC_PORT, .num (endpoint 2 0 0 : Nat))] },
      by decide +kernel⟩,
    ⟨0, 255, eng 0 [(entry Obj.ASRC_CHAN_INSTANCE 255, 0), (entry Obj.ASRC_STATE 255, 2)], by decide +kernel⟩,
    ⟨0, 7, 255, 5, 283,
      { eng 1000000000000000 [] with net := { Net.reset with rx := setAt Net.reset.rx 255 { noRx with marks := [(7, 5)] } } },
      by decide +kernel⟩,
    ⟨27, by decide +kernel⟩⟩

/-- States and operands that meet the hypotheses of MacCommandsComplete, one for each clause that has any. -/
theorem witness_MacCommandsComplete :
    (∃ (t : Nat) (q : State), let s := q.at_ t; s.power.doff < 3 ∧
      (s.power.stage = 5 ∨ s.power.stage = 4 ∨ s.power.stage = 15) ∧ armed s = false) ∧
    (∃ (t : Nat) (mac : Fin 3) (q : State), let s := q.at_ t; s.linkUp mac.val = false ∧ s.rdN (ix Obj.MAC_MODE mac.val) ≠ 0 ∧
      (s.power.doff < 2 ∨ mac.val = 2)) ∧
    (∃ (t : Nat) (mac : Fin 3) (q : State), let s := q.at_ t; s.linkUp mac.val = true) ∧
    (∃ (t : Nat) (q : State), let s := q.at_ t; (s.mac 2).pausing = true ∧ 65536 < guardedLevel s 2 ∧
      s.ran (s.mac 2).pausedAt 16000000 = true) ∧
    (∃ (t : Nat) (q : State), let s := q.at_ t; (s.mac 2).pausing = true ∧ guardedLevel s 2 ≤ 65536) ∧
    (∃ (t : Nat) (mac : Fin 2) (q : State), let s := q.at_ t; (s.mac mac.val).pausing = true ∧ 32768 < guardedLevel s mac.val ∧
      s.ran (s.mac mac.val).pausedAt (pauseNs s mac.val 0xFFFF / 2) = true) ∧
    (∃ (t : Nat) (mac : Fin 2) (q : State), let s := q.at_ t; (s.mac mac.val).pausing = true ∧ guardedLevel s mac.val ≤ 32768) ∧
    (∃ (t : Nat) (mac : Fin 3) (q : State), let s := q.at_ t; let m := mac.val; (s.mac m).holdUntil ≠ 0 ∧
      (s.mac m).holdUntil ≤ s.clock.now) :=
  ⟨⟨0, eng 0 [], by decide +kernel⟩,
    ⟨0, 2, { eng 0 [(ix Obj.MAC_MODE 2, 4)] with power := { powered with doff := 3 } }, by decide +kernel⟩,
    ⟨0, 0, eng 0 [(ix Obj.LINK_STATE 0, 1)], by decide +kernel⟩,
    ⟨0,
      { eng 16000000 [] with
        net := { Net.reset with macs := setAt Net.reset.macs 2 { noMac with levels := [0, 0, 0, 65537], pausing := true } } },
      by decide +kernel⟩,
    ⟨0,
      { eng 0 [] with
        net := { Net.reset with macs := setAt Net.reset.macs 2 { noMac with levels := [0, 0, 0, 65536], pausing := true } } },
      by decide +kernel⟩,
    ⟨0, 1,
      { eng 1000000000000000 [] with
        net := { Net.reset with macs := setAt Net.reset.macs 1 { noMac with levels := [0, 0, 32769, 0], pausing := true } } },
      by decide +kernel⟩,
    ⟨0, 0,
      { eng 0 [] with
        net := { Net.reset with macs := setAt Net.reset.macs 0 { noMac with levels := [0, 0, 32768, 0], pausing := true } } },
      by decide +kernel⟩,
    ⟨0, 0, { eng 9 [] with net := { Net.reset with macs := setAt Net.reset.macs 0 { noMac with holdUntil := 9 } } },
      by decide +kernel⟩⟩

/-- States and operands that meet the hypotheses of MediaCommandsComplete, one for each clause that has any. -/
theorem witness_MediaCommandsComplete :
    (∃ (t : Nat) (stream : Fin 256) (q : State), let s := q.at_ t; let n := stream.val; let now := (packetDue s n).1;
      s.inService = true ∧ s.on (txKey n 1) = true ∧ s.twin.silent = false ∧ (s.power.doffFade = 0 ∨ s.power.doff = 0) ∧
      1 ≤ now ∧ mapGet s.net.packets n ≠ some now ∧ txTurn s n = true) ∧
    (∃ (t : Nat) (stream : Fin 256) (q : State), let s := q.at_ t; s.on (rxKey stream.val 1) = true ∧
      8 ≤ (s.rx stream.val).misfits) ∧
    (∃ (t : Nat) (stream : Fin 256) (q : State), let s := q.at_ t; s.on (rxKey stream.val 1) = true ∧
      (s.rx stream.val).silent = false ∧ s.overdue ((s.rx stream.val).presentAt + 1000000000) = true) :=
  ⟨⟨0, 255, eng 1000000000 [(txKey 255 1, 1), (txKey 255 6, 0)], by decide +kernel⟩,
    ⟨0, 255,
      { eng 0 [(rxKey 255 1, 1)] with net := { Net.reset with rx := setAt Net.reset.rx 255 { noRx with misfits := 8 } } },
      by decide +kernel⟩,
    ⟨0, 255, eng 1000000008 [(rxKey 255 1, 1)], by decide +kernel⟩⟩

/-- States and operands that meet the hypotheses of SwiskaTrainingCommandsComplete, one for each clause that has any. -/
theorem witness_SwiskaTrainingCommandsComplete :
    (∃ (t : Nat) (port : Fin 6) (ppb : Int) (q : State), let s := q.at_ t; let p := port.val; s.swState p = 1 ∧
      (s.link p).grantAt ≠ 0 ∧ ppb.natAbs ≤ 200000) ∧
    (∃ (t : Nat) (port : Fin 6) (ppb : Int) (q : State), let s := q.at_ t; let p := port.val; s.swState p = 1 ∧
      (s.link p).grantAt ≠ 0 ∧ 200000 < ppb.natAbs) ∧
    (∃ (t : Nat) (port : Fin 6) (q : State), let s := q.at_ t; s.swState port.val = 2) ∧
    (∃ (t : Nat) (port : Fin 6) (skew : List Int) (q : State), let s := q.at_ t; s.swState port.val = 3 ∧
      (s.link port.val).agreedAt ≠ 0 ∧ (skew.any (fun k => decide (64 < k.natAbs)) = false)) ∧
    (∃ (t : Nat) (port : Fin 6) (skew : List Int) (q : State), let s := q.at_ t; s.swState port.val = 3 ∧
      (s.link port.val).agreedAt ≠ 0 ∧ (skew.any (fun k => decide (64 < k.natAbs)) = true)) ∧
    (∃ (t : Nat) (port : Fin 6) (lane : Fin 4) (q : State), let s := q.at_ t; let p := port.val; let x := s.lane p lane.val;
      s.swState p = 3 ∧ x.askedAt ≠ 0 ∧ s.overdue (x.askedAt + 1000000) = true) ∧
    (∃ (t : Nat) (port : Fin 6) (q : State), let s := q.at_ t; 1 ≤ s.swState port.val ∧ s.swState port.val ≤ 4 ∧
      ((s.link port.val).failed = true ∨ stepLate s port.val = true)) ∧
    (∃ (t : Nat) (port : Fin 6) (q : State), let s := q.at_ t; s.swState port.val = 7 ∧
      s.on (ix Obj.SW_ENABLE port.val) = true ∧ s.ran (s.link port.val).failedAt 1000000000 = true) ∧
    (∃ (t : Nat) (port : Fin 6) (c : LinkCause) (q : State), let s := q.at_ t;
      (c = .clock ∨ c = .headers ∨ c = .markers ∨ c = .skew) ∧ s.trained port.val = true) ∧
    (∃ (t : Nat) (port : Fin 6) (q : State), let s := q.at_ t; s.on (ix Obj.SW_ENABLE port.val) = true ∧
      (s.link port.val).downAt ≠ 0 ∧ s.ran (s.link port.val).downAt 10000000 = true ∧ s.rdN (ix Obj.SW_LOOPBACK port.val) = 0) ∧
    (∃ (t : Nat) (port : Fin 6) (block : BitVec 1024) (q : State), let s := q.at_ t; s.swState port.val ≠ 0 ∧
      isBlock 0x04 block = false) ∧
    (∃ (t : Nat) (port : Fin 6) (block : BitVec 1024) (q : State), let s := q.at_ t; let p := port.val;
      let h := s.setLink p (fun x => { x with heardAt := if x.grantAt ≠ 0 && x.heardAt = 0 then s.clock.now else x.heardAt });
      let v := (loopField h p block).setLink p (fun x => { x with
        txPrecode := setBit x.txPrecode (blockBits block 1013 1012) (blockBits block 971 971 == 1) });
      s.swState p ≠ 0 ∧ isBlock 0x04 block = true ∧ v.swState p ≠ 2 ∧ v.swState p ≠ 3) ∧
    (∃ (t : Nat) (port : Fin 6) (block : BitVec 1024) (q : State), let s := q.at_ t; port.val < s.links.length ∧
      s.swState port.val = 3 ∧ isBlock 0x04 block = true ∧ (s.link port.val).agreedAt = 0 ∧
      s.rdN (ix Obj.SW_LOOPBACK port.val) = 0 ∧ blockBits block 969 968 = 0) :=
  ⟨⟨0, 5, -200000, { eng 0 [(ix Obj.SW_STATE 5, 1)] with links := setAt State.reset.links 5 { Link.reset with grantAt := 1 } },
      by decide +kernel⟩,
    ⟨0, 5, -200001, { eng 0 [(ix Obj.SW_STATE 5, 1)] with links := setAt State.reset.links 5 { Link.reset with grantAt := 1 } },
      by decide +kernel⟩,
    ⟨0, 5, eng 0 [(ix Obj.SW_STATE 5, 2)], by decide +kernel⟩,
    ⟨0, 5, [64, -64],
      { eng 0 [(ix Obj.SW_STATE 5, 3)] with links := setAt State.reset.links 5 { Link.reset with agreedAt := 1 } },
      by decide +kernel⟩,
    ⟨0, 5, [-65], { eng 0 [(ix Obj.SW_STATE 5, 3)] with links := setAt State.reset.links 5 { Link.reset with agreedAt := 1 } },
      by decide +kernel⟩,
    ⟨0, 5, 3,
      { eng 2000000 [(ix Obj.SW_STATE 5, 3)] with
        links := setAt State.reset.links 5 { Link.reset with lanes := setAt Link.reset.lanes 3 ⟨0, 1, 6, [0, 0, 0], 0, [0, 0, 0], 0⟩ } },
      by decide +kernel⟩,
    ⟨0, 5, { eng 0 [(ix Obj.SW_STATE 5, 4)] with links := setAt State.reset.links 5 { Link.reset with failed := true } },
      by decide +kernel⟩,
    ⟨0, 5, eng 1000000000 [(ix Obj.SW_STATE 5, 7), (ix Obj.SW_ENABLE 5, 1)], by decide +kernel⟩,
    ⟨0, 5, .skew, eng 0 [(ix Obj.SW_STATE 5, 5)], by decide +kernel⟩,
    ⟨0, 5,
      { eng 10000001 [(ix Obj.SW_ENABLE 5, 1), (ix Obj.SW_LOOPBACK 5, 0)] with
        links := setAt State.reset.links 5 { Link.reset with downAt := 1 } },
      by decide +kernel⟩,
    ⟨0, 5, 0#1024, eng 0 [(ix Obj.SW_STATE 5, 1)], by decide +kernel⟩,
    ⟨0, 5, (makeBlock 2 0x04 0), eng 0 [(ix Obj.SW_STATE 5, 4)],
      ⟨by decide +kernel, isBlock_makeBlock 0 (by decide) (by decide) rfl, by simp only [loopField, makeBlock_bits 0 969 968 (by decide : 2 < 4) (by decide : 4 < 256) (by decide) (by decide) (by decide), makeBlock_bits 0 1013 1012 (by decide : 2 < 4) (by decide : 4 < 256) (by decide) (by decide) (by decide), makeBlock_bits 0 971 971 (by decide : 2 < 4) (by decide : 4 < 256) (by decide) (by decide) (by decide)]; decide +kernel, by simp only [loopField, makeBlock_bits 0 969 968 (by decide : 2 < 4) (by decide : 4 < 256) (by decide) (by decide) (by decide), makeBlock_bits 0 1013 1012 (by decide : 2 < 4) (by decide : 4 < 256) (by decide) (by decide) (by decide), makeBlock_bits 0 971 971 (by decide : 2 < 4) (by decide : 4 < 256) (by decide) (by decide) (by decide)]; decide +kernel⟩⟩,
    ⟨0, 5, (makeBlock 2 0x04 0), eng 0 [(ix Obj.SW_STATE 5, 3)],
      ⟨by decide +kernel, by decide +kernel, isBlock_makeBlock 0 (by decide) (by decide) rfl, by decide +kernel, by decide +kernel, by simp only [makeBlock_bits 0 969 968 (by decide : 2 < 4) (by decide : 4 < 256) (by decide) (by decide) (by decide)]; decide +kernel⟩⟩⟩

/-- States and operands that meet the hypotheses of SwiskaTrafficCommandsComplete, one for each clause that has any. -/
theorem witness_SwiskaTrafficCommandsComplete :
    (∃ (t : Nat) (port : Fin 6) (block : BitVec 1024) (q : State), let s := q.at_ t; let p := port.val;
      (s.swState p = 5 ∨ s.swState p = 6) ∧ isBlock 0x7E block = true) ∧
    (∃ (t : Nat) (port : Fin 6) (block : BitVec 1024) (q : State), let s := q.at_ t; let p := port.val; s.swState p = 4 ∧
      isBlock 0x7E block = true) ∧
    (∃ (t : Nat) (port : Fin 6) (block : BitVec 1024) (q : State), let s := q.at_ t; let p := port.val; 2 ≤ s.swState p ∧
      isBlock 0x7E block = false) ∧
    (∃ (t : Nat) (port : Fin 6) (q : State), let s := q.at_ t; let p := port.val; s.swState p ≠ 0 ∧ s.swState p ≠ 7 ∧
      ((s.link p).grantAt ≠ 0 ∨ 5 ≤ s.swState p) ∧ (s.link p).period ≤ slotNow s p / 65536) ∧
    (∃ (t : Nat) (port : Fin 6) (block : BitVec 1024) (q : State), let s := q.at_ t; s.trained port.val = true ∧
      isBlock 0x00 block = false) ∧
    (∃ (t : Nat) (port : Fin 6) (block : BitVec 1024) (q : State), let s := q.at_ t; let p := port.val; s.trained p = true ∧
      isBlock 0x00 block = true) ∧
    (∃ (t : Nat) (port : Fin 6) (block : BitVec 1024) (m : Nat) (q : State), let s := q.at_ t; s.trained port.val = true ∧
      isBlock 0x01 block = true ∧ streamFor s port.val (blockBits block 965 958) (blockBits block 981 966) = some m ∧
      (s.link port.val).rate = s.rdN Obj.ENGINE_RATE_RUNNING) ∧
    (∃ (t : Nat) (port : Fin 6) (block : BitVec 1024) (m : Nat) (q : State), let s := q.at_ t; s.trained port.val = true ∧
      isBlock 0x01 block = true ∧ streamFor s port.val (blockBits block 965 958) (blockBits block 981 966) = some m ∧
      (s.link port.val).rate ≠ s.rdN Obj.ENGINE_RATE_RUNNING) ∧
    (∃ (t : Nat) (port : Fin 6) (block : BitVec 1024) (q : State), let s := q.at_ t; s.trained port.val = true ∧
      isBlock 0x02 block = true ∧ blockBits block 1013 1006 = 0) ∧
    (∃ (t : Nat) (port : Fin 6) (block : BitVec 1024) (q : State), let s := q.at_ t; s.trained port.val = true ∧
      isBlock 0x02 block = true ∧ blockBits block 1013 1006 = 2) ∧
    (∃ (t : Nat) (port : Fin 6) (block : BitVec 1024) (q : State), let s := q.at_ t; let p := port.val; s.swState p = 6 ∧
      s.rdN (ix Obj.SW_LOOPBACK p) ≠ 0 ∧ isBlock 0x0F block = true) ∧
    (∃ (t : Nat) (port : Fin 6) (q : State), let s := q.at_ t; let p := port.val; s.trained p = true ∧
      (s.link p).decided = false ∧ 2 ≤ (s.link p).hops ∧ (s.link p).atPick < s.clock.pick ∧ pickAdded s p = true) ∧
    (∃ (t : Nat) (port : Fin 6) (q : State), let s := q.at_ t; let p := port.val; s.trained p = true ∧
      (s.link p).decided = false ∧ 2 ≤ (s.link p).hops ∧ (s.link p).atPick < s.clock.pick ∧ pickAdded s p = false) ∧
    (∃ (t : Nat) (port : Fin 6) (q : State), let s := q.at_ t; let p := port.val; s.trained p = true ∧
      (s.link p).decided = true ∧ 8 ≤ (s.link p).failRun ∧ (s.link p).atPick < s.clock.pick) ∧
    (∃ (t : Nat) (port : Fin 6) (q : State), let s := q.at_ t; let p := port.val; 2 ≤ s.swState p) ∧
    (∃ (t : Nat) (port : Fin 6) (lane : Fin 4) (q : State), let s := q.at_ t; let p := port.val; let x := s.lane p lane.val;
      s.trained p = true ∧ x.lowAt ≠ 0 ∧ s.ran x.lowAt 1000000000 = true) ∧
    (∃ (t : Nat) (port : Fin 6) (q : State), let s := q.at_ t; s.granted 2 (16 + port.val) = true) :=
  ⟨⟨0, 5, (makeBlock 2 0x7E 0), eng 0 [(ix Obj.SW_STATE 5, 6)],
      ⟨by decide +kernel, isBlock_makeBlock 0 (by decide) (by decide) rfl⟩⟩,
    ⟨0, 5, (makeBlock 2 0x7E 0), eng 0 [(ix Obj.SW_STATE 5, 4)],
      ⟨by decide +kernel, isBlock_makeBlock 0 (by decide) (by decide) rfl⟩⟩,
    ⟨0, 5, 0#1024, eng 0 [(ix Obj.SW_STATE 5, 2)], by decide +kernel⟩,
    ⟨0, 5, eng 0 [(ix Obj.SW_STATE 5, 5)], by decide +kernel⟩,
    ⟨0, 5, 0#1024, eng 0 [(ix Obj.SW_STATE 5, 5)], by decide +kernel⟩,
    ⟨0, 5, (makeBlock 2 0x00 0), eng 0 [(ix Obj.SW_STATE 5, 5)],
      ⟨by decide +kernel, isBlock_makeBlock 0 (by decide) (by decide) rfl⟩⟩,
    ⟨0, 5, (makeBlock 1 0x01 0), 63,
      { eng 0 [(ix Obj.SW_STATE 5, 5), (cutKey 63 1, 1), (cutKey 63 2, 0x3F), (cutKey 63 3, 0)] with
        links := setAt State.reset.links 5 { Link.reset with rate := 1 } },
      ⟨by decide +kernel, isBlock_makeBlock 0 (by decide) (by decide) rfl, by simp only [makeBlock_bits 0 965 958 (by decide : 1 < 4) (by decide : 1 < 256) (by decide) (by decide) (by decide), makeBlock_bits 0 981 966 (by decide : 1 < 4) (by decide : 1 < 256) (by decide) (by decide) (by decide)]; decide +kernel, by decide +kernel⟩⟩,
    ⟨0, 5, (makeBlock 1 0x01 0), 63,
      { eng 0 [(ix Obj.SW_STATE 5, 5), (cutKey 63 1, 1), (cutKey 63 2, 0x3F), (cutKey 63 3, 0)] with
        links := setAt State.reset.links 5 { Link.reset with rate := 5 } },
      ⟨by decide +kernel, isBlock_makeBlock 0 (by decide) (by decide) rfl, by simp only [makeBlock_bits 0 965 958 (by decide : 1 < 4) (by decide : 1 < 256) (by decide) (by decide) (by decide), makeBlock_bits 0 981 966 (by decide : 1 < 4) (by decide : 1 < 256) (by decide) (by decide) (by decide)]; decide +kernel, by decide +kernel⟩⟩,
    ⟨0, 5, (makeBlock 1 0x02 0), eng 0 [(ix Obj.SW_STATE 5, 5)],
      ⟨by decide +kernel, isBlock_makeBlock 0 (by decide) (by decide) rfl, by rw [makeBlock_bits 0 1013 1006 (by decide) (by decide) (by decide) (by decide) (by decide)]; simp [bits]⟩⟩,
    ⟨0, 5, (makeBlock 1 0x02 (2 * 2 ^ 974)), eng 0 [(ix Obj.SW_STATE 5, 5)],
      ⟨by decide +kernel, isBlock_makeBlock _ (by decide) (by decide) rfl, by rw [makeBlock_bits _ 1013 1006 (by decide) (by decide) (by decide) (by decide) (by decide)]; decide +kernel⟩⟩,
    ⟨0, 5, (makeBlock 1 0x0F 0), eng 0 [(ix Obj.SW_STATE 5, 6), (ix Obj.SW_LOOPBACK 5, 1)],
      ⟨by decide +kernel, by decide +kernel, isBlock_makeBlock 0 (by decide) (by decide) rfl⟩⟩,
    ⟨0, 5,
      { eng 0 [(ix Obj.SW_STATE 5, 5), (ix Obj.SW_HOP_NS 5, 5001)] with
        links := setAt State.reset.links 5 { Link.reset with hops := 2, coincide := true } },
      by decide +kernel⟩,
    ⟨0, 5,
      { eng 0 [(ix Obj.SW_STATE 5, 5), (ix Obj.SW_HOP_NS 5, 5000)] with
        links := setAt State.reset.links 5 { Link.reset with hops := 2, coincide := true } },
      by decide +kernel⟩,
    ⟨0, 5,
      { eng 0 [(ix Obj.SW_STATE 5, 5), (ix Obj.SW_PICK_ADDED 5, 1)] with
        links := setAt State.reset.links 5 { Link.reset with decided := true, failRun := 8 } },
      by decide +kernel⟩,
    ⟨0, 5, eng 0 [(ix Obj.SW_STATE 5, 2)], by decide +kernel⟩,
    ⟨0, 5, 3,
      { eng 1000000001 [(ix Obj.SW_STATE 5, 5)] with
        links := setAt State.reset.links 5 { Link.reset with lanes := setAt Link.reset.lanes 3 ⟨0, 0, 0, [0, 0, 0], 0, [0, 0, 0], 1⟩ } },
      by decide +kernel⟩,
    ⟨0, 5, { eng 0 [] with governor := { Governor.reset with grants := [⟨0, 2, 1, 21, 0, 0, false⟩] } }, by decide +kernel⟩⟩

/-- States and operands that meet the hypotheses of TwinCommandsComplete, one for each clause that has any. -/
theorem witness_TwinCommandsComplete :
    (∃ (t : Nat) (names : Nat) (enabled : Bool) (q : State), let s := q.at_ t; s.on Obj.TWIN_ENABLE = true ∧
      (s.twinState ≤ 1 ∨ s.twinState = 7) ∧ pairFails s enabled names = 0 ∧ s.holds = true) ∧
    (∃ (t : Nat) (names : Nat) (enabled : Bool) (q : State), let s := q.at_ t; s.on Obj.TWIN_ENABLE = true ∧
      (s.twinState ≤ 1 ∨ s.twinState = 7) ∧ pairFails s enabled names = 0 ∧ s.holds = false) ∧
    (∃ (t : Nat) (port : Fin 6) (block : BitVec 1024) (q : State), let s := q.at_ t; s.paired = true ∧
      fromTwin s port 0x01 block = true) ∧
    (∃ (t : Nat) (pick : Nat) (q : State), let s := q.at_ t; s.paired = true ∧
      pick + s.rdN Obj.TWIN_DIGEST_WAIT ≤ s.clock.pick ∧ (s.twin.own.any (fun o => o.pick == pick && !o.judged) = true)) ∧
    (∃ (t : Nat) (q : State), let s := q.at_ t; 64 ≤ s.twin.missing ∧ (s.twinState = 3 ∨ s.twinState = 4 ∨ s.twinState = 5)) ∧
    (∃ (t : Nat) (q : State), let s := q.at_ t; s.twin.step = 1) ∧
    (∃ (t : Nat) (q : State), let s := q.at_ t; s.twin.step = 2) ∧
    (∃ (t : Nat) (q : State), let s := q.at_ t; s.twin.step = 3 ∧ s.twin.fillUntil ≤ s.clock.now) ∧
    (∃ (t : Nat) (q : State), let s := q.at_ t; s.twin.step = 4 ∧ 64 ≤ s.twin.matching) ∧
    (∃ (t : Nat) (q : State), let s := q.at_ t; s.twin.failedAt ≠ 0 ∧ s.ran s.twin.failedAt 10000000000 = true ∧
      s.paired = true) ∧
    (∃ (t : Nat) (port : Fin 6) (block : BitVec 1024) (q : State), let s := q.at_ t; s.paired = true ∧
      fromTwin s port 0x05 block = true) :=
  ⟨⟨0, 4, true,
      { eng 0 [(Obj.TWIN_ENABLE, 1), (Obj.TWIN_PORTS, 32), (Obj.TWIN_PARTNER, 9), (Obj.LOOM_ID, 4), (ix Obj.SW_PARTNER_LOOM 5, 9), (ix Obj.SW_STATE 5, 5), (Obj.LEASE_ROLE, 1), (Obj.TWIN_STATE, 1)] with
        links := setAt State.reset.links 5 { Link.reset with coincide := true, rate := 1 } },
      by decide +kernel⟩,
    ⟨0, 4, true,
      { eng 0 [(Obj.TWIN_ENABLE, 1), (Obj.TWIN_PORTS, 32), (Obj.TWIN_PARTNER, 9), (Obj.LOOM_ID, 4), (ix Obj.SW_PARTNER_LOOM 5, 9), (ix Obj.SW_STATE 5, 5), (Obj.LEASE_ROLE, 0), (Obj.TWIN_STATE, 1)] with
        links := setAt State.reset.links 5 { Link.reset with coincide := true, rate := 1 } },
      by decide +kernel⟩,
    ⟨0, 5, (makeBlock 1 0x03 (0x01 * 2 ^ 974 + 9 * 2 ^ 958)),
      eng 0 [(Obj.TWIN_ENABLE, 1), (Obj.TWIN_PORTS, 32), (Obj.TWIN_PARTNER, 9), (Obj.LOOM_ID, 4), (ix Obj.SW_PARTNER_LOOM 5, 9), (ix Obj.SW_STATE 5, 5), (Obj.TWIN_STATE, 2)],
      ⟨by decide +kernel, by simp only [fromTwin, isBlock_makeBlock _ (by decide : 1 < 4) (by decide : 3 < 256) rfl, makeBlock_bits _ 1013 1006 (by decide : 1 < 4) (by decide : 3 < 256) (by decide) (by decide) (by decide), makeBlock_bits _ 1005 990 (by decide : 1 < 4) (by decide : 3 < 256) (by decide) (by decide) (by decide)]; decide +kernel⟩⟩,
    ⟨0, 0,
      { eng 0 [(Obj.TWIN_ENABLE, 1), (Obj.TWIN_STATE, 2)] with
        twin := { Twin.reset with own := [⟨0, 0, 0, 0, false, false⟩] } },
      by decide +kernel⟩,
    ⟨0, { eng 0 [(Obj.TWIN_STATE, 5)] with twin := { Twin.reset with missing := 64 } }, by decide +kernel⟩,
    ⟨0, { eng 0 [] with twin := { Twin.reset with step := 1 } }, by decide +kernel⟩,
    ⟨0, { eng 0 [] with twin := { Twin.reset with step := 2 } }, by decide +kernel⟩,
    ⟨0, { eng 5 [] with twin := { Twin.reset with step := 3, fillUntil := 5 } }, by decide +kernel⟩,
    ⟨0, { eng 0 [] with twin := { Twin.reset with step := 4, matching := 64 } }, by decide +kernel⟩,
    ⟨0, { eng 10000000001 [(Obj.TWIN_ENABLE, 1), (Obj.TWIN_STATE, 2)] with twin := { Twin.reset with failedAt := 1 } },
      by decide +kernel⟩,
    ⟨0, 5, (makeBlock 1 0x03 (0x05 * 2 ^ 974 + 9 * 2 ^ 958)),
      eng 0 [(Obj.TWIN_ENABLE, 1), (Obj.TWIN_PORTS, 32), (Obj.TWIN_PARTNER, 9), (Obj.LOOM_ID, 4), (ix Obj.SW_PARTNER_LOOM 5, 9), (ix Obj.SW_STATE 5, 5), (Obj.TWIN_STATE, 2)],
      ⟨by decide +kernel, by simp only [fromTwin, isBlock_makeBlock _ (by decide : 1 < 4) (by decide : 3 < 256) rfl, makeBlock_bits _ 1013 1006 (by decide : 1 < 4) (by decide : 3 < 256) (by decide) (by decide) (by decide), makeBlock_bits _ 1005 990 (by decide : 1 < 4) (by decide : 3 < 256) (by decide) (by decide) (by decide)]; decide +kernel⟩⟩⟩

/-- States and operands that meet the hypotheses of LeaseCommandsComplete, one for each clause that has any. -/
theorem witness_LeaseCommandsComplete :
    (∃ (t : Nat) (q : State), let s := q.at_ t; s.paired = true ∧
      s.ran s.twin.sentAt (s.rdN Obj.LEASE_RENEW_MS * 1000000) = true ∧ s.holds = false) ∧
    (∃ (t : Nat) (q : State), let s := q.at_ t; s.paired = true ∧
      s.ran s.twin.sentAt (s.rdN Obj.LEASE_RENEW_MS * 1000000) = true ∧ s.holds = true) ∧
    (∃ (t : Nat) (m : LeaseMsg) (q : State), let s := q.at_ t;
      let v := (leaseArrives s 2 m).1.setTwin (fun w => { w with peerHolds := true }); (leaseArrives s 2 m).2 = true ∧
      v.holds = false ∧ s.twin.seenEpoch ≤ m.epoch) ∧
    (∃ (t : Nat) (m : LeaseMsg) (q : State), let s := q.at_ t;
      let v := (leaseArrives s 2 m).1.setTwin (fun w => { w with peerHolds := true }); (leaseArrives s 2 m).2 = true ∧
      v.holds = true ∧ v.rdN Obj.LEASE_EPOCH < m.epoch) ∧
    (∃ (t : Nat) (m : LeaseMsg) (q : State) (e : Nat × Nat), let s := q.at_ t;
      let v := (leaseArrives s 3 m).1.setTwin (fun w => { w with peerHolds := false }); (leaseArrives s 3 m).2 = true ∧
      (v.twin.sends.find? (fun x => x.1 == m.seq) = some e) ∧ v.holds = true ∧ m.epoch = v.rdN Obj.LEASE_EPOCH ∧ m.state < 3) ∧
    (∃ (t : Nat) (m : LeaseMsg) (q : State), let s := q.at_ t; (leaseArrives s 4 m).2 = true ∧ s.twin.seenEpoch ≤ m.epoch ∧
      (leaseArrives s 4 m).1.holds = false) ∧
    (∃ (t : Nat) (e : Nat) (q : State), let s := q.at_ t; let d := leaseD s; s.twin.echoed = some e ∧
      s.on Obj.TWIN_ENABLE = true ∧ s.holds = true ∧ past s.engineNs (e + d) = true ∧ e + d - d / 2 ≤ s.twin.aliveAt) ∧
    (∃ (t : Nat) (e : Nat) (q : State), let s := q.at_ t; let d := leaseD s; s.twin.echoed = some e ∧
      s.on Obj.TWIN_ENABLE = true ∧ s.holds = true ∧ past s.engineNs (e + d) = true ∧ s.twin.aliveAt < e + d - d / 2) ∧
    (∃ (t : Nat) (q : State), let s := q.at_ t; let w := s.twin; let dg := leaseD s + leaseG s; s.on Obj.TWIN_ENABLE = true ∧
      s.holds = false ∧ w.startAt + s.rdN Obj.LEASE_START_WAIT_MS * 1000000 ≤ s.engineNs ∧
      past s.engineNs (max w.heardAt w.startAt + dg) = true) ∧
    (∃ (t : Nat) (q : State), let s := q.at_ t; let w := s.twin; let dg := leaseD s + leaseG s; s.on Obj.TWIN_ENABLE = true ∧
      s.holds = false ∧ w.startAt + s.rdN Obj.LEASE_START_WAIT_MS * 1000000 ≤ s.engineNs ∧
      past s.engineNs (max w.heardAt w.startAt + dg) = false ∧ 3 ≤ s.twinState ∧ w.step = 0 ∧ designated s = true ∧
      past s.engineNs (max w.renewAt (max w.startAt w.releasedAt) + dg) = true) ∧
    (∃ (t : Nat) (n : Nat) (e : Nat) (q : State), let s := q.at_ t; s.twin.handover = none ∧ s.twin.take = some (n, e) ∧
      n ≤ s.clock.pick ∧ s.holds = false) ∧
    (∃ (t : Nat) (n : Nat) (q : State), let s := q.at_ t; s.twin.handover = some n ∧ n ≤ s.clock.pick ∧
      (releaseLease s false).twin.take = none) ∧
    (∃ (t : Nat) (q : State), let s := q.at_ t; 0 < s.rdN Obj.LEASE_DRILL_INTERVAL_H ∧ s.holds = true ∧ canSwap s = true ∧
      s.fabric.quietUntil ≤ s.clock.now ∧
      time80Ns (s.rdN Obj.LEASE_DRILL_LAST) + s.rdN Obj.LEASE_DRILL_INTERVAL_H * 3600000000000 ≤ s.engineNs) ∧
    (∃ (t : Nat) (q : State), let s := q.at_ t; s.twin.takenAt ≠ 0 ∧ s.holds = true) ∧
    (∃ (t : Nat) (q : State), let s := q.at_ t; s.twin.takenAt ≠ 0 ∧ s.holds = true) :=
  ⟨⟨0, eng 1000000000000000 [(Obj.TWIN_ENABLE, 1), (Obj.TWIN_STATE, 2), (Obj.LEASE_ROLE, 0)], by decide +kernel⟩,
    ⟨0, eng 1000000000000000 [(Obj.TWIN_ENABLE, 1), (Obj.TWIN_STATE, 2), (Obj.LEASE_ROLE, 1)], by decide +kernel⟩,
    ⟨0, ⟨5, 0, true, 4, false, 0, 1, 1000, 0, 0⟩,
      eng 0 [(Obj.TWIN_ENABLE, 1), (Obj.TWIN_PORTS, 32), (Obj.TWIN_PARTNER, 9), (Obj.LOOM_ID, 4), (ix Obj.SW_PARTNER_LOOM 5, 9), (ix Obj.SW_STATE 5, 5), (Obj.LEASE_ROLE, 0)],
      by decide +kernel⟩,
    ⟨0, ⟨5, 0, true, 4, false, 4, 1, 1000, 0, 0⟩,
      eng 0 [(Obj.TWIN_ENABLE, 1), (Obj.TWIN_PORTS, 32), (Obj.TWIN_PARTNER, 9), (Obj.LOOM_ID, 4), (ix Obj.SW_PARTNER_LOOM 5, 9), (ix Obj.SW_STATE 5, 5), (Obj.LEASE_ROLE, 1), (Obj.LEASE_EPOCH, 3)],
      by decide +kernel⟩,
    ⟨0, ⟨5, 0, true, 2, false, 3, 1, 1000, 0, 0⟩,
      { eng 0 [(Obj.TWIN_ENABLE, 1), (Obj.TWIN_PORTS, 32), (Obj.TWIN_PARTNER, 9), (Obj.LOOM_ID, 4), (ix Obj.SW_PARTNER_LOOM 5, 9), (ix Obj.SW_STATE 5, 5), (Obj.LEASE_ROLE, 1), (Obj.LEASE_EPOCH, 3)] with
        twin := { Twin.reset with sends := [(1, 5)] } },
      (1, 5), by decide +kernel⟩,
    ⟨0, ⟨5, 0, true, 4, false, 0, 1, 1000, 0, 0⟩,
      eng 0 [(Obj.TWIN_ENABLE, 1), (Obj.TWIN_PORTS, 32), (Obj.TWIN_PARTNER, 9), (Obj.LOOM_ID, 4), (ix Obj.SW_PARTNER_LOOM 5, 9), (ix Obj.SW_STATE 5, 5), (Obj.LEASE_ROLE, 0)],
      by decide +kernel⟩,
    ⟨0, 0,
      { eng 100000010 [(Obj.TWIN_ENABLE, 1), (Obj.LEASE_ROLE, 1), (Obj.LEASE_DURATION_MS, 100)] with
        twin := { Twin.reset with echoed := some 0, aliveAt := 50000000 } },
      by decide +kernel⟩,
    ⟨0, 0,
      { eng 100000010 [(Obj.TWIN_ENABLE, 1), (Obj.LEASE_ROLE, 1), (Obj.LEASE_DURATION_MS, 100)] with
        twin := { Twin.reset with echoed := some 0, aliveAt := 49999999 } },
      by decide +kernel⟩,
    ⟨0, eng 1000000000000000 [(Obj.TWIN_ENABLE, 1), (Obj.LEASE_ROLE, 0)], by decide +kernel⟩,
    ⟨0,
      { eng 1000000000000000 [(Obj.TWIN_ENABLE, 1), (Obj.LEASE_ROLE, 0), (Obj.TWIN_STATE, 3), (Obj.TWIN_PREFER, 1)] with
        twin := { Twin.reset with heardAt := 1000000000000000 } },
      by decide +kernel⟩,
    ⟨0, 100, 7, { eng 0 [(Obj.LEASE_ROLE, 0)] with twin := { Twin.reset with take := some (100, 7) } }, by decide +kernel⟩,
    ⟨0, 100, { eng 0 [] with twin := { Twin.reset with handover := some 100 } }, by decide +kernel⟩,
    ⟨0,
      { eng 1000000000000000 [(Obj.TWIN_ENABLE, 1), (Obj.TWIN_STATE, 2), (Obj.LEASE_ROLE, 1), (Obj.LEASE_DRILL_INTERVAL_H, 1)] with
        twin := { Twin.reset with peerState := 4 } },
      by decide +kernel⟩,
    ⟨0, { eng 0 [(Obj.LEASE_ROLE, 1)] with twin := { Twin.reset with takenAt := 1 } }, by decide +kernel⟩,
    ⟨0, { eng 0 [(Obj.LEASE_ROLE, 1)] with twin := { Twin.reset with takenAt := 1 } }, by decide +kernel⟩⟩

/-- States and operands that meet the hypotheses of TreadleSequenceCommandsComplete, one for each clause that has any. -/
theorem witness_TreadleSequenceCommandsComplete :
    (∃ (t : Nat) (ch : Fin 32) (q : State), let s := q.at_ t; tdRuns s = true ∧ s.tdState ch = 0 ∧ (s.td ch).step = 0 ∧
      s.on (ix Obj.TD_ENABLE ch) = true) ∧
    (∃ (t : Nat) (ch : Fin 32) (q : State), let s := q.at_ t; s.tdDue ch 1 50000000 = true) ∧
    (∃ (t : Nat) (ch : Fin 32) (q : State), let s := q.at_ t;
      s.tdDue ch 2 (s.rdN (ix Obj.TD_RELAY_SETTLE_MS ch) * 1000000) = true ∧ (s.td ch).testing = true) ∧
    (∃ (t : Nat) (ch : Fin 32) (q : State), let s := q.at_ t;
      s.tdDue ch 2 (s.rdN (ix Obj.TD_RELAY_SETTLE_MS ch) * 1000000) = true ∧ (s.td ch).testing = false) ∧
    (∃ (t : Nat) (ch : Fin 32) (volts : BitVec 382) (amps : BitVec 382) (q : State), let s := q.at_ t;
      let r := ohms s ch (slowValue volts.toNat).natAbs (slowValue amps.toNat).natAbs (2 ^ 21);
      let low := r < s.rdN (ix Obj.TD_DC_OHM_MIN ch); s.tdDue ch 3 15000000 = true ∧ low) ∧
    (∃ (t : Nat) (ch : Fin 32) (volts : BitVec 382) (amps : BitVec 382) (q : State), let s := q.at_ t;
      let r := ohms s ch (slowValue volts.toNat).natAbs (slowValue amps.toNat).natAbs (2 ^ 21);
      let low := r < s.rdN (ix Obj.TD_DC_OHM_MIN ch); let high := s.rdN (ix Obj.TD_DC_OHM_MAX ch) < r;
      let cap := s.rd (ix Obj.TD_LOAD_KIND ch) = 1; s.tdDue ch 3 15000000 = true ∧ ¬low ∧ high ∧ ¬cap) ∧
    (∃ (t : Nat) (ch : Fin 32) (volts : BitVec 382) (amps : BitVec 382) (q : State), let s := q.at_ t;
      let r := ohms s ch (slowValue volts.toNat).natAbs (slowValue amps.toNat).natAbs (2 ^ 21);
      let low := r < s.rdN (ix Obj.TD_DC_OHM_MIN ch); let high := s.rdN (ix Obj.TD_DC_OHM_MAX ch) < r;
      let cap := s.rd (ix Obj.TD_LOAD_KIND ch) = 1; s.tdDue ch 3 15000000 = true ∧ ¬low ∧ ¬high ∧ cap) ∧
    (∃ (t : Nat) (ch : Fin 32) (volts : BitVec 382) (amps : BitVec 382) (q : State), let s := q.at_ t;
      let r := ohms s ch (slowValue volts.toNat).natAbs (slowValue amps.toNat).natAbs (2 ^ 21);
      let low := r < s.rdN (ix Obj.TD_DC_OHM_MIN ch); let high := s.rdN (ix Obj.TD_DC_OHM_MAX ch) < r;
      let cap := s.rd (ix Obj.TD_LOAD_KIND ch) = 1; s.tdDue ch 3 15000000 = true ∧ ¬low ∧ (high ↔ cap)) ∧
    (∃ (t : Nat) (ch : Fin 32) (q : State), let s := q.at_ t; s.tdDue ch 4 5000000 = true ∧ (s.td ch).after = 0) ∧
    (∃ (t : Nat) (ch : Fin 32) (q : State), let s := q.at_ t; s.tdDue ch 4 5000000 = true ∧ (s.td ch).after ≠ 0) ∧
    (∃ (t : Nat) (ch : Fin 32) (q : State), let s := q.at_ t; s.tdDue ch 5 20000000 = true) ∧
    (∃ (t : Nat) (ch : Fin 32) (q : State), let s := q.at_ t; (tdRuns s = false ∨ s.on (ix Obj.TD_ENABLE ch) = false)) ∧
    (∃ (t : Nat) (ch : Fin 32) (q : State), let s := q.at_ t; s.tdDue ch 7 20000000 = true) ∧
    (∃ (t : Nat) (ch : Fin 32) (q : State), let s := q.at_ t; s.tdDue ch 8 10000000 = true) ∧
    (∃ (t : Nat) (ch : Fin 32) (q : State), let s := q.at_ t;
      s.tdDue ch 9 (s.rdN (ix Obj.TD_RELAY_RELEASE_MS ch) * 1000000) = true) :=
  ⟨⟨0, 31, eng 0 [(ix Obj.TD_ENABLE 31, 1)], by decide +kernel⟩,
    ⟨0, 31,
      { eng 50000000 [] with
        treadle := { Treadle.reset with channels := setAt Treadle.reset.channels 31 { Channel.reset with step := 1 } } },
      by decide +kernel⟩,
    ⟨0, 31,
      { eng 1000000000000000 [] with
        treadle := { Treadle.reset with channels := setAt Treadle.reset.channels 31 { Channel.reset with step := 2, testing := true } } },
      by decide +kernel⟩,
    ⟨0, 31,
      { eng 1000000000000000 [] with
        treadle := { Treadle.reset with channels := setAt Treadle.reset.channels 31 { Channel.reset with step := 2 } } },
      by decide +kernel⟩,
    ⟨0, 31, 0, 0,
      { eng 15000000 [(ix Obj.TD_DC_OHM_MIN 31, 4001), (ix Obj.TD_DC_OHM_MAX 31, 5000), (ix Obj.TD_LOAD_KIND 31, 0)] with
        treadle := { Treadle.reset with channels := setAt Treadle.reset.channels 31 { Channel.reset with step := 3 } } },
      by decide +kernel⟩,
    ⟨0, 31, 0, 0,
      { eng 15000000 [(ix Obj.TD_DC_OHM_MIN 31, 2000), (ix Obj.TD_DC_OHM_MAX 31, 3999), (ix Obj.TD_LOAD_KIND 31, 0)] with
        treadle := { Treadle.reset with channels := setAt Treadle.reset.channels 31 { Channel.reset with step := 3 } } },
      by decide +kernel⟩,
    ⟨0, 31, 0, 0,
      { eng 15000000 [(ix Obj.TD_DC_OHM_MIN 31, 4000), (ix Obj.TD_DC_OHM_MAX 31, 4000), (ix Obj.TD_LOAD_KIND 31, 1)] with
        treadle := { Treadle.reset with channels := setAt Treadle.reset.channels 31 { Channel.reset with step := 3 } } },
      by decide +kernel⟩,
    ⟨0, 31, 0, 0,
      { eng 15000000 [(ix Obj.TD_DC_OHM_MIN 31, 4000), (ix Obj.TD_DC_OHM_MAX 31, 4000), (ix Obj.TD_LOAD_KIND 31, 0)] with
        treadle := { Treadle.reset with channels := setAt Treadle.reset.channels 31 { Channel.reset with step := 3 } } },
      by decide +kernel⟩,
    ⟨0, 31,
      { eng 5000000 [] with
        treadle := { Treadle.reset with channels := setAt Treadle.reset.channels 31 { Channel.reset with step := 4 } } },
      by decide +kernel⟩,
    ⟨0, 31,
      { eng 5000000 [] with
        treadle := { Treadle.reset with channels := setAt Treadle.reset.channels 31 { Channel.reset with step := 4, after := 8 } } },
      by decide +kernel⟩,
    ⟨0, 31,
      { eng 20000000 [] with
        treadle := { Treadle.reset with channels := setAt Treadle.reset.channels 31 { Channel.reset with step := 5 } } },
      by decide +kernel⟩,
    ⟨0, 31, eng 0 [(ix Obj.TD_ENABLE 31, 0)], by decide +kernel⟩,
    ⟨0, 31,
      { eng 20000000 [] with
        treadle := { Treadle.reset with channels := setAt Treadle.reset.channels 31 { Channel.reset with step := 7 } } },
      by decide +kernel⟩,
    ⟨0, 31,
      { eng 10000000 [] with
        treadle := { Treadle.reset with channels := setAt Treadle.reset.channels 31 { Channel.reset with step := 8 } } },
      by decide +kernel⟩,
    ⟨0, 31,
      { eng 1000000000000000 [] with
        treadle := { Treadle.reset with channels := setAt Treadle.reset.channels 31 { Channel.reset with step := 9 } } },
      by decide +kernel⟩⟩

/-- States and operands that meet the hypotheses of TreadleProtectionCommandsComplete, one for each clause that has any. -/
theorem witness_TreadleProtectionCommandsComplete :
    (∃ (t : Nat) (ch : Fin 32) (bits : BitVec 31) (q : State), let s := q.at_ t;
      s.rdN (ix Obj.TD_OC_MA ch) * 2 ^ 8 < (fastValue bits.toNat).natAbs * s.rdN (ix Obj.TD_ISENSE_FS_MA ch) ∧
      (s.td ch).step ≠ 10 ∧ (s.td ch).en = true) ∧
    (∃ (t : Nat) (ch : Fin 32) (q : State), let s := q.at_ t; (s.td ch).step = 10 ∧ s.ran (s.td ch).highAt 1000000 = true) ∧
    (∃ (t : Nat) (ch : Fin 32) (q : State), let s := q.at_ t; s.tdDue ch 10 20000000 = true) ∧
    (∃ (t : Nat) (ch : Fin 32) (q : State), let s := q.at_ t; s.tdState ch = 5 ∧ (s.td ch).step = 0 ∧
      s.ran (s.td ch).failedAt 500000000 = true) ∧
    (∃ (t : Nat) (ch : Fin 32) (q : State), let s := q.at_ t; (s.td ch).retry = true ∧ s.tdDue ch 6 2000000000 = true) ∧
    (∃ (t : Nat) (ch : Fin 32) (q : State), let s := q.at_ t; (s.td ch).retry = false ∧ (s.td ch).step = 6 ∧
      s.ran (s.td ch).cleanSince (s.rdN Obj.TD_OC_CLEAR_S * 1000000000) = true) ∧
    (∃ (t : Nat) (ch : Fin 32) (bits : BitVec 64) (q : State), let s := q.at_ t; (s.td ch).en = true ∧ s.tdState ch ≠ 7 ∧
      isStuck 64 bits.toNat = true) ∧
    (∃ (t : Nat) (ch : Fin 32) (q : State), let s := q.at_ t; s.tdDue ch 12 10000000 = true) ∧
    (∃ (t : Nat) (ch : Fin 32) (q : State), let s := q.at_ t; s.tdState ch = 7 ∧ (s.td ch).step = 0 ∧
      s.ran (s.td ch).invalidAt 1000000000 = true) ∧
    (∃ (t : Nat) (rail : Fin 4) (q : State), let s := q.at_ t; s.treadle.badRails.contains rail.val = false ∧
      ((s.rail rail.val).invalid = true ∨ ((s.rail rail.val).outside = true ∧ s.ran (s.rail rail.val).since 1000000 = true))) ∧
    (∃ (t : Nat) (rail : Fin 4) (q : State), let s := q.at_ t; s.treadle.badRails.contains rail.val = true ∧
      (s.rail rail.val).invalid = false ∧ (s.rail rail.val).outside = false ∧ s.ran (s.rail rail.val).since 500000000 = true) ∧
    (∃ (t : Nat) (ch : Fin 32) (q : State), let s := q.at_ t; let a := (s.td ch).pilot; let i := amplitude a.is a.ic;
      let w := s.setTd ch (fun c => { c with pilot := noSync }); s.on (ix Obj.TH_PILOT ch) = true ∧ senseRate s ≤ a.count ∧
      10 * a.count * 2 ^ 45 ≤ i * w.rdN (ix Obj.TD_ISENSE_FS_MA ch)) ∧
    (∃ (t : Nat) (ch : Fin 32) (q : State), let s := q.at_ t; let a := (s.td ch).pilot; let i := amplitude a.is a.ic;
      let w := s.setTd ch (fun c => { c with pilot := noSync }); s.on (ix Obj.TH_PILOT ch) = true ∧ senseRate s ≤ a.count ∧
      i * w.rdN (ix Obj.TD_ISENSE_FS_MA ch) < 10 * a.count * 2 ^ 45) ∧
    (∃ (t : Nat) (ch : Fin 32) (q : State), let s := q.at_ t; s.tdDue ch 13 250000000 = true) :=
  ⟨⟨0, 31, 0,
      { eng 0 [(ix Obj.TD_OC_MA 31, 0), (ix Obj.TD_ISENSE_FS_MA 31, 1)] with
        treadle := { Treadle.reset with channels := setAt Treadle.reset.channels 31 { Channel.reset with step := 6, en := true } } },
      by decide +kernel⟩,
    ⟨0, 31,
      { eng 1000000 [] with
        treadle := { Treadle.reset with channels := setAt Treadle.reset.channels 31 { Channel.reset with step := 10 } } },
      by decide +kernel⟩,
    ⟨0, 31,
      { eng 20000000 [] with
        treadle := { Treadle.reset with channels := setAt Treadle.reset.channels 31 { Channel.reset with step := 10 } } },
      by decide +kernel⟩,
    ⟨0, 31, eng 500000000 [(ix Obj.TD_STATE 31, 5), (ix Obj.TD_ENABLE 31, 1)], by decide +kernel⟩,
    ⟨0, 31,
      { eng 2000000000 [] with
        treadle := { Treadle.reset with channels := setAt Treadle.reset.channels 31 { Channel.reset with step := 6, retry := true } } },
      by decide +kernel⟩,
    ⟨0, 31,
      { eng 1000000000000000 [] with
        treadle := { Treadle.reset with channels := setAt Treadle.reset.channels 31 { Channel.reset with step := 6 } } },
      by decide +kernel⟩,
    ⟨0, 31, 0,
      { eng 0 [] with
        treadle := { Treadle.reset with channels := setAt Treadle.reset.channels 31 { Channel.reset with en := true } } },
      by decide +kernel⟩,
    ⟨0, 31,
      { eng 10000000 [] with
        treadle := { Treadle.reset with channels := setAt Treadle.reset.channels 31 { Channel.reset with step := 12 } } },
      by decide +kernel⟩,
    ⟨0, 31, eng 1000000000 [(ix Obj.TD_STATE 31, 7), (ix Obj.TD_ENABLE 31, 1)], by decide +kernel⟩,
    ⟨0, 3, { eng 0 [] with treadle := { Treadle.reset with rails := setAt Treadle.reset.rails 3 ⟨false, 0, true⟩ } },
      by decide +kernel⟩,
    ⟨0, 3,
      { eng 500000000 [] with
        treadle := { Treadle.reset with badRails := [3], rails := setAt Treadle.reset.rails 3 ⟨false, 0, false⟩ } },
      by decide +kernel⟩,
    ⟨0, 31,
      { eng 0 [(ix Obj.TH_PILOT 31, 1), (ix Obj.TD_ISENSE_FS_MA 31, 20)] with
        treadle := { Treadle.reset with channels := setAt Treadle.reset.channels 31 { Channel.reset with pilot := ⟨0, 0, 24000 * 2 ^ 45, 0, 96000⟩ } } },
      by decide +kernel⟩,
    ⟨0, 31,
      { eng 0 [(ix Obj.TH_PILOT 31, 1), (ix Obj.TD_ISENSE_FS_MA 31, 20)] with
        treadle := { Treadle.reset with channels := setAt Treadle.reset.channels 31 { Channel.reset with pilot := ⟨0, 0, 24000 * 2 ^ 45 - 1, 0, 96000⟩ } } },
      by decide +kernel⟩,
    ⟨0, 31,
      { eng 250000000 [] with
        treadle := { Treadle.reset with channels := setAt Treadle.reset.channels 31 { Channel.reset with step := 13 } } },
      by decide +kernel⟩⟩

/-- States and operands that meet the hypotheses of HapolRequestsComplete, one for each clause that has any. -/
theorem witness_HapolRequestsComplete :
    (∃ (c : Instr) (t : Nat) (k : Kind) (e : Envelope) (rights : Nat) (q : State), let m := readMsg e.msg; let s := taken t e q;
      messageOf c = some (t, k, e) ∧ k ∉ [Kind.ack, .open_, .prove, .close, .forwarded] ∧ arrives t k e q ∧ e.path ≠ .swiska ∧
      m.reply = false ∧ letIn s e m = .ok rights) ∧
    (∃ (c : Instr) (t : Nat) (e : Envelope) (rights : Nat) (q : State), let m := readMsg e.msg; let s := taken t e q;
      messageOf c = some (t, .ack, e) ∧ arrives t .ack e q ∧ e.path ≠ .swiska ∧ letIn s e m = .ok rights) ∧
    (∃ (c : Instr) (t : Nat) (k : Kind) (e : Envelope) (q : State), let m := readMsg e.msg; messageOf c = some (t, k, e) ∧
      k ∈ [Kind.open_, .prove, .close] ∧ arrives t k e q ∧ e.path ≠ .swiska ∧ m.reply = false) ∧
    (∃ (c : Instr) (t : Nat) (e : Envelope) (q : State), messageOf c = some (t, .forwarded, e) ∧ arrives t .forwarded e q) :=
  ⟨⟨.read 0 ⟨.mailbox, 0, message 0x10 0 []⟩, 0, .read, ⟨.mailbox, 0, message 0x10 0 []⟩, 3,
      eng 0 [(Obj.HAPOL_AUTH_MAILBOX, 0)], by unfold arrives; decide +kernel⟩,
    ⟨.notifyAck 0 ⟨.mailbox, 0, message 0x58 0 []⟩, 0, ⟨.mailbox, 0, message 0x58 0 []⟩, 3, eng 0 [(Obj.HAPOL_AUTH_MAILBOX, 0)],
      by unfold arrives; decide +kernel⟩,
    ⟨.challengeOpen 0 ⟨.mailbox, 0, message 0x80 0 [1]⟩, 0, .open_, ⟨.mailbox, 0, message 0x80 0 [1]⟩, eng 0 [],
      by unfold arrives; decide +kernel⟩,
    ⟨.forwardedWrite 0 ⟨.mailbox, 0, message 0x30 9 []⟩, 0, ⟨.mailbox, 0, message 0x30 9 []⟩, eng 0 [],
      by unfold arrives; decide +kernel⟩⟩

/-- States and operands that meet the hypotheses of AgentTimerCommandsComplete, one for each clause that has any. -/
theorem witness_AgentTimerCommandsComplete :
    (∃ (t : Nat) (sub : Nat) (x : Sub) (q : State), let s := q.at_ t;
      (s.agent.subs.find? (fun u => u.id == sub && !u.events) = some x) ∧ agentRuns s = true ∧ 0 < x.periodMs ∧
      s.ran x.lastAt (x.periodMs * 1000000) = true) ∧
    (∃ (t : Nat) (session : Nat) (req : Nat) (n : Notify) (x : Session) (q : State), let s := q.at_ t;
      (s.agent.notifies.find? (fun n => n.session == session && n.req == req) = some n) ∧ sessionOf s session = some x ∧
      agentRuns s = true ∧ s.overdue (n.sentAt + s.rdN Obj.HAPOL_NOTIFY_TIMEOUT_MS * 1000000) = true ∧
      n.tries < s.rdN Obj.HAPOL_NOTIFY_RETRIES) ∧
    (∃ (t : Nat) (session : Nat) (req : Nat) (n : Notify) (x : Session) (q : State), let s := q.at_ t;
      (s.agent.notifies.find? (fun n => n.session == session && n.req == req) = some n) ∧ sessionOf s session = some x ∧
      agentRuns s = true ∧ s.overdue (n.sentAt + s.rdN Obj.HAPOL_NOTIFY_TIMEOUT_MS * 1000000) = true ∧
      s.rdN Obj.HAPOL_NOTIFY_RETRIES ≤ n.tries) ∧
    (∃ (t : Nat) (xfer : Nat) (x : Xfer) (q : State), let s := q.at_ t; (s.agent.xfers.find? (fun y => y.id == xfer) = some x) ∧
      s.overdue (x.lastAt + 5000000000) = true) ∧
    (∃ (t : Nat) (session : Nat) (x : Session) (q : State), let s := q.at_ t; sessionOf s session = some x ∧
      agentRuns s = true ∧ s.overdue (x.lastAt + s.rdN Obj.HAPOL_SESSION_IDLE_S * 1000000000) = true) ∧
    (∃ (t : Nat) (core : Fin 2) (q : State), let s := q.at_ t; s.power.restarting.getD core.val 0 ≠ 0 ∧ s.power.held = false) ∧
    (∃ (t : Nat) (q : State), let s := q.at_ t; bit (s.rdN Obj.DEBUG_SCOPE) 1 = true) ∧
    (∃ (t : Nat) (core : Fin 2) (q : State), let s := q.at_ t; mayRestart s core.val = true) :=
  ⟨⟨0, 3, ⟨3, 7, false, 0x100000, 0, 1, [], 0, false⟩,
      { eng 1000000 [] with agent := { Agent.reset with subs := [⟨3, 7, false, 0x100000, 0, 1, [], 0, false⟩] } },
      by decide +kernel⟩,
    ⟨0, 7, 1, ⟨7, 1, [], 0, 2⟩, ⟨0, 7, .mailbox, 0, 3, 0, [], true, 0, 0, 0, []⟩,
      { eng 1000000000000000 [(Obj.HAPOL_NOTIFY_RETRIES, 3)] with
        agent := { Agent.reset with notifies := [⟨7, 1, [], 0, 2⟩], sessions := [⟨0, 7, .mailbox, 0, 3, 0, [], true, 0, 0, 0, []⟩] } },
      by decide +kernel⟩,
    ⟨0, 7, 1, ⟨7, 1, [], 0, 3⟩, ⟨0, 7, .mailbox, 0, 3, 0, [], true, 0, 0, 0, []⟩,
      { eng 1000000000000000 [(Obj.HAPOL_NOTIFY_RETRIES, 3)] with
        agent := { Agent.reset with notifies := [⟨7, 1, [], 0, 3⟩], sessions := [⟨0, 7, .mailbox, 0, 3, 0, [], true, 0, 0, 0, []⟩] } },
      by decide +kernel⟩,
    ⟨0, 4, ⟨4, 7, 0, true, 0, 0, [], 0, ⟨.mailbox, 7⟩⟩,
      { eng 5000000008 [] with agent := { Agent.reset with xfers := [⟨4, 7, 0, true, 0, 0, [], 0, ⟨.mailbox, 7⟩⟩] } },
      by decide +kernel⟩,
    ⟨0, 7, ⟨0, 7, .mailbox, 0, 3, 0, [], true, 0, 0, 0, []⟩,
      { eng 1000000000000000 [] with
        agent := { Agent.reset with sessions := [⟨0, 7, .mailbox, 0, 3, 0, [], true, 0, 0, 0, []⟩] } },
      by decide +kernel⟩,
    ⟨0, 0, { eng 0 [] with power := { powered with stage := 4, restarting := [1, 0] } }, by decide +kernel⟩,
    ⟨0, eng 0 [(Obj.DEBUG_SCOPE, 2)], by decide +kernel⟩,
    ⟨0, 0, eng 0 [], by decide +kernel⟩⟩

/-- States and operands that meet the hypotheses of DebugCommandsComplete, one for each clause that has any. -/
theorem witness_DebugCommandsComplete :
    (∃ (t : Nat) (q : State), let s := q.at_ t; s.dbg.scope ≠ 0 ∧ s.dbg.expiry ≤ s.clock.now) ∧
    (∃ (t : Nat) (q : State), let s := q.at_ t; debugLocked s = true ∧ s.dbg.lockoutUntil ≤ s.clock.now) ∧
    (∃ (t : Nat) (q : State), let s := q.at_ t; bit (s.rdN Obj.DEBUG_SCOPE) 1 = true ∧ s.power.halted.getD 0 false = false) ∧
    (∃ (t : Nat) (q : State), let s := q.at_ t; bit (s.rdN Obj.DEBUG_SCOPE) 1 = true ∧ s.power.halted.getD 1 false = false) :=
  ⟨⟨0, { eng 5 [] with dbg := { Debug.reset with scope := 1, expiry := 5 } }, by decide +kernel⟩,
    ⟨0, { eng 5 [] with dbg := { Debug.reset with lockoutUntil := 5 } }, by decide +kernel⟩,
    ⟨0, eng 0 [(Obj.DEBUG_SCOPE, 2)], by decide +kernel⟩,
    ⟨0, eng 0 [(Obj.DEBUG_SCOPE, 2), (Obj.TWIN_ENABLE, 1), (Obj.LEASE_ROLE, 1)], by decide +kernel⟩⟩

/-- States and operands that meet the hypotheses of HostPortCommandsComplete, one for each clause that has any. -/
theorem witness_HostPortCommandsComplete :
    (∃ (t : Nat) (q : State), let s := q.at_ t; hostPortUp s = true) ∧
    (∃ (t : Nat) (q : State), let s := q.at_ t; hostPortUp s = true) ∧
    (∃ (t : Nat) (q : State), let s := q.at_ t; hostPortUp s = true) ∧
    (∃ (t : Nat) (fillers : Nat) (q : State), let s := q.at_ t; hostPortUp s = true ∧ fillers ≤ 255) ∧
    (∃ (t : Nat) (fillers : Nat) (q : State), let s := q.at_ t; hostPortUp s = true ∧ 255 < fillers) ∧
    (∃ (t : Nat) (sent : List Byte) (q : State), let s := q.at_ t; hostPortUp s = true ∧ 2 ≤ sent.length ∧
      field sent 0 2 = sent.length - 2 ∧ sent.length ≤ 1438 ∧ s.creel.busy = false) ∧
    (∃ (t : Nat) (sent : List Byte) (q : State), let s := q.at_ t; hostPortUp s = true ∧ 2 ≤ sent.length ∧
      field sent 0 2 = sent.length - 2 ∧ sent.length ≤ 1438 ∧ s.creel.busy = true) ∧
    (∃ (t : Nat) (sent : List Byte) (q : State), let s := q.at_ t; hostPortUp s = true ∧
      (sent.length < 2 ∨ field sent 0 2 ≠ sent.length - 2 ∨ 1438 < sent.length)) ∧
    (∃ (t : Nat) (q : State), let s := q.at_ t; hostPortUp s = true ∧ s.agent.mailbox = []) ∧
    (∃ (t : Nat) (n : Nat) (m : List Byte) (rest : List (List Byte)) (q : State), let s := q.at_ t; hostPortUp s = true ∧
      s.agent.mailbox = m :: rest ∧ 2 + m.length ≤ n) ∧
    (∃ (t : Nat) (n : Nat) (m : List Byte) (rest : List (List Byte)) (q : State), let s := q.at_ t; hostPortUp s = true ∧
      s.agent.mailbox = m :: rest ∧ n < 2 + m.length) ∧
    (∃ (t : Nat) (q : State), let s := q.at_ t; hostPortUp s = true) ∧
    (∃ (t : Nat) (q : State), let s := q.at_ t; hostPortUp s = true) :=
  ⟨⟨0, eng 0 [], by decide +kernel⟩,
    ⟨0, eng 0 [], by decide +kernel⟩,
    ⟨0, eng 0 [], by decide +kernel⟩,
    ⟨0, 255, eng 0 [], by decide +kernel⟩,
    ⟨0, 256, eng 0 [], by decide +kernel⟩,
    ⟨0, [0, 0], eng 0 [], by decide +kernel⟩,
    ⟨0, [0, 0], { eng 0 [] with creel := { Creel.reset with busy := true } }, by decide +kernel⟩,
    ⟨0, [0, 1], eng 0 [], by decide +kernel⟩,
    ⟨0, eng 0 [], by decide +kernel⟩,
    ⟨0, 3, [1], [], { eng 0 [] with agent := { Agent.reset with mailbox := [[1]] } }, by decide +kernel⟩,
    ⟨0, 2, [1], [], { eng 0 [] with agent := { Agent.reset with mailbox := [[1]] } }, by decide +kernel⟩,
    ⟨0, eng 0 [], by decide +kernel⟩,
    ⟨0, eng 0 [], by decide +kernel⟩⟩

/-- States and operands that meet the hypotheses of CreelCommandsComplete, one for each clause that has any. -/
theorem witness_CreelCommandsComplete :
    (∃ (t : Nat) (m : Master) (l : Nat × Master × Nat × Nat) (q : State), let s := q.at_ t;
      (s.creel.locks.find? (fun x => x.2.1 == m && (s.ran x.2.2.2 2000 || decide (16 ≤ x.2.2.1))) = some l)) ∧
    (∃ (t : Nat) (q : State), let s := q.at_ t; s.creel.lock = false) ∧
    (∃ (t : Nat) (q : State), let s := q.at_ t; s.creel.lock = true) ∧
    (∃ (m : Master), m ≠ .coreA) ∧
    (∃ (m : Master) (reg : Master), (m = reg ∨ m = .coreA)) ∧
    (∃ (m : Master) (reg : Master), m ≠ reg ∧ m ≠ .coreA) ∧
    (∃ (t : Nat) (q : State), let s := q.at_ t; s.power.stage = 2) :=
  ⟨⟨0, .bridge, (1, .bridge, 16, 0), { eng 0 [] with creel := { Creel.reset with locks := [(1, .bridge, 16, 0)] } },
      by decide +kernel⟩,
    ⟨0, eng 0 [], by decide +kernel⟩,
    ⟨0, { eng 0 [] with creel := { Creel.reset with lock := true } }, by decide +kernel⟩,
    ⟨.coreB, by decide +kernel⟩,
    ⟨.coreB, .coreB, by decide +kernel⟩,
    ⟨.coreB, .coreA, by decide +kernel⟩,
    ⟨0, { eng 0 [] with power := { powered with stage := 2 } }, by decide +kernel⟩⟩

/-- States and operands that meet the hypotheses of HeddleCommandsComplete, one for each clause that has any. -/
theorem witness_HeddleCommandsComplete :
    (∃ (t : Nat) (source : Nat) (q : State), let s := q.at_ t; isLevel source = true ∧ s.heddle.filtered = true ∧
      s.lineHigh source = true ∧ s.heddle.high.contains source = false ∧
      (s.ran (match s.heddle.changed.find? (fun e => e.1 == source) with | some e => e.2 | none => 0) (20 * s.rdN (evtKey Obj.EVT_SRC_FILTER_N source)) = true)) ∧
    (∃ (t : Nat) (source : Nat) (q : State), let s := q.at_ t; isLevel source = true ∧ s.heddle.filtered = true ∧
      s.lineHigh source = false ∧ s.heddle.high.contains source = true ∧
      (s.ran (match s.heddle.changed.find? (fun e => e.1 == source) with | some e => e.2 | none => 0) (20 * s.rdN (evtKey Obj.EVT_SRC_FILTER_N source)) = true)) ∧
    (∃ (t : Nat) (slot : Nat) (core : Fin 2) (u : State) (q : State), let s := q.at_ t; s.coreRuns core.val = true ∧
      claim (s.putBobbin core.val []) core.val = some (u, slot)) ∧
    (∃ (t : Nat) (slot : Nat) (u : State) (q : State), let s := q.at_ t; s.bobbinFull 2 = false ∧ claim s 2 = some (u, slot)) ∧
    (∃ (t : Nat) (slot : Nat) (u : State) (r : Record) (q : State), let s := q.at_ t; s.bobbinFull 3 = false ∧
      claim s 3 = some (u, slot) ∧ u.heddle.bobbin3.getLast? = some r) :=
  ⟨⟨0, Ev.SLACK_WARN,
      { eng 1000000000000000 [] with heddle := { Heddle.reset with filtered := true, standing := [(Ev.SLACK_WARN, 0)] } },
      by decide +kernel⟩,
    ⟨0, Ev.SLACK_WARN,
      { eng 1000000000000000 [] with heddle := { Heddle.reset with filtered := true, high := [Ev.SLACK_WARN] } },
      by decide +kernel⟩,
    ⟨0, 0, 1, (claimed (claiming 1) 1), claiming 1, by decide +kernel⟩,
    ⟨0, 0, (claimed (claiming 2) 2), claiming 2, by decide +kernel⟩,
    ⟨0, 0, (claimed (claiming 3) 3), (claimRecord (claiming 3) 3 ⟨3, Ev.SLACK_WARN, 0, 0, false, false, false, false⟩),
      claiming 3, by decide +kernel⟩⟩

/-- States and operands that meet the hypotheses of GovernorCommandsComplete, one for each clause that has any. -/
theorem witness_GovernorCommandsComplete :
    (∃ (t : Nat) (id : Nat) (r : Request) (q : State), let s := q.at_ t;
      (s.governor.grants.find? (fun r => r.id == id && !r.overrun) = some r) ∧ s.overdue (r.grantedAt + longestHold s r) = true) ∧
    (∃ (t : Nat) (id : Nat) (r : Request) (q : State), let s := q.at_ t;
      (s.governor.waiting.find? (fun r => r.id == id) = some r) ∧ s.coreRuns 1 = true ∧
      s.overdue (r.asked + s.rdN Obj.LETOFF_MAX_WAIT_MS * 1000000) = true) ∧
    (∃ (t : Nat) (sp : Nat) (since : Nat) (w : BitVec 16) (q : State), let p := (q.at_ t).emit (.pmbus 0x8B 0);
      let e := p.rd Obj.PMBUS_VOUT_EXP; let s := pmbusGood p; let unit := 2 ^ (-e).toNat;
      s.governor.settling = some (sp, since) ∧ w.toNat * 1000 ≤ (sp + 5) * unit ∧ sp * unit ≤ w.toNat * 1000 + 5 * unit) ∧
    (∃ (t : Nat) (q : State), let p := (q.at_ t).emit (.pmbus 0x8B 0); let s := pmbusGood p; s.governor.settling = none) ∧
    (∃ (t : Nat) (sp : Nat) (since : Nat) (q : State), let s := q.at_ t; s.governor.settling = some (sp, since) ∧
      s.overdue (since + 5000000) = true) ∧
    (∃ (t : Nat) (q : State), let s := q.at_ t; s.rdN Obj.VCORE_HOME_MV < s.rdN Obj.VCORE_SET_MV ∧
      s.ran s.fabric.ampleSince 600000000000 = true ∧ s.governor.settling = none ∧
      (s.governor.waiting.any (fun r => r.kind == 1) = false) ∧ pmbusFault s = false) ∧
    (∃ (t : Nat) (q : State), let s := q.at_ t; pmbusFault s = true ∧ s.governor.retryAt ≤ s.clock.now) ∧
    (∃ (t : Nat) (q : State), let s := q.at_ t; pmbusFault s = true ∧ s.governor.retryAt ≤ s.clock.now) ∧
    (∃ (t : Nat) (q : State), let s := q.at_ t; s.power.corePg = true ∧ s.ran s.governor.agedAt 3600000000000 = true) ∧
    (∃ (t : Nat) (q : State), let s := q.at_ t; scrubDue s = true ∧ s.granted 8 0 = false ∧ s.asking 8 0 = false) ∧
    (∃ (t : Nat) (words : Nat) (q : State), let s := q.at_ t; let v := s.release 8 0;
      let done := v.governor.scrubWords + min words 16777216; scrubDue s = true ∧ s.granted 8 0 = true ∧ done < scrubbedWords v) ∧
    (∃ (t : Nat) (words : Nat) (q : State), let s := q.at_ t; let v := s.release 8 0;
      let done := v.governor.scrubWords + min words 16777216; scrubDue s = true ∧ s.granted 8 0 = true ∧ scrubbedWords v ≤ done) ∧
    (∃ (t : Nat) (q : State), let s := q.at_ t; (s.power.stage = 5 ∨ s.power.stage = 4)) ∧
    (∃ (t : Nat) (q : State), let s := q.at_ t; (s.power.stage = 5 ∨ s.power.stage = 4)) ∧
    (∃ (t : Nat) (q : State), let s := q.at_ t; (s.power.stage = 5 ∨ s.power.stage = 4)) ∧
    (∃ (t : Nat) (key : Nat) (w : Work) (q : State), let s := q.at_ t; (s.power.stage = 5 ∨ s.power.stage = 4) ∧
      s.workOf key = some w) ∧
    (∃ (t : Nat) (q : State), let s := q.at_ t; (s.power.stage = 5 ∨ s.power.stage = 4)) ∧
    (∃ (t : Nat) (q : State), let s := q.at_ t; (s.power.stage = 5 ∨ s.power.stage = 4)) ∧
    (∃ (t : Nat) (q : State), let s := q.at_ t; (s.power.stage = 5 ∨ s.power.stage = 4)) ∧
    (∃ (t : Nat) (q : State), let s := q.at_ t; (s.power.stage = 5 ∨ s.power.stage = 4)) :=
  ⟨⟨0, 3, ⟨3, 8, 4, 0, 0, 0, false⟩,
      { eng 10000008 [] with governor := { Governor.reset with grants := [⟨3, 8, 4, 0, 0, 0, false⟩] } }, by decide +kernel⟩,
    ⟨0, 3, ⟨3, 8, 4, 0, 0, 0, false⟩,
      { eng 1000000000000000 [] with governor := { Governor.reset with waiting := [⟨3, 8, 4, 0, 0, 0, false⟩] } },
      by decide +kernel⟩,
    ⟨0, 750, 0, 3092, { eng 0 [(Obj.PMBUS_VOUT_EXP, -12)] with governor := { Governor.reset with settling := some (750, 0) } },
      by decide +kernel⟩,
    ⟨0, eng 0 [], by decide +kernel⟩,
    ⟨0, 755, 0, { eng 5000008 [] with governor := { Governor.reset with settling := some (755, 0) } }, by decide +kernel⟩,
    ⟨0, eng 600000000000 [(Obj.VCORE_HOME_MV, 700), (Obj.VCORE_SET_MV, 710)], by decide +kernel⟩,
    ⟨0,
      { eng 5 [] with
        heddle := { Heddle.reset with standing := [(Ev.PMBUS_FAULT, 0)] },
        governor := { Governor.reset with retryAt := 5 } },
      by decide +kernel⟩,
    ⟨0,
      { eng 5 [] with
        heddle := { Heddle.reset with standing := [(Ev.PMBUS_FAULT, 0)] },
        governor := { Governor.reset with retryAt := 5 } },
      by decide +kernel⟩,
    ⟨0, eng 3600000000000 [], by decide +kernel⟩,
    ⟨0, eng 0 [], by decide +kernel⟩,
    ⟨0, 16777216,
      { eng 0 [(Obj.DDR_FITTED_MIB, 1024)] with
        governor := { Governor.reset with grants := [⟨3, 8, 4, 0, 0, 0, false⟩], scrubWords := 1 } },
      by decide +kernel⟩,
    ⟨0, 0, { eng 0 [] with governor := { Governor.reset with grants := [⟨3, 8, 4, 0, 0, 0, false⟩] } }, by decide +kernel⟩,
    ⟨0, eng 0 [], by decide +kernel⟩,
    ⟨0, eng 0 [], by decide +kernel⟩,
    ⟨0, eng 0 [], by decide +kernel⟩,
    ⟨0, 0, ⟨.inst 0, 0, [], [], 0, 0⟩, { eng 0 [] with graph := { Graph.reset with works := [⟨.inst 0, 0, [], [], 0, 0⟩] } },
      by decide +kernel⟩,
    ⟨0, eng 0 [], by decide +kernel⟩,
    ⟨0, eng 0 [], by decide +kernel⟩,
    ⟨0, eng 0 [], by decide +kernel⟩,
    ⟨0, eng 0 [], by decide +kernel⟩⟩

/-- States and operands that meet the hypotheses of PowerCommandsComplete, one for each clause that has any. -/
theorem witness_PowerCommandsComplete :
    (∃ (t : Nat) (q : State), let s := q.at_ t; s.power.rails = false) ∧
    (∃ (t : Nat) (q : State), let s := q.at_ t; s.power.rails = true ∧ s.power.porst = false) ∧
    (∃ (t : Nat) (q : State), let s := q.at_ t; s.power.porst = true) ∧
    (∃ (t : Nat) (q : State), let s := q.at_ t; s.power.porst = true ∧ s.power.resetN = true ∧ s.power.doff ≠ 3) ∧
    (∃ (t : Nat) (q : State), let s := q.at_ t; s.power.porst = true ∧ s.power.resetN = true ∧ s.power.doff = 3) ∧
    (∃ (t : Nat) (q : State), let s := q.at_ t; s.power.porst = true ∧ s.power.resetN = false) ∧
    (∃ (t : Nat) (q : State), let s := q.at_ t; s.power.coreEn = true ∧ s.power.corePg = false ∧
      s.power.coreEnAt ≤ s.clock.now ∧ (starting s = false ∨ s.overdue (s.power.coreEnAt + 50000000) = false)) ∧
    (∃ (t : Nat) (q : State), let s := q.at_ t; starting s = true ∧ s.power.corePg = false ∧
      s.overdue (s.power.coreEnAt + 50000000) = true) ∧
    (∃ (t : Nat) (q : State), let s := q.at_ t; s.power.corePg = true ∧ s.power.coreEn = false) ∧
    (∃ (t : Nat) (q : State), let s := q.at_ t; s.power.corePg = true ∧ s.power.coreEn = true) ∧
    (∃ (t : Nat) (q : State), let s := q.at_ t; s.power.corePg = true ∧ s.power.thermtrip = false) ∧
    (∃ (t : Nat) (q : State), let s := q.at_ t; s.power.rails = true) :=
  ⟨⟨0, { eng 0 [] with power := { powered with rails := false } }, by decide +kernel⟩,
    ⟨0, State.reset, by decide +kernel⟩,
    ⟨0, eng 0 [], by decide +kernel⟩,
    ⟨0, eng 0 [], by decide +kernel⟩,
    ⟨0, { eng 0 [] with power := { powered with doff := 3 } }, by decide +kernel⟩,
    ⟨0, { eng 0 [] with power := { powered with resetN := false } }, by decide +kernel⟩,
    ⟨0, { eng 0 [] with power := { powered with corePg := false } }, by decide +kernel⟩,
    ⟨0, { eng 50000008 [(Obj.START_KIND, 0)] with power := { powered with stage := 1, corePg := false } }, by decide +kernel⟩,
    ⟨0, { eng 0 [] with power := { powered with coreEn := false } }, by decide +kernel⟩,
    ⟨0, eng 0 [], by decide +kernel⟩,
    ⟨0, eng 0 [], by decide +kernel⟩,
    ⟨0, eng 0 [], by decide +kernel⟩⟩

/-- States and operands that meet the hypotheses of StartCommandsComplete, one for each clause that has any. -/
theorem witness_StartCommandsComplete :
    (∃ (t : Nat) (tests : List SelfTest) (q : State), let s := q.at_ t; s.power.stage = 4 ∧
      (s.rd Obj.START_KIND ≠ 0 ∨ (((List.range 9).zip tests).filter (fun e => !testPasses s e.1 e.2)).length ≤ 1) ∧
      s.coreRuns 0 = true ∧ s.coreRuns 1 = true ∧ startOverdue s = false) ∧
    (∃ (t : Nat) (q : State), let s := q.at_ t; starting s = true ∧ startOverdue s = true) ∧
    (∃ (t : Nat) (q : State), let s := q.at_ t; s.power.stage = 2 ∧ bootSrc s = 0 ∧ bootSlot s = none) ∧
    (∃ (t : Nat) (q : State), let s := q.at_ t; s.power.stage = 2 ∧ bootSrc s = 1 ∧ s.power.hostLen ≠ 0 ∧
      s.power.hostAsked = false ∧ imageState s (hostImage s) ≠ 1) ∧
    (∃ (t : Nat) (q : State), let s := q.at_ t; s.power.stage = 4 ∧ s.rd Obj.START_KIND = 0) ∧
    (∃ (t : Nat) (q : State), let s := q.at_ t; s.rd Obj.DICT_SAVE_PENDING ≠ 0) ∧
    (∃ (t : Nat) (q : State), let s := q.at_ t; s.power.stage = 5 ∧ s.rd Obj.TIME_STATE = 2 ∧
      s.ran s.power.recordAt 600000000000 = true) ∧
    (∃ (t : Nat) (n : Nat) (b : List Byte) (q : State), let s := q.at_ t; s.power.programming = some (n, b)) ∧
    (∃ (t : Nat) (n : Nat) (b : List Byte) (q : State), let s := q.at_ t; s.power.programming = some (n, b)) :=
  ⟨⟨0, [], { eng 0 [(Obj.START_KIND, 1)] with power := { powered with stage := 4 } }, by decide +kernel⟩,
    ⟨0, { eng 60000000008 [(Obj.START_KIND, 0)] with power := { powered with stage := 4 } }, by decide +kernel⟩,
    ⟨0, { eng 0 [(Obj.BOOT_STRAPS, 0)] with power := { powered with stage := 2 } }, by decide +kernel⟩,
    ⟨0, { eng 0 [(Obj.BOOT_STRAPS, 1)] with power := { powered with stage := 2, hostLen := 16777217 } }, by decide +kernel⟩,
    ⟨0, { eng 0 [(Obj.START_KIND, 0)] with power := { powered with stage := 4 } }, by decide +kernel⟩,
    ⟨0, eng 0 [(Obj.DICT_SAVE_PENDING, 1)], by decide +kernel⟩,
    ⟨0, eng 600000000000 [(Obj.TIME_STATE, 2)], by decide +kernel⟩,
    ⟨0, 1, [7], { eng 0 [] with power := { powered with programming := some (1, [7]) } }, by decide +kernel⟩,
    ⟨0, 1, [7], { eng 0 [] with power := { powered with programming := some (1, [7]) } }, by decide +kernel⟩⟩

/-- States and operands that meet the hypotheses of DoffCommandsComplete, one for each clause that has any. -/
theorem witness_DoffCommandsComplete :
    (∃ (t : Nat) (q : State), let s := q.at_ t; s.power.doff = 1 ∧ s.power.stage = 5 ∧ s.power.doffPick ≤ s.clock.pick) ∧
    (∃ (t : Nat) (q : State), let s := q.at_ t; s.power.doff = 2 ∧ s.power.doffFade ≠ 0 ∧ s.ran s.power.doffAt 48000000 = true ∧
      s.power.doffFade + s.msSamples 10 ≤ s.sampleNow) ∧
    (∃ (t : Nat) (q : State), let s := q.at_ t; armed s = true ∧ s.rdN Obj.DOFF_WAKE_TIME ≠ 0 ∧
      time80Ns (s.rdN Obj.DOFF_WAKE_TIME) ≤ s.engineNs) ∧
    (∃ (t : Nat) (n : Fin 4) (q : State), let s := q.at_ t; armed s = true ∧ bit (s.rdN Obj.DOFF_WAKE_IN) n.val = true) ∧
    (∃ (t : Nat) (q : State), let s := q.at_ t; armed s = true ∧ s.on Obj.WAKE_ON_LINK = true) :=
  ⟨⟨0, { eng 0 [] with power := { powered with doff := 1 } }, by decide +kernel⟩,
    ⟨0, { eng 1000000000 [] with power := { powered with doff := 2, doffFade := 1 } }, by decide +kernel⟩,
    ⟨0, { eng 1000000000 [(Obj.DOFF_WAKE_TIME, 1)] with power := { powered with doff := 2 } }, by decide +kernel⟩,
    ⟨0, 3, { eng 0 [(Obj.DOFF_WAKE_IN, 8)] with power := { powered with doff := 3 } }, by decide +kernel⟩,
    ⟨0, { eng 0 [(Obj.WAKE_ON_LINK, 1)] with power := { powered with doff := 3 } }, by decide +kernel⟩⟩

/-- States and operands that meet the hypotheses of AcceptedWritesComplete. -/
theorem witness_AcceptedWritesComplete :
    ∃ (c : Instr) (t : Nat) (w : Writer) (k : Nat) (v : Val) (r : Row) (q : State), let s := q.at_ t; writeOf c = some (t, w, k,
      v) ∧ agentRuns s = true ∧ s.objRow k = some r ∧ writeStatus s w k Status.OK v = Status.OK :=
    ⟨.objectWrite 0 ⟨.mailbox, 0⟩ Obj.SLACK_WARN_PERMILLE (.num 70), 0, ⟨.mailbox, 0⟩, Obj.SLACK_WARN_PERMILLE, .num 70,
      (rowAt (eng 0 []) Obj.SLACK_WARN_PERMILLE), eng 0 [(Obj.HAPOL_AUTH_MAILBOX, 0)], by decide +kernel⟩

/-- States and operands that meet the hypotheses of StepRunsFrontCommand. -/
theorem witness_StepRunsFrontCommand :
    ∃ (c : Instr) (rest : List Instr) (s : State), s.pending = c :: rest :=
    ⟨.slackWarn 0, [], waiting, rfl⟩

/-- States and operands that meet the hypotheses of EmptyQueueIdles. -/
theorem witness_EmptyQueueIdles :
    ∃ (s : State), s.pending = [] :=
    ⟨eng 0 [], by decide +kernel⟩

/-- States and operands that meet the hypotheses of ResetLeavesTheSpecsValues. -/
theorem witness_ResetLeavesTheSpecsValues :
    ∃ (k : Nat) (r : Row), isParam k = false ∧ specialDefault (keyIndex k) (keySub k) = none ∧ rowOf k = some r :=
    ⟨Obj.LOOM_ID, (rowAt State.reset Obj.LOOM_ID), by decide +kernel⟩

/-- States and operands that meet the hypotheses of EveryStepKeepsInvariant. -/
theorem witness_EveryStepKeepsInvariant :
    ∃ s t : State, s.Inv ∧ step s = .next t :=
    ⟨waiting, _, ⟨rfl, rfl⟩, rfl⟩

/-- States and operands that meet the hypotheses of OnlyTheseCommandsWriteCreelMemory. -/
theorem witness_OnlyTheseCommandsWriteCreelMemory :
    ∃ (c : Instr) (s t : State), writesCreelMemory c = false ∧ exec c s = .next t :=
    ⟨.slackWarn 0, State.reset, _, ⟨rfl, rfl⟩⟩

/-- States and operands that meet the hypotheses of LocalTimeNeverRunsBack. -/
theorem witness_LocalTimeNeverRunsBack :
    ∃ (c : Instr) (s t : State), restartsTime c = false ∧ exec c s = .next t :=
    ⟨.slackWarn 5, State.reset, _, ⟨rfl, rfl⟩⟩

/-- States and operands that meet the hypotheses of PickCounterMovesOnlyHere. -/
theorem witness_PickCounterMovesOnlyHere :
    ∃ (c : Instr) (s t : State), movesPick c = false ∧ exec c s = .next t :=
    ⟨.slackWarn 0, State.reset, _, ⟨rfl, rfl⟩⟩

/-- States and operands that meet the hypotheses of SlackThresholdsKeepTheirOrder, one for each clause that has any. -/
theorem witness_SlackThresholdsKeepTheirOrder :
    (∃ (t : Nat) (v : Nat) (q : State), let s := q.at_ t; agentRuns s = true ∧ serves s Obj.SLACK_ALARM_PERMILLE true = true ∧
      20 ≤ v ∧ v ≤ 90 ∧ s.rd Obj.SLACK_WARN_PERMILLE ≤ v) ∧
    (∃ (t : Nat) (v : Nat) (q : State), let s := q.at_ t; agentRuns s = true ∧ serves s Obj.SLACK_WARN_PERMILLE true = true ∧
      30 ≤ v ∧ v ≤ 100 ∧ (v : Int) ≤ s.rd Obj.SLACK_ALARM_PERMILLE) :=
  ⟨⟨0, 90, eng 0 [(Obj.SLACK_WARN_PERMILLE, 90)], by decide +kernel⟩,
    ⟨0, 30, eng 0 [(Obj.SLACK_ALARM_PERMILLE, 30)], by decide +kernel⟩⟩

/-- States and operands that meet the hypotheses of ReferenceThresholdsKeepTheirOrder, one for each clause that has any. -/
theorem witness_ReferenceThresholdsKeepTheirOrder :
    (∃ (t : Nat) (v : Nat) (q : State), let s := q.at_ t; agentRuns s = true ∧ serves s Obj.REF_HARD_PPB true = true ∧
      2000 ≤ v ∧ v ≤ 100000 ∧ (v : Int) ≤ s.rd Obj.REF_SOFT_PPB) ∧
    (∃ (t : Nat) (v : Nat) (q : State), let s := q.at_ t; agentRuns s = true ∧ serves s Obj.REF_SOFT_PPB true = true ∧
      1000 ≤ v ∧ v ≤ 50000 ∧ s.rd Obj.REF_HARD_PPB ≤ v) :=
  ⟨⟨0, 2000, eng 0 [(Obj.REF_SOFT_PPB, 2000)], by decide +kernel⟩,
    ⟨0, 50000, eng 0 [(Obj.REF_HARD_PPB, 50000)], by decide +kernel⟩⟩

/-- States and operands that meet the hypotheses of RefusedWritesChangeNothing. -/
theorem witness_RefusedWritesChangeNothing :
    ∃ (t : Nat) (w : Writer) (k : Nat) (v : Val) (q : State), let s := q.at_ t; agentRuns s = true ∧
      writeStatus s w k Status.OK v ≠ Status.OK :=
    ⟨0, ⟨.mailbox, 0⟩, 0, .num 0, eng 0 [], by decide +kernel⟩

/-- States and operands that meet the hypotheses of UndefinedObjectsAreRefused. -/
theorem witness_UndefinedObjectsAreRefused :
    ∃ (t : Nat) (k : Nat) (q : State), let s := q.at_ t; agentRuns s = true ∧ serves s k true = true ∧ s.objRow k = none :=
    ⟨0, 0, eng 0 [], by decide +kernel⟩

/-- States and operands that meet the hypotheses of AccumulatorAndStore, one for each clause that has any. -/
theorem witness_AccumulatorAndStore :
    (∃ (a : Int) (x : Int) (k : Int), -(2 ^ 79) ≤ a + x * k ∧ a + x * k < 2 ^ 79) ∧
    (∃ (a : Int) (x : Int) (k : Int), 2 ^ 79 ≤ a + x * k) ∧
    (∃ (a : Int) (x : Int) (k : Int), a + x * k < -(2 ^ 79)) ∧
    (∃ (a : Int), -(2 ^ 35) ≤ (a + 2 ^ 30) / 2 ^ 31 ∧ (a + 2 ^ 30) / 2 ^ 31 < 2 ^ 35) ∧
    (∃ (a : Int), 2 ^ 35 ≤ (a + 2 ^ 30) / 2 ^ 31) ∧
    (∃ (a : Int), (a + 2 ^ 30) / 2 ^ 31 < -(2 ^ 35)) :=
  ⟨⟨2 ^ 79 - 2, 1, 1, by decide +kernel⟩,
    ⟨2 ^ 79 - 1, 1, 1, by decide +kernel⟩,
    ⟨-(2 ^ 79), 1, -1, by decide +kernel⟩,
    ⟨2 ^ 66 - 2 ^ 30 - 1, by decide +kernel⟩,
    ⟨2 ^ 66 - 2 ^ 30, by decide +kernel⟩,
    ⟨-(2 ^ 66) - 2 ^ 30 - 1, by decide +kernel⟩⟩

/-- States and operands that meet the hypotheses of PortWordsSurviveTheInterior, one for each clause that has any. -/
theorem witness_PortWordsSurviveTheInterior :
    (∃ (v : Nat), v < 2 ^ 16) ∧
    (∃ (v : Nat), v < 2 ^ 24) ∧
    (∃ (v : Nat), v < 2 ^ 20) :=
  ⟨⟨0xFFFF, by decide +kernel⟩,
    ⟨0xFFFFFF, by decide +kernel⟩,
    ⟨0xFFFFF, by decide +kernel⟩⟩

/-- States and operands that meet the hypotheses of StoredWordsCarryOddParity, one for each clause that has any. -/
theorem witness_StoredWordsCarryOddParity :
    (∃ (v : Nat), v < 2 ^ 36) ∧
    (∃ (v : Nat) (b : Nat), v < 2 ^ 36 ∧ b < 40) :=
  ⟨⟨0xFFFFFFFFF, by decide +kernel⟩,
    ⟨0xFFFFFFFFF, 39, by decide +kernel⟩⟩

/-- States and operands that meet the hypotheses of PrecodingIsUndone, one for each clause that has any. -/
theorem witness_PrecodingIsUndone :
    (∃ (p : Nat) (gs : List Nat), p < 4 ∧ (∀ x ∈ gs, x < 4)) ∧
    (∃ (p : Nat) (x : Nat), p < 4 ∧ x < 4) :=
  ⟨⟨3, [0, 3], by decide +kernel⟩,
    ⟨3, 3, by decide +kernel⟩⟩

/-- States and operands that meet the hypotheses of CreelWordReadsBack, one for each clause that has any. -/
theorem witness_CreelWordReadsBack :
    (∃ (v : Nat), v < 2 ^ 32) ∧
    (∃ (a : Nat) (b : Nat), (b < a ∨ a + 4 ≤ b)) :=
  ⟨⟨0xFFFFFFFF, by decide +kernel⟩,
    ⟨4, 8, by decide +kernel⟩⟩

/-- States and operands that meet the hypotheses of CreelAccessFrame, one for each clause that has any. -/
theorem witness_CreelAccessFrame :
    (∃ (m : Master) (a : Nat) (w : Bool) (b : Nat) (s : State),
      (∀ x, w = true → cellOf s m (a / 4 * 4) = some x → b < x ∨ x + 4 ≤ b)) ∧
    (∃ (k : Nat), k ≠ Obj.CREEL_ERROR_COUNT ∧ isParam k = false) :=
  ⟨⟨.coreA, 0x20000007, true, 0x20000003, State.reset, by
        intro x _ h
        have e : cellOf State.reset .coreA (0x20000007 / 4 * 4) = some 0x20000004 := by decide +kernel
        cases e.symm.trans h
        decide⟩,
    ⟨Obj.LOOM_ID, by decide +kernel⟩⟩

/-- States and operands that meet the hypotheses of CreelRefusesClosedPaths. -/
theorem witness_CreelRefusesClosedPaths :
    ∃ (m : Master) (a : Nat) (w : Bool) (target : Nat) (s : State), targetOf (a / 4 * 4) = some target ∧
      pathOpen s m target w = false :=
    ⟨.agent, 0, true, 0, State.reset, by decide +kernel⟩

/-- States and operands that meet the hypotheses of BootLockHolds. -/
theorem witness_BootLockHolds :
    ∃ (m : Master) (s : State), (s.creel.lock = true ∨ m ≠ .coreA) :=
    ⟨.bridge, State.reset, by decide +kernel⟩

/-- States and operands that meet the hypotheses of ClaimTakesTheWinner. -/
theorem witness_ClaimTakesTheWinner :
    ∃ (s u : State) (target slot : Nat), claim s target = some (u, slot) :=
    ⟨claiming 2, claimed (claiming 2) 2, 2, 0, by decide +kernel⟩

/-- States and operands that meet the hypotheses of ClaimWritesOneRecord. -/
theorem witness_ClaimWritesOneRecord :
    ∃ (s u : State) (target slot pos : Nat) (p : Pend), target < 4 ∧ winner s target = some (pos, p) ∧ claim s target = some (u,
      slot) :=
    ⟨claiming 3, claimed (claiming 3) 3, 3, 0, 0, ⟨3, Ev.SLACK_WARN, 0, 0, false, false, false, false⟩, by decide +kernel⟩

/-- States and operands that meet the hypotheses of HeldSourcesMerge, one for each clause that has any. -/
theorem witness_HeldSourcesMerge :
    (∃ (s : State) (src : Nat) (target : Nat), s.enabled src target = true ∧ s.heddle.pend.any (isPend target src) = true) ∧
    (∃ (s : State) (src : Nat) (target : Nat), s.enabled src target = true ∧ s.heddle.pend.any (isPend target src) = false) ∧
    (∃ (s : State) (n : Nat) (m : Nat), (s.heddle.pend.filter (isPend n m)).length ≤ 1) :=
  ⟨⟨claiming 2, Ev.SLACK_WARN, 2, by decide +kernel⟩,
    ⟨{ claiming 2 with heddle := Heddle.reset }, Ev.SLACK_WARN, 2, by decide +kernel⟩,
    ⟨claiming 2, 2, Ev.SLACK_WARN, by decide +kernel⟩⟩

/-- States and operands that meet the hypotheses of ReleaseFreesLeave. -/
theorem witness_ReleaseFreesLeave :
    ∃ (kind : Nat) (owner : Nat) (k : Nat) (o : Nat), (k ≠ kind ∨ o ≠ owner) :=
    ⟨0, 0, 1, 0, by decide +kernel⟩

/-- States and operands that meet the hypotheses of ResetInputs, one for each clause that has any. -/
theorem witness_ResetInputs :
    (∃ (q : State), q.power.porst = true) ∧
    (∃ (q : State), q.power.porst = true ∧ q.power.resetN = true) :=
  ⟨⟨eng 0 [], by decide +kernel⟩,
    ⟨eng 0 [], by decide +kernel⟩⟩

/-- The worked example of R23: half scale and negative full scale of a 24-bit port. -/
theorem test_enter : (enter 24 0x400000, pattern 36 (enter 24 0x800000)) = (0x4000000, 0xFF8000000) := by decide +kernel

/-- The worked example of R27: the stored words of +1.0 and of zero. -/
theorem test_storedWord : (storedWord 0x008000000, storedWord 0) = (0x0060080200, 0x8020080200) := by decide +kernel

/-- The worked example of R263: Gray levels 3, 2, 1 precoded from P = 0. -/
theorem test_precode : precode 0 [3, 2, 1] = [3, 3, 2] := by decide +kernel

/-- The worked example of R77: slot 0x05 of instance 10,241 is 0x5A00:45. -/
theorem test_paramKey : paramKey 10241 5 = 0x5A0045 := by decide +kernel

/-- The worked example of R310: the default guard is 1.040 ms. -/
theorem test_leaseGuard : leaseG State.reset = 1040000 := by decide +kernel

/-- The published check value, over the octets "123456789", of the CRC of R265: most significant bit first, inverted. -/
theorem test_crc32 : crc32 [0x31, 0x32, 0x33, 0x34, 0x35, 0x36, 0x37, 0x38, 0x39] = 0xFC891918 := by decide +kernel

/-- The first example of FIPS 180-4: SHA-256 of "abc". -/
theorem test_sha256 : (sha256 [0x61, 0x62, 0x63]).take 8 = [0xba, 0x78, 0x16, 0xbf, 0x8f, 0x01, 0xcf, 0xea] := by decide +kernel

/-- What is left of an engine after a command, and what the command put out. -/
def result (c : Instr) (s : State) : State := match exec c s with | .next t => t | _ => s

/-- A mailbox read as in the worked example of chapter 15, of 0x1002:00, the text "B0" that the dictionary gives it. -/
theorem test_read : (result (.read 0 ⟨.mailbox, 0, message 0x10 0 [0x10, 0x02, 0x00, 0x00]⟩) (eng 0 [])).agent.mailbox =
    [[0x01, 0x18, 0x00, 0x0A, 0, 0, 0, 0, 0, 0, 0, 1, 0, 0, 0, 0, 0, 0, 0, 0, 0x10, 0x02, 0x00, 0x0E, 0, 0, 0, 2, 0x42, 0x30]] := by
  decide +kernel

/-- MBX_READ clocks out the length 0x0025 of the reply at the head and then the reply (R381). -/
theorem test_mbxRead : (result (.mbxRead 0 4) { eng 0 [] with
    agent := { Agent.reset with mailbox := [List.replicate 37 0xAA] } }).sent = [.hostPort [0x00, 0x25, 0xAA, 0xAA]] := by
  decide +kernel

/-- The worked example of R400: a voltage step from 0.750 V writes 0.760 V as 0x0C29. -/
theorem test_vout : (commandVout (eng 0 []) 760).sent = [.pmbus 0x21 0x0C29] := by decide +kernel

/-- The worked example of R331: a coil measured at 7.800 ohm against 6.000 ohm at 25 degrees moves the node from 90.00 to 91.13
degrees. -/
theorem test_thPilot : (result (.thPilotMeasure 0 0)
    { eng 0 [(ix Obj.TH_PILOT 0, 1), (ix Obj.TH_RE_REF 0, 6000), (ix Obj.TH_T_REF 0, 2500), (ix Obj.TD_ISENSE_FS_MA 0, 10000),
        (ix Obj.TD_VSENSE_FS_MV 0, 10000)] with
      treadle := { Treadle.reset with
        channels := setAt Treadle.reset.channels 0 { Channel.reset with
          step := 6, coil := 90000000000000, pilot := ⟨78 * 10 ^ 16, 0, 10 ^ 17, 0, 96000⟩ } } }).rd
    (ix Obj.TH_COIL_T 0) = 9113 := by
  decide +kernel

/-- The rise of PORST_N samples the straps and engages the core rail (R423, R426). -/
theorem test_porstNRise : (result (.porstNRise 0 5 none) State.reset).rd Obj.BOOT_STRAPS = 5 := by decide +kernel

/-- A write within the range of its object is stored and answered (R342, R366). -/
theorem test_objectWrite : (result (.objectWrite 0 ⟨.mailbox, 0⟩ Obj.SLACK_WARN_PERMILLE (.num 70)) (eng 0 [])).rd
    Obj.SLACK_WARN_PERMILLE = 70 := by decide +kernel

/-- One below its range is refused and leaves the default of 80 (R40). -/
theorem test_objectWrite_refused : (result (.objectWrite 0 ⟨.mailbox, 0⟩ Obj.SLACK_WARN_PERMILLE (.num 29)) (eng 0 [])).rd
    Obj.SLACK_WARN_PERMILLE = 80 := by decide +kernel

/-- The first command of a run from reset is taken from the front of the queue. -/
theorem test_step : step waiting = exec (.slackWarn 0) State.reset := rfl

end Sys2Proof.Tests
end

section
/-! SUPPORT. One object's write from the command to the answer: which command writes what (R342), and what a refused and an accepted
write do (R350). -/

namespace Sys2Proof
namespace Machine

/-! ## Commands that are writes or messages -/

/-- An object of the n-th unit after the first, by index and sub-index. -/
theorem keyOf_add (i n p : Nat) : keyOf (i + n) p = ix (keyOf i p) n := by
  unfold keyOf ix; omega

/-- A choice between two sub-indices of one unit is a choice between two objects. -/
theorem keyOf_add_ite (i n p p' : Nat) (c : Bool) :
    keyOf (i + n) (if c then p else p') = ix (if c then keyOf i p else keyOf i p') n := by
  cases c <;> exact keyOf_add ..

/-- The commands of writeOf are writes of the object and value that it names. -/
theorem exec_of_writeOf {c : Instr} {t : Nat} {w : Writer} {k : Nat} {v : Val} (h : writeOf c = some (t, w, k, v)) (s : State) :
    exec c s = .next (writeOne t w k v s) := by
  cases c with
  | objectWrite | slackClear | graphCommit | discardEdits | contribSet | twillRequest | ldRun | mtrClear | placeQuiet | timeSet
  | timedCancel | timedCancelTag | tdmConfigWrite | ipAddressWrite | streamWrite | netStatsSnapshot | leaseSwap | tdDiagModeWrite
  | sessionClose | hapolClaim | hapolRelease | hapolClaimBreak | dictRestoreDefaults | outputCountClear | startRequestWarm
  | startRequestCold | doffRequest | fieldLockBlow | oemPwSet | fwImage | fwSecCommit | fwKeyRevoke =>
    cases h; rfl
  -- writes of one unit: exec counts units from the first one's object, writeOf from its index
  | ptpGmDomainWrite | swEnable | swLoopback | swRetrain | acRun | tdClear | tdPwmRateWrite | monClear =>
    cases h; rw [keyOf_add]; rfl
  | spSourceWrite | alignOffsetWrite | tdmMaskWrite | monHistConfigWrite =>
    cases h; rw [keyOf_add_ite]; rfl
  | _ => cases h

/-- The commands of messageOf are messages that the agent receives as the kind that it names. -/
theorem exec_of_messageOf {c : Instr} {t : Nat} {k : Kind} {e : Envelope} (h : messageOf c = some (t, k, e)) (s : State) :
    exec c s = .next (receive t k e s) := by
  cases c with
  | read | write | writeTimed | subscribeValue | subscribeEvents | subscribeRemove | blockWriteBegin | blockWriteData
  | blockReadBegin | blockReadData | blockAbort | debugRequest | debugAnswer | debugPassword | debugClose | notifyAck
  | challengeOpen | challengeProve | challengeClose | forwardedWrite =>
    cases h; rfl
  | _ => cases h

/-! ## A refused write and an accepted one -/

section
variable {s : State} {w : Writer} {k pre : Nat} {v : Val} {r : Row}

/-- An object without a row, in an area that the engine serves, is refused by what its index defines (R340). -/
theorem writeStatus_of_undefined (hs : serves s k true = true) (hr : s.objRow k = none) :
    writeStatus s w k pre v = if isParam k || indexDefined (keyIndex k) then Status.UNKNOWN_SUB else Status.UNKNOWN_INDEX := by
  simp [writeStatus, hs, hr]

theorem writeItem_of_refused (h : writeStatus s w k pre v ≠ Status.OK) :
    writeItem s w k pre v = (s, writeStatus s w k pre v, 0xFF) := by
  simp [writeItem, h]

theorem writeItem_of_accepted (hr : s.objRow k = some r) (h : writeStatus s w k pre v = Status.OK) :
    writeItem s w k pre v = (applyWrite s w k (storedValue k r v), Status.OK, appliedOf s k (storedValue k r v)) := by
  simp [writeItem, h, hr]

/-- A WRITE of one refused item leaves the state, and answers that item's own status and not ATOMIC. -/
theorem writeAll_one_of_refused (h : writeStatus s w k pre v ≠ Status.OK) :
    writeAll s w [(k, pre, v)] = (s, [(writeStatus s w k pre v, 0xFF)]) := by
  simp [writeAll, writeItems, writeItem_of_refused h, h]

theorem writeAll_one_of_accepted (hr : s.objRow k = some r) (h : writeStatus s w k pre v = Status.OK) :
    writeAll s w [(k, pre, v)] =
      (forwardWrite (applyWrite s w k (storedValue k r v)) s [(k, v)], [(Status.OK, appliedOf s k (storedValue k r v))]) := by
  simp [writeAll, writeItems, writeItem_of_accepted hr h]

variable {t : Nat} {q : State}

theorem writeOne_of_refused (ha : agentRuns (q.at_ t) = true) (h : writeStatus (q.at_ t) w k Status.OK v ≠ Status.OK) :
    writeOne t w k v q = (q.at_ t).emit (.answer k (writeStatus (q.at_ t) w k Status.OK v) 0xFF) := by
  simp [writeOne, ha, writeAll_one_of_refused h]

theorem writeOne_of_accepted (ha : agentRuns (q.at_ t) = true) (hr : (q.at_ t).objRow k = some r)
    (h : writeStatus (q.at_ t) w k Status.OK v = Status.OK) :
    writeOne t w k v q = (forwardWrite (applyWrite (q.at_ t) w k (storedValue k r v)) (q.at_ t) [(k, v)]).emit
      (.answer k Status.OK (appliedOf (q.at_ t) k (storedValue k r v))) := by
  simp [writeOne, ha, writeAll_one_of_accepted hr h]

variable {c : Instr}

/-- A refused write, by whatever command, puts out its answer and changes nothing (R340, R350). -/
theorem exec_of_refused (hc : writeOf c = some (t, w, k, v)) (ha : agentRuns (q.at_ t) = true)
    (h : writeStatus (q.at_ t) w k Status.OK v ≠ Status.OK) :
    exec c q = .next ((q.at_ t).emit (.answer k (writeStatus (q.at_ t) w k Status.OK v) 0xFF)) := by
  rw [exec_of_writeOf hc, writeOne_of_refused ha h]

end

/-- Settles O44: an OBJECT_WRITE is such a command. -/
theorem refusedWritesChangeNothing : Obligations.RefusedWritesChangeNothing := by
  intro t w k v q s ha h
  exact exec_of_refused rfl ha h

/-- Settles O45: the second check of R350 fails, whatever is written. -/
theorem undefinedObjectsAreRefused : Obligations.UndefinedObjectsAreRefused := by
  intro t w k v q s ha hs hk
  have e := writeStatus_of_undefined (w := w) (pre := Status.OK) (v := v) hs hk
  have bad : writeStatus s w k Status.OK v ≠ Status.OK := by rw [e]; split <;> decide
  rw [← e]
  exact exec_of_refused rfl ha bad

/-- Settles O32: each of the commands is a write of one item, which the checks accept. -/
theorem acceptedWritesComplete : Obligations.AcceptedWritesComplete := by
  intro c t w k v r q s x hc ha hr h
  rw [exec_of_writeOf hc, writeOne_of_accepted ha hr h]

end Machine
end Sys2Proof
end

section
/-! SUPPORT. What reset leaves (R5): an object that nothing lists reads its default. -/

namespace Sys2Proof
namespace Machine

/-- A value that the dictionary does not list reads as the default, outside the parameter block. -/
theorem getIn_of_unlisted {d : Map Val} {k : Nat} (hd : mapGet d k = none) (hp : isParam k = false) : getIn d k = defaultOf k := by
  simp [getIn, hd, hp]

/-- The default of an object whose row has no exceptions is the row's. -/
theorem defaultOf_of_row {k : Nat} {r : Row} (hs : specialDefault (keyIndex k) (keySub k) = none) (hr : rowOf k = some r) :
    defaultOf k = r.dflt := by
  simp [defaultOf, hs, hr]

theorem rd_reset_of_row {k : Nat} {r : Row} (hp : isParam k = false) (hs : specialDefault (keyIndex k) (keySub k) = none)
    (hr : rowOf k = some r) : State.reset.rd k = Val.int r.dflt := by
  rw [State.rd, getIn_of_unlisted rfl hp, defaultOf_of_row hs hr]

/-- At reset no bobbin holds a record (R393). -/
theorem bobbin_reset (target : Nat) : bobbin State.reset.heddle target = [] := by
  unfold bobbin; split <;> rfl

/-- Settles O36: the fields stand in State.reset, and an empty dictionary reads the defaults of its rows. -/
theorem resetLeavesTheSpecsValues : Obligations.ResetLeavesTheSpecsValues :=
  ⟨rfl, rfl, rfl, rfl, rfl, rfl, bobbin_reset, rfl, rfl, rfl, rfl, rfl, fun _ _ hp hs hr => rd_reset_of_row hp hs hr,
    by decide +kernel⟩

end Machine
end Sys2Proof
end

section
/-! SUPPORT. What every command leaves alone, gathered over the whole of exec from the laws of the single commands. -/

namespace Sys2Proof
namespace Machine

/-- A command that neither may write the creel's memory nor moves the pick counter leaves, from its instant on, the queue, the
creel's memory, local time and the pick counter. -/
theorem exec_kept (c : Instr) (s : State) (hm : writesCreelMemory c = false) (hp : movesPick c = false) :
    ∃ t u, exec c s = .next u ∧ u.kept = (s.at_ t).kept := by
  cases c with
  | objectWrite | slackClear | graphCommit | discardEdits | contribSet | twillRequest | ldRun | mtrClear | placeQuiet | timeSet
  | timedCancel | timedCancelTag | spSourceWrite | alignOffsetWrite | ptpGmDomainWrite | tdmConfigWrite | tdmMaskWrite
  | ipAddressWrite | streamWrite | netStatsSnapshot | swEnable | swLoopback | swRetrain | leaseSwap | acRun | tdClear
  | tdPwmRateWrite | tdDiagModeWrite | sessionClose | hapolClaim | hapolRelease | hapolClaimBreak | dictRestoreDefaults
  | monClear | monHistConfigWrite | outputCountClear | startRequestWarm | startRequestCold | doffRequest | fieldLockBlow
  | oemPwSet | fwImage | fwSecCommit | fwKeyRevoke =>
    exact ⟨_, _, exec_of_writeOf rfl s, writeOne_kept ..⟩
  | read | write | writeTimed | subscribeValue | subscribeEvents | subscribeRemove | blockWriteBegin | blockWriteData
  | blockReadBegin | blockReadData | blockAbort | debugRequest | debugAnswer | debugPassword | debugClose | notifyAck
  | challengeOpen | challengeProve | challengeClose | forwardedWrite =>
    exact ⟨_, _, exec_of_messageOf rfl s, receive_kept ..⟩
  | creelWrite | creelTransaction | creelLockBroken | corePgTimeout | corePgFall | doffLatchSample | powerLoss | porstNFall =>
    cases hm
  | batten | timeStepped | startDone | porstNRise => cases hp
  | taskComplete => exact ⟨_, execTaskComplete_kept ..⟩
  | slackWarn => exact ⟨_, execSlackWarn_kept ..⟩
  | slackWarnClear => exact ⟨_, execSlackWarnClear_kept ..⟩
  | slackAlarmClear => exact ⟨_, execSlackAlarmClear_kept ..⟩
  | compileDone => exact ⟨_, execCompileDone_kept ..⟩
  | graphSwitch => exact ⟨_, execGraphSwitch_kept ..⟩
  | twillDone => exact ⟨_, execTwillDone_kept ..⟩
  | routeFadeEnd => exact ⟨_, execRouteFadeEnd_kept ..⟩
  | routeDeferredApply => exact ⟨_, execRouteDeferredApply_kept ..⟩
  | delayFadeEnd => exact ⟨_, execDelayFadeEnd_kept ..⟩
  | trimRampEnd => exact ⟨_, execTrimRampEnd_kept ..⟩
  | genCrossfadeEnd => exact ⟨_, execGenCrossfadeEnd_kept ..⟩
  | selvRampEnd => exact ⟨_, execSelvRampEnd_kept ..⟩
  | firpLoadDone => exact ⟨_, execFirpLoadDone_kept ..⟩
  | loudnessUpdate => exact ⟨_, execLoudnessUpdate_kept ..⟩
  | reweaveBulkCopyDone => exact ⟨_, execReweaveBulkCopyDone_kept ..⟩
  | reweaveAbandoned => exact ⟨_, execReweaveAbandoned_kept ..⟩
  | faultMoveStart => exact ⟨_, execFaultMoveStart_kept ..⟩
  | mendDrainStart => exact ⟨_, execMendDrainStart_kept ..⟩
  | mendSelfTest => exact ⟨_, execMendSelfTest_kept ..⟩
  | mendSelfTestDone => exact ⟨_, execMendSelfTestDone_kept ..⟩
  | placeQuietEnd => exact ⟨_, execPlaceQuietEnd_kept ..⟩
  | overflowEvict => exact ⟨_, execOverflowEvict_kept ..⟩
  | overflowEvictFailed => exact ⟨_, execOverflowEvictFailed_kept ..⟩
  | guestEvictEnd => exact ⟨_, execGuestEvictEnd_kept ..⟩
  | selvedgeSample => exact ⟨_, execSelvedgeSample_kept ..⟩
  | assessment => exact ⟨_, execAssessment_kept ..⟩
  | refRate => exact ⟨_, execRefRate_kept ..⟩
  | refDisagreeClear => exact ⟨_, execRefDisagreeClear_kept ..⟩
  | refCandQualified => exact ⟨_, execRefCandQualified_kept ..⟩
  | successorPrequalified => exact ⟨_, execSuccessorPrequalified_kept ..⟩
  | refWtrExpired => exact ⟨_, execRefWtrExpired_kept ..⟩
  | refCandLost => exact ⟨_, execRefCandLost_kept ..⟩
  | refSwitched => exact ⟨_, execRefSwitched_kept ..⟩
  | holdover => exact ⟨_, execHoldover_kept ..⟩
  | buildoutSteerDone => exact ⟨_, execBuildoutSteerDone_kept ..⟩
  | slewDone => exact ⟨_, execSlewDone_kept ..⟩
  | timeLocked => exact ⟨_, execTimeLocked_kept ..⟩
  | xoOffsetUpdate => exact ⟨_, execXoOffsetUpdate_kept ..⟩
  | spAcquired => exact ⟨_, execSpAcquired_kept ..⟩
  | spHoldoverOos => exact ⟨_, execSpHoldoverOos_kept ..⟩
  | syncInPulse => exact ⟨_, execSyncInPulse_kept ..⟩
  | alignCheck => exact ⟨_, execAlignCheck_kept ..⟩
  | alignSlewDone => exact ⟨_, execAlignSlewDone_kept ..⟩
  | alignLost => exact ⟨_, execAlignLost_kept ..⟩
  | ptpMessageRx => exact ⟨_, execPtpMessageRx_kept ..⟩
  | ptpMessageTx => exact ⟨_, execPtpMessageTx_kept ..⟩
  | ptpHoldoverClass => exact ⟨_, execPtpHoldoverClass_kept ..⟩
  | portFrame => exact ⟨_, execPortFrame_kept ..⟩
  | clockStop => exact ⟨_, execClockStop_kept ..⟩
  | lockLoss => exact ⟨_, execLockLoss_kept ..⟩
  | portErrorLockLoss => exact ⟨_, execPortErrorLockLoss_kept ..⟩
  | portRelocked => exact ⟨_, execPortRelocked_kept ..⟩
  | portFadeInDone => exact ⟨_, execPortFadeInDone_kept ..⟩
  | nonaudioClear => exact ⟨_, execNonaudioClear_kept ..⟩
  | asrcAcquired => exact ⟨_, execAsrcAcquired_kept ..⟩
  | sampleInstant => exact ⟨_, execSampleInstant_kept ..⟩
  | frameRx => exact ⟨_, execFrameRx_kept ..⟩
  | macLinkUp => exact ⟨_, execMacLinkUp_kept ..⟩
  | macLinkDown => exact ⟨_, execMacLinkDown_kept ..⟩
  | pauseRepeat => exact ⟨_, execPauseRepeat_kept ..⟩
  | controlBufferLow => exact ⟨_, execControlBufferLow_kept ..⟩
  | pfcRepeat => exact ⟨_, execPfcRepeat_kept ..⟩
  | bulkBufferLow => exact ⟨_, execBulkBufferLow_kept ..⟩
  | pauseQuantaExpire => exact ⟨_, execPauseQuantaExpire_kept ..⟩
  | mediaPacketTx => exact ⟨_, execMediaPacketTx_kept ..⟩
  | msRxRestart => exact ⟨_, execMsRxRestart_kept ..⟩
  | msRxSilent => exact ⟨_, execMsRxSilent_kept ..⟩
  | swClockLock => exact ⟨_, execSwClockLock_kept ..⟩
  | swBlockLock => exact ⟨_, execSwBlockLock_kept ..⟩
  | swMarkerLock => exact ⟨_, execSwMarkerLock_kept ..⟩
  | swTrainStepTimeout => exact ⟨_, execSwTrainStepTimeout_kept ..⟩
  | swTrainFailed => exact ⟨_, execSwTrainFailed_kept ..⟩
  | swTrainRetry => exact ⟨_, execSwTrainRetry_kept ..⟩
  | swLinkDown => exact ⟨_, execSwLinkDown_kept ..⟩
  | trainingRestart => exact ⟨_, execTrainingRestart_kept ..⟩
  | alignmentMarker => exact ⟨_, execAlignmentMarker_kept ..⟩
  | alignmentMarkerTx => exact ⟨_, execAlignmentMarkerTx_kept ..⟩
  | trainingBlock => exact ⟨_, execTrainingBlock_kept ..⟩
  | idleBlock => exact ⟨_, execIdleBlock_kept ..⟩
  | audioCut => exact ⟨_, execAudioCut_kept ..⟩
  | bulkBlock => exact ⟨_, execBulkBlock_kept ..⟩
  | testPattern => exact ⟨_, execTestPattern_kept ..⟩
  | swPickDecide => exact ⟨_, execSwPickDecide_kept ..⟩
  | swPickChanged => exact ⟨_, execSwPickChanged_kept ..⟩
  | swEqfUpdate => exact ⟨_, execSwEqfUpdate_kept ..⟩
  | swEqfLow => exact ⟨_, execSwEqfLow_kept ..⟩
  | adaptationBurstEnd => exact ⟨_, execAdaptationBurstEnd_kept ..⟩
  | twinPaired => exact ⟨_, execTwinPaired_kept ..⟩
  | digest => exact ⟨_, execDigest_kept ..⟩
  | twinDigestMissing => exact ⟨_, execTwinDigestMissing_kept ..⟩
  | twinExchangeLost => exact ⟨_, execTwinExchangeLost_kept ..⟩
  | catchupImageDone => exact ⟨_, execCatchupImageDone_kept ..⟩
  | catchupClosing => exact ⟨_, execCatchupClosing_kept ..⟩
  | twinFillDone => exact ⟨_, execTwinFillDone_kept ..⟩
  | twinVerified => exact ⟨_, execTwinVerified_kept ..⟩
  | catchupRestart => exact ⟨_, execCatchupRestart_kept ..⟩
  | leaseMessageTx => exact ⟨_, execLeaseMessageTx_kept ..⟩
  | leaseRenew => exact ⟨_, execLeaseRenew_kept ..⟩
  | leaseStandby => exact ⟨_, execLeaseStandby_kept ..⟩
  | leaseHandover => exact ⟨_, execLeaseHandover_kept ..⟩
  | selvedgeState => exact ⟨_, execSelvedgeState_kept ..⟩
  | leaseRelease => exact ⟨_, execLeaseRelease_kept ..⟩
  | leaseTaken => exact ⟨_, execLeaseTaken_kept ..⟩
  | takePick => exact ⟨_, execTakePick_kept ..⟩
  | leaseDrill => exact ⟨_, execLeaseDrill_kept ..⟩
  | singularReadback => exact ⟨_, execSingularReadback_kept ..⟩
  | tdStart => exact ⟨_, execTdStart_kept ..⟩
  | tdRelayClose => exact ⟨_, execTdRelayClose_kept ..⟩
  | tdContactsSettled => exact ⟨_, execTdContactsSettled_kept ..⟩
  | tdDcTestMeasure => exact ⟨_, execTdDcTestMeasure_kept ..⟩
  | tdTestRampDownDone => exact ⟨_, execTdTestRampDownDone_kept ..⟩
  | tdSequenceGainDone => exact ⟨_, execTdSequenceGainDone_kept ..⟩
  | tdStop => exact ⟨_, execTdStop_kept ..⟩
  | tdGainRampDownDone => exact ⟨_, execTdGainRampDownDone_kept ..⟩
  | tdRelayOpen => exact ⟨_, execTdRelayOpen_kept ..⟩
  | tdRelayReleased => exact ⟨_, execTdRelayReleased_kept ..⟩
  | tdOvercurrent => exact ⟨_, execTdOvercurrent_kept ..⟩
  | tdShort => exact ⟨_, execTdShort_kept ..⟩
  | tdRelayHot => exact ⟨_, execTdRelayHot_kept ..⟩
  | tdRetry => exact ⟨_, execTdRetry_kept ..⟩
  | tdGainRecover => exact ⟨_, execTdGainRecover_kept ..⟩
  | tdOcFailsReset => exact ⟨_, execTdOcFailsReset_kept ..⟩
  | tdSenseFault => exact ⟨_, execTdSenseFault_kept ..⟩
  | tdSenseRelayDrop => exact ⟨_, execTdSenseRelayDrop_kept ..⟩
  | tdSenseRecover => exact ⟨_, execTdSenseRecover_kept ..⟩
  | tdRailFault => exact ⟨_, execTdRailFault_kept ..⟩
  | tdRailRecover => exact ⟨_, execTdRailRecover_kept ..⟩
  | thPilotMeasure => exact ⟨_, execThPilotMeasure_kept ..⟩
  | acTestDone => exact ⟨_, execAcTestDone_kept ..⟩
  | notifyPeriod => exact ⟨_, execNotifyPeriod_kept ..⟩
  | notifyTimeout => exact ⟨_, execNotifyTimeout_kept ..⟩
  | blockIdle => exact ⟨_, execBlockIdle_kept ..⟩
  | debugExpiry => exact ⟨_, execDebugExpiry_kept ..⟩
  | debugLockoutEnd => exact ⟨_, execDebugLockoutEnd_kept ..⟩
  | debugCoreHalt => exact ⟨_, execDebugCoreHalt_kept ..⟩
  | tapInstruction => exact ⟨_, execTapInstruction_kept ..⟩
  | sessionIdle => exact ⟨_, execSessionIdle_kept ..⟩
  | dictSave => exact ⟨_, execDictSave_kept ..⟩
  | writeCfg => exact ⟨_, execWriteCfg_kept ..⟩
  | readStatus => exact ⟨_, execReadStatus_kept ..⟩
  | creelRead => exact ⟨_, execCreelRead_kept ..⟩
  | mbxWrite => exact ⟨_, execMbxWrite_kept ..⟩
  | mbxRead => exact ⟨_, execMbxRead_kept ..⟩
  | evtRead => exact ⟨_, execEvtRead_kept ..⟩
  | readId => exact ⟨_, execReadId_kept ..⟩
  | bootCtrlWrite => exact ⟨_, execBootCtrlWrite_kept ..⟩
  | bootImageLen => exact ⟨_, execBootImageLen_kept ..⟩
  | crlDdrSegWrite => exact ⟨_, execCrlDdrSegWrite_kept ..⟩
  | coreRestarted => exact ⟨_, execCoreRestarted_kept ..⟩
  | coreRestartDone => exact ⟨_, execCoreRestartDone_kept ..⟩
  | filteredLevelChange => exact ⟨_, execFilteredLevelChange_kept ..⟩
  | hedClaim => exact ⟨_, execHedClaim_kept ..⟩
  | bobbinClaim => exact ⟨_, execBobbinClaim_kept ..⟩
  | letoffOverrun => exact ⟨_, execLetoffOverrun_kept ..⟩
  | letoffMaxWait => exact ⟨_, execLetoffMaxWait_kept ..⟩
  | readVout => exact ⟨_, execReadVout_kept ..⟩
  | readIout => exact ⟨_, execReadIout_kept ..⟩
  | statusWord => exact ⟨_, execStatusWord_kept ..⟩
  | pmbAlertN => exact ⟨_, execPmbAlertN_kept ..⟩
  | vcoreNotSettled => exact ⟨_, execVcoreNotSettled_kept ..⟩
  | vcoreStepDown => exact ⟨_, execVcoreStepDown_kept ..⟩
  | pmbusRetry => exact ⟨_, execPmbusRetry_kept ..⟩
  | thermtrip => exact ⟨_, execThermtrip_kept ..⟩
  | agingHour => exact ⟨_, execAgingHour_kept ..⟩
  | scrubWord => exact ⟨_, execScrubWord_kept ..⟩
  | scrubBurst => exact ⟨_, execScrubBurst_kept ..⟩
  | powerUp => exact ⟨_, execPowerUp_kept ..⟩
  | resetNFall => exact ⟨_, execResetNFall_kept ..⟩
  | resetNRise => exact ⟨_, execResetNRise_kept ..⟩
  | corePgRise => exact ⟨_, execCorePgRise_kept ..⟩
  | startTimeout => exact ⟨_, execStartTimeout_kept ..⟩
  | retainedRecordWrite => exact ⟨_, execRetainedRecordWrite_kept ..⟩
  | doffEntry => exact ⟨_, execDoffEntry_kept ..⟩
  | wakeTimer => exact ⟨_, execWakeTimer_kept ..⟩
  | wakeIn => exact ⟨_, execWakeIn_kept ..⟩
  | wakeCpLink => exact ⟨_, execWakeCpLink_kept ..⟩
  | fwProgrammed => exact ⟨_, execFwProgrammed_kept ..⟩
  | startFailed => exact ⟨_, execStartFailed_kept ..⟩
  | ptpAnnounceTimeout => exact ⟨_, execPtpAnnounceTimeout_kept ..⟩
  | debugCoreResume => exact ⟨_, execDebugCoreResume_kept ..⟩

/-- The queue at a command's instant is the one that the command finds. -/
theorem pending_of_kept {s u : State} {t : Nat} (h : u.kept = (s.at_ t).kept) : u.pending = s.pending :=
  (kept_parts h).1

theorem exec_pending_of_kept {c : Instr} {s : State} (hm : writesCreelMemory c = false) (hp : movesPick c = false) :
    ∃ u, exec c s = .next u ∧ u.pending = s.pending := by
  obtain ⟨t, h⟩ := exec_kept c s hm hp
  exact h.imp fun _ => And.imp_right pending_of_kept

/-- Settles O38: by the laws of the commands; those that `exec_kept` leaves out keep the queue by their own. -/
theorem everyCommandCompletes : Obligations.EveryCommandCompletes := by
  intro c s
  cases c with
  | batten => exact (execBatten_forward ..).imp fun _ => And.imp_right And.left
  | timeStepped => exact (execTimeStepped_timely ..).imp fun _ => And.imp_right And.left
  | startDone => exact (execStartDone_timely ..).imp fun _ => And.imp_right And.left
  | creelWrite => exact (execCreelWrite_steady ..).imp fun _ => And.imp_right And.left
  | creelTransaction => exact (execCreelTransaction_steady ..).imp fun _ => And.imp_right And.left
  | creelLockBroken => exact (execCreelLockBroken_steady ..).imp fun _ => And.imp_right And.left
  | corePgTimeout => exact (execCorePgTimeout_steady ..).imp fun _ => And.imp_right And.left
  | corePgFall => exact (execCorePgFall_steady ..).imp fun _ => And.imp_right And.left
  | doffLatchSample => exact (execDoffLatchSample_steady ..).imp fun _ => And.imp_right And.left
  | porstNRise => exact (execPorstNRise_sound ..).imp fun _ => And.imp_right And.left
  | porstNFall => exact (execPorstNFall_sound ..).imp fun _ => And.imp_right And.left
  | powerLoss => exact (execPowerLoss_sound ..).imp fun _ => And.imp_right And.left
  | _ => exact exec_pending_of_kept rfl rfl

end Machine
end Sys2Proof
end

section
/-! SUPPORT. What a conditional effect and a repeated one come to, and what is read of the dictionary after an event (R384, R391). -/

namespace Sys2Proof
namespace Machine

/-- An effect whose condition holds comes about. -/
theorem State.whenever_of {s : State} {c : Bool} {f : State → State} (h : c = true) : s.whenever c f = f s := by
  rw [h, State.whenever_true]

/-- A measure that each turn leaves is left by the whole (`State.each`). -/
theorem State.each_leaves {α β : Type} (g : State → β) {xs : List α} {f : State → α → State} {s : State}
    (h : ∀ u, ∀ x ∈ xs, g (f u x) = g u) : g (s.each xs f) = g s := by
  induction xs generalizing s with
  | nil => rfl
  | cons x xs ih =>
    rw [State.each_cons, ih fun u y hy => h u y (List.mem_cons_of_mem _ hy), h s x List.mem_cons_self]

/-- Whether leave is held is read of the governor alone. -/
theorem State.granted_congr {s u : State} (h : s.governor = u.governor) {kind owner : Nat} :
    s.granted kind owner = u.granted kind owner := by rw [State.granted, h, State.granted]

/-! ## What is read of the dictionary after an event -/

section
variable {k : Nat}

/-- Of the dictionary an occurrence changes no more than the source's count of merged occurrences (R391). -/
theorem State.rd_occur_ne {src : Nat} (s : State) (arg target : Nat) (h : k ≠ ix Obj.EVT_SRC_MERGED src) (p : isParam k = false) :
    (s.occur src arg target).rd k = s.rd k := by
  unfold State.occur
  split
  · rfl
  · split
    · exact State.rd_bump_ne _ _ _ _ h p
    · rfl

theorem State.rd_raise_ne {src : Nat} (s : State) (arg : Nat) (h : k ≠ ix Obj.EVT_SRC_MERGED src) (p : isParam k = false) :
    (s.raise src arg).rd k = s.rd k :=
  State.each_leaves (State.rd · k) fun u target _ => u.rd_occur_ne arg target h p

theorem State.rd_rise_ne {src : Nat} (s : State) (unit arg : Nat) (h : k ≠ ix Obj.EVT_SRC_MERGED src) (p : isParam k = false) :
    (s.rise src unit arg).rd k = s.rd k := by
  unfold State.rise
  dsimp only
  split
  · rfl
  · split
    · rfl
    · split
      · exact State.rd_raise_ne _ _ h p
      · rfl

theorem State.rd_level_ne {src : Nat} (s : State) (unit arg : Nat) (on : Bool) (h : k ≠ ix Obj.EVT_SRC_MERGED src)
    (p : isParam k = false) : (s.level src unit arg on).rd k = s.rd k := by
  cases on with
  | false => exact State.rd_congr (State.fall_dict ..) k
  | true => exact s.rd_rise_ne _ _ h p

end

end Machine
end Sys2Proof
end

section
/-! SUPPORT. Which commands reach the creel's memory (R15, R369, R425): what `exec_kept` leaves out, gathered. -/

namespace Sys2Proof
namespace Machine

/-- The rise of PORST_N starts engine time and a start anew, and leaves the creel's memory (R423, R425). -/
theorem execPorstNRise_creelMem (t straps : Nat) (flash : Option (List Byte × List Byte)) (s : State) :
    ∃ u, execPorstNRise t straps flash s = .next u ∧ u.creel.mem = s.creel.mem := by
  unfold execPorstNRise
  refine ⟨_, rfl, whenever_ind (R := fun u : State => u.creel.mem = s.creel.mem) ?_ rfl⟩
  dsimp only
  rw [(kept_parts (releaseReset_kept _ 0 100000)).2.1]
  cases flash <;> rfl

/-- A command that neither may write the creel's memory nor moves the pick counter leaves that memory. -/
theorem exec_creelMem_of_kept {c : Instr} {s : State} (hm : writesCreelMemory c = false) (hp : movesPick c = false) :
    ∃ u, exec c s = .next u ∧ u.creel.mem = s.creel.mem := by
  obtain ⟨t, u, hu, hk⟩ := exec_kept c s hm hp
  obtain ⟨-, hmem, -, -⟩ := kept_parts hk
  exact ⟨u, hu, hmem⟩

/-- A command that may not write the creel's memory completes and leaves it, the four that move the pick counter by laws of their own. -/
theorem exec_creelMem (c : Instr) (s : State) (hm : writesCreelMemory c = false) :
    ∃ u, exec c s = .next u ∧ u.creel.mem = s.creel.mem := by
  cases c with
  | batten => exact (execBatten_forward ..).imp fun _ ⟨hu, _, hmem, _⟩ => ⟨hu, hmem⟩
  | timeStepped => exact (execTimeStepped_timely ..).imp fun _ ⟨hu, _, hmem, _⟩ => ⟨hu, hmem⟩
  | startDone => exact (execStartDone_timely ..).imp fun _ ⟨hu, _, hmem, _⟩ => ⟨hu, hmem⟩
  | porstNRise => exact execPorstNRise_creelMem ..
  | powerLoss | porstNFall => cases hm
  | _ => exact exec_creelMem_of_kept hm rfl

/-- Settles O39: a command has one outcome, and the one that `exec_creelMem` gives has the same memory. -/
theorem onlyTheseCommandsWriteCreelMemory : Obligations.OnlyTheseCommandsWriteCreelMemory := by
  intro c s t hm ht
  obtain ⟨u, hu, hmem⟩ := exec_creelMem c s hm
  cases hu.symm.trans ht
  exact hmem

end Machine
end Sys2Proof
end

section
/-! SUPPORT. The batten, task completion and slack events (R18, R37 to R42). -/

namespace Sys2Proof
namespace Machine

/-! ## The batten -/

/-- A batten in service leaves, of what is kept, all but what its opening moves: local time and the pick counter (R30, R135). -/
theorem execBatten_kept {env : BattenEnv} {s : State} (h : s.inService = true) :
    ∃ u, execBatten env s = .next u ∧ u.kept = (openBatten (s.at_ 0)).kept := by
  have hs : (s.at_ 0).inService = true := h
  unfold execBatten
  refine ⟨_, rfl, ?_⟩
  dsimp only
  rw [hs, State.whenever_true, leaveBatten_kept, sampleSubs_kept, prune_kept, ite_kept, serveQueue_kept, ite_self, doffFades_kept,
    readAll_kept, unitsAtBatten_kept, changesAndMoves_kept, closeSlots_kept, takeGrouping_kept, releaseCloth_kept, judgeDeadline_kept,
    handsOver_kept]

/-! ## Task completion -/

/-- The finish time of a completed task is recorded for its shuttle and its deadline, which the record does not move (R37). -/
theorem mem_finish_finishAt (v : State) (n pick : Nat) :
    let u := v.finishAt (v.shuttleOf n) (v.deadline n pick)
    (u.shuttleOf n, v.clock.now, u.deadline n pick) ∈ u.fabric.finish :=
  List.mem_append_right _ (List.mem_singleton_self _)

section
variable {t : Nat} {q : State} {w : Work}

/-- A task that can complete is computed, which takes no local time, and then finishes (R42). -/
theorem execTaskComplete_finishes {e : Elem} (f : TaskFaults) (hw : (q.at_ t).workOf (elemNo e) = some w)
    (hs : (q.at_ t).power.stage = 5) (hc : (q.at_ t).canComplete (elemNo e) w = true) :
    ∃ v : State, v.kept = (q.at_ t).kept ∧
      execTaskComplete t e f q = .next (v.finishAt (v.shuttleOf (elemNo e)) (v.deadline (elemNo e) w.next)) := by
  simp only [execTaskComplete, hw, hs, hc, decide_true, Bool.and_self, State.whenever_true]
  refine ⟨_, ?_, rfl⟩
  cases e <;> simp

/-- A bus that meets no fault is computed and finishes, and nothing else happens. -/
theorem execTaskComplete_of_clean_bus {b : Nat} (tier : Nat) (hw : (q.at_ t).workOf (65536 + b) = some w)
    (hs : (q.at_ t).power.stage = 5) (hc : (q.at_ t).canComplete (65536 + b) w = true)
    (hr : (q.at_ t).badReads ((q.at_ t).copyFor w) (65536 + b) w.next = 0) :
    execTaskComplete t (.bus b) ⟨[], tier, 0, false⟩ q =
      .next ((((q.at_ t).computeBus b w).finishAt (((q.at_ t).computeBus b w).shuttleOf (65536 + b))
        (((q.at_ t).computeBus b w).deadline (65536 + b) w.next))) := by
  simp only [execTaskComplete, elemNo, hw, hs, hc, decide_true, Bool.and_self, State.whenever_true, State.upsets, State.each_nil, hr,
    State.parityMet, if_true]

end

/-! ## The deadline commands together -/

/-- Settles O1: the batten by what its opening moves, the others by what their commands do once their conditions hold. -/
theorem deadlineCommandsComplete : Obligations.DeadlineCommandsComplete := by
  refine ⟨fun env q h => ?batten, fun t e f w q hw hs hc => ?task, fun t b tier w q hw hs hc hr => ?bus, fun t q h => ?warn,
    fun t q h => ?warnClear, fun t q h => ?alarmClear⟩
  case batten =>
    obtain ⟨u, hu, hk⟩ := execBatten_kept (env := env) h
    obtain ⟨hqueue, hmem, hnow, hpick⟩ := kept_parts hk
    obtain ⟨oqueue, omem, onow⟩ := openBatten_parts (q.at_ 0)
    exact ⟨u, hu, hpick, hqueue.trans oqueue, hmem.trans omem, hnow ▸ (Nat.le_max_left _ _).trans onow⟩
  case task =>
    obtain ⟨v, hk, hv⟩ := execTaskComplete_finishes f hw hs hc
    obtain ⟨-, -, hnow, -⟩ := kept_parts hk
    exact ⟨_, hv, hnow ▸ mem_finish_finishAt v (elemNo e) w.next⟩
  case bus => exact execTaskComplete_of_clean_bus tier hw hs hc hr
  -- the slack events answer the state that their condition leads to
  case warn | warnClear | alarmClear => exact congrArg Host.Outcome.next (State.whenever_of (decide_eq_true h))

end Machine
end Sys2Proof
end

section
/-! SUPPORT. The mending rotation (R118, R120, R409 to R415). -/

namespace Sys2Proof
namespace Machine

/-! ## What the shown values of the placement leave -/

@[simp] theorem showBudgets_fabric (s : State) : (showBudgets s).fabric = s.fabric := by
  unfold showBudgets
  dsimp only
  rw [State.wr_fabric, State.wr_fabric]
  exact State.each_leaves State.fabric fun u sh _ => u.wr_fabric ..

@[simp] theorem showBudgets_governor (s : State) : (showBudgets s).governor = s.governor := by
  unfold showBudgets
  dsimp only
  rw [State.wr_governor, State.wr_governor]
  exact State.each_leaves State.governor fun u sh _ => u.wr_governor ..

@[simp] theorem showReserve_fabric (s : State) : (showReserve s).fabric = s.fabric := State.level_fabric ..
@[simp] theorem showReserve_governor (s : State) : (showReserve s).governor = s.governor := State.level_governor ..

@[simp] theorem agingAhead_fabric (s : State) (shs : List Nat) : (agingAhead s shs).fabric = s.fabric :=
  State.each_leaves State.fabric fun u _ _ => u.raise_fabric ..

@[simp] theorem agingAhead_governor (s : State) (shs : List Nat) : (agingAhead s shs).governor = s.governor :=
  State.each_leaves State.governor fun u _ _ => u.raise_governor ..

theorem lt_of_mem_shuttlesOf {s : State} {h sh : Nat} (m : sh ∈ shuttlesOf s h) : sh < 54 :=
  List.mem_range.1 (List.mem_of_mem_filter m)

/-! ## The objects that show a self-test's result -/

/-- An object that shows a harness's state or the result of its latest self-test (R410). -/
def ShowsHarness (k : Nat) : Prop := ∃ h < 9, k = Obj.HARNESS_STATE + h ∨ k = Obj.MEND_RESULT + h

section
variable {k : Nat} (hk : ShowsHarness k)
include hk

/-- Where those objects lie: sub-indices 1 to 9 of two indices. -/
theorem ShowsHarness.bounds : 0x480201 ≤ k ∧ k < 0x48020A ∨ 0xA04301 ≤ k ∧ k < 0xA0430A := by
  obtain ⟨h, hh, e⟩ := hk
  simp only [Obj.HARNESS_STATE, Obj.MEND_RESULT] at e
  omega

theorem ShowsHarness.not_param : isParam k = false := by
  have := hk.bounds
  simp only [isParam, beq_eq_false_iff_ne]
  omega

/-- No event of R383 counts its merged occurrences there. -/
theorem ShowsHarness.ne_merged {src : Nat} (h : src < 0x200) : k ≠ ix Obj.EVT_SRC_MERGED src := by
  have := hk.bounds
  simp only [ix, Obj.EVT_SRC_MERGED]
  omega

theorem ShowsHarness.rd_raise {src : Nat} (s : State) (arg : Nat) (h : src < 0x200) : (s.raise src arg).rd k = s.rd k :=
  s.rd_raise_ne arg (hk.ne_merged h) hk.not_param

/-- A write below those two indices or between them is not read there. -/
theorem ShowsHarness.rd_wr {j : Nat} (s : State) (v : Int) (hj : j < 0x480201 ∨ 0x48020A ≤ j ∧ j < 0xA04301) :
    (s.wr j v).rd k = s.rd k := by
  refine s.rd_wr_ne _ _ _ ?_ hk.not_param
  have := hk.bounds
  omega

theorem ShowsHarness.rd_rating {sh : Nat} (s : State) (v : Int) (h : sh < 54) : (s.wr (Obj.SHUTTLE_RATING + sh) v).rd k = s.rd k :=
  hk.rd_wr s v (by simp only [Obj.SHUTTLE_RATING]; omega)

theorem ShowsHarness.rd_budget {sh : Nat} (s : State) (v : Int) (h : sh < 54) : (s.wr (Obj.SHUTTLE_BUDGET + sh) v).rd k = s.rd k :=
  hk.rd_wr s v (by simp only [Obj.SHUTTLE_BUDGET]; omega)

theorem ShowsHarness.rd_showReserve (s : State) : (showReserve s).rd k = s.rd k :=
  s.rd_level_ne _ _ _ (hk.ne_merged (by decide)) hk.not_param

theorem ShowsHarness.rd_showBudgets (s : State) : (showBudgets s).rd k = s.rd k := by
  unfold showBudgets
  dsimp only
  rw [hk.rd_wr _ _ (by decide), hk.rd_wr _ _ (by decide)]
  exact State.each_leaves (State.rd · k) fun u sh m => hk.rd_budget u _ (List.mem_range.1 m)

end

/-! ## The end of a self-test -/

/-- A harness that passed its self-test becomes the reserve (R410). -/
def mendPassed (h : Nat) (s : State) : State :=
  (((setHarness s h 1).wr (Obj.MEND_RESULT + h) 1).wr Obj.RESERVE_HARNESS (h : Nat)).raise Ev.MEND_PASSED h

/-- A harness that failed its self-test at a shuttle is withdrawn and retired, with shuttles rated 0 (R117, R118, R410). -/
def mendFailed (h : Nat) (shs : List Nat) (bad : Nat) (s : State) : State :=
  let s := (setHarness s h 4).wr (Obj.MEND_RESULT + h) 2
  let s := s.wr Obj.RETIRED_HARNESSES (setBit (s.rdN Obj.RETIRED_HARNESSES) h true : Nat)
  let s := s.each shs (fun s sh => s.wr (Obj.SHUTTLE_RATING + sh) 0)
  let s := if s.rdN Obj.RESERVE_HARNESS = h then s.wr Obj.RESERVE_HARNESS 0xFF else s
  s.raise Ev.MEND_FAILED (arg2 h bad)

/-- The end of a self-test clears the mending and its leave, and then passes or fails the harness (R118, R410). -/
theorem execMendSelfTestDone_cases {t : Nat} {h : Fin 9} (r : SelfTest) {q : State} (hm : (q.at_ t).fabric.mending = some h.val)
    (ho : (q.at_ t).fabric.oldRatings ≠ []) :
    ∃ v : State, v.fabric.mending = none ∧ v.fabric.oldRatings = [] ∧ v.granted 6 h.val = false ∧
      (execMendSelfTestDone t h r q = .next (showReserve (showBudgets (mendPassed h.val v))) ∨
        ∃ bad, execMendSelfTestDone t h r q =
          .next (showReserve (showBudgets (mendFailed h.val (shuttlesOf (q.at_ t) h.val) bad v)))) := by
  have hc : ((q.at_ t).fabric.mending == some h.val && !(q.at_ t).fabric.oldRatings.isEmpty) = true := by
    rw [hm, beq_self_eq_true, Bool.true_and, Bool.not_eq_true', List.isEmpty_eq_false_iff]
    exact ho
  unfold execMendSelfTestDone
  extract_lets s hv
  rw [State.whenever_of hc]
  extract_lets shs rated good filtered f released dated v passed bad w w1 w2 w3 u
  have hf : v.fabric = released.fabric := (agingAhead_fabric dated shs).trans (State.wr_fabric ..)
  have hg : v.governor = released.governor := (agingAhead_governor dated shs).trans (State.wr_governor ..)
  refine ⟨v, congrArg Fabric.mending hf, congrArg Fabric.oldRatings hf, ?_, ?_⟩
  · rw [State.granted_congr hg]
    exact State.release_granted ..
  · by_cases pass : good.length = shs.length
    · have hu : u = mendPassed h.val v := if_pos pass
      exact .inl (hu ▸ rfl)
    · have hu : u = mendFailed h.val shs bad v := if_neg pass
      exact .inr ⟨bad, hu ▸ rfl⟩

section
variable (h bad : Nat) (shs : List Nat) (s : State)

@[simp] theorem mendPassed_fabric : (mendPassed h s).fabric = s.fabric := State.raise_fabric ..
@[simp] theorem mendPassed_governor : (mendPassed h s).governor = s.governor := State.raise_governor ..

@[simp] theorem mendFailed_fabric : (mendFailed h shs bad s).fabric = s.fabric := by
  unfold mendFailed
  dsimp only
  rw [State.raise_fabric, apply_ite State.fabric, State.wr_fabric, ite_self, State.each_leaves State.fabric fun u sh _ => u.wr_fabric ..]
  rfl

@[simp] theorem mendFailed_governor : (mendFailed h shs bad s).governor = s.governor := by
  unfold mendFailed
  dsimp only
  rw [State.raise_governor, apply_ite State.governor, State.wr_governor, ite_self,
    State.each_leaves State.governor fun u sh _ => u.wr_governor ..]
  rfl

end

theorem state_ne_result (h : Nat) : Obj.HARNESS_STATE + h ≠ Obj.MEND_RESULT + h := by
  simp only [Obj.HARNESS_STATE, Obj.MEND_RESULT]
  omega

section
variable {h : Nat} (hh : h < 9)
include hh

theorem showsHarness_state : ShowsHarness (Obj.HARNESS_STATE + h) := ⟨h, hh, .inl rfl⟩
theorem showsHarness_result : ShowsHarness (Obj.MEND_RESULT + h) := ⟨h, hh, .inr rfl⟩

/-- The state and the result of a self-test, as written. -/
theorem rd_harness_written (s : State) (st : Nat) (result : Int) :
    ((setHarness s h st).wr (Obj.MEND_RESULT + h) result).rd (Obj.MEND_RESULT + h) = result ∧
      ((setHarness s h st).wr (Obj.MEND_RESULT + h) result).rd (Obj.HARNESS_STATE + h) = st :=
  ⟨State.rd_wr_same .., (State.rd_wr_ne _ _ _ _ (state_ne_result h) (showsHarness_state hh).not_param).trans (State.rd_wr_same ..)⟩

/-- What is shown of budgets and the reserve leaves a harness's state and result. -/
theorem rd_shown {s : State} {result st : Int} (r : s.rd (Obj.MEND_RESULT + h) = result ∧ s.rd (Obj.HARNESS_STATE + h) = st) :
    (showReserve (showBudgets s)).rd (Obj.MEND_RESULT + h) = result ∧
      (showReserve (showBudgets s)).rd (Obj.HARNESS_STATE + h) = st := by
  have leaves {k : Nat} (hk : ShowsHarness k) : (showReserve (showBudgets s)).rd k = s.rd k :=
    (hk.rd_showReserve _).trans (hk.rd_showBudgets s)
  rwa [leaves (showsHarness_result hh), leaves (showsHarness_state hh)]

theorem rd_mendPassed (s : State) :
    (mendPassed h s).rd (Obj.MEND_RESULT + h) = 1 ∧ (mendPassed h s).rd (Obj.HARNESS_STATE + h) = 1 := by
  have leaves {k : Nat} (hk : ShowsHarness k) : (mendPassed h s).rd k = ((setHarness s h 1).wr (Obj.MEND_RESULT + h) 1).rd k := by
    rw [mendPassed, hk.rd_raise _ _ (by decide), hk.rd_wr _ _ (by decide)]
  rw [leaves (showsHarness_result hh), leaves (showsHarness_state hh)]
  exact rd_harness_written hh s 1 1

theorem rd_mendFailed {shs : List Nat} (hs : ∀ sh ∈ shs, sh < 54) (bad : Nat) (s : State) :
    (mendFailed h shs bad s).rd (Obj.MEND_RESULT + h) = 2 ∧ (mendFailed h shs bad s).rd (Obj.HARNESS_STATE + h) = 4 := by
  have leaves {k : Nat} (hk : ShowsHarness k) :
      (mendFailed h shs bad s).rd k = ((setHarness s h 4).wr (Obj.MEND_RESULT + h) 2).rd k := by
    unfold mendFailed
    dsimp only
    rw [hk.rd_raise _ _ (by decide), apply_ite (State.rd · k), hk.rd_wr _ _ (by decide), ite_self,
      State.each_leaves (State.rd · k) fun u sh m => hk.rd_rating u 0 (hs sh m), hk.rd_wr _ _ (by decide)]
  rw [leaves (showsHarness_result hh), leaves (showsHarness_state hh)]
  exact rd_harness_written hh s 4 2

end

/-! ## The start of a drain -/

/-- The harness that leads the order and can be drained is chosen, and leave is asked for it (R120). -/
theorem chooseDrain_of_drainable {s : State} {h : Nat} {order : List Nat} (ho : order.head? = some h) (hd : drainable s h = true) :
    (chooseDrain s order).fabric.mending = some h ∧ (chooseDrain s order).asking 6 h = true := by
  obtain ⟨rest, rfl⟩ := List.head?_eq_some_iff.1 ho
  simp [chooseDrain, hd]

/-- Where an item is stored rests, of the state, on the dictionary alone (R105, R106). -/
theorem putItem_congr {s u : State} (e : s.dict = u.dict) (sh : Nat) (x : Stores) (it : Holding) (tiers : List Nat) :
    putItem s sh x it tiers = putItem u sh x it tiers := by
  have fitted : ddrWords s = ddrWords u := by rw [ddrWords, State.rdN, State.rd_congr e, ddrWords, State.rdN]
  have within (y : Stores) : withinStores s y = withinStores u y := by rw [withinStores, fitted, withinStores]
  have home : s.harness sh = u.harness sh := congrArg Int.toNat (State.rd_congr e _)
  induction tiers generalizing it with
  | nil => rfl
  | cons tier rest ih => simp only [putItem, within, home, ih]

theorem storeItems_congr {s u : State} (e : s.dict = u.dict) (sh : Nat) (items : List (Holding × List Nat)) (x : Stores)
    (out : List Holding) : storeItems s sh items x out = storeItems u sh items x out := by
  induction items generalizing x out with
  | nil => rfl
  | cons it rest ih => simp only [storeItems, putItem_congr e, ih]

/-- A state whose mending interval began at an instant. -/
def mendFrom (at_ : Nat) (s : State) : State := { s with fabric := { s.fabric with mendAt := at_ } }

theorem itemsAt_mendFrom (at_ : Nat) (s : State) (i dst : Nat) : itemsAt (mendFrom at_ s) i dst = itemsAt s i dst := by
  unfold itemsAt
  dsimp only
  rw [storeItems_congr (s := mendFrom at_ s) (u := s) rfl]
  rfl

theorem targets_mendFrom (at_ : Nat) (s : State) : targets (mendFrom at_ s) = targets s := by
  funext i avoid
  simp only [targets, itemsAt_mendFrom]
  rfl

/-- When the mending interval began says nothing of which harness can be drained. -/
theorem drainable_mendFrom (at_ : Nat) (s : State) (h : Nat) : drainable (mendFrom at_ s) h = drainable s h := by
  unfold drainable
  rw [targets_mendFrom]
  rfl

section
variable {t : Nat} {q : State}

/-- In service a run interval starts anew and a harness of the mending order is chosen, outside quiet periods (R101, R120, R409). -/
theorem execMendDrainStart_chooses (he : (q.at_ t).on Obj.MEND_ENABLE = true)
    (hr : (q.at_ t).ran (q.at_ t).fabric.mendAt ((q.at_ t).rdN Obj.MEND_INTERVAL_S * 1000000000 / 9) = true)
    (hm : (q.at_ t).fabric.mending = none) (hq : (q.at_ t).fabric.quietUntil ≤ (q.at_ t).clock.now) (hs : (q.at_ t).inService = true) :
    let s := q.at_ t
    let step := s.rdN Obj.MEND_INTERVAL_S * 1000000000 / 9
    execMendDrainStart t q =
      .next (chooseDrain (mendFrom (s.fabric.mendAt + (s.clock.now - s.fabric.mendAt) / max 1 step * step) s) (mendOrder s)) := by
  refine congrArg Host.Outcome.next (State.whenever_of ?_)
  rw [he, hr, hm, decide_eq_true hq, hs]
  rfl

/-- A harness that may be tested is tested, and its shuttles' ratings are noted (R118, R410). -/
theorem execMendSelfTest_tests {h : Fin 9}
    (hst : (q.at_ t).harnessState h.val = 2 ∨
      (q.at_ t).harnessState h.val = 4 ∧ bit ((q.at_ t).rdN Obj.RETIRED_HARNESSES) h.val = false)
    (he : empty (q.at_ t) h.val = true) (hg : (q.at_ t).granted 6 h.val = true) :
    let s := q.at_ t
    let ratings := (shuttlesOf s h.val).map (fun sh => (sh, s.rdN (Obj.SHUTTLE_RATING + sh)))
    let u := { s with fabric := { s.fabric with mending := some h.val, oldRatings := ratings } }
    execMendSelfTest t h q = .next (if s.harnessState h.val = 2 then setHarness u h.val 3 else u) := by
  refine congrArg Host.Outcome.next (State.whenever_of ?_)
  rw [he, hg, Bool.and_true, Bool.and_true]
  rcases hst with e | ⟨e, hb⟩
  · rw [e]; rfl
  · rw [e, hb]; rfl

end

/-- Settles O7: the interval by the choice of a drain, the self-test by its start, and its end by the two results. -/
theorem mendingCommandsComplete : Obligations.MendingCommandsComplete := by
  refine ⟨fun t q he hr hm hq hs => ?interval, fun t h q he hr hm hq hs ho hd => ?drain, fun t h q hst he hg => ?test,
    fun t h q hst hb he hg => ?withdrawn, fun t h r q hm ho => ?done⟩
  case interval => exact execMendDrainStart_chooses he hr hm hq hs
  case drain =>
    exact ⟨_, execMendDrainStart_chooses he hr hm hq hs, chooseDrain_of_drainable ho ((drainable_mendFrom ..).trans hd)⟩
  case test =>
    have hu := execMendSelfTest_tests (.inl hst) he hg
    exact ⟨_, hu.trans (congrArg Host.Outcome.next (if_pos hst)), rfl, State.rd_wr_same ..⟩
  case withdrawn =>
    have hu := execMendSelfTest_tests (.inr ⟨hst, hb⟩) he hg
    have two : (q.at_ t).harnessState h.val ≠ 2 := by rw [hst]; decide
    exact ⟨_, hu.trans (congrArg Host.Outcome.next (if_neg two)), rfl, rfl, rfl⟩
  case done =>
    obtain ⟨v, hv, hold, hgrant, hu | ⟨bad, hu⟩⟩ := execMendSelfTestDone_cases r hm ho
    · exact ⟨_, hu, by simp [hv], by simp [hold], (State.granted_congr (by simp)).trans hgrant,
        .inl (rd_shown h.isLt (rd_mendPassed h.isLt v))⟩
    · have hs : ∀ sh ∈ shuttlesOf (q.at_ t) h.val, sh < 54 := fun _ => lt_of_mem_shuttlesOf
      exact ⟨_, hu, by simp [hv], by simp [hold], (State.granted_congr (by simp)).trans hgrant,
        .inr (rd_shown h.isLt (rd_mendFailed h.isLt hs bad v))⟩

end Machine
end Sys2Proof
end

section
/-! SUPPORT. Which commands move the pick counter (R30, R136, R425, R430): what `exec_kept` leaves out, gathered. -/

namespace Sys2Proof
namespace Machine

/-- The pick counter at a command's instant is the one that the command finds. -/
theorem pick_of_steady {s u : State} {t : Nat} (h : Steady (s.at_ t) u) : u.clock.pick = s.clock.pick := by
  obtain ⟨-, -, hpick, -⟩ := h
  exact hpick

/-- A command that neither may write the creel's memory nor moves the pick counter leaves that counter. -/
theorem exec_pick_of_kept {c : Instr} {s : State} (hm : writesCreelMemory c = false) (hp : movesPick c = false) :
    ∃ u, exec c s = .next u ∧ u.clock.pick = s.clock.pick := by
  obtain ⟨t, u, hu, hk⟩ := exec_kept c s hm hp
  obtain ⟨-, -, -, hpick⟩ := kept_parts hk
  exact ⟨u, hu, hpick⟩

/-- A command that does not move the pick counter completes and leaves it, the six that may write the creel's memory as steady ones. -/
theorem exec_pick (c : Instr) (s : State) (hp : movesPick c = false) : ∃ u, exec c s = .next u ∧ u.clock.pick = s.clock.pick := by
  cases c with
  | creelWrite => exact (execCreelWrite_steady ..).imp fun _ => And.imp_right pick_of_steady
  | creelTransaction => exact (execCreelTransaction_steady ..).imp fun _ => And.imp_right pick_of_steady
  | creelLockBroken => exact (execCreelLockBroken_steady ..).imp fun _ => And.imp_right pick_of_steady
  | corePgTimeout => exact (execCorePgTimeout_steady ..).imp fun _ => And.imp_right pick_of_steady
  | corePgFall => exact (execCorePgFall_steady ..).imp fun _ => And.imp_right pick_of_steady
  | doffLatchSample => exact (execDoffLatchSample_steady ..).imp fun _ => And.imp_right pick_of_steady
  | powerLoss | porstNFall => cases hp
  | _ => exact exec_pick_of_kept rfl hp

/-- Settles O41: a command has one outcome, and the one that `exec_pick` gives has the same pick counter. -/
theorem pickCounterMovesOnlyHere : Obligations.PickCounterMovesOnlyHere := by
  intro c s t hp ht
  obtain ⟨u, hu, hpick⟩ := exec_pick c s hp
  cases hu.symm.trans ht
  exact hpick

end Machine
end Sys2Proof
end

section
/-! SUPPORT. Samples on their way through the engine: the accumulator and the store (R25, R26), port words (R22 to R24), and the
pick (R30). -/

namespace Sys2Proof
namespace Machine

/-! ## The accumulator and the store -/

section
variable {n x : Int}

/-- Saturation to -n to n - 1 leaves what lies there (R25, R26). -/
theorem clip_of_mem (lo : -n ≤ x) (hi : x < n) : max (-n) (min (n - 1) x) = x := by omega

theorem clip_of_le (hn : 0 < n) (h : n ≤ x) : max (-n) (min (n - 1) x) = n - 1 := by omega

theorem clip_of_lt (h : x < -n) : max (-n) (min (n - 1) x) = -n := by omega

end

/-- Settles O46: the accumulator is clipped with n = 2^79, the rounded and shifted sum of a store with n = 2^35. -/
theorem accumulatorAndStore : Obligations.AccumulatorAndStore :=
  ⟨fun _ _ _ => clip_of_mem, fun _ _ _ => clip_of_le (by decide), fun _ _ _ => clip_of_lt,
    fun _ => clip_of_mem, fun _ => clip_of_le (by decide), fun _ => clip_of_lt⟩

/-! ## Port words -/

/-- The two's-complement reading of a word is its value or its value less 2^w, and lies in the w-bit range. -/
theorem signed_cases {w v : Nat} (h : v < 2 ^ w) (hw : 0 < w) :
    (signed w v = v ∨ signed w v = v - 2 ^ w) ∧ -(2 ^ (w - 1)) ≤ signed w v ∧ signed w v < 2 ^ (w - 1) := by
  obtain ⟨n, rfl⟩ : ∃ n, w = n + 1 := ⟨w - 1, by omega⟩
  simp only [signed, Nat.mod_eq_of_lt h, Nat.add_sub_cancel, ← Nat.cast_ofNat (R := Int), ← Nat.cast_pow]
  rw [← Int.natCast_mod, Nat.mod_eq_of_lt h]
  rw [pow_succ] at *
  split <;> omega

/-- A word's two's-complement reading, in a pattern with n bits more below it, is the word with n zeros below it. -/
theorem pattern_signed_mul {w v : Nat} (n : Nat) (h : v < 2 ^ w) (hw : 0 < w) :
    pattern (w + n) (signed w v * 2 ^ n) = v * 2 ^ n := by
  have mod : signed w v * 2 ^ n % 2 ^ (w + n) = (v * 2 ^ n : Nat) % 2 ^ (w + n) := by
    obtain ⟨e | e, -⟩ := signed_cases h hw
    · rw [e]; push_cast; rfl
    · rw [e, sub_mul, ← pow_add, Int.sub_emod_right]; push_cast; rfl
  have lt : v * 2 ^ n < 2 ^ (w + n) := by
    rw [pow_add]
    exact Nat.mul_lt_mul_of_pos_right h (Nat.two_pow_pos n)
  rw [pattern, mod]
  exact_mod_cast Nat.mod_eq_of_lt lt

/-- A sample that a port of w bits holds, shifted to the interior, leaves the port as it is: rounding adds nothing and no limit is
met (R23). -/
theorem leave_shifted {w : Nat} {x : Int} (hw : w < 28) (lo : -(2 ^ (w - 1)) ≤ x) (hi : x < 2 ^ (w - 1)) :
    leave w (x * 2 ^ (28 - w)) = x := by
  have narrow : w ≠ 32 := by omega
  have round : (x * 2 ^ (28 - w) + 2 ^ (28 - w - 1)) / 2 ^ (28 - w) = x := by
    obtain ⟨n, hn⟩ : ∃ n, 28 - w = n + 1 := ⟨27 - w, by omega⟩
    have pos : (0 : Int) < 2 ^ n := by positivity
    rw [hn, Nat.add_sub_cancel, pow_succ, Int.add_comm, Int.add_mul_ediv_right _ _ (by omega),
      Int.ediv_eq_zero_of_lt (by omega) (by omega), Int.zero_add]
  simp only [leave, narrow, if_false, round]
  exact clip_of_mem lo hi

/-- A port word comes back from the interior, but for the widths 20 and 32, which R22 and R23 treat apart. -/
theorem pattern_leave_enter {w v : Nat} (h : v < 2 ^ w) (hw : 0 < w) (narrow : w < 28) (ne : w ≠ 20) :
    pattern w (leave w (enter w v)) = v := by
  obtain ⟨-, lo, hi⟩ := signed_cases h hw
  have shifted : enter w v = signed w v * 2 ^ (28 - w) := by
    have ne' : w ≠ 32 := by omega
    simp only [enter, ne, ne', if_false]
  rw [shifted, leave_shifted narrow lo hi]
  simpa using pattern_signed_mul 0 h hw

/-- Settles O47: a word enters as its reading shifted to the interior, and 20 bits enter as a 24-bit word with 4 zeros below. -/
theorem portWordsSurviveTheInterior : Obligations.PortWordsSurviveTheInterior := by
  refine ⟨fun v h => pattern_leave_enter h (by decide) (by decide) (by decide),
    fun v h => pattern_leave_enter h (by decide) (by decide) (by decide), fun v h => ?_⟩
  obtain ⟨-, lo, hi⟩ := signed_cases h (by decide)
  have wide : enter 20 v = signed 20 v * 2 ^ 4 * 2 ^ (28 - 24) := by simp only [enter]; omega
  rw [wide, leave_shifted (by decide) (by omega) (by omega)]
  exact pattern_signed_mul 4 h (by decide)

/-! ## The pick -/

/-- Settles O60: both tables, code by code. -/
theorem pickLengths : Obligations.PickLengths := ⟨rfl, rfl⟩

end Machine
end Sys2Proof
end

section
/-! SUPPORT. Writes that break a relation with another object (R350, R485), and the slack thresholds (R39). -/

namespace Sys2Proof
namespace Machine

/-! ## A write that only its relations refuse -/

section
variable {s : State} {w : Writer} {k : Nat} {v : Val} {r : Row} {st : Nat}

/-- The row of an object outside the parameter block is the table's, where the table has one (R339). -/
theorem objRow_of_row (hp : isParam k = false) (hr : rowOf k = some r) : s.objRow k = some r := by
  simp [State.objRow, hp, hr]

/-- A write of a writable object in form and range that breaks a relation is answered by that relation (R350). -/
theorem writeStatus_of_relation (hs : serves s k true = true) (hr : s.objRow k = some r)
    (hw : (r.access != .ro && !readOnlyUnit k) = true) (hv : valueStatus s k r v = Status.OK)
    (hst : relation s (s.wrV k (storedValue k r v)) w k (storedValue k r v) = st) (bad : st ≠ Status.OK) :
    writeStatus s w k Status.OK v = st := by
  have typed : (Status.OK != Status.TYPE_MISMATCH) = true := by decide
  simp [writeStatus, hs, hr, hv, hw, hst, typed, firstBad, need, bad]

/-- A refused write is answered with the status that the checks are known to give (R340, R350). -/
theorem exec_of_writeStatus {c : Instr} {t : Nat} {q : State} (hc : writeOf c = some (t, w, k, v)) (ha : agentRuns (q.at_ t) = true)
    (hst : writeStatus (q.at_ t) w k Status.OK v = st) (bad : st ≠ Status.OK) :
    exec c q = .next ((q.at_ t).emit (.answer k st 0xFF)) := by
  subst hst
  exact exec_of_refused hc ha bad

/-- A number in the range of its U16 row passes the checks of the row. -/
theorem rowStatus_u16 {i j p p' : Nat} {a : Access} {d : Val} {lo hi x : Int} (hx : 0 ≤ x ∧ x < 65536) (hlo : lo ≤ x)
    (hhi : x ≤ hi) :
    rowStatus ⟨i, j, p, p', .u16, a, d, .between lo hi⟩ (.num x) = Status.OK := by
  simp [rowStatus, Ty.octets, formOk, Ty.signed, Ty.size, inRange, hx, hlo, hhi]

end

/-! ## The slack thresholds -/

section
variable {s n : State} {w : Writer} {k : Nat}

/-- The two objects of which one may not reach the other (R39). -/
def SlackThreshold (k : Nat) : Prop := k = Obj.SLACK_WARN_PERMILLE ∨ k = Obj.SLACK_ALARM_PERMILLE

/-- The relation of the thresholds is broken when the alarm would stand at the warning or above (R39). -/
theorem relation_slack (hk : SlackThreshold k) (v : Val) (h : n.rd Obj.SLACK_WARN_PERMILLE ≤ n.rd Obj.SLACK_ALARM_PERMILLE) :
    relation s n w k v = Status.CONFLICT := by
  have order : decide (n.rd Obj.SLACK_ALARM_PERMILLE < n.rd Obj.SLACK_WARN_PERMILLE) = false := decide_eq_false (by omega)
  have agent : relation s n w k v = relAgent s n w k (Val.int v).toNat := by
    rcases hk with rfl | rfl <;> rfl
  rw [agent, relAgent, order]
  rcases hk with rfl | rfl <;> rfl

/-- A write of a threshold in its range that would leave the alarm at the warning or above is in conflict (R39). -/
theorem writeStatus_slack {i : Nat} {d : Val} {lo hi : Int} {v : Nat} (hk : SlackThreshold k)
    (hr : rowOf k = some ⟨i, i, 0, 0, .u16, .rws, d, .between lo hi⟩) (hs : serves s k true = true) (hv : v < 65536)
    (hlo : lo ≤ v) (hhi : v ≤ hi) (h : (s.wr k v).rd Obj.SLACK_WARN_PERMILLE ≤ (s.wr k v).rd Obj.SLACK_ALARM_PERMILLE) :
    writeStatus s w k Status.OK (.num v) = Status.CONFLICT := by
  have row : rowStatus ⟨i, i, 0, 0, .u16, .rws, d, .between lo hi⟩ (.num v) = Status.OK := rowStatus_u16 (by omega) hlo hhi
  have stored : storedValue k ⟨i, i, 0, 0, .u16, .rws, d, .between lo hi⟩ (.num v) = .num v := by
    rcases hk with rfl | rfl <;> rfl
  refine writeStatus_of_relation hs (objRow_of_row ?_ hr) ?_ ?_ (by rw [stored]; exact relation_slack hk _ h) (by decide)
  · rcases hk with rfl | rfl <;> rfl
  · rcases hk with rfl | rfl <;> rfl
  · rw [valueStatus, row]
    rcases hk with rfl | rfl <;> rfl

end

theorem rowOf_slackAlarm :
    rowOf Obj.SLACK_ALARM_PERMILLE = some ⟨0x4818, 0x4818, 0, 0, .u16, .rws, .num 50, .between 20 90⟩ := by decide +kernel

theorem rowOf_slackWarn :
    rowOf Obj.SLACK_WARN_PERMILLE = some ⟨0x4817, 0x4817, 0, 0, .u16, .rws, .num 80, .between 30 100⟩ := by decide +kernel

/-- Settles O42: the threshold that is written reads the new value, and the other one reads as before. -/
theorem slackThresholdsKeepTheirOrder : Obligations.SlackThresholdsKeepTheirOrder := by
  refine ⟨fun t w v q ha hs hlo hhi h => ?alarm, fun t w v q ha hs hlo hhi h => ?warn⟩
  case alarm =>
    have order : ((q.at_ t).wr Obj.SLACK_ALARM_PERMILLE v).rd Obj.SLACK_WARN_PERMILLE ≤
        ((q.at_ t).wr Obj.SLACK_ALARM_PERMILLE v).rd Obj.SLACK_ALARM_PERMILLE := by
      rwa [State.rd_wr_same, State.rd_wr_ne _ _ _ _ (by decide) (by decide)]
    exact exec_of_writeStatus rfl ha
      (writeStatus_slack (.inr rfl) rowOf_slackAlarm hs (by omega) (by omega) (by omega) order) (by decide)
  case warn =>
    have order : ((q.at_ t).wr Obj.SLACK_WARN_PERMILLE v).rd Obj.SLACK_WARN_PERMILLE ≤
        ((q.at_ t).wr Obj.SLACK_WARN_PERMILLE v).rd Obj.SLACK_ALARM_PERMILLE := by
      rwa [State.rd_wr_same, State.rd_wr_ne _ _ _ _ (by decide) (by decide)]
    exact exec_of_writeStatus rfl ha
      (writeStatus_slack (.inl rfl) rowOf_slackWarn hs (by omega) (by omega) (by omega) order) (by decide)

end Machine
end Sys2Proof
end

section
/-! SUPPORT. Stored words: four bytes of 9 data bits and an odd-parity bit (R27, R28). -/

namespace Sys2Proof
namespace Machine

/-! ## Counting ones -/

/-- The ones of the low n + 1 bits are those of the low n bits and bit n. -/
theorem ones_succ (n v : Nat) : ones (n + 1) v = ones n v + v / 2 ^ n % 2 := by
  induction n generalizing v with
  | zero => simp [ones]
  | succ n ih =>
    have e := ih (v / 2)
    rw [Nat.div_div_eq_div_mul, ← pow_succ'] at e
    rw [ones, e, ones]
    omega

/-- The bits from n up do not count. -/
theorem ones_mod (n v : Nat) : ones n (v % 2 ^ n) = ones n v := by
  induction n generalizing v with
  | zero => rfl
  | succ n ih =>
    have low : v % 2 ^ (n + 1) % 2 = v % 2 := Nat.mod_mod_of_dvd v ⟨2 ^ n, pow_succ' 2 n⟩
    have high : v % 2 ^ (n + 1) / 2 = v / 2 % 2 ^ n := by rw [pow_succ', Nat.mod_mul_right_div_self]
    simp only [ones, low, high, ih]

/-- A change of one of the bits that count changes the parity of their ones. -/
theorem ones_xor_two_pow {n i : Nat} (h : i < n) (v : Nat) : ones n (v ^^^ 2 ^ i) % 2 = (ones n v + 1) % 2 := by
  induction n generalizing v i with
  | zero => omega
  | succ n ih =>
    rw [ones, ones, Nat.xor_div_two, Nat.add_mod, Nat.xor_mod_two_eq]
    cases i with
    | zero => simp; omega
    | succ i =>
      have e := ih (Nat.lt_of_succ_lt_succ h) (v / 2)
      rw [pow_succ, Nat.mul_div_cancel _ two_pos]
      omega

/-! ## One byte -/

theorem withParity_lt (b : Nat) : withParity b < 1024 := by
  unfold withParity
  split <;> omega

theorem withParity_data (b : Nat) : withParity b % 512 = b % 512 := by
  unfold withParity
  split <;> omega

/-- The parity bit makes the number of ones odd. -/
theorem ones_withParity (b : Nat) : ones 10 (withParity b) % 2 = 1 := by
  have data : ones 9 (withParity b) = ones 9 b := by
    rw [← ones_mod 9, ← ones_mod 9 b]
    exact congrArg (ones 9) (withParity_data b)
  rw [ones_succ, data]
  unfold withParity
  split <;> omega

/-! ## The four bytes of a word -/

/-- Byte j holds the j-th 9 bits with their parity. -/
theorem storedWord_byte (v : Nat) {j : Nat} (h : j < 4) : storedWord v / 2 ^ (10 * j) % 2 ^ 10 = withParity (v / 2 ^ (9 * j)) := by
  have lt := withParity_lt
  have h0 := lt v
  have h1 := lt (v / 512)
  have h2 := lt (v / 2 ^ 18)
  have h3 := lt (v / 2 ^ 27)
  unfold storedWord
  interval_cases j <;> simp only [Nat.reduceMul, Nat.reducePow, Nat.div_one] at * <;> omega

theorem storedWord_data (v : Nat) {j : Nat} (h : j < 4) : storedWord v / 2 ^ (10 * j) % 512 = v / 2 ^ (9 * j) % 512 := by
  rw [← withParity_data (v / 2 ^ (9 * j)), ← storedWord_byte v h]
  exact (Nat.mod_mod_of_dvd _ (by decide)).symm

/-- A word is clean when each of its bytes has odd parity (R27). -/
theorem storedClean_iff (w : Nat) : storedClean w = true ↔ ∀ j < 4, ones 10 (w / 2 ^ (10 * j)) % 2 = 1 := by
  simp only [storedClean, Bool.and_eq_true, beq_iff_eq, Nat.forall_lt_succ_right, Nat.not_lt_zero, false_imp_iff, implies_true, true_and,
    Nat.mul_zero, Nat.pow_zero, Nat.div_one, Nat.reduceMul]

theorem storedClean_storedWord (v : Nat) : storedClean (storedWord v) = true := by
  refine (storedClean_iff _).2 fun j h => ?_
  rw [← ones_mod, storedWord_byte v h, ones_withParity]

/-- A number of 36 bits is the sum of its four digits of 9 bits. -/
theorem sum_digits {v : Nat} (h : v < 2 ^ 36) :
    v % 512 + v / 512 % 512 * 512 + v / 2 ^ 18 % 512 * 2 ^ 18 + v / 2 ^ 27 % 512 * 2 ^ 27 = v := by
  have third : v / 2 ^ 18 = v / 512 / 512 := by omega
  have fourth : v / 2 ^ 27 = v / 512 / 512 / 512 := by omega
  rw [third, fourth]
  omega

theorem storedData_storedWord {v : Nat} (h : v < 2 ^ 36) : storedData (storedWord v) = v := by
  have digit {j : Nat} (hj : j < 4) := storedWord_data v hj
  have d0 : storedWord v % 512 = v % 512 := by simpa using digit (j := 0) (by decide)
  have d1 : storedWord v / 2 ^ 10 % 512 = v / 512 % 512 := digit (j := 1) (by decide)
  have d2 : storedWord v / 2 ^ 20 % 512 = v / 2 ^ 18 % 512 := digit (j := 2) (by decide)
  have d3 : storedWord v / 2 ^ 30 % 512 = v / 2 ^ 27 % 512 := digit (j := 3) (by decide)
  rw [storedData, d0, d1, d2, d3, sum_digits h]

/-- In a clean word the change of one bit leaves its byte with even parity (R28). -/
theorem storedClean_xor_two_pow {w b : Nat} (hw : storedClean w = true) (hb : b < 40) : storedClean (w ^^^ 2 ^ b) = false := by
  have inside : b / 10 < 4 := by omega
  have bit : 2 ^ b / 2 ^ (10 * (b / 10)) = 2 ^ (b % 10) := by
    rw [Nat.pow_div (Nat.mul_div_le b 10) two_pos, ← Nat.mod_eq_sub]
  have odd := (storedClean_iff w).mp hw (b / 10) inside
  have even : ones 10 ((w ^^^ 2 ^ b) / 2 ^ (10 * (b / 10))) % 2 = 0 := by
    rw [Nat.xor_div_two_pow, bit, ones_xor_two_pow (Nat.mod_lt b (by decide))]
    omega
  refine Bool.eq_false_iff.2 fun clean => ?_
  have odd' := (storedClean_iff _).1 clean (b / 10) inside
  omega

/-- Settles O48: byte by byte, and a changed bit by the byte that it lies in. -/
theorem storedWordsCarryOddParity : Obligations.StoredWordsCarryOddParity :=
  ⟨fun v h => ⟨storedClean_storedWord v, storedData_storedWord h⟩,
    fun v _ _ hb => storedClean_xor_two_pow (storedClean_storedWord v) hb⟩

end Machine
end Sys2Proof
end

section
/-! SUPPORT. Reweave moves, quiet periods and guests (R42, R101, R107 to R116, R125 to R127). -/

namespace Sys2Proof
namespace Machine

/-! ## The parts of the state in which placement stands -/

/-- The graph, the fabric and the governor: what the objects of placement show. -/
def State.placing (s : State) : Graph × Fabric × Governor := (s.graph, s.fabric, s.governor)

/-- A state whose parts of placement are known has each of them. -/
theorem placing_parts {s : State} {g : Graph} {f : Fabric} {v : Governor} (h : s.placing = (g, f, v)) :
    s.graph = g ∧ s.fabric = f ∧ s.governor = v := by
  simpa [State.placing] using h

section
variable (s : State)

@[simp] theorem State.wr_placing (k : Nat) (v : Int) : (s.wr k v).placing = s.placing := rfl
@[simp] theorem State.bump_placing (k n : Nat) : (s.bump k n).placing = s.placing := rfl
@[simp] theorem State.flag_placing (n : Nat) : (s.flag n).placing = s.placing := rfl
@[simp] theorem State.raise_placing (src arg : Nat) : (s.raise src arg).placing = s.placing := by simp [State.placing]

@[simp] theorem showPlanLoad_placing : (showPlanLoad s).placing = s.placing := by
  unfold showPlanLoad
  dsimp only
  rw [State.wr_placing, State.wr_placing]
  exact State.each_leaves State.placing fun u sh _ => u.wr_placing ..

@[simp] theorem showTier_placing (i : Nat) : (showTier s i).placing = s.placing := rfl
@[simp] theorem showStores_placing : (showStores s).placing = s.placing := by
  unfold showStores
  dsimp only
  rw [State.wr_placing, State.wr_placing, State.wr_placing]

@[simp] theorem showMoves_placing : (showMoves s).placing = s.placing := rfl
@[simp] theorem showGuests_placing : (showGuests s).placing = s.placing := rfl

/-! ## Moves and placements -/

/-- The plan in which an object stands elsewhere, with new items in place of those that it leaves behind (R105, R110, R112). -/
def relocated (p : Plan) (i dst : Nat) (items : List Holding) : Plan :=
  let leaves := fun (it : Holding) => it.inst == i && (decide (54 ≤ dst) || decide (it.tier < 3))
  { p with place := mapSet p.place i dst, items := p.items.filter (fun it => !leaves it) ++ items }

/-- An object stands where it was placed. -/
theorem place_relocated (p : Plan) (i dst : Nat) (items : List Holding) (d : Nat) : mapGetD (relocated p i dst items).place i d = dst := by
  simp [mapGetD, relocated]

theorem relocate_placing (i dst : Nat) (items : List Holding) :
    (relocate s i dst items).1.placing = ({ s.graph with plan := relocated s.graph.plan i dst items }, s.fabric, s.governor) := by
  unfold relocate
  dsimp only
  rw [showTier_placing, State.wr_placing, showPlanLoad_placing]
  rfl

/-- What is taken out of the moves leaves the others (R111). -/
theorem dropMove_moves (m : Move) : (dropMove s m).fabric.moves = s.fabric.moves.filter (fun x => !(x == m)) := by
  unfold dropMove
  dsimp only
  split <;> rfl

theorem rd_wr_abandoned {k : Nat} (h : Obj.REWEAVE_ABANDONED ≠ k) (v : Int) :
    (s.wr k v).rd Obj.REWEAVE_ABANDONED = s.rd Obj.REWEAVE_ABANDONED :=
  s.rd_wr_ne _ _ _ h (by decide)

/-- What is shown of the stores, of moves and of leave is not the count of abandoned moves. -/
theorem rd_showStores_abandoned : (showStores s).rd Obj.REWEAVE_ABANDONED = s.rd Obj.REWEAVE_ABANDONED := by
  unfold showStores
  dsimp only
  rw [rd_wr_abandoned _ (by decide), rd_wr_abandoned _ (by decide), rd_wr_abandoned _ (by decide)]

theorem rd_takeOut_abandoned (p : Move → Bool) : (takeOut s p).rd Obj.REWEAVE_ABANDONED = s.rd Obj.REWEAVE_ABANDONED := by
  unfold takeOut
  rw [rd_showStores_abandoned, showMoves, rd_wr_abandoned _ (by decide)]
  exact State.rd_congr rfl _

theorem rd_release_abandoned (kind owner : Nat) : (s.release kind owner).rd Obj.REWEAVE_ABANDONED = s.rd Obj.REWEAVE_ABANDONED := by
  unfold State.release
  dsimp only
  rw [rd_wr_abandoned _ (by decide), rd_wr_abandoned _ (by decide)]
  exact State.rd_congr rfl _

/-- Dropping a move does not count it (R111). -/
theorem rd_dropMove_abandoned (m : Move) : (dropMove s m).rd Obj.REWEAVE_ABANDONED = s.rd Obj.REWEAVE_ABANDONED := by
  unfold dropMove
  dsimp only
  rw [apply_ite (State.rd · _), rd_release_abandoned, ite_self, rd_takeOut_abandoned]

/-- A planned move does not touch the evictions (R127). -/
theorem planMove_evictions (i kind dst : Nat) : (planMove s i kind dst).fabric.evictions = s.fabric.evictions := by
  unfold planMove
  split <;> rfl

end

/-! ## Fault moves -/

/-- The tasks of an object resume at a pick, from cleared state when its state is lost (R42, R116). -/
def resumed (works : List Work) (i pick : Nat) (lost : Bool) : List Work :=
  change works (fun w => w.elem == .inst i) (fun w =>
    let w := { w with next := max w.next pick }
    if lost then { w with regs := [], hist := [] } else w)

/-- An object whose state is lost resumes from cleared state. -/
theorem cleared_of_mem_resumed {works : List Work} {i pick : Nat} {w : Work} (h : w ∈ resumed works i pick true) (hw : w.elem = .inst i) :
    w.regs = [] ∧ w.hist = [] := by
  obtain ⟨x, -, hx⟩ := List.mem_map.1 h
  by_cases own : (x.elem == .inst i) = true
  · rw [if_pos own] at hx
    cases hx
    exact ⟨rfl, rfl⟩
  · rw [if_neg own] at hx
    exact absurd (beq_iff_eq.2 (hx ▸ hw)) own

/-- The start of a moved object on its destination, with a cleared state when its state is lost (R42, R116, R125). -/
def placeFaulted (s : State) (i : Nat) (m : Move) (lost : Bool) : State :=
  let s := { s with graph := { s.graph with works := resumed s.graph.works i s.clock.pick lost },
                    governor := { s.governor with faultMoves := s.governor.faultMoves - 1 },
                    fabric := { s.fabric with moves := s.fabric.moves.filter (fun (x : Move) => x != m) } }
  let s := (((relocate s i m.dst m.items).1).bump Obj.REWEAVE_MOVES_DONE).bump Obj.REWEAVE_UNVERIFIED
  let s := showStores (showMoves s)
  if lost then ((s.bump Obj.STATE_LOST_COUNT).raise Ev.STATE_LOST i).flag 3 else s

theorem placeFaulted_placing (s : State) (i : Nat) (m : Move) (lost : Bool) :
    (placeFaulted s i m lost).placing =
      ({ s.graph with works := resumed s.graph.works i s.clock.pick lost, plan := relocated s.graph.plan i m.dst m.items },
        { s.fabric with moves := s.fabric.moves.filter (fun x => x != m) },
        { s.governor with faultMoves := s.governor.faultMoves - 1 }) := by
  unfold placeFaulted
  dsimp only
  rw [apply_ite State.placing, State.flag_placing, State.raise_placing, State.bump_placing, ite_self, showStores_placing,
    showMoves_placing, State.bump_placing, State.bump_placing, relocate_placing]

/-- A fault move starts its object once it is copied, or at once when the state cannot be read (R42, R116, R125). -/
theorem execFaultMoveStart_places {t i : Nat} {readable lost : Bool} {m : Move} {q : State}
    (hm : (q.at_ t).fabric.moves.find? (fun x => x.inst == i && x.kind == 1 && x.phase == 6) = some m)
    (hl : (!readable || (decide (0x100 ≤ m.src) && m.src != 0xFFFF)) = lost) (hc : lost = true ∨ copied (q.at_ t) m = true) :
    execFaultMoveStart t i readable q = .next (placeFaulted (q.at_ t) i m lost) := by
  unfold execFaultMoveStart
  dsimp only
  rw [hm]
  dsimp only
  rw [hl]
  exact congrArg Host.Outcome.next (State.whenever_of ((Bool.or_eq_true _ _).mpr hc))

/-! ## The commands together -/

/-- Settles O6: each command by what its condition leads to. -/
theorem moveCommandsComplete : Obligations.MoveCommandsComplete := by
  refine ⟨fun t i logged m q h => ?copied, fun t i m q h => ?abandoned, fun t i m q h hsrc hc => ?fault, fun t i m q h => ?lost,
    fun t q h0 h => ?quiet, fun t i q hp he => ?evict, fun t i e q h hc => ?evictFailed, fun t p q h => ?guests⟩
  case copied =>
    show execReweaveBulkCopyDone t i logged q = _
    simp only [execReweaveBulkCopyDone, h]
  case abandoned =>
    have hu : exec (.reweaveAbandoned t i) q = .next (abandon (q.at_ t) m) := by
      show execReweaveAbandoned t i q = _
      simp only [execReweaveAbandoned, h]
    refine ⟨_, hu, dropMove_moves .., ?_⟩
    rw [abandon, State.rd_bump_same, rd_dropMove_abandoned]
    rfl
  case fault =>
    have readable : (!true || (decide (0x100 ≤ m.src) && m.src != 0xFFFF)) = false := by
      rw [decide_eq_false (by omega)]
      rfl
    obtain ⟨hg, hf, hv⟩ := placing_parts (placeFaulted_placing (q.at_ t) i m false)
    exact ⟨_, execFaultMoveStart_places h readable (.inr hc), by rw [hg, place_relocated], by rw [hf], by rw [hv]⟩
  case lost =>
    obtain ⟨hg, hf, -⟩ := placing_parts (placeFaulted_placing (q.at_ t) i m true)
    exact ⟨_, execFaultMoveStart_places (lost := true) h rfl (.inl rfl), by rw [hg, place_relocated], by rw [hf],
      by rw [hg]; exact fun w => cleared_of_mem_resumed⟩
  case quiet =>
    exact congrArg Host.Outcome.next (State.whenever_of (by rw [decide_eq_true h0, decide_eq_true h]; rfl))
  case evict =>
    refine ⟨_, congrArg Host.Outcome.next (State.whenever_of (by rw [hp, he]; rfl)), ?_⟩
    dsimp only
    split
    · exact planMove_evictions ..
    · rfl
  case evictFailed =>
    have late : (decide (e.2.1 ≤ (q.at_ t).clock.pick + 64) || !moving (q.at_ t) i) = true := by
      rwa [Bool.or_eq_true, decide_eq_true_iff, Bool.not_eq_true']
    show execOverflowEvictFailed t i q = _
    simp only [execOverflowEvictFailed, h, late, State.whenever_true]
  case guests =>
    refine ⟨_, congrArg Host.Outcome.next (State.whenever_of h), ?_⟩
    obtain ⟨-, hf, -⟩ := placing_parts ((showGuests_placing _).trans (showPlanLoad_placing _))
    dsimp only
    rw [hf]

end Machine
end Sys2Proof
end

section
/-! SUPPORT. The end of a compile and the switch to its plan (R50 to R52, R54, R115, R126). -/

namespace Sys2Proof
namespace Machine

/-! ## The running copy and the graph -/

/-- The running copy with the graph: what objects show of a plan rests on them and leaves them. -/
def State.weaving (s : State) : Map Val × Graph := (s.run, s.graph)

/-- A state whose running copy and graph are known has each of them. -/
theorem weaving_parts {s : State} {r : Map Val} {g : Graph} (h : s.weaving = (r, g)) : s.run = r ∧ s.graph = g := by
  simpa [State.weaving] using h

section
variable (s : State)

/-- The dictionary is no part of either. -/
@[simp] theorem dict_weaving (d : Map Val) : State.weaving { s with dict := d } = s.weaving := rfl
@[simp] theorem State.wr_weaving (k : Nat) (v : Int) : (s.wr k v).weaving = s.weaving := rfl
@[simp] theorem State.bump_weaving (k n : Nat) : (s.bump k n).weaving = s.weaving := rfl
@[simp] theorem State.release_weaving (kind owner : Nat) : (s.release kind owner).weaving = s.weaving := rfl
@[simp] theorem State.askLeave_weaving (kind units owner : Nat) : (s.askLeave kind units owner).weaving = s.weaving := rfl
@[simp] theorem State.emit_weaving (e : Emit) : (s.emit e).weaving = s.weaving := rfl
@[simp] theorem showMoves_weaving : (showMoves s).weaving = s.weaving := rfl
@[simp] theorem showTwills_weaving : (showTwills s).weaving = s.weaving := rfl
@[simp] theorem showTier_weaving (i : Nat) : (showTier s i).weaving = s.weaving := rfl

@[simp] theorem startLoad_weaving (i : Nat) : (startLoad s i).weaving = s.weaving := by
  rw [startLoad, State.wr_weaving, State.askLeave_weaving, State.release_weaving]

@[simp] theorem startLoad_fabric (i : Nat) : (startLoad s i).fabric = s.fabric := by
  rw [startLoad, State.wr_fabric, State.askLeave_fabric, State.release_fabric]

@[simp] theorem showStores_weaving : (showStores s).weaving = s.weaving := by
  unfold showStores
  dsimp only
  rw [State.wr_weaving, State.wr_weaving, State.wr_weaving]

@[simp] theorem showPlanLoad_weaving : (showPlanLoad s).weaving = s.weaving := by
  unfold showPlanLoad
  dsimp only
  rw [State.wr_weaving, State.wr_weaving]
  exact State.each_leaves State.weaving fun u sh _ => u.wr_weaving ..

@[simp] theorem planMove_weaving (i kind dst : Nat) : (planMove s i kind dst).weaving = s.weaving := by
  unfold planMove
  split <;> rfl

/-- An entry of a table that a plan shows changes the dictionary alone. -/
theorem each_wr_weaving {α : Type} (xs : List α) (key : α → Nat) (v : α → Int) :
    (s.each xs (fun u x => u.wr (key x) (v x))).weaving = s.weaving :=
  State.each_leaves State.weaving fun u _ _ => u.wr_weaving ..

@[simp] theorem showPlan_weaving : (showPlan s).weaving = s.weaving := by
  unfold showPlan
  extract_lets p tables s0 s1 s2 s3 s4 s5 s6 s7 s8
  have tiers : s4.weaving = s3.weaving := State.each_leaves State.weaving fun u e _ => showTier_weaving u e.1
  calc (showStores (showPlanLoad s8)).weaving = s5.weaving := by simp [s8, s7, s6]
    _ = s3.weaving := (each_wr_weaving ..).trans tiers
    _ = s0.weaving := by simp only [s3, s2, s1, each_wr_weaving]
    _ = s.weaving := rfl

@[simp] theorem assignAsrc_weaving (new : Map Val) : (assignAsrc s new).weaving = s.weaving := by
  unfold assignAsrc
  extract_lets is fading s1 s2
  have freed : s1.weaving = s.weaving := State.each_leaves State.weaving fun u c _ => by
    extract_lets i
    split <;> rfl
  have taken : s2.weaving = s1.weaving := State.each_leaves State.weaving fun u i _ => by
    split
    · rfl
    · split <;> rfl
  exact taken.trans freed

end

/-! ## The end of a compile -/

/-- A refused graph is neither compiled nor ready any more, and the live writes kept for it are dropped (R51, R54). -/
theorem graphRefused_weaving (s : State) (e : Nat × Nat × Nat) :
    (graphRefused s e).weaving = (s.run, { s.graph with compiling := none, ready := none, live := [] }) := by
  unfold graphRefused
  dsimp only
  rw [State.wr_weaving, State.wr_weaving, State.wr_weaving]
  rfl

/-- A plan's moves change no part of the graph; a plan that no longer fits is refused, and none is ready (R51, R107). -/
theorem planCommit_weaving (s : State) :
    (planCommit s).weaving = s.weaving ∨
      (planCommit s).weaving = (s.run, { s.graph with loads := [], compiling := none, ready := none, live := [] }) := by
  unfold planCommit
  split
  · exact .inl rfl
  · split
    · exact .inl rfl
    · split
      · have released := State.each_leaves (s := s) State.weaving fun u i (_ : i ∈ s.graph.loads) => u.release_weaving 5 i
        obtain ⟨hrun, hgraph⟩ := weaving_parts released
        dsimp only
        rw [graphRefused_weaving, hrun, hgraph]
        exact .inr rfl
      · exact .inl (State.each_leaves State.weaving fun u e _ => planMove_weaving ..)

/-- Nothing is being compiled, and the running plan stands as it was (R51). -/
def CompileOver (s u : State) : Prop := u.graph.compiling = none ∧ u.run = s.run ∧ u.graph.plan = s.graph.plan

/-- Whether a compile is over is seen in the running copy and the graph. -/
theorem compileOver_of_weaving {s u : State} {r : Map Val} {g : Graph} (h : u.weaving = (r, g)) (hr : r = s.run)
    (hc : g.compiling = none) (hp : g.plan = s.graph.plan) : CompileOver s u := by
  obtain ⟨rfl, rfl⟩ := weaving_parts h
  exact ⟨hc, hr, hp⟩

theorem compileOver_graphRefused (s : State) (e : Nat × Nat × Nat) : CompileOver s (graphRefused s e) :=
  compileOver_of_weaving (graphRefused_weaving s e) rfl rfl rfl

/-- What follows a compile that is over leaves it so. -/
theorem compileOver_planCommit {s v : State} (h : CompileOver s v) : CompileOver s (planCommit v) := by
  obtain ⟨hc, hr, hp⟩ := h
  obtain e | e := planCommit_weaving v
  · exact compileOver_of_weaving e hr hc hp
  · exact compileOver_of_weaving e hr rfl hp

/-- While a commit waits for guests, its moves wait (R126). -/
theorem planCommit_of_waiting {s : State} (h : s.fabric.commitWaits = true) : planCommit s = s := by
  unfold planCommit
  split
  · rfl
  · rw [h, Bool.true_or, if_pos rfl]

/-- A state that shows a prepared plan has the running copy and the graph that its loads began with. -/
theorem prepared_weaving (s : State) (loads : List Nat) : ((s.each loads startLoad).wr Obj.GRAPH_STATUS 3).weaving = (s.run, s.graph) := by
  rw [State.wr_weaving, State.each_leaves State.weaving fun u i _ => startLoad_weaving u i]
  rfl

/-- The guests of a partner once each has notice: those that had none leave 2,048 picks later (R126). -/
def noticed (pick : Nat) (guests : List Guest) : List Guest :=
  guests.map (fun g => if g.ends = 0 then { g with ends := pick + 2048 } else g)

/-- No guest stays without notice. -/
theorem ends_of_mem_noticed {pick : Nat} {guests : List Guest} {x : Guest} (h : x ∈ noticed pick guests) : x.ends ≠ 0 := by
  obtain ⟨g, -, rfl⟩ := List.mem_map.1 h
  split
  · exact Nat.succ_ne_zero _
  · assumption

/-- The state in which a plan is prepared that waits for the guests to leave (R86, R126). -/
def afterNotice (s : State) (p : Plan) : State :=
  let u := s.each (s.fabric.guests.filter (fun g => g.ends == 0)) (fun s g => s.emit (.evict g.port g.inst))
  (({ u with
    graph := { u.graph with compiling := none, ready := some p, loads := loadedInsts s p },
    fabric := { u.fabric with commitWaits := true, guests := noticed s.clock.pick s.fabric.guests } } : State).each
      (loadedInsts s p) startLoad).wr Obj.GRAPH_STATUS 3

/-- Beside what is ready, notice to the guests leaves the graph. -/
theorem afterNotice_weaving (s : State) (p : Plan) :
    (afterNotice s p).weaving = (s.run, { s.graph with compiling := none, ready := some p, loads := loadedInsts s p }) := by
  unfold afterNotice
  extract_lets +onlyGivenNames u
  obtain ⟨hrun, hgraph⟩ : u.run = s.run ∧ u.graph = s.graph :=
    weaving_parts (State.each_leaves State.weaving fun v g _ => v.emit_weaving _)
  rw [prepared_weaving]
  dsimp only
  rw [hrun, hgraph]

theorem afterNotice_fabric (s : State) (p : Plan) :
    (afterNotice s p).fabric = { s.fabric with commitWaits := true, guests := noticed s.clock.pick s.fabric.guests } := by
  unfold afterNotice
  extract_lets +onlyGivenNames u
  have hfabric : u.fabric = s.fabric := State.each_leaves State.fabric fun v g _ => v.emit_fabric _
  rw [State.wr_fabric, State.each_leaves State.fabric fun v i _ => startLoad_fabric v i]
  dsimp only
  rw [hfabric]

/-- A commit waits for guests that are there when capacity lacks (R51, R126). -/
theorem commit_waits_for_guests {n : Nat} {guests : List Guest} (hn : n = 0x07) (hg : guests ≠ []) :
    (n == 0x07 && !guests.isEmpty) = true := by
  rw [hn, List.isEmpty_eq_false_iff.2 hg]
  rfl

section
variable {t : Nat} {d : Map Val} {p : Plan} {e : Nat × Nat × Nat} {q : State}
variable (hc : (q.at_ t).graph.compiling = some d) (hr : (q.at_ t).coreRuns 0 = true)
include hc hr

/-- A refused graph that guests are not in the way of shows its error (R51). -/
theorem execCompileDone_of_error (h : compile (q.at_ t) d = .error e) (hg : e.1 ≠ 0x07 ∨ (q.at_ t).fabric.guests = []) :
    execCompileDone t q = .next (graphRefused (q.at_ t) e) := by
  have waits : (e.1 == 0x07 && !(q.at_ t).fabric.guests.isEmpty) = false := by
    rcases hg with hg | hg
    · rw [beq_false_of_ne hg, Bool.false_and]
    · rw [hg, List.isEmpty_nil, Bool.not_true, Bool.and_false]
  simp only [execCompileDone, hc, hr, State.whenever_true, h, waits, Bool.false_eq_true, if_false]

/-- An accepted graph is ready, its loads begin and its moves are planned (R51, R86, R115). -/
theorem execCompileDone_of_ok (h : compile (q.at_ t) d = .ok p) :
    let s := q.at_ t
    execCompileDone t q = .next (planCommit ((({ s with
      graph := { s.graph with compiling := none, ready := some p, loads := loadedInsts s p },
      fabric := { s.fabric with commitWaits := false } } : State).each (loadedInsts s p) startLoad).wr Obj.GRAPH_STATUS 3)) := by
  simp only [execCompileDone, hc, hr, State.whenever_true, h, Bool.false_eq_true, if_false]

variable (h : compile (q.at_ t) d = .error e) (he : e.1 = 0x07) (hg : (q.at_ t).fabric.guests ≠ [])
include h he hg

/-- A graph that does not fit even without the guests shows the error of that compile (R51, R126). -/
theorem execCompileDone_of_error_bare {e' : Nat × Nat × Nat}
    (hb : compile { q.at_ t with fabric := { (q.at_ t).fabric with guests := [] } } d = .error e') :
    execCompileDone t q = .next (graphRefused (q.at_ t) e') := by
  simp only [execCompileDone, hc, hr, State.whenever_true, h, commit_waits_for_guests he hg, if_true, hb]

/-- A graph that fits only without the guests is prepared once they have notice (R126). -/
theorem execCompileDone_of_ok_bare (hb : compile { q.at_ t with fabric := { (q.at_ t).fabric with guests := [] } } d = .ok p) :
    execCompileDone t q = .next (planCommit (afterNotice (q.at_ t) p)) := by
  simp only [execCompileDone, hc, hr, State.whenever_true, h, commit_waits_for_guests he hg, if_true, hb]
  rfl

end

/-- Settles O2: the four outcomes of the compile, and what each leaves. -/
theorem compileCompletes : Obligations.CompileCompletes := by
  refine ⟨fun t d e q hc hr h hg => execCompileDone_of_error hc hr h hg, fun t d p q hc hr h => execCompileDone_of_ok hc hr h,
    fun t d p e q hc hr h he hg hb => ?notice, fun t d q hc hr => ?ended⟩
  case notice =>
    refine ⟨_, execCompileDone_of_ok_bare hc hr h he hg hb, ?_⟩
    obtain ⟨-, hgraph⟩ := weaving_parts (afterNotice_weaving (q.at_ t) p)
    have hfabric := afterNotice_fabric (q.at_ t) p
    rw [planCommit_of_waiting (by rw [hfabric]), hgraph, hfabric]
    exact ⟨rfl, rfl, rfl, fun x => ends_of_mem_noticed⟩
  case ended =>
    show ∃ u, execCompileDone t q = .next u ∧ CompileOver (q.at_ t) u
    rcases h : compile (q.at_ t) d with e | p
    · by_cases hg : e.1 ≠ 0x07 ∨ (q.at_ t).fabric.guests = []
      · exact ⟨_, execCompileDone_of_error hc hr h hg, compileOver_graphRefused ..⟩
      · obtain ⟨he, hg⟩ := not_or.1 hg
        rcases hb : compile { q.at_ t with fabric := { (q.at_ t).fabric with guests := [] } } d with e' | p
        · exact ⟨_, execCompileDone_of_error_bare hc hr h (not_not.1 he) hg hb, compileOver_graphRefused ..⟩
        · refine ⟨_, execCompileDone_of_ok_bare hc hr h (not_not.1 he) hg hb, compileOver_planCommit ?_⟩
          exact compileOver_of_weaving (afterNotice_weaving ..) rfl rfl rfl
    · refine ⟨_, execCompileDone_of_ok hc hr h, compileOver_planCommit ?_⟩
      exact compileOver_of_weaving (prepared_weaving ..) rfl rfl rfl

/-! ## The switch -/

/-- A switch puts its copy in force, with which nothing is ready any more, and then shows GRAPH_STATUS 0 or 1 (R52, R54, R115). -/
theorem switchPlan_inForce (s : State) (p : Plan) :
    ∃ (u : State) (status : Int), switchPlan s p = u.wr Obj.GRAPH_STATUS status ∧ (status = 0 ∨ status = 1) ∧
      u.graph.ready = none ∧ u.run = u.graph.plan.dict := by
  unfold switchPlan
  extract_lets n k old new s1 s2 s3 works dests had outs past _ graph _ s4 gone _ fabric faults _ s5 s6 s7 s8 s9 s10 s11
  refine ⟨_, _, rfl, ite_eq_or_eq .., ?_⟩
  have released : s6.weaving = s5.weaving := State.each_leaves State.weaving fun u m _ => u.release_weaving ..
  have counted : s7.weaving = s6.weaving := by
    show State.weaving (ite _ _ _) = _
    rw [apply_ite State.weaving, State.bump_weaving, ite_self]
  have shown : (showTwills s11).weaving = (graph.plan.dict, graph) :=
    calc (showTwills s11).weaving = s10.weaving := (showTwills_weaving s11).trans (s10.bump_weaving ..)
      _ = s8.weaving := (showPlan_weaving s9).trans (assignAsrc_weaving s8 new)
      _ = s5.weaving := (dict_weaving s7 _).trans (counted.trans released)
      _ = (graph.plan.dict, graph) := rfl
  obtain ⟨hrun, hgraph⟩ := weaving_parts shown
  rw [hrun, hgraph]
  exact ⟨rfl, rfl⟩

/-- A plan may switch only when it can be settled (R115). -/
theorem settled_of_maySwitch {s : State} {p : Plan} (h : maySwitch s p = true) : ∃ r, settled s p = .ok r := by
  rcases hr : settled s p with e | r
  · simp [maySwitch, hr] at h
  · exact ⟨r, rfl⟩

/-- A plan that may switch is put in force as it is settled now (R115). -/
theorem execGraphSwitch_switches {t : Nat} {p : Plan} {r : Map Nat × List Holding} {q : State} (hp : (q.at_ t).graph.ready = some p)
    (hm : maySwitch (q.at_ t) p = true) (hr : settled (q.at_ t) p = .ok r) :
    execGraphSwitch t q = .next (showMoves (switchPlan (q.at_ t) { p with place := r.1, items := r.2 })) := by
  simp only [execGraphSwitch, hp, hm, State.whenever_true, hr]

/-- Settles O3: what may switch is settled, and the count of moves shown last is not the status. -/
theorem graphSwitchCompletes : Obligations.GraphSwitchCompletes := by
  refine ⟨fun t p r q hp hm hr => execGraphSwitch_switches hp hm hr, fun t p q hp hm => ?_⟩
  obtain ⟨r, hr⟩ := settled_of_maySwitch hm
  refine ⟨_, execGraphSwitch_switches hp hm hr, ?_⟩
  obtain ⟨u, status, hu, hs, hready, hrun⟩ := switchPlan_inForce (q.at_ t) { p with place := r.1, items := r.2 }
  have moves : (showMoves (u.wr Obj.GRAPH_STATUS status)).rd Obj.GRAPH_STATUS = status := by
    rw [showMoves, State.rd_wr_ne _ _ _ _ (by decide) (by decide), State.rd_wr_same]
  rw [hu, moves]
  exact ⟨hready, hrun, hs⟩

end Machine
end Sys2Proof
end

section
/-! SUPPORT. The ends of swaps, partition loads and loudness blocks (R64, R86, R95). -/

namespace Sys2Proof
namespace Machine

/-! ## Parameter slots -/

/-- Two slots under one number are two objects (R76). -/
theorem paramKey_ne {p p' : Nat} (i : Nat) (h : p ≠ p') : paramKey i p ≠ paramKey i p' := by
  unfold paramKey keyOf
  omega

/-- An object shows a number, as a parameter by listing it: a later write that changes defaults does not change it (R489). -/
def State.Shows (s : State) (k : Nat) (v : Int) : Prop := s.rd k = v ∧ (isParam k = true → mapGet s.dict k = some (.num v))

section
variable {s : State} {k k' : Nat} {v v' : Int}

/-- What was just written is shown. -/
theorem State.shows_wr : (s.wr k v).Shows k v :=
  ⟨s.rd_wr_same k v, fun p => by simp [putIn, p]⟩

/-- A write elsewhere leaves what is shown. -/
theorem State.Shows.wr (h : s.Shows k v) (ne : k ≠ k') : (s.wr k' v').Shows k v := by
  obtain ⟨reads, listed⟩ := h
  cases p : isParam k with
  | false => exact ⟨(s.rd_wr_ne _ _ _ ne p).trans reads, fun p' => by rw [p] at p'; cases p'⟩
  | true =>
    have kept : mapGet (s.wr k' v').dict k = some (.num v) := by
      rw [State.wr_dict, putIn, ← listed p]
      split
      · exact mapGet_mapSet_ne _ _ _ _ ne
      · split
        · exact mapGet_mapDel_ne _ _ _ ne
        · exact mapGet_mapSet_ne _ _ _ _ ne
    exact ⟨by rw [State.rd, getIn, kept]; rfl, fun _ => kept⟩

theorem State.Shows.ite_wr {c : Prop} [Decidable c] (h : s.Shows k v) (ne : k ≠ k') : (if c then s.wr k' v' else s).Shows k v := by
  split
  · exact h.wr ne
  · exact h

theorem ite_wr_graph {c : Prop} [Decidable c] : (if c then s.wr k v else s).graph = s.graph := by
  split <;> rfl

end

/-! ## Swaps and loads -/

/-- A swap that has ended is no swap any more (R64). -/
theorem endTwill_swapOf (s : State) (i : Nat) : (endTwill s i).swapOf i = none := by
  unfold endTwill
  extract_lets +onlyGivenNames s1 works _ s2
  have twills : ((showTwills s2).raise Ev.TWILL_DONE i).graph.twills = s1.graph.twills.filter (fun t => !(t.inst == i && t.phase == 2)) :=
    congrArg Graph.twills (State.raise_graph ..)
  rw [State.swapOf, twills, List.find?_eq_none]
  intro tw h
  obtain ⟨-, other⟩ := List.mem_filter.1 h
  rw [Bool.not_eq_true'] at other
  exact Bool.eq_false_iff.1 other

theorem execTwillDone_ends {t i : Nat} {tw : Twill} {w : Work} {q : State} (hs : (q.at_ t).swapOf i = some tw)
    (hw : (q.at_ t).workOf i = some w) (h : tw.start + twillLen (q.at_ t) tw ≤ w.next * (q.at_ t).pl) :
    execTwillDone t i q = .next (endTwill (q.at_ t) i) := by
  simp only [execTwillDone, hs, hw, h, decide_true, State.whenever_true]

/-- A load in its second step ends: its partitions are loaded and its leave is given back (R86). -/
theorem execFirpLoadDone_ends {t i : Nat} {q : State} (h : loadState (q.at_ t) i = 2) :
    ∃ u, execFirpLoadDone t i q = .next u ∧ loadState u i = 3 ∧ u.granted 5 i = false ∧ i ∉ u.graph.loads := by
  refine ⟨_, congrArg Host.Outcome.next (State.whenever_of (decide_eq_true h)), ?_, ?_, ?_⟩
  · exact State.rd_wr_same ..
  · exact State.release_granted ..
  · exact fun h => by simpa using (List.mem_filter.1 h).2

/-! ## Loudness -/

theorem loudOf_inst (s : State) (i : Nat) : (loudOf s i).inst = i := by
  unfold loudOf
  cases h : s.graph.louds.find? (fun l => l.inst == i) with
  | none => rfl
  | some l => simpa using List.find?_some h

/-- What LOUDNESS holds is what was set (R95). -/
theorem loudOf_setLoud {s : State} {l : Loud} {i : Nat} (h : l.inst = i) : loudOf (setLoud s l) i = l := by
  subst h
  have rest : (s.graph.louds.filter (fun x => x.inst != l.inst)).find? (fun x => x.inst == l.inst) = none := by
    simp [List.find?_eq_none]
  simp [loudOf, setLoud, List.find?_append, rest]

theorem loudOf_congr {s u : State} (h : s.graph = u.graph) (i : Nat) : loudOf s i = loudOf u i := by
  rw [loudOf, h, loudOf]

/-- What a block shows that ends a number of blocks of 100 ms (R95). -/
def showLoudness (s : State) (i total : Nat) (on : Prop) [Decidable on] (momentary shortTerm integrated : Int) : State :=
  let s := if 4 ≤ total then s.wr (paramKey i Par.LD_MOMENTARY) momentary else s
  let s := if 30 ≤ total then s.wr (paramKey i Par.LD_SHORT_TERM) shortTerm else s
  if on then s.wr (paramKey i Par.LD_INTEGRATED) integrated else s

section
variable {s : State} {i total : Nat} {on : Prop} [Decidable on] {momentary shortTerm integrated : Int}

theorem showLoudness_graph : (showLoudness s i total on momentary shortTerm integrated).graph = s.graph := by
  unfold showLoudness
  dsimp only
  rw [ite_wr_graph, ite_wr_graph, ite_wr_graph]

theorem loudOf_showLoudness (j : Nat) : loudOf (showLoudness s i total on momentary shortTerm integrated) j = loudOf s j :=
  loudOf_congr showLoudness_graph j

theorem rd_showLoudness_momentary (h : 4 ≤ total) :
    (showLoudness s i total on momentary shortTerm integrated).rd (paramKey i Par.LD_MOMENTARY) = momentary := by
  unfold showLoudness
  dsimp only
  rw [if_pos h]
  exact ((State.shows_wr.ite_wr (paramKey_ne i (by decide))).ite_wr (paramKey_ne i (by decide))).1

theorem rd_showLoudness_shortTerm (h : 30 ≤ total) :
    (showLoudness s i total on momentary shortTerm integrated).rd (paramKey i Par.LD_SHORT_TERM) = shortTerm := by
  unfold showLoudness
  dsimp only
  rw [if_pos h]
  exact (State.shows_wr.ite_wr (paramKey_ne i (by decide))).1

theorem rd_showLoudness_integrated (h : on) :
    (showLoudness s i total on momentary shortTerm integrated).rd (paramKey i Par.LD_INTEGRATED) = integrated := by
  unfold showLoudness
  dsimp only
  rw [if_pos h]
  exact State.rd_wr_same ..

end

/-- A block whose last sample is released enters the window, in a run its bin, and is shown (R74, R95). -/
theorem execLoudnessUpdate_takes {t i : Nat} {q : State} {w : Work} {b : Int} :
    let s := q.at_ t; let l := loudOf s i; let size := loudBlock s.fs; let energies := (b :: l.energies).take 30
    let last := w.start + (l.total + 1) * size
    let momentary := loudnessOf ((energies.take 4).foldl (fun (a : Int) x => a + x) 0) (4 * size)
    let on := s.numAt s.run (paramKey i Par.LD_RUN) (last - 1) = 1 ∧ l.runFrom + 4 * size ≤ last ∧ 4 ≤ l.total + 1
    let bins := if on then binBlock l.bins momentary else l.bins
    s.workOf i = some w → typeIn s.run i = 0x61 → w.regs[8 * shapeOf s.run i Par.LD_INPUTS + 2]? = some b →
    last + mapGetD s.graph.plan.shown i 2 * s.pl ≤ (s.clock.pick + 1) * s.pl →
    ∃ v : State, loudOf v i = { l with energies := energies, total := l.total + 1, bins := bins } ∧
      execLoudnessUpdate t i q = .next (showLoudness v i (l.total + 1) on (readingOf momentary)
        (readingOf (loudnessOf (energies.foldl (fun (a : Int) x => a + x) 0) (30 * size))) (readingOf (integratedLoudness bins))) := by
  intro s l size energies last momentary on bins hw ht hb hl
  have regs : w.regs.getD (8 * shapeOf s.run i Par.LD_INPUTS + 2) 0 = b := by rw [List.getD_eq_getElem?_getD, hb]; rfl
  have cond : (typeIn s.run i = 0x61 && (w.regs[8 * shapeOf s.run i Par.LD_INPUTS + 2]?).isSome &&
      decide (last + mapGetD s.graph.plan.shown i 2 * s.pl ≤ (s.clock.pick + 1) * s.pl)) = true := by
    simp [ht, hb, hl]
  unfold execLoudnessUpdate
  extract_lets +onlyGivenNames s'
  rw [hw]
  dsimp only
  rw [State.whenever_of cond, regs]
  exact ⟨_, loudOf_setLoud (loudOf_inst s i), rfl⟩

/-- Settles O4: the swap and the load by what ends them, the block by what it takes into the window and shows. -/
theorem swapAndLoadComplete : Obligations.SwapAndLoadComplete := by
  refine ⟨fun t i tw w q hs hw h => ⟨_, execTwillDone_ends hs hw h, rfl, endTwill_swapOf ..⟩,
    fun t i q h => execFirpLoadDone_ends h, fun t i q w b => ?_⟩
  intro s l size last four momentary hw ht hb hl
  obtain ⟨v, held, hu⟩ := execLoudnessUpdate_takes hw ht hb hl
  refine ⟨_, hu, by rw [loudOf_showLoudness, held], by rw [loudOf_showLoudness, held],
    rd_showLoudness_momentary, rd_showLoudness_shortTerm, fun hr hf h => ?_⟩
  rw [rd_showLoudness_integrated ⟨hr, hf, h⟩]
  exact congrArg (fun bins => readingOf (integratedLoudness bins)) (if_pos ⟨hr, hf, h⟩)

end Machine
end Sys2Proof
end

section
/-! SUPPORT. The ends of crossfades and ramps (R67, R69, R81, R89, R96, R130). -/

namespace Sys2Proof
namespace Machine

/-! ## Deferred changes -/

/-- A deferred change is applied once, by a crossfade of its own (R69, R89). -/
theorem applyDeferred_of_some {s : State} {f : Fade} {new : Nat} (h : f.deferred = some new) (len law : Nat) :
    applyDeferred s f len law =
      (({ s with graph := { s.graph with
        fades := change s.graph.fades (fun g => g == f) (fun g => { g with deferred := none, ended := true }) } } : State).startFade
          f.unit f.tap (s.clock.pick * s.pl) len law 3 f.new new).1 := by
  rw [applyDeferred, h]
  rfl

/-! ## Ramps that end -/

/-- Of the ramps those stay that are of another key or run on (R81, R130). -/
theorem mem_rampEnds_iff {s : State} {key k : Nat} {r : Ramp} :
    r ∈ (rampEnds s key k).graph.ramps ↔ r ∈ s.graph.ramps ∧ (r.key = key → k < r.sample + r.len) := by
  simp [rampEnds, List.mem_filter, imp_iff_not_or]

section
variable (s : State) (key k : Nat)

theorem rampEnds_dict : (rampEnds s key k).dict = s.dict := rfl
theorem rampEnds_run : (rampEnds s key k).run = s.run := rfl
theorem rampEnds_sampleNow : (rampEnds s key k).sampleNow = s.sampleNow := rfl

end

/-- Once the ramps of some keys have ended by the present sample, those left of these keys run on (R130). -/
theorem running_of_mem_each_rampEnds {α : Type} {key : α → Nat} {xs : List α} {s : State} {r : Ramp}
    (h : r ∈ (s.each xs (fun s x => rampEnds s (key x) s.sampleNow)).graph.ramps) :
    r ∈ s.graph.ramps ∧ ∀ x ∈ xs, r.key = key x → s.sampleNow < r.sample + r.len := by
  induction xs generalizing s with
  | nil => exact ⟨h, fun x hx => nomatch hx⟩
  | cons x xs ih =>
    obtain ⟨hr, rest⟩ := ih h
    obtain ⟨mem, first⟩ := mem_rampEnds_iff.1 hr
    exact ⟨mem, List.forall_mem_cons.2 ⟨first, rest⟩⟩

/-! ## The commands together -/

/-- Settles O5: each command by the fade or the ramps that have run their length. -/
theorem fadeEndsComplete : Obligations.FadeEndsComplete := by
  refine ⟨fun t d f q h => ?route, fun t d new f q h hd => ?routeDeferred, fun t i f q ht h hd => ?delay,
    fun t i new f q ht h hd hl => ?delayDeferred, fun t i f q ht h => ?gen, fun t i w q hw ht => ?trim, fun t o q => ?selv⟩
  case route =>
    show execRouteFadeEnd t d q = _
    simp only [execRouteFadeEnd, h]
  case routeDeferred =>
    show execRouteDeferredApply t d q = _
    simp only [execRouteDeferredApply, h, applyDeferred_of_some hd]
  case delay =>
    show execDelayFadeEnd t i q = _
    simp only [execDelayFadeEnd, ht, decide_true, State.whenever_true, h, hd, Option.isNone_none, if_true]
  case delayDeferred =>
    have later : ¬(q.at_ t).clock.pick * (q.at_ t).pl ≤ f.sample + f.len := Nat.not_le.2 hl
    show execDelayFadeEnd t i q = _
    simp only [execDelayFadeEnd, ht, decide_true, State.whenever_true, h, hd, Option.isNone_some, Bool.false_eq_true, if_false, later]
  case gen =>
    show execGenCrossfadeEnd t i q = _
    simp only [execGenCrossfadeEnd, ht, decide_true, State.whenever_true, h]
  case trim =>
    show execTrimRampEnd t i q = _
    simp only [execTrimRampEnd, hw, ht, decide_true, State.whenever_true, rampEnds]
  case selv =>
    refine ⟨_, rfl, State.each_leaves State.dict fun u k _ => rampEnds_dict .., State.each_leaves State.run fun u k _ => rampEnds_run ..,
      fun k hk r hr hkey => ?_⟩
    obtain ⟨-, running⟩ := running_of_mem_each_rampEnds hr
    exact running k (List.mem_range.2 hk) hkey

end Machine
end Sys2Proof
end

section
/-! SUPPORT. The selvedge path, sample by sample (R129 to R132). -/

namespace Sys2Proof
namespace Machine

/-- Settles O8: in service and past the first sample there is a sample that has ended, and each step of the command takes it. -/
theorem selvedgeSampleCompletes : Obligations.SelvedgeSampleCompletes := by
  intro t faults q s v u serving started
  have ended : (s.inService && decide (0 < s.sampleNow)) = true := Bool.and_eq_true_iff.2 ⟨serving, decide_eq_true started⟩
  show execSelvedgeSample t faults q = _
  exact congrArg Host.Outcome.next (State.whenever_of ended)

end Machine
end Sys2Proof
end

section
/-! SUPPORT. Local time from command to command (R138): what `exec_kept` leaves out, gathered. -/

namespace Sys2Proof
namespace Machine

/-- A command's instant is not before the time that the command finds: an earlier one falls at the present count (log entry 2). -/
theorem now_le_at (s : State) (t : Nat) : s.clock.now ≤ (s.at_ t).clock.now := Nat.le_max_left ..

/-- What leaves local time as it is at a command's instant has not moved it back. -/
theorem now_le_of_eq_at {s u : State} {t : Nat} (h : u.clock.now = (s.at_ t).clock.now) : s.clock.now ≤ u.clock.now :=
  h ▸ now_le_at s t

theorem now_le_of_timely {s u : State} {t : Nat} (h : Timely (s.at_ t) u) : s.clock.now ≤ u.clock.now := by
  obtain ⟨-, -, hnow⟩ := h
  exact now_le_of_eq_at hnow

theorem now_le_of_steady {s u : State} {t : Nat} (h : Steady (s.at_ t) u) : s.clock.now ≤ u.clock.now := by
  obtain ⟨-, hnow, -, -⟩ := h
  exact now_le_of_eq_at hnow

/-- A command that neither may write the creel's memory nor moves the pick counter falls at its instant and takes no local time. -/
theorem exec_now_le_of_kept {c : Instr} {s : State} (hm : writesCreelMemory c = false) (hp : movesPick c = false) :
    ∃ u, exec c s = .next u ∧ s.clock.now ≤ u.clock.now := by
  obtain ⟨t, u, hu, hk⟩ := exec_kept c s hm hp
  obtain ⟨-, -, hnow, -⟩ := kept_parts hk
  exact ⟨u, hu, now_le_of_eq_at hnow⟩

/-- A command that does not restart time completes and does not move local time back: a batten moves it forward, a step of engine time
and the end of a start move the pick counter alone, and the six that may write the creel's memory are steady. -/
theorem exec_now_le (c : Instr) (s : State) (hr : restartsTime c = false) : ∃ u, exec c s = .next u ∧ s.clock.now ≤ u.clock.now := by
  cases c with
  | batten => exact (execBatten_forward ..).imp fun _ ⟨hu, _, _, hnow⟩ => ⟨hu, hnow⟩
  | timeStepped => exact (execTimeStepped_timely ..).imp fun _ => And.imp_right now_le_of_timely
  | startDone => exact (execStartDone_timely ..).imp fun _ => And.imp_right now_le_of_timely
  | creelWrite => exact (execCreelWrite_steady ..).imp fun _ => And.imp_right now_le_of_steady
  | creelTransaction => exact (execCreelTransaction_steady ..).imp fun _ => And.imp_right now_le_of_steady
  | creelLockBroken => exact (execCreelLockBroken_steady ..).imp fun _ => And.imp_right now_le_of_steady
  | corePgTimeout => exact (execCorePgTimeout_steady ..).imp fun _ => And.imp_right now_le_of_steady
  | corePgFall => exact (execCorePgFall_steady ..).imp fun _ => And.imp_right now_le_of_steady
  | doffLatchSample => exact (execDoffLatchSample_steady ..).imp fun _ => And.imp_right now_le_of_steady
  | powerLoss | porstNFall | porstNRise => cases hr
  | _ => exact exec_now_le_of_kept rfl hr

/-- Settles O40: a command has one outcome, and the one that `exec_now_le` gives is at no earlier local time. -/
theorem localTimeNeverRunsBack : Obligations.LocalTimeNeverRunsBack := by
  intro c s t hr ht
  obtain ⟨u, hu, hnow⟩ := exec_now_le c s hr
  cases hu.symm.trans ht
  exact hnow

end Machine
end Sys2Proof
end

section
/-! SUPPORT. Holdover, slews, lock, steps of engine time and the assessment (R136, R138, R157, R165, R166, R173, R176). -/

namespace Sys2Proof
namespace Machine

/-! ## The entry into holdover -/

/-- The reference in holdover: without a decision, a build-out or steering, and since the loss, or on from the holdover that it
resumes (R173). -/
def heldReference (s : State) (resumed : Bool) : Reference :=
  { s.ref with
    decided := none, outrank := none, buildout := none, steer := none, lockRuns := 0, degraded := s.ref.degraded && resumed,
    holdSince := if resumed then s.ref.holdSince else s.ref.lostAt,
    holdClass := if resumed then s.ref.holdClass else (ptpDataset s).1 }

/-- The control value that holdover holds and its SP_HOLD_SOURCE: those that it resumes, or the average before the loss (R173, R176). -/
def heldControl (s : State) (resumed : Bool) : Int × Nat :=
  if resumed then (s.rd Obj.HOLD_AVG_VALUE, s.rdN (ix Obj.SP_HOLD_SOURCE 0)) else holdoverValue s s.ref.lostAt

/-- SP0 and SP1 hold that control value and no reference is selected, a switch that counts (R165, R173). -/
def heldOver (s : State) (resumed : Bool) : State :=
  let v := heldControl s resumed
  (((({ s with ref := heldReference s resumed } : State).wr Obj.HOLD_AVG_VALUE v.1).each [0, 1] (fun s n =>
    (s.wr (ix Obj.SP_CONTROL n) v.1).wr (ix Obj.SP_HOLD_SOURCE n) v.2)).wr Obj.REF_SELECTED 0xFF).bump Obj.REF_SWITCH_COUNT

section
variable {t : Nat} {q s : State} {resumed : Bool}

/-- A decided holdover is entered at a later batten and names the switch; one left for an acquisition is resumed (R165, R173). -/
theorem execHoldover_enters (hd : (q.at_ t).ref.decided = some 0xFF) (hp : (q.at_ t).ref.decidedAt < (q.at_ t).clock.pick)
    (hr : (decide ((q.at_ t).rd Obj.TIME_STATE = 1) && (q.at_ t).ref.fromHoldover) = resumed) :
    execHoldover t q = .next (showReference ((updateSuccessor ((heldOver (q.at_ t) resumed).wr Obj.TIME_STATE 3)).raise Ev.REF_SWITCHED
      (arg2 (q.at_ t).selected 0xFF))) := by
  subst hr
  exact congrArg Host.Outcome.next (State.whenever_of (by rw [decide_eq_true hd, decide_eq_true hp]; rfl))

theorem heldOver_ref : (heldOver s resumed).ref = heldReference s resumed := rfl

theorem rd_heldOver_selected : (heldOver s resumed).rd Obj.REF_SELECTED = 0xFF := by
  rw [heldOver, State.rd_bump_ne _ _ _ _ (by decide) rfl, State.rd_wr_same]

theorem rd_heldOver_switchCount :
    (heldOver s resumed).rd Obj.REF_SWITCH_COUNT = (s.rd Obj.REF_SWITCH_COUNT + 1) % 4294967296 := by
  simp (disch := decide) only [heldOver, State.rd_bump_same, State.each_cons, State.each_nil, State.rd_wr_ne]
  rfl

/-- Both spindles hold the value (R176). -/
theorem rd_heldOver_control :
    (heldOver s resumed).rd (ix Obj.SP_CONTROL 0) = (heldControl s resumed).1 ∧
    (heldOver s resumed).rd (ix Obj.SP_CONTROL 1) = (heldControl s resumed).1 := by
  simp (disch := decide) only [heldOver, State.rd_bump_ne, State.each_cons, State.each_nil, State.rd_wr_ne, State.rd_wr_same,
    and_self]

end

/-! ## A step of engine time -/

/-- The state with nothing left to step and its picks renumbered, as after a step (R136, R138). -/
def renumbered (s : State) (d : Int) : State :=
  let u := renumber { s with clock := { s.clock with step := 0, set := none } } d
  { u with clock := { u.clock with stepped := true } }

/-- A step shows the new pick and its time, counts, and raises its event (R136). -/
def showStep (s : State) (d : Int) : State :=
  (((s.wr Obj.PICK_COUNT (s.clock.pick : Nat)).wr Obj.BATTEN_TIME (time80 (s.battenNs s.clock.pick) : Nat)).bump
    Obj.TIME_STEP_COUNT).raise Ev.TIME_STEPPED (pattern 32 d)

section
variable {t : Nat} {q s : State} {d : Int}

/-- A step of at least a pick is taken and shown (R136). -/
theorem execTimeStepped_steps (h : (q.at_ t).clock.set.isSome = true ∨ (q.at_ t).clock.step ≠ 0) (hd : stepAsked (q.at_ t) ≠ 0) :
    execTimeStepped t q = .next (showStep (renumbered (q.at_ t) (stepAsked (q.at_ t))) (stepAsked (q.at_ t))) := by
  have waits : ((q.at_ t).clock.set.isSome || decide ((q.at_ t).clock.step ≠ 0)) = true := by
    rwa [Bool.or_eq_true, decide_eq_true_iff]
  unfold execTimeStepped
  dsimp only
  rw [State.whenever_of waits, if_neg hd]
  rfl

/-- The picks move by the step, not below 0, nothing is left to step, and local time stands (R136). -/
theorem renumbered_clock_parts :
    ((renumbered s d).clock.pick : Int) = max 0 ((s.clock.pick : Int) + d) ∧ (renumbered s d).clock.step = 0 ∧
      (renumbered s d).clock.set = none ∧ (renumbered s d).clock.now = s.clock.now :=
  ⟨(Int.toNat_eq_max _).trans (max_comm ..), rfl, rfl, rfl⟩

theorem renumbered_dict : (renumbered s d).dict = s.dict := rfl

theorem showStep_clock : (showStep s d).clock = s.clock := by
  rw [showStep, State.raise_clock, State.bump_clock, State.wr_clock, State.wr_clock]

theorem rd_showStep_pick : (showStep s d).rd Obj.PICK_COUNT = s.clock.pick := by
  rw [showStep, State.rd_raise_ne _ _ (by decide) rfl, State.rd_bump_ne _ _ _ _ (by decide) rfl,
    State.rd_wr_ne _ _ _ _ (by decide) rfl, State.rd_wr_same]

theorem rd_showStep_count : (showStep s d).rd Obj.TIME_STEP_COUNT = (s.rd Obj.TIME_STEP_COUNT + 1) % 4294967296 := by
  rw [showStep, State.rd_raise_ne _ _ (by decide) rfl, State.rd_bump_same, State.rd_wr_ne _ _ _ _ (by decide) rfl,
    State.rd_wr_ne _ _ _ _ (by decide) rfl]
  rfl

end

/-! ## The commands together -/

/-- Settles O10: the two entries into holdover by what it holds, the step by its renumbering, the others by what their commands do once
their conditions hold. -/
theorem timeCommandsComplete : Obligations.TimeCommandsComplete := by
  refine ⟨fun t q hd hp hr => ?enter, fun t q hd hp hs hf => ?resume, fun t offset q hs hst hc => ?steered, fun t q h0 hst h hr => ?slewed,
    fun t q hs h8 hp => ?locked, fun t q hy h3 hr => ?crystal, fun t q h hd => ?stepped, fun t env q h5 hc ha => ?assess⟩
  case enter =>
    have fresh : (decide ((q.at_ t).rd Obj.TIME_STATE = 1) && (q.at_ t).ref.fromHoldover) = false := by
      rwa [Bool.and_eq_false_iff, decide_eq_false_iff_not]
    obtain ⟨sp0, sp1⟩ := rd_heldOver_control (s := q.at_ t) (resumed := false)
    exact ⟨heldOver (q.at_ t) false, execHoldover_enters hd hp fresh, rd_heldOver_selected, rfl, rfl, sp0, sp1, rd_heldOver_switchCount⟩
  case resume =>
    have resumes : (decide ((q.at_ t).rd Obj.TIME_STATE = 1) && (q.at_ t).ref.fromHoldover) = true := by
      rw [decide_eq_true hs, hf]; rfl
    obtain ⟨sp0, sp1⟩ := rd_heldOver_control (s := q.at_ t) (resumed := true)
    exact ⟨heldOver (q.at_ t) true, execHoldover_enters hd hp resumes, rd_heldOver_selected, rfl, rfl, sp0, sp1⟩
  case steered =>
    exact congrArg Host.Outcome.next (State.whenever_of (by simpa only [hst, hc, decide_true, Bool.and_true, Bool.or_eq_true, decide_eq_true_iff] using hs.symm))
  case slewed =>
    have pending : ((q.at_ t).clock.slewing != 0 || (q.at_ t).ref.buildout.isSome) = true := by
      rwa [Bool.or_eq_true, bne_iff_ne]
    exact congrArg Host.Outcome.next (State.whenever_of (by rw [beq_iff_eq.2 h0, Option.isNone_iff_eq_none.2 hst, pending, hr]; rfl))
  case locked =>
    exact congrArg Host.Outcome.next (State.whenever_of (by rw [decide_eq_true hs, decide_eq_true h8, decide_eq_true hp]; rfl))
  case crystal =>
    exact congrArg Host.Outcome.next (State.whenever_of (by rw [hy, decide_eq_true h3, hr]; rfl))
  case stepped =>
    refine ⟨_, execTimeStepped_steps h hd, ?_⟩
    obtain ⟨hpick, hstep, hset, hnow⟩ := renumbered_clock_parts (s := q.at_ t) (d := stepAsked (q.at_ t))
    rw [showStep_clock, rd_showStep_pick, rd_showStep_count, State.rd_congr renumbered_dict]
    exact ⟨hpick, hstep, hset, hnow, rfl, rfl⟩
  case assess =>
    exact congrArg Host.Outcome.next (State.whenever_of (by rw [beq_iff_eq.2 h5, hc, decide_eq_true ha]; rfl))

end Machine
end Sys2Proof
end

section
/-! SUPPORT. The reference thresholds: a candidate is lost beyond one offset and left beyond a smaller one (R160). -/

namespace Sys2Proof
namespace Machine

section
variable {s n : State} {w : Writer} {k : Nat}

/-- A number in the range of its U32 row passes the checks of the row. -/
theorem rowStatus_u32 {i j p p' : Nat} {a : Access} {d : Val} {lo hi x : Int} (hx : 0 ≤ x ∧ x < 4294967296) (hlo : lo ≤ x)
    (hhi : x ≤ hi) :
    rowStatus ⟨i, j, p, p', .u32, a, d, .between lo hi⟩ (.num x) = Status.OK := by
  simp [rowStatus, Ty.octets, formOk, Ty.signed, Ty.size, inRange, hx, hlo, hhi]

/-- The two objects of which the hard one stands above the soft one (R160). -/
def ReferenceThreshold (k : Nat) : Prop := k = Obj.REF_SOFT_PPB ∨ k = Obj.REF_HARD_PPB

/-- The relation of the thresholds is broken when the hard one would stand at the soft one or below (R160). -/
theorem relation_referenceThreshold (hk : ReferenceThreshold k) (v : Val) (h : n.rd Obj.REF_HARD_PPB ≤ n.rd Obj.REF_SOFT_PPB) :
    relation s n w k v = Status.CONFLICT := by
  have order : decide (n.rd Obj.REF_SOFT_PPB < n.rd Obj.REF_HARD_PPB) = false := decide_eq_false (Int.not_lt.2 h)
  have area : relation s n w k v = relReference s n (keyIndex k) (keySub k) (Val.int v).toNat := by
    rcases hk with rfl | rfl <;> rfl
  rw [area, relReference, order]
  rcases hk with rfl | rfl <;> rfl

/-- A write of a threshold in its range that would leave the hard one at the soft one or below is in conflict (R160). -/
theorem writeStatus_referenceThreshold {i : Nat} {d : Val} {lo hi : Int} {v : Nat} (hk : ReferenceThreshold k)
    (hr : rowOf k = some ⟨i, i, 0, 0, .u32, .rws, d, .between lo hi⟩) (hs : serves s k true = true) (hv : v < 4294967296)
    (hlo : lo ≤ v) (hhi : v ≤ hi) (h : (s.wr k v).rd Obj.REF_HARD_PPB ≤ (s.wr k v).rd Obj.REF_SOFT_PPB) :
    writeStatus s w k Status.OK (.num v) = Status.CONFLICT := by
  have row : rowStatus ⟨i, i, 0, 0, .u32, .rws, d, .between lo hi⟩ (.num v) = Status.OK := rowStatus_u32 (by omega) hlo hhi
  obtain ⟨table, writable⟩ : isParam k = false ∧ readOnlyUnit k = false := by rcases hk with rfl | rfl <;> exact ⟨rfl, rfl⟩
  have value : valueStatus s k ⟨i, i, 0, 0, .u32, .rws, d, .between lo hi⟩ (.num v) = Status.OK := by
    rw [valueStatus, row]
    rcases hk with rfl | rfl <;> rfl
  have stored : storedValue k ⟨i, i, 0, 0, .u32, .rws, d, .between lo hi⟩ (.num v) = .num v := by
    rcases hk with rfl | rfl <;> rfl
  refine writeStatus_of_relation hs (objRow_of_row table hr) (by rw [writable]; rfl) value ?_ (by decide)
  rw [stored]
  exact relation_referenceThreshold hk _ h

end

theorem rowOf_refSoft :
    rowOf Obj.REF_SOFT_PPB = some ⟨0x2003, 0x2003, 0, 0, .u32, .rws, .num 5000, .between 1000 50000⟩ := by decide +kernel

theorem rowOf_refHard :
    rowOf Obj.REF_HARD_PPB = some ⟨0x2004, 0x2004, 0, 0, .u32, .rws, .num 10000, .between 2000 100000⟩ := by decide +kernel

/-- Settles O43: the threshold that is written would read the new value and the other one what it reads, which is in conflict. -/
theorem referenceThresholdsKeepTheirOrder : Obligations.ReferenceThresholdsKeepTheirOrder := by
  refine ⟨fun t w v q ha hs hlo hhi h => ⟨Status.CONFLICT, by decide, ?hard⟩,
    fun t w v q ha hs hlo hhi h => ⟨Status.CONFLICT, by decide, ?soft⟩⟩
  case hard =>
    have order : ((q.at_ t).wr Obj.REF_HARD_PPB v).rd Obj.REF_HARD_PPB ≤
        ((q.at_ t).wr Obj.REF_HARD_PPB v).rd Obj.REF_SOFT_PPB := by
      rwa [State.rd_wr_same, State.rd_wr_ne _ _ _ _ (by decide) (by decide)]
    exact exec_of_writeStatus rfl ha
      (writeStatus_referenceThreshold (.inr rfl) rowOf_refHard hs (by omega) (by omega) (by omega) order) (by decide)
  case soft =>
    have order : ((q.at_ t).wr Obj.REF_SOFT_PPB v).rd Obj.REF_HARD_PPB ≤
        ((q.at_ t).wr Obj.REF_SOFT_PPB v).rd Obj.REF_SOFT_PPB := by
      rwa [State.rd_wr_same, State.rd_wr_ne _ _ _ _ (by decide) (by decide)]
    exact exec_of_writeStatus rfl ha
      (writeStatus_referenceThreshold (.inl rfl) rowOf_refSoft hs (by omega) (by omega) (by omega) order) (by decide)

end Machine
end Sys2Proof
end

section
/-! SUPPORT. The steps of reference candidates and of the selection (R158 to R167). -/

namespace Sys2Proof
namespace Machine

section
variable {s : State} {t : Nat} {q : State}

/-- An effect whose condition fails does not come about. -/
theorem State.whenever_of_not {c : Bool} {f : State → State} (h : c = false) : s.whenever c f = s := by
  rw [h, State.whenever_false]

/-- A better candidate that has outranked the selected one for the wait to restore, and still does, is switched to (R163). -/
theorem execRefWtrExpired_decides {b since : Nat} (ho : (q.at_ t).ref.outrank = some (b, since))
    (hr : (q.at_ t).ran since ((q.at_ t).rdN Obj.REF_WTR_S * 1000000000) = true) (hb : better (q.at_ t) = some b) :
    execRefWtrExpired t q =
      .next { (decideOn (q.at_ t) b) with ref := { (decideOn (q.at_ t) b).ref with outrank := none } } := by
  simp only [execRefWtrExpired, ho]
  exact congrArg Host.Outcome.next (State.whenever_of (by rw [hr, decide_eq_true hb]; rfl))

/-- A decided switch to a slot, or to free-run, happens at a later batten (R165). -/
theorem execRefSwitched_switches {k : Nat} {offset : Int} (hd : (q.at_ t).ref.decided = some k) (hk : k ≠ 0xFF)
    (hp : (q.at_ t).ref.decidedAt < (q.at_ t).clock.pick) :
    execRefSwitched t offset q = .next (switchTo (q.at_ t) k (offsetFrom (q.at_ t) k offset)) := by
  simp only [execRefSwitched, hd]
  exact congrArg Host.Outcome.next (State.whenever_of (by rw [decide_eq_true hk, decide_eq_true hp]; rfl))

end

/-- Settles O9: a candidate by the condition of its step, the choice out of holdover by the two ways it fails, and the wait to restore and
the switch by what has been timed and decided. -/
theorem candidateCommandsComplete : Obligations.CandidateCommandsComplete := by
  refine ⟨fun t slot q h => ?rate, fun t a b q h => ?agree, fun t slot q h2 hr => ?qualified, fun t q hp h3 hs => ?chosen,
    fun t q h => ?kept, fun t b since q ho hr hb => execRefWtrExpired_decides ho hr hb, fun t slot q h0 h7 h2 hl => ?lost,
    fun t k offset q hd hk hp => execRefSwitched_switches hd hk hp⟩
  case rate => exact congrArg Host.Outcome.next (State.whenever_of (List.contains_iff_mem.2 h))
  case agree => exact congrArg Host.Outcome.next (State.whenever_of h)
  case qualified => exact congrArg Host.Outcome.next (State.whenever_of (by rw [decide_eq_true h2, hr]; rfl))
  case chosen =>
    exact congrArg Host.Outcome.next (State.whenever_of (by rw [hp, decide_eq_true h3, decide_eq_true hs]; rfl))
  case kept =>
    refine congrArg Host.Outcome.next (State.whenever_of_not ?_)
    rcases h with h3 | hs
    · rw [decide_eq_false h3, Bool.and_false, Bool.false_and]
    · rw [decide_eq_false hs, Bool.and_false]
  case lost =>
    exact congrArg Host.Outcome.next (State.whenever_of (by rw [bne_iff_ne.2 h0, bne_iff_ne.2 h7, decide_eq_true h2, hl]; rfl))

end Machine
end Sys2Proof
end

section
/-! SUPPORT. PTP: what its messages leave of the foreign masters, what is due, and a silent port (R159, R189, R190, R256, R257). -/

namespace Sys2Proof
namespace Machine

/-! ## What the choice of a master leaves -/

/-- A MAC's port is put into a state; one that begins to listen notes when (R189, R190). -/
def setPtpPort (s : State) (mac st : Nat) : State :=
  let old := s.rdN (ix Obj.PTP_PORT_STATE mac)
  let s := if st = 4 && old ≠ 4 then { s with ref := { s.ref with listen := setAt s.ref.listen mac s.clock.now } } else s
  if st = old then s else s.wr (ix Obj.PTP_PORT_STATE mac) st

theorem setPtpPort_foreign (s : State) (mac st : Nat) : (setPtpPort s mac st).ref.foreign = s.ref.foreign := by
  unfold setPtpPort
  dsimp only
  split <;> split <;> rfl

/-- Deciding a port puts it into some state. -/
theorem ptpDecide_sets (s : State) (mac : Nat) (silent : Bool) : ∃ st, ptpDecide s mac silent = setPtpPort s mac st := ⟨_, rfl⟩

/-- Deciding a port changes no foreign master. -/
theorem ptpDecide_foreign (s : State) (mac : Nat) (silent : Bool) : (ptpDecide s mac silent).ref.foreign = s.ref.foreign := by
  obtain ⟨st, h⟩ := ptpDecide_sets s mac silent
  rw [h, setPtpPort_foreign]

/-- Setting the qualities of a MAC's slots changes no more than the dictionary. -/
theorem ptpQualities_ref (s : State) (mac domain : Nat) : (ptpQualities s mac domain).ref = s.ref := by
  refine State.each_leaves State.ref fun u k _ => ?_
  split <;> rfl

/-! ## Engine time after a message is stamped -/

/-- Engine time is read of the clock and of the rate of slewing (R134, R136). -/
theorem State.engineNs_congr {s u : State} (hc : s.clock = u.clock) (hr : s.rd Obj.TIME_SLEW_PPB = u.rd Obj.TIME_SLEW_PPB) :
    s.engineNs = u.engineNs := by
  rw [State.engineNs, State.slewed, State.rdN, hc, hr]
  rfl

/-- Counting a stamped message leaves engine time. -/
theorem engineNs_bump_stamped (s : State) (mac : Fin 3) : (s.bump (ix Obj.PTP_RX_STAMPED mac.val)).engineNs = s.engineNs := by
  refine State.engineNs_congr rfl (State.rd_bump_ne _ _ _ _ ?_ (by decide))
  revert mac
  decide

/-! ## Messages received and sent -/

/-- The record that an Announce leaves of its sender, behind what stood of it (R153, R256). -/
def announced (s : State) (mac d cls acc var steps p1 p2 gm sender : Nat) : Foreign :=
  let old := s.ref.foreign.find? (fun f => f.mac == mac && f.domain == d && f.sender == sender)
  let at_ := s.clock.now - rxEarly s mac
  ⟨mac, d, sender, gm, cls, acc, var, steps, p1, p2, at_, old.map (fun f => f.announceAt), (old.map (fun f => f.syncAt)).getD at_⟩

section
variable {t d i cls acc var steps p1 p2 gm sender : Nat} {mac : Fin 3} {q : State}

/-- An Announce stays among the foreign masters, whatever port and qualities it leads to (R153). -/
theorem execPtpMessageRx_announce (hr : ptpRuns (q.at_ t) mac.val = true) :
    ∃ u, execPtpMessageRx t mac (.announce d cls acc var steps p1 p2 gm sender) q = .next u ∧
      announced (q.at_ t) mac.val d cls acc var steps p1 p2 gm sender ∈ u.ref.foreign := by
  refine ⟨_, congrArg Host.Outcome.next (State.whenever_of hr), ?_⟩
  dsimp only
  rw [ptpQualities_ref]
  split
  · rw [ptpDecide_foreign]
    exact List.mem_append_right _ (List.mem_singleton_self _)
  · exact List.mem_append_right _ (List.mem_singleton_self _)

/-- A delay request of the own domain is answered by a master with the time at which it came (R189, R256). -/
theorem execPtpMessageRx_delayReq (hr : ptpRuns (q.at_ t) mac.val = true) :
    let s := (q.at_ t).bump (ix Obj.PTP_RX_STAMPED mac.val)
    s.rdN (ix Obj.PTP_GM_DOMAIN mac.val) = d → s.rdN (ix Obj.PTP_PORT_STATE mac.val) = 6 →
    execPtpMessageRx t mac (.delayReq d i) q =
      .next (s.sendPtp mac.val .delayResp [d, (q.at_ t).engineNs - rxEarly s mac.val]) := by
  intro s hd h6
  have answers : (decide (d = s.rdN (ix Obj.PTP_GM_DOMAIN mac.val)) && decide (s.rdN (ix Obj.PTP_PORT_STATE mac.val) = 6)) = true := by
    rw [decide_eq_true hd.symm, decide_eq_true h6]; rfl
  refine congrArg Host.Outcome.next ((State.whenever_of hr).trans ?_)
  dsimp only
  rw [if_pos answers, engineNs_bump_stamped]

end

/-- Whether a message is due: none of its kind has been sent, or its interval has run since the last one (R257). -/
def ptpDue (s : State) (k ns : Nat) : Bool := match mapGet s.ref.ptpSent k with | some a => s.ran a ns | none => true

theorem ptpDue_of {s : State} {k ns : Nat} (h : ∀ a, mapGet s.ref.ptpSent k = some a → s.ran a ns = true) : ptpDue s k ns = true := by
  unfold ptpDue
  split
  · exact h _ ‹_›
  · rfl

/-! ## Masters that fall silent -/

/-- Whether a foreign master of a MAC has sent no Announce for the limit (R159). -/
def silentMaster (s : State) (mac : Nat) (f : Foreign) : Bool := f.mac == mac && s.overdue (f.announceAt + announceLimit s mac)

/-- Whether a MAC hears no master of its domain and has listened for the limit (R190). -/
def hearsNone (s : State) (mac : Nat) : Bool :=
  !s.ref.foreign.any (fun f => f.mac == mac && f.domain == s.rdN (ix Obj.PTP_GM_DOMAIN mac) && !silentMaster s mac f) &&
    s.overdue (s.ref.listen.getD mac 0 + announceLimit s mac)

/-- Masters of a MAC are dropped: the qualities of their domains' slots are set again, and the slots that followed one are lost (R153,
R159). -/
def dropMasters (s : State) (mac : Nat) (gone left_ : List Foreign) : State :=
  let u := { s with ref := { s.ref with foreign := left_ } }.each gone (fun u f => ptpQualities u mac f.domain)
  u.each (gone.filter (fun f => bestForeign s mac f.domain == some f))
    (fun u f => u.each ((ptpSlots u mac f.domain).filter (fun k => 2 ≤ u.candState k)) candLost)

theorem dropMasters_nil (s : State) (mac : Nat) : dropMasters s mac [] s.ref.foreign = s := rfl

/-- Where PTP runs, a timeout drops the silent masters and decides the port again (R159, R190). -/
theorem execPtpAnnounceTimeout_of_alive {t : Nat} {mac : Fin 3} {q : State} (ha : ptpAlive (q.at_ t) = true) :
    let s := q.at_ t
    execPtpAnnounceTimeout t mac q = .next (ptpDecide (dropMasters s mac.val (s.ref.foreign.filter (silentMaster s mac.val))
      (s.ref.foreign.filter (fun f => !silentMaster s mac.val f))) mac.val (hearsNone s mac.val)) :=
  congrArg Host.Outcome.next (State.whenever_of ha)

/-- Where no master of the MAC is silent, the port alone is decided again (R159, R190). -/
theorem execPtpAnnounceTimeout_of_none_silent {t : Nat} {mac : Fin 3} {q : State} (ha : ptpAlive (q.at_ t) = true)
    (hf : ∀ f ∈ (q.at_ t).ref.foreign, silentMaster (q.at_ t) mac.val f = false) :
    execPtpAnnounceTimeout t mac q = .next (ptpDecide (q.at_ t) mac.val (hearsNone (q.at_ t) mac.val)) := by
  have gone : (q.at_ t).ref.foreign.filter (silentMaster (q.at_ t) mac.val) = [] :=
    List.filter_eq_nil_iff.2 fun f hm => Bool.not_eq_true _ ▸ hf f hm
  have stay : (q.at_ t).ref.foreign.filter (fun f => !silentMaster (q.at_ t) mac.val f) = (q.at_ t).ref.foreign :=
    List.filter_eq_self.2 fun f hm => by rw [hf f hm]; rfl
  rw [execPtpAnnounceTimeout_of_alive ha, gone, stay, dropMasters_nil]

/-- A master of the domain that is heard keeps the port from being silent (R190). -/
theorem hearsNone_of_heard {s : State} {m : Nat} (hf : ∀ f ∈ s.ref.foreign, silentMaster s m f = false)
    (h : s.ref.foreign.any (fun f => f.mac == m && f.domain == s.rdN (ix Obj.PTP_GM_DOMAIN m)) = true) :
    hearsNone s m = false := by
  obtain ⟨f, hm, hd⟩ := List.any_eq_true.1 h
  have heard : s.ref.foreign.any (fun f => f.mac == m && f.domain == s.rdN (ix Obj.PTP_GM_DOMAIN m) && !silentMaster s m f) = true :=
    List.any_eq_true.2 ⟨f, hm, by rw [hd, hf f hm]; rfl⟩
  rw [hearsNone, heard]
  rfl

/-- A port without any master is silent once it has listened for the limit (R190). -/
theorem hearsNone_of_no_master {s : State} {m : Nat} (hf : ∀ f ∈ s.ref.foreign, f.mac ≠ m)
    (h : s.overdue (s.ref.listen.getD m 0 + announceLimit s m) = true) : hearsNone s m = true := by
  have none_heard : s.ref.foreign.any (fun f => f.mac == m && f.domain == s.rdN (ix Obj.PTP_GM_DOMAIN m) && !silentMaster s m f) = false :=
    List.any_eq_false.2 fun f hm => by rw [beq_false_of_ne (hf f hm)]; exact Bool.false_ne_true
  rw [hearsNone, none_heard, h]
  rfl

/-! ## The commands together -/

/-- Settles O12: the Announce by what the choice of a master leaves, messages to send by what is due, and the timeout by whether the port
hears a master. -/
theorem ptpCommandsComplete : Obligations.PtpCommandsComplete := by
  refine ⟨fun t d cls acc var steps p1 p2 gm sender mac q hr => ?announce, fun t mac d i two q hr => ?sync,
    fun t mac d i q hr hd h6 => execPtpMessageRx_delayReq (i := i) hr hd h6, fun t mac q hr h6 hs => ?sendAnnounce,
    fun t mac q hr h6 hs => ?sendSync, fun t mac q hr h9 hs => ?sendDelayReq, fun t q h3 hd hr => ?degrades,
    fun t mac q ha hf hd => ?heard, fun t mac q ha hf hl => ?silent⟩
  case announce =>
    obtain ⟨u, he, hm⟩ := execPtpMessageRx_announce (d := d) (cls := cls) (acc := acc) (var := var) (steps := steps) (p1 := p1)
      (p2 := p2) (gm := gm) (sender := sender) hr
    exact ⟨u, he, _, hm, rfl, rfl, rfl, rfl, rfl⟩
  case sync => exact congrArg Host.Outcome.next (State.whenever_of hr)
  case sendAnnounce | sendSync =>
    exact congrArg Host.Outcome.next (State.whenever_of (Bool.and_eq_true_iff.2 ⟨by rw [hr, h6]; rfl, ptpDue_of hs⟩))
  case sendDelayReq =>
    exact congrArg Host.Outcome.next (State.whenever_of (Bool.and_eq_true_iff.2 ⟨by rw [hr, h9]; rfl, ptpDue_of hs⟩))
  case degrades => exact congrArg Host.Outcome.next (State.whenever_of (by rw [decide_eq_true h3, hd, hr]; rfl))
  case heard => exact hearsNone_of_heard hf hd ▸ execPtpAnnounceTimeout_of_none_silent ha hf
  case silent =>
    have none_silent : ∀ f ∈ (q.at_ t).ref.foreign, silentMaster (q.at_ t) mac.val f = false := fun f hm => by
      rw [silentMaster, beq_false_of_ne (hf f hm), Bool.false_and]
    exact hearsNone_of_no_master hf hl ▸ execPtpAnnounceTimeout_of_none_silent ha none_silent

end Machine
end Sys2Proof
end

section
/-! SUPPORT. Auxiliary spindles and timing outputs: what their commands do once their conditions hold (R172, R178, R179, R185 to R188). -/

namespace Sys2Proof
namespace Machine

section
variable {t n : Nat} {q s : State}

/-! ## Auxiliary spindles -/

/-- A spindle that steers to a source which is there, and has reached its frequency, has acquired it (R172). -/
theorem execSpAcquired_acquires {sp : Fin 8} (h2 : 2 ≤ sp.val) (hst : (q.at_ t).rdN (ix Obj.SP_STATE sp.val) = 2)
    (hsrc : (q.at_ t).rdN (ix Obj.SP_SOURCE sp.val) ≠ 0)
    (hc : (q.at_ t).candState ((q.at_ t).rdN (ix Obj.SP_SOURCE sp.val) - 1) = 3 ∨
      (q.at_ t).candState ((q.at_ t).rdN (ix Obj.SP_SOURCE sp.val) - 1) = 4)
    (hf : auxControl (q.at_ t) sp.val = ((q.at_ t).cand ((q.at_ t).rdN (ix Obj.SP_SOURCE sp.val) - 1)).measured * 1000) :
    execSpAcquired t sp q = .next ((auxClear ((q.at_ t).wr (ix Obj.SP_CONTROL sp.val) (auxControl (q.at_ t) sp.val)) sp.val).wr
      (ix Obj.SP_STATE sp.val) 3) := by
  have there : ((q.at_ t).candState ((q.at_ t).rdN (ix Obj.SP_SOURCE sp.val) - 1) == 3 ||
      (q.at_ t).candState ((q.at_ t).rdN (ix Obj.SP_SOURCE sp.val) - 1) == 4) = true := by
    rwa [Bool.or_eq_true, beq_iff_eq, beq_iff_eq]
  exact congrArg Host.Outcome.next (State.whenever_of (by
    rw [decide_eq_true h2, beq_iff_eq.2 hst, bne_iff_ne.2 hsrc, there, beq_iff_eq.2 hf]; rfl))

/-- A spindle whose holdover timer has run is out of specification, and shows how long it has held (R178, R179). -/
theorem execSpHoldoverOos_expires {sp : Fin 8} {h : Nat × Nat × Nat} (hh : (q.at_ t).ref.auxHold.find? (fun x => x.1 == sp.val) = some h)
    (hst : (q.at_ t).rdN (ix Obj.SP_STATE sp.val) = 4) (hd : (q.at_ t).overdue (h.2.1 + h.2.2 * 1000000000) = true) :
    execSpHoldoverOos t sp q = .next ((((q.at_ t).wr (ix Obj.SP_STATE sp.val) 5).wr (ix Obj.SP_HOLD_ELAPSED_S sp.val)
      (((q.at_ t).clock.now - h.2.1) / 1000000000 : Nat)).raise Ev.SP_HOLDOVER_OOS sp.val) := by
  simp only [execSpHoldoverOos, hh]
  exact congrArg Host.Outcome.next (State.whenever_of (by rw [beq_iff_eq.2 hst, hd]; rfl))

/-! ## Timing outputs -/

/-- The condition of the end of a slew: a correction runs and the edges have moved by all of it (R186). -/
theorem slewHasRun_of {a : Align} (hst : s.rdN (ix Obj.ALIGN_STATE n) = 1)
    (h : a.slew.map (fun x => x.1) = some (slewedEdge s a)) :
    (s.rdN (ix Obj.ALIGN_STATE n) == 1 && a.slew.isSome && a.slew.map (fun x => x.1) == some (slewedEdge s a)) = true := by
  have runs : a.slew.isSome = true := by rw [← Option.isSome_map, h]; rfl
  rw [beq_iff_eq.2 hst, runs, beq_iff_eq.2 h]; rfl

/-- An output whose correction has run its length keeps its edges where they are and is aligned (R186). -/
theorem execAlignSlewDone_aligns {k : Fin 6} (hst : (q.at_ t).rdN (ix Obj.ALIGN_STATE k.val) = 1)
    (h : ((q.at_ t).align k.val).slew.map (fun x => x.1) = some (slewedEdge (q.at_ t) ((q.at_ t).align k.val))) :
    execAlignSlewDone t k q = .next ((showEdges ((q.at_ t).setAlign k.val
      (fun a => { a with anchor := edgeOf (q.at_ t) k.val, slew := none, overs := 0 })) k.val).wr (ix Obj.ALIGN_STATE k.val) 2) :=
  congrArg Host.Outcome.next (State.whenever_of (slewHasRun_of hst h))

end

/-! ## The commands together -/

/-- Settles O11: the spindles by their timer and frequency, a pulse by whether it qualifies, and the checks, the end of a slew and the loss of
alignment by what has been timed. -/
theorem spindleCommandsComplete : Obligations.SpindleCommandsComplete := by
  refine ⟨fun t sp q h2 hst hsrc hc hf => execSpAcquired_acquires h2 hst hsrc hc hf,
    fun t sp h q hh hst hd => execSpHoldoverOos_expires hh hst hd, fun t p q hp => ?pulseAlone, fun t p q hp => ?pulseChecks,
    fun t q hc => ?checked, fun t k q hst h => ?slewed, fun t p q hl hp => ?lost⟩
  case pulseAlone => exact congrArg Host.Outcome.next (State.whenever_of_not hp)
  case pulseChecks => exact congrArg Host.Outcome.next (State.whenever_of hp)
  case checked => exact congrArg Host.Outcome.next (State.whenever_of (decide_eq_true hc))
  case slewed => exact ⟨_, execAlignSlewDone_aligns hst h, State.rd_wr_same ..⟩
  case lost => exact congrArg Host.Outcome.next (State.whenever_of (by rw [decide_eq_true hl, hp]; rfl))

end Machine
end Sys2Proof
end

section
/-! SUPPORT. Audio ports and ASRC channels: what a frame comes to, the relock of a port, and the lock of an ASRC channel (R203 to R207,
R212, R216). -/

namespace Sys2Proof
namespace Machine

/-! ## What is read of a port -/

section
variable {p : Nat}

/-- The objects of the ports lie below those of the ASRC channels, the parameters and the event sources. -/
theorem portKey_lt (hp : p < 28) {sub : Nat} (hs : sub < 256) : portKey p sub < 0x330000 := by
  unfold portKey portUnit keyOf
  split_ifs <;> omega

theorem isParam_of_lt {k : Nat} (h : k < 0x500000) : isParam k = false := by
  simp only [isParam, beq_eq_false_iff_ne]
  omega

theorem isParam_portKey (hp : p < 28) {sub : Nat} (hs : sub < 256) : isParam (portKey p sub) = false :=
  isParam_of_lt ((portKey_lt hp hs).trans (by decide))

/-- Two sub-indices of one port are two objects. -/
theorem portKey_ne {sub sub' : Nat} (h : sub ≠ sub') : portKey p sub ≠ portKey p sub' := by
  unfold portKey keyOf
  omega

/-- What a port shows of its qualification: PORT_STATE, and its state beside its objects. -/
def State.portView (s : State) (p : Nat) : Nat × Port := (s.portState p, s.port p)

theorem State.portView_congr {s u : State} (hr : s.rd (portKey p Obj.PORT_STATE) = u.rd (portKey p Obj.PORT_STATE)) (hi : s.io = u.io) :
    s.portView p = u.portView p := by
  rw [State.portView, State.portState, State.rdN, State.port, hr, hi]
  rfl

theorem State.portView_wr (hp : p < 28) (s : State) {k : Nat} (v : Int) (hk : k ≠ portKey p Obj.PORT_STATE) :
    (s.wr k v).portView p = s.portView p :=
  State.portView_congr (State.rd_wr_ne _ _ _ _ hk.symm (isParam_portKey hp (by decide))) rfl

theorem State.portView_raise (hp : p < 28) (s : State) (src arg : Nat) : (s.raise src arg).portView p = s.portView p := by
  have low := portKey_lt hp (sub := Obj.PORT_STATE) (by decide)
  refine State.portView_congr (State.rd_raise_ne _ _ ?_ (isParam_portKey hp (by decide))) (State.raise_io ..)
  simp only [ix, Obj.EVT_SRC_MERGED]
  omega

theorem portView_showNominal (hp : p < 28) (s : State) (n : Nat) : (showNominal s p n).portView p = s.portView p := by
  unfold showNominal
  split
  · rfl
  · rw [State.portView_raise hp, State.portView_wr hp _ _ (portKey_ne (by decide))]

/-- A new PORT_STATE is shown, and leaves the state beside the objects (R203). -/
theorem portView_setPortState (hp : p < 28) (s : State) (v : Nat) : (s.setPortState p v).portView p = (v, s.port p) := by
  have written : (s.wr (portKey p Obj.PORT_STATE) v).portView p = (v, s.port p) := by
    rw [State.portView, State.portState, State.rdN, State.rd_wr_same]
    rfl
  unfold State.setPortState
  dsimp only
  split_ifs
  · exact (portView_showNominal hp _ _).trans written
  · exact (portView_showNominal hp _ _).trans written
  · exact written

/-- A parameter lies above the objects of the ports and of the ASRC channels (R76). -/
theorem le_paramKey (i n : Nat) : 0x500000 ≤ paramKey i n := by
  unfold paramKey keyOf
  omega

theorem portView_setAsrc (hp : p < 28) (s : State) (c st : Nat) : (setAsrc s c st).portView p = s.portView p := by
  have low := portKey_lt hp (sub := Obj.PORT_STATE) (by decide)
  have shown : (s.wr (entry Obj.ASRC_STATE c) st).portView p = s.portView p :=
    State.portView_wr hp _ _ (by simp only [entry, Obj.ASRC_STATE]; omega)
  have ne_locked (i : Nat) : paramKey i Par.ASRC_LOCKED ≠ portKey p Obj.PORT_STATE := by
    have := le_paramKey i Par.ASRC_LOCKED
    omega
  unfold setAsrc
  dsimp only
  split
  · exact shown
  · exact (State.portView_wr hp _ _ (ne_locked _)).trans shown

/-- The state of a port that there is, as just set. -/
theorem State.port_setPort {s : State} (h : p < s.io.ports.length) (f : Port → Port) : (s.setPort p f).port p = f (s.port p) := by
  simp [State.setPort, State.port, setAt, h]

/-- A port that 64 frames have qualified is one that there is. -/
theorem lt_length_of_qualifies {s : State} (h : qualifies (s.port p) = true) : p < s.io.ports.length := by
  by_contra out
  have none_there : s.port p = noPort := by simp [State.port, List.getElem?_eq_none (Nat.le_of_not_lt out)]
  rw [none_there] at h
  exact absurd h (by decide)

/-- A member that fixes the phase of its window changes groups alone (R219). -/
theorem fixPhase_ports (s : State) (kind unit ns : Nat) : (fixPhase s kind unit ns).io.ports = s.io.ports := by
  unfold fixPhase
  split
  · rfl
  · dsimp only
    split <;> rfl

end

/-! ## Frames -/

/-- What a frame comes to once it has been seen (R205, R207): a fault of a port that streams, another good frame, or the start of an
acquisition. -/
def frameTaken (p : Nat) (f : PortFrame) (accepted : List (Nat × List Byte)) (modeChanged modeless : Bool) (s : State) : State :=
  let glitch := !tdmMaster s p && glitched s p f
  let off := !tdmMaster s p && rateStep (s.port p).starts
  let st := s.portState p
  if st = 2 ∨ st = 3 ∨ st = 5 then
    if glitch || off || modeChanged then clockFault s p (if off && !glitch then 3 else 2)
    else if st = 2 then s.setPort p (fun x => { x with run := x.run + 1 })
    else goodPortFrame p f accepted s
  else if glitch || modeless then (s.setPortState p 1).setPort p (fun x => { x with starts := x.starts.take 1 })
  else (s.setPortState p 2).setPort p (fun x => { x with starts := x.starts.take 1, run := 1 })

section
variable {t : Nat} {port : Fin 28} {f : PortFrame} {q : State}

/-- A frame of a TDM or AES3 port that is on, which has no mode (R205). -/
theorem execPortFrame_of_lt (hp : port.val < 24) (on : portOn (q.at_ t) port.val = true) :
    let r := frameSeen port.val f (q.at_ t)
    execPortFrame t port f q = .next (frameTaken port.val f r.2 false false r.1) := by
  have no_mode : decide (24 ≤ port.val) = false := decide_eq_false (by omega)
  unfold execPortFrame
  dsimp only
  rw [State.whenever_of on]
  simp only [no_mode, Bool.false_and]
  rfl

/-- A frame of a MADI port that is on shows its mode; another mode than before is a fault (R201, R205). -/
theorem execPortFrame_of_ge (hp : 24 ≤ port.val) (on : portOn (q.at_ t) port.val = true)
    (started : ((q.at_ t).port port.val).starts ≠ []) :
    let s := q.at_ t
    let r := frameSeen port.val f s
    let mode := madiModeOf f.words.length (s.clock.now - (s.port port.val).frameAt)
    execPortFrame t port f q =
      .next (frameTaken port.val f r.2 (decide (mode ≠ r.1.rdN (portKey port.val 2))) (mode == 0) (r.1.wr (portKey port.val 2) mode)) := by
  have has_mode : decide (24 ≤ port.val) = true := decide_eq_true hp
  have seen_before : ((q.at_ t).port port.val).starts.isEmpty = false := List.isEmpty_eq_false_iff.2 started
  obtain ⟨-, -, same_time, -⟩ := kept_parts (frameSeen_kept port.val f (q.at_ t))
  unfold execPortFrame
  dsimp only
  rw [State.whenever_of on]
  simp only [has_mode, seen_before, same_time, Bool.true_and]
  rfl

end

section
variable {p : Nat} {f : PortFrame} {accepted : List (Nat × List Byte)} {modeless : Bool} {s : State}

/-- A good frame of a port that runs or fades in brings its samples (R205). -/
theorem frameTaken_of_good (hst : s.portState p = 3 ∨ s.portState p = 5) (hg : glitched s p f = false)
    (hr : rateStep (s.port p).starts = false) : frameTaken p f accepted false modeless s = goodPortFrame p f accepted s := by
  obtain h | h := hst <;> simp [frameTaken, h, hg, hr]

/-- A frame of such a port that ends in a glitch is a fault of cause 2 (R205). -/
theorem frameTaken_of_glitch {modeChanged : Bool} (hst : s.portState p = 3 ∨ s.portState p = 5) (hm : tdmMaster s p = false)
    (hg : glitched s p f = true) : frameTaken p f accepted modeChanged modeless s = clockFault s p 2 := by
  obtain h | h := hst <;> simp [frameTaken, h, hm, hg]

/-- A frame of a searching port, of a master or without a glitch, starts its acquisition (R207). -/
theorem frameTaken_of_searching {modeChanged : Bool} (hst : s.portState p = 1) (hg : tdmMaster s p = true ∨ glitched s p f = false) :
    frameTaken p f accepted modeChanged false s =
      (s.setPortState p 2).setPort p (fun x => { x with starts := x.starts.take 1, run := 1 }) := by
  obtain h | h := hg <;> simp [frameTaken, hst, h]

/-- Of a TDM port a frame shows nothing in the dictionary. -/
theorem frameSeen_dict (hp : p < 16) : (frameSeen p f s).1.dict = s.dict := by
  simp only [frameSeen, if_pos hp]
  rfl

end

/-! ## The relock of a port -/

/-- 64 good frames put a port into its fade-in, from the position after that of the latest of them (R207). -/
theorem execPortRelocked_fades {t : Nat} {port : Fin 28} {q : State} (hst : (q.at_ t).portState port.val = 2)
    (hq : qualifies ((q.at_ t).port port.val) = true) :
    ∃ u x, execPortRelocked t port q = .next u ∧ u.portView port.val = (5, x) ∧ x.fadeAt = x.pos + 1 ∧ x.badRun = 0 := by
  have hp : port.val < 28 := port.isLt
  unfold execPortRelocked
  extract_lets s p
  rw [State.whenever_of (by rw [hst, hq]; rfl)]
  extract_lets unsync start fixed phase phased pos placed fading woken raised
  have there : p < phased.io.ports.length := by
    have same : phased.io.ports = s.io.ports := by
      dsimp only [phased, fixed, State.wr_io]
      split
      · rfl
      · exact fixPhase_ports ..
    exact same ▸ lt_length_of_qualifies hq
  have view : raised.portView p = (5, placed.port p) := calc
    raised.portView p = woken.portView p := State.portView_raise hp ..
    _ = fading.portView p := State.each_leaves (State.portView · p) fun u c _ => portView_setAsrc hp u c 2
    _ = (5, placed.port p) := portView_setPortState hp ..
  have fade_set : placed.port p = _ := State.port_setPort there _
  refine ⟨_, placed.port p, rfl, ?_, by rw [fade_set], by rw [fade_set]⟩
  split
  · exact (State.portView_raise hp ..).trans view
  · exact view

/-! ## ASRC channels -/

/-- The sample of the present is read of the clock, the rate of slewing and the engine rate (R135, R136). -/
theorem State.sampleNow_congr {s u : State} (hc : s.clock = u.clock) (hr : s.rd Obj.TIME_SLEW_PPB = u.rd Obj.TIME_SLEW_PPB)
    (hf : s.rd Obj.ENGINE_RATE_RUNNING = u.rd Obj.ENGINE_RATE_RUNNING) : s.sampleNow = u.sampleNow := by
  rw [State.sampleNow, State.reached, State.fs, State.engineNs_congr hc hr, hf]
  rfl

/-- The objects that a key starts for 256 channels lie within three indices. -/
theorem entry_lt (k : Nat) {c : Nat} (hc : c < 256) : entry k c < k + 0x300 := by
  unfold entry
  omega

/-- ASRC_STATE of a channel is an object below the parameters. -/
theorem asrcState_lt {c : Nat} (hc : c < 256) : entry Obj.ASRC_STATE c < 0x500000 := (entry_lt _ hc).trans (by decide)

/-- ASRC_STATE of a channel, as just set (R216). -/
theorem rd_setAsrc {c : Nat} (hc : c < 256) (s : State) (st : Nat) : (setAsrc s c st).rd (entry Obj.ASRC_STATE c) = st := by
  have ne_locked (i : Nat) : entry Obj.ASRC_STATE c ≠ paramKey i Par.ASRC_LOCKED :=
    ((asrcState_lt hc).trans_le (le_paramKey i _)).ne
  unfold setAsrc
  dsimp only
  split
  · exact State.rd_wr_same ..
  · exact (State.rd_wr_ne _ _ _ _ (ne_locked _) (isParam_of_lt (asrcState_lt hc))).trans (State.rd_wr_same ..)

theorem setAsrc_io (s : State) (c st : Nat) : (setAsrc s c st).io = s.io := by
  unfold setAsrc
  dsimp only
  split <;> rfl

/-- An ASRC channel whose ratio is in range locks, and fades in from the next sample on (R207, R215, R216; log entry 39). -/
theorem execAsrcAcquired_locks {t : Nat} {ch : Fin 256} {q : State} (hi : (q.at_ t).rdN (entry Obj.ASRC_CHAN_INSTANCE ch.val) ≠ 0xFFFF)
    (hst : (q.at_ t).rdN (entry Obj.ASRC_STATE ch.val) = 2)
    (hr : ratioInRange (asrcRatio (q.at_ t) ((q.at_ t).rdN (entry Obj.ASRC_CHAN_INSTANCE ch.val))) = true) :
    ∃ (v : State) (delay : Nat), execAsrcAcquired t ch q = .next ((setAsrc v ch.val 3).wr (entry Obj.ASRC_DELAY_NS ch.val) delay) ∧
      mapGet v.io.asrcFade ch.val = some ((q.at_ t).sampleNow + 1) := by
  unfold execAsrcAcquired
  extract_lets s c i ratio
  rw [State.whenever_of (by rw [decide_eq_true hi, beq_iff_eq.2 hst]; rfl), if_pos hr]
  refine ⟨_, _, rfl, ?_⟩
  have ratio_key : entry Obj.ASRC_RATIO c < Obj.ASRC_RATIO + 0x300 := entry_lt _ ch.isLt
  have same_sample : (s.wr (entry Obj.ASRC_RATIO c) ratio).sampleNow = s.sampleNow :=
    State.sampleNow_congr rfl (State.rd_wr_ne _ _ _ _ (ratio_key.trans (by decide)).ne' rfl)
      (State.rd_wr_ne _ _ _ _ (ratio_key.trans (by decide)).ne' rfl)
  rw [← same_sample]
  exact mapGet_mapSet_same ..

/-! ## Clock faults and mutes -/

section
variable {t : Nat} {port : Fin 28} {q : State}

/-- The kind of port that has the lock of a cause (R205). -/
def lockKind : LockCause → Nat
  | .biphase => 2
  | .signalDetect => 3
  | .lineClock => 3

/-- A streaming port that loses a lock of its kind has a fault of cause 5 (R205). -/
theorem execLockLoss_faults {c : LockCause} (hk : portKind port.val = lockKind c) (hw : watched (q.at_ t) port.val = true)
    (hs : streaming (q.at_ t) port.val = true) : execLockLoss t port c q = .next (clockFault (q.at_ t) port.val 5) := by
  have lost (fits : (portKind port.val == lockKind c) = true) :
      (portKind port.val == lockKind c && watched (q.at_ t) port.val && streaming (q.at_ t) port.val) = true := by rw [fits, hw, hs]; rfl
  cases c with
  | biphase | signalDetect | lineClock => exact congrArg Host.Outcome.next (State.whenever_of (lost (beq_iff_eq.2 hk)))

/-- The mute of a receive stream's channel ends once no mark has come for the hold, and its stream fades in (R212; log entry 23). -/
theorem execNonaudioClear_stream {port : Fin 284} {n ch last : Nat} (hp : port.val = 28 + n)
    (hm : mapGet ((q.at_ t).rx n).marks ch = some last)
    (ho : (q.at_ t).overdue (last + (q.at_ t).rdN Obj.NONAUDIO_HOLD_MS * 1000000) = true) :
    execNonaudioClear t port ch q =
      .next (((q.at_ t).setRx n (fun x => { x with marks := mapDel x.marks ch, fadeAt := (q.at_ t).sampleNow + 1 })).raise
        Ev.NONAUDIO_CLEAR (arg2 (4 * 256 + n) ch)) := by
  have stream : ¬ port.val < 28 := by omega
  have number : port.val - 28 = n := by omega
  simp only [execNonaudioClear, if_neg stream, number, hm]
  exact congrArg Host.Outcome.next (State.whenever_of ho)

end

/-! ## The commands together -/

/-- Settles O13: the faults, the ends of fades and mutes and the sample instant by their conditions, a frame by what it comes to, and the
relock and the lock of an ASRC channel by what they leave to be read. -/
theorem portCommandsComplete : Obligations.PortCommandsComplete := by
  refine ⟨fun t port q hw hs ho => ?clockStop, fun t port q hk hw hs => execLockLoss_faults (c := .biphase) hk hw hs,
    fun t port q hk hw hs => execLockLoss_faults (c := .signalDetect) hk hw hs,
    fun t port q hk hw hs => execLockLoss_faults (c := .lineClock) hk hw hs,
    fun t port q hw hs hb => ?errors, fun t port f q hp on hst hg => ?searching, fun t port f q hp on hst _ hg hr => ?good,
    fun t port f q hp on hf hm hst hg hr => ?goodMadi, fun t port f q hp on hst hm hg => ?glitch, fun t port q hst hq => ?relocked,
    fun t port q hst hf => ?fadedIn, fun t ch q hi hst hr => ?outOfRange, fun t ch q hi hst hr => ?locks,
    fun t ch n last port q hp hm ho => execNonaudioClear_stream hp hm ho, fun t ch port q hp => if_pos hp, fun t q => rfl⟩
  case clockStop => exact congrArg Host.Outcome.next (State.whenever_of (by rw [hw, hs, ho]; rfl))
  case errors => exact congrArg Host.Outcome.next (State.whenever_of (by rw [hw, hs, decide_eq_true hb]; rfl))
  case searching =>
    have same (k : Nat) : (frameSeen port.val f (q.at_ t)).1.rdN k = (q.at_ t).rdN k :=
      congrArg Int.toNat (State.rd_congr (frameSeen_dict hp) k)
    have master : tdmMaster (frameSeen port.val f (q.at_ t)).1 port.val = tdmMaster (q.at_ t) port.val := by
      rw [tdmMaster, same]
      rfl
    exact (execPortFrame_of_lt (by omega) on).trans
      (congrArg Host.Outcome.next (frameTaken_of_searching ((same _).trans hst) (master ▸ hg)))
  case good => exact (execPortFrame_of_lt hp on).trans (congrArg Host.Outcome.next (frameTaken_of_good hst hg hr))
  case goodMadi =>
    refine (execPortFrame_of_ge hp on hf).trans (congrArg Host.Outcome.next ?_)
    rw [decide_eq_false (not_not_intro hm.symm)]
    exact frameTaken_of_good hst hg hr
  case glitch => exact (execPortFrame_of_lt hp on).trans (congrArg Host.Outcome.next (frameTaken_of_glitch hst hm hg))
  case relocked =>
    obtain ⟨u, x, hu, hv, hf, hb⟩ := execPortRelocked_fades hst hq
    obtain ⟨shown, rfl⟩ := Prod.mk.inj hv
    exact ⟨u, hu, shown, hf, hb⟩
  case fadedIn => exact congrArg Host.Outcome.next (State.whenever_of (by rw [beq_iff_eq.2 hst, decide_eq_true hf]; rfl))
  case outOfRange =>
    refine congrArg Host.Outcome.next ((State.whenever_of (by rw [decide_eq_true hi, beq_iff_eq.2 hst]; rfl)).trans (if_neg ?_))
    rw [hr]
    exact Bool.false_ne_true
  case locks =>
    obtain ⟨v, delay, hv, fade⟩ := execAsrcAcquired_locks hi hst hr
    refine ⟨_, hv, ?_, ?_⟩
    · have other : entry Obj.ASRC_STATE ch.val ≠ entry Obj.ASRC_DELAY_NS ch.val := by
        simp only [entry, Obj.ASRC_STATE, Obj.ASRC_DELAY_NS]
        omega
      exact (State.rd_wr_ne _ _ _ _ other (isParam_of_lt (asrcState_lt ch.isLt))).trans (rd_setAsrc ch.isLt v 3)
    · rw [State.wr_io, setAsrc_io]
      exact fade

end Machine
end Sys2Proof
end

section
/-! SUPPORT. MACs and media streams: a frame at a MAC, the frames of flow control, the end of a hold, and when the packet of a stream leaves
(R226, R229, R231 to R234, R238, R253, R304, R440). -/

namespace Sys2Proof
namespace Machine

section
variable {t : Nat} {mac : Fin 3} {q s : State}

/-! ## Frames and links -/

/-- While no wake source is armed, a frame that reaches the MAC of an engine that runs is received and wakes nothing (R229, R253). -/
theorem execFrameRx_of_not_armed (f : EthFrame) (hd : (q.at_ t).power.doff < 3)
    (hst : (q.at_ t).power.stage = 5 ∨ (q.at_ t).power.stage = 4 ∨ (q.at_ t).power.stage = 15) (ha : armed (q.at_ t) = false) :
    execFrameRx t mac f q = .next (frameRx mac.val f (q.at_ t)) := by
  have receives : (decide ((q.at_ t).power.doff < 3) &&
      ((q.at_ t).power.stage == 5 || (q.at_ t).power.stage == 4 || (q.at_ t).power.stage == 15)) = true := by
    rw [decide_eq_true hd, Bool.true_and, Bool.or_eq_true, Bool.or_eq_true, beq_iff_eq, beq_iff_eq, beq_iff_eq, or_assoc]
    exact hst
  simp only [execFrameRx, ha, Bool.false_and, Bool.false_eq_true, if_false, if_pos receives]

/-- A link that is down comes up on a MAC that is on, and from Doff entry on CP's alone (R226, R440). -/
theorem execMacLinkUp_comesUp (hl : (q.at_ t).linkUp mac.val = false) (hm : (q.at_ t).rdN (ix Obj.MAC_MODE mac.val) ≠ 0)
    (hk : (q.at_ t).power.doff < 2 ∨ mac.val = 2) :
    execMacLinkUp t mac q = .next (((q.at_ t).wr (ix Obj.LINK_STATE mac.val) 1).raise Ev.MAC_LINK_UP mac.val) := by
  have kept : (decide ((q.at_ t).power.doff < 2) || mac.val == 2) = true := by
    rwa [Bool.or_eq_true, decide_eq_true_eq, beq_iff_eq]
  exact congrArg Host.Outcome.next (State.whenever_of (by rw [hl, decide_eq_true hm, kept]; rfl))

/-! ## Flow control -/

/-- The condition of a repeat, for PAUSE and PFC alike: the guarded buffer stays above its low level, and the time since the latest has run
(R231, R232). -/
theorem repeatDue_of {m low ns : Nat} (hp : (s.mac m).pausing = true) (hl : low < guardedLevel s m)
    (hr : s.ran (s.mac m).pausedAt ns = true) :
    ((s.mac m).pausing && decide (low < guardedLevel s m) && s.ran (s.mac m).pausedAt ns) = true := by
  rw [hp, decide_eq_true hl, hr]; rfl

/-- The condition of their end: the guarded buffer has come down to its low level (R231, R232). -/
theorem pauseOver_of {m low : Nat} (hp : (s.mac m).pausing = true) (hl : guardedLevel s m ≤ low) :
    ((s.mac m).pausing && decide (guardedLevel s m ≤ low)) = true := by
  rw [hp, decide_eq_true hl]; rfl

/-- A hold whose quanta have run ends after what waited has been served, and its time is counted (R233, R234). -/
theorem execPauseQuantaExpire_serves (h0 : ((q.at_ t).mac mac.val).holdUntil ≠ 0)
    (hr : ((q.at_ t).mac mac.val).holdUntil ≤ (q.at_ t).clock.now) :
    execPauseQuantaExpire t mac q =
      .next ((((q.at_ t).serveMac mac.val).setMac mac.val (fun y => { y with holdUntil := 0, holdUs := 0 })).stat Obj.TX_HELD_US mac.val
        (((q.at_ t).serveMac mac.val).mac mac.val).holdUs) :=
  congrArg Host.Outcome.next (State.whenever_of (by rw [decide_eq_true h0, decide_eq_true hr]; rfl))

/-! ## Media streams -/

/-- A stream sends while the engine is in service and not a silent twin, and until the fade of a Doff entry begins (R304, R440). -/
theorem streamSends_of {n : Nat} (hs : s.inService = true) (on : s.on (txKey n 1) = true) (hw : s.twin.silent = false)
    (hd : s.power.doffFade = 0 ∨ s.power.doff = 0) :
    (s.inService && s.on (txKey n 1) && !s.twin.silent && (s.power.doffFade == 0 || s.power.doff == 0)) = true := by
  have unfaded : (s.power.doffFade == 0 || s.power.doff == 0) = true := by rwa [Bool.or_eq_true, beq_iff_eq, beq_iff_eq]
  rw [hs, on, hw, unfaded]; rfl

/-- The condition of a packet: its stream sends, it is complete and has not left, and the streams before have sent (R238). -/
theorem packetLeaves_of {n now : Nat} {runs : Bool} (hr : runs = true) (h1 : 1 ≤ now) (hn : mapGet s.net.packets n ≠ some now)
    (ht : txTurn s n = true) :
    (runs && decide (1 ≤ now) && decide (mapGet s.net.packets n ≠ some now) && txTurn s n) = true := by
  rw [hr, decide_eq_true h1, decide_eq_true hn, ht]; rfl

end

/-! ## The commands together -/

/-- Settles O14: a frame, a link and a hold by their conditions, and PAUSE and PFC by the two conditions that they share. -/
theorem macCommandsComplete : Obligations.MacCommandsComplete := by
  refine ⟨fun t mac f q hd hst ha => execFrameRx_of_not_armed f hd hst ha, fun t mac q hl hm hk => execMacLinkUp_comesUp hl hm hk,
    fun t mac q hl => ?linkDown, fun t q hp hl hr => ?pauseAgain, fun t q hp hl => ?pauseEnds, fun t mac q hp hl hr => ?pfcAgain,
    fun t mac q hp hl => ?pfcEnds, fun t mac q h0 hr => execPauseQuantaExpire_serves h0 hr⟩
  case linkDown => exact congrArg Host.Outcome.next (State.whenever_of hl)
  case pauseAgain | pfcAgain => exact congrArg Host.Outcome.next (State.whenever_of (repeatDue_of hp hl hr))
  case pauseEnds | pfcEnds => exact congrArg Host.Outcome.next (State.whenever_of (pauseOver_of hp hl))

/-- Settles O15: a packet, a restart and a silence by their conditions. -/
theorem mediaCommandsComplete : Obligations.MediaCommandsComplete := by
  refine ⟨fun t stream q hs on hw hd h1 hn ht => ?packet, fun t stream q on hm => ?restart, fun t stream q on hs ho => ?silent⟩
  case packet => exact congrArg Host.Outcome.next (State.whenever_of (packetLeaves_of (streamSends_of hs on hw hd) h1 hn ht))
  case restart => exact congrArg Host.Outcome.next (State.whenever_of (by rw [on, decide_eq_true hm]; rfl))
  case silent => exact congrArg Host.Outcome.next (State.whenever_of (by rw [on, hs, ho]; rfl))

end Machine
end Sys2Proof
end

section
/-! SUPPORT. The line coding of Swiska is undone by its receiver: precoding and the scrambler (R263, R264). -/

namespace Sys2Proof
namespace Machine

/-! ## Precoding -/

/-- The recovery of R263 adds what the precoding took off. -/
theorem unprecode_precode {gs : List Nat} (p : Nat) (hg : ∀ g ∈ gs, g < 4) : unprecode p (precode p gs) = gs := by
  induction gs generalizing p with
  | nil => rfl
  | cons g r ih =>
    have level : g < 4 := hg g List.mem_cons_self
    have head : ((g + 4 - p % 4) % 4 + p) % 4 = g := by omega
    have tail := ih ((g + 4 - p % 4) % 4) fun x hx => hg x (List.mem_cons_of_mem _ hx)
    rw [precode, unprecode, head, tail]

/-- Settles O49: the recovery gives back each level index, and each precoded symbol is the difference modulo 4. -/
theorem precodingIsUndone : Obligations.PrecodingIsUndone := by
  refine ⟨fun p gs _ hg => unprecode_precode p hg, fun p x gs hp hx => ⟨(x + 4 - p % 4) % 4, ?_, rfl⟩⟩
  omega

/-! ## The scrambler -/

/-- A bit that is scrambled twice from one history is itself (R264). -/
theorem scrambleBit_scrambleBit (h : List Bool) (d : Bool) : scrambleBit h (scrambleBit h d) = d := by
  simp only [scrambleBit, Bool.xor_assoc, Bool.xor_self, Bool.xor_false]

/-- Two histories with the same bits at the two taps scramble a bit alike (R264). -/
theorem scrambleBit_congr {h h' : List Bool} (h39 : h.getD 38 false = h'.getD 38 false) (h58 : h.getD 57 false = h'.getD 57 false)
    (d : Bool) : scrambleBit h d = scrambleBit h' d := by
  rw [scrambleBit, h39, h58, scrambleBit]

theorem descramble_scramble (h ds : List Bool) : descramble h (scramble h ds) = ds := by
  induction ds generalizing h with
  | nil => rfl
  | cons d r ih => rw [scramble, descramble, scrambleBit_scrambleBit, ih]

/-- The histories of a scrambler and its descrambler agree but for their m oldest bits: the descrambler has received all the others. -/
def HistoriesAgree (m : Nat) (h h' : List Bool) : Prop := ∀ i, i + m < 58 → h.getD i false = h'.getD i false

/-- A bit that both take in leaves one bit fewer to differ. -/
theorem HistoriesAgree.next {m n : Nat} {h h' : List Bool} (hm : m ≤ n + 1) (a : HistoriesAgree m h h') (s : Bool) :
    HistoriesAgree n ((s :: h).take 58) ((s :: h').take 58) := by
  intro i hi
  have kept : i < 58 := by omega
  rw [List.getD_eq_getElem?_getD, List.getD_eq_getElem?_getD, List.getElem?_take_of_lt kept, List.getElem?_take_of_lt kept]
  cases i with
  | zero => rfl
  | succ i => simpa only [List.getElem?_cons_succ, List.getD_eq_getElem?_getD] using a i (by omega)

/-- Once the m oldest bits have left its history, a descrambler gives back every bit (R264). -/
theorem HistoriesAgree.drop_descramble {m : Nat} {h h' : List Bool} (a : HistoriesAgree m h h') (ds : List Bool) :
    (descramble h' (scramble h ds)).drop m = ds.drop m := by
  induction ds generalizing m h h' with
  | nil => rfl
  | cons d r ih =>
    rw [scramble, descramble]
    cases m with
    | zero =>
      have bit_right : scrambleBit h' (scrambleBit h d) = d :=
        (scrambleBit_congr (a 38 (by decide)).symm (a 57 (by decide)).symm _).trans (scrambleBit_scrambleBit h d)
      rw [List.drop_zero, List.drop_zero, bit_right]
      exact congrArg (d :: ·) (ih (m := 0) (a.next (by decide) _))
    | succ m => exact ih (a.next le_rfl _)

/-- Settles O50: with one history bit by bit, and after 58 bits the descrambler has received its whole history. -/
theorem scramblingIsUndone : Obligations.ScramblingIsUndone :=
  ⟨descramble_scramble, fun _ _ ds => HistoriesAgree.drop_descramble (fun _ hi => absurd hi (by omega)) ds⟩

end Machine
end Sys2Proof
end

section
/-! SUPPORT. Swiska ports: what is read of a port, blocks by their check, training, and the traffic of a trained link (R261 to R292). -/

namespace Sys2Proof
namespace Machine

/-! ## What is read of a port -/

section
variable {p : Nat} {s u : State} {f : Link → Link}

@[simp] theorem keySub_ix (k n : Nat) : keySub (ix k n) = keySub k := by
  simp only [keySub, ix]
  omega

/-- The objects of units that start above the parameter block are no parameters (R76). -/
theorem isParam_ix_of_ge {k : Nat} (n : Nat) (h : 0x600000 ≤ k) : isParam (ix k n) = false := by
  simp only [isParam, ix, beq_eq_false_iff_ne]
  omega

/-- A write leaves SW_STATE when it is to another sub-index. -/
theorem State.swState_wr {k : Nat} (v : Int) (h : keySub Obj.SW_STATE ≠ keySub k) : (s.wr k v).swState p = s.swState p :=
  congrArg Int.toNat (State.rd_wr_ne _ _ _ _ (ne_of_apply_ne keySub (by rwa [keySub_ix])) (isParam_ix_of_ge p (by decide)))

/-- A port beside its objects is read of the ports alone. -/
theorem State.link_congr (h : s.links = u.links) : s.link p = u.link p := by rw [State.link, h, State.link]

/-- The state of a port that there is, as just changed. -/
theorem State.link_setLink (h : p < s.links.length) : (s.setLink p f).link p = f (s.link p) := by
  simp [State.setLink, State.link, setAt, h]

theorem State.setLink_links_length : (s.setLink p f).links.length = s.links.length := List.length_set

/-- What a change leaves of a port's state reads as before, of a port that there is not as of one that holds nothing. -/
theorem State.setLink_leaves {β : Type} (g : Link → β) (hf : g (f (s.link p)) = g (s.link p)) :
    g ((s.setLink p f).link p) = g (s.link p) := by
  by_cases h : p < s.links.length
  · rw [State.link_setLink h, hf]
  · rw [State.link_congr (u := s) (List.set_eq_of_length_le (Nat.le_of_not_lt h))]

end

/-! ## Blocks by their check -/

section
variable {type : Nat} {b : BitVec 1024} {u v : State}

/-- A block that is not a whole one of its type takes the way of a bad one (R265). -/
theorem bad_of_not_isBlock (hb : isBlock type b = false) : (if !isBlock type b then u else v) = u := by rw [hb]; rfl

/-- A whole block of its type takes the other way (R265). -/
theorem acts_of_isBlock (hb : isBlock type b = true) : (if !isBlock type b then u else v) = v := by rw [hb]; rfl

end

/-! ## Blocks sent leave what the partner has said -/

section
variable {s : State} {p : Nat}

theorem startBlock_partnerReady (e : Nat × Nat × BitVec 1024) : ((startBlock p s e).link p).partnerReady = (s.link p).partnerReady := by
  rw [startBlock, State.link_congr (State.emit_links ..)]
  exact State.setLink_leaves Link.partnerReady rfl

theorem servePort_partnerReady (n : Nat) : ((servePort p n s).link p).partnerReady = (s.link p).partnerReady := by
  induction n generalizing s with
  | zero => rfl
  | succ n ih =>
    unfold servePort
    split
    · rfl
    · split
      · exact ih.trans (startBlock_partnerReady _)
      · rfl

theorem sendBlock_partnerReady (prio : Nat) (b : BitVec 1024) : ((s.sendBlock p prio b).link p).partnerReady = (s.link p).partnerReady :=
  (servePort_partnerReady _).trans ((State.setLink_leaves Link.partnerReady rfl).trans (servePort_partnerReady _))

theorem newRequest_partnerReady (l : Nat) : ((newRequest s p l).link p).partnerReady = (s.link p).partnerReady :=
  State.setLink_leaves (s := s.draw.2) Link.partnerReady rfl

/-- The answer to requests leaves the number of ports. -/
theorem answerRequests_links_length (b : BitVec 1024) : (answerRequests s p b).links.length = s.links.length := by
  unfold answerRequests
  dsimp only
  split
  · rfl
  · exact State.setLink_links_length

end

/-! ## Training -/

section
variable {t : Nat} {port : Fin 6} {q s : State} {p : Nat} {block : BitVec 1024}

/-- A clock lock in step 1 with leave takes training to step 2, or fails it beyond 200 ppm (R261, R279). -/
theorem execSwClockLock_ends {ppb : Int} (h1 : (q.at_ t).swState port.val = 1) (hg : ((q.at_ t).link port.val).grantAt ≠ 0) :
    execSwClockLock t port ppb q = .next (
      let v := (q.at_ t).wr (ix Obj.SW_FREQ_PPB port.val) ppb
      if 200000 < ppb.natAbs then stepFails v port.val else v.setSw port.val 2) := by
  have running : (decide ((q.at_ t).swState port.val ≠ 0) && decide ((q.at_ t).swState port.val ≠ 7)) = true := by rw [h1]; rfl
  have granted : (decide (((q.at_ t).wr (ix Obj.SW_FREQ_PPB port.val) ppb).swState port.val = 1) &&
      decide ((((q.at_ t).wr (ix Obj.SW_FREQ_PPB port.val) ppb).link port.val).grantAt ≠ 0)) = true := by
    rw [State.swState_wr _ (by rw [keySub_ix]; decide), decide_eq_true h1]
    exact decide_eq_true hg
  exact congrArg Host.Outcome.next ((State.whenever_of running).trans (if_pos granted))

/-- The condition of marker lock: step 5, with both ends ready (R279). -/
theorem agreed_of (h3 : s.swState p = 3) (ha : (s.link p).agreedAt ≠ 0) :
    (s.swState p == 3 && decide ((s.link p).agreedAt ≠ 0)) = true := by
  rw [beq_iff_eq.2 h3, decide_eq_true ha]; rfl

/-- The condition of a failed training: a step of it failed or overran its time (R279). -/
theorem trainingFails_of (h1 : 1 ≤ s.swState p) (h4 : s.swState p ≤ 4) (hf : (s.link p).failed = true ∨ stepLate s p = true) :
    (decide (1 ≤ s.swState p) && decide (s.swState p ≤ 4) && ((s.link p).failed || stepLate s p)) = true := by
  rw [decide_eq_true h1, decide_eq_true h4, Bool.or_eq_true _ _ |>.mpr hf]; rfl

/-- A trained link goes down on the four causes that its receiver observes (R282). -/
theorem execSwLinkDown_observed {c : LinkCause} (hc : c = .clock ∨ c = .headers ∨ c = .markers ∨ c = .skew)
    (ht : (q.at_ t).trained port.val = true) : execSwLinkDown t port c q = .next (linkDown (q.at_ t) port.val) := by
  obtain rfl | rfl | rfl | rfl := hc <;> exact congrArg Host.Outcome.next (State.whenever_of ht)

/-- A LOOP field of 0 means nothing to a port that is in no loopback mode (R292, R293). -/
theorem loopField_of_none (hl : s.rdN (ix Obj.SW_LOOPBACK p) = 0) (hf : blockBits block 969 968 = 0) (h6 : s.swState p ≠ 6) :
    loopField s p block = s := by
  simp [loopField, hl, hf, h6]

/-- A training block that finds SW_STATE neither 2 nor 3 has its LOOP field and its precoding taken, and no more (R263, R293). -/
theorem execTrainingBlock_taken (h0 : (q.at_ t).swState port.val ≠ 0) (hb : isBlock 0x04 block = true) :
    let s := q.at_ t
    let p := port.val
    let h := s.setLink p (fun x => { x with heardAt := if x.grantAt ≠ 0 && x.heardAt = 0 then s.clock.now else x.heardAt })
    let v := (loopField h p block).setLink p
      (fun x => { x with txPrecode := setBit x.txPrecode (blockBits block 1013 1012) (blockBits block 971 971 == 1) })
    v.swState p ≠ 2 → v.swState p ≠ 3 → execTrainingBlock t port block q = .next v := by
  intro s p h v h2 h3
  refine congrArg Host.Outcome.next ((State.whenever_of (decide_eq_true h0)).trans ((acts_of_isBlock hb).trans ?_))
  extract_lets l heard looped precoded started
  have not_started : started = precoded := if_neg (by rw [decide_eq_false h2]; exact Bool.false_ne_true)
  rw [not_started]
  exact if_neg (by rw [decide_eq_false h3]; exact Bool.false_ne_true)

/-- A training block in step 4 shows whether the partner is ready (R277, R279). -/
theorem execTrainingBlock_partnerReady (hp : port.val < (q.at_ t).links.length) (h3 : (q.at_ t).swState port.val = 3)
    (hb : isBlock 0x04 block = true) (ha : ((q.at_ t).link port.val).agreedAt = 0)
    (hl : (q.at_ t).rdN (ix Obj.SW_LOOPBACK port.val) = 0) (hf : blockBits block 969 968 = 0) :
    ∃ u, execTrainingBlock t port block q = .next u ∧ (u.link port.val).partnerReady = (blockBits block 972 972 == 1) := by
  have runs : (q.at_ t).swState port.val ≠ 0 := by rw [h3]; decide
  refine ⟨_, congrArg Host.Outcome.next ((State.whenever_of (decide_eq_true runs)).trans (acts_of_isBlock hb)), ?_⟩
  extract_lets l heard looped precoded started answered cleared shown ready requested sent
  have no_loop : looped = heard := loopField_of_none hl hf (h3.trans_ne (by decide))
  have state_kept : precoded.swState port.val = 3 := by
    dsimp only [precoded]
    rw [no_loop]
    exact h3
  have not_started : started = precoded := if_neg (by rw [state_kept]; exact Bool.false_ne_true)
  have not_agreed : (precoded.link port.val).agreedAt = 0 := by
    dsimp only [precoded]
    rw [no_loop]
    exact (State.setLink_leaves Link.agreedAt rfl).trans ((State.setLink_leaves Link.agreedAt rfl).trans ha)
  have there : port.val < cleared.links.length := by
    have same : cleared.links.length = started.links.length := by
      dsimp only [cleared]
      split
      · exact State.setLink_links_length.trans (answerRequests_links_length _)
      · exact answerRequests_links_length _
    rw [same, not_started, State.setLink_links_length, no_loop, State.setLink_links_length]
    exact hp
  have told : (shown.link port.val).partnerReady = (blockBits block 972 972 == 1) := by rw [State.link_setLink there]
  have asked : (requested.link port.val).partnerReady = (shown.link port.val).partnerReady := by
    dsimp only [requested]
    split
    · exact newRequest_partnerReady l
    · rfl
  have answer : (sent.link port.val).partnerReady = (blockBits block 972 972 == 1) :=
    (sendBlock_partnerReady _ _).trans (asked.trans told)
  rw [if_pos (by rw [not_started, state_kept, not_agreed]; rfl)]
  split
  · exact (State.setLink_leaves Link.partnerReady rfl).trans answer
  · exact answer

end

/-- Settles O16: each step of training by its condition, and a training block by what it comes to. -/
theorem swiskaTrainingCommandsComplete : Obligations.SwiskaTrainingCommandsComplete := by
  refine ⟨fun t port ppb q h1 hg hp => ?clock, fun t port ppb q h1 hg hp => ?clockOff, fun t phys port lane inverted q h2 => ?blockLock,
    fun t port skew q h3 ha hk => ?deskew, fun t port skew q h3 ha hk => ?deskewFails, fun t port lane q h3 ha ho => ?stepTimeout,
    fun t port q h1 h4 hf => ?failed, fun t port q h7 on hr => ?retry, fun t port c q hc ht => execSwLinkDown_observed hc ht,
    fun t port q on hd hr hl => ?restart, fun t port block q h0 hb => ?bad,
    fun t port block q h0 hb h2 h3 => execTrainingBlock_taken h0 hb h2 h3,
    fun t port block q hp h3 hb ha hl hf => execTrainingBlock_partnerReady hp h3 hb ha hl hf⟩
  case clock => exact (execSwClockLock_ends h1 hg).trans (congrArg Host.Outcome.next (if_neg (Nat.not_lt.2 hp)))
  case clockOff => exact (execSwClockLock_ends h1 hg).trans (congrArg Host.Outcome.next (if_pos hp))
  case blockLock => exact congrArg Host.Outcome.next (State.whenever_of (beq_iff_eq.2 h2))
  case deskew =>
    refine congrArg Host.Outcome.next ((State.whenever_of (agreed_of h3 ha)).trans (if_neg ?_))
    rw [hk]
    exact Bool.false_ne_true
  case deskewFails => exact congrArg Host.Outcome.next ((State.whenever_of (agreed_of h3 ha)).trans (if_pos hk))
  case stepTimeout => exact congrArg Host.Outcome.next (State.whenever_of (by rw [beq_iff_eq.2 h3, decide_eq_true ha, ho]; rfl))
  case failed => exact congrArg Host.Outcome.next (State.whenever_of (trainingFails_of h1 h4 hf))
  case retry => exact congrArg Host.Outcome.next (State.whenever_of (by rw [beq_iff_eq.2 h7, on, hr]; rfl))
  case restart => exact congrArg Host.Outcome.next (State.whenever_of (by rw [on, decide_eq_true hd, hr, beq_iff_eq.2 hl]; rfl))
  case bad => exact congrArg Host.Outcome.next ((State.whenever_of (decide_eq_true h0)).trans (bad_of_not_isBlock hb))

/-! ## The traffic of a trained link -/

/-- Emissions one for each member of a list leave in its order. -/
theorem State.each_emit {α : Type} (s : State) (xs : List α) (f : α → Emit) :
    s.each xs (fun s x => s.emit (f x)) = { s with sent := s.sent ++ xs.map f } := by
  induction xs generalizing s with
  | nil => rw [State.each_nil, List.map_nil, List.append_nil]
  | cons x xs ih => rw [State.each_cons, ih, State.emit_sent, List.append_assoc, List.map_cons, List.singleton_append]; rfl

section
variable {t : Nat} {port : Fin 6} {lane : Fin 4} {q s : State} {p : Nat} {block : BitVec 1024}

/-- What the decoder reports leaves SW_STATE (R274). -/
theorem fecReport_swState (corrected failed : Nat) : (fecReport s p corrected failed).swState p = s.swState p := by
  unfold fecReport
  split
  · exact (State.swState_wr _ (by rw [keySub_ix]; decide)).trans (State.swState_wr _ (by rw [keySub_ix]; decide))
  · rfl

/-- A whole marker from step 2 on first makes a port that waits for it trained, and then measures on a trained link (R270, R279). -/
theorem execAlignmentMarker_whole {corrected failed : Nat} {v : State} (h2 : 2 ≤ (q.at_ t).swState port.val) (hb : isBlock 0x7E block = true)
    (hv : (if (q.at_ t).swState port.val = 4 then enterTrained (fecReport (q.at_ t) port.val corrected failed) port.val
      else fecReport (q.at_ t) port.val corrected failed) = v) :
    execAlignmentMarker t port block corrected failed q = .next (if v.trained port.val then markerMeasure v port.val block else v) := by
  refine congrArg Host.Outcome.next ((State.whenever_of (decide_eq_true h2)).trans ((acts_of_isBlock hb).trans ?_))
  rw [fecReport_swState, hv]

/-- When a port sends its markers: it runs with leave or is past training, and a new period has begun (R269). -/
theorem markersDue_of (h0 : s.swState p ≠ 0) (h7 : s.swState p ≠ 7) (hg : (s.link p).grantAt ≠ 0 ∨ 5 ≤ s.swState p)
    (hk : (s.link p).period ≤ slotNow s p / 65536) :
    (decide (s.swState p ≠ 0) && decide (s.swState p ≠ 7) && (decide ((s.link p).grantAt ≠ 0) || decide (5 ≤ s.swState p)) &&
      decide ((s.link p).period ≤ slotNow s p / 65536)) = true := by
  rw [decide_eq_true h0, decide_eq_true h7, ← Bool.decide_or, decide_eq_true hg, decide_eq_true hk]; rfl

/-- In a due period the waiting blocks are served, each of the four lanes sends its marker, and idle blocks or test patterns follow
(R269, R292). -/
theorem execAlignmentMarkerTx_sends (h0 : (q.at_ t).swState port.val ≠ 0) (h7 : (q.at_ t).swState port.val ≠ 7)
    (hg : ((q.at_ t).link port.val).grantAt ≠ 0 ∨ 5 ≤ (q.at_ t).swState port.val)
    (hk : ((q.at_ t).link port.val).period ≤ slotNow (q.at_ t) port.val / 65536) :
    let s := q.at_ t
    let p := port.val
    let v := s.serveSwiska p
    ∃ (bs : List Emit) (w : State), bs.length = 4 ∧
      w = (({ v with sent := v.sent ++ bs } : State).setLink p (fun x => { x with
        period := slotNow s p / 65536 + 1, slot := (max x.slot (65536 * (slotNow s p / 65536)) + 3) / 4 * 4 + 4,
        count := (x.count + 1) % 65536, departed := ((x.count % 65536, v.clock.now) :: x.departed).take 64 })) ∧
      execAlignmentMarkerTx t port q = .next
        (if w.swState p = 6 && w.rdN (ix Obj.SW_LOOPBACK p) ≠ 0 then sendPatterns w p else idleDue w p) := by
  intro s p v
  have run : execAlignmentMarkerTx t port q = .next _ :=
    congrArg Host.Outcome.next (State.whenever_of (markersDue_of h0 h7 hg hk))
  extract_lets served since hold fill at_ body marked counted at run
  obtain ⟨blocks, four, markers⟩ : ∃ bs : List Emit, bs.length = 4 ∧ marked = { v with sent := v.sent ++ bs } :=
    ⟨[0, 1, 2, 3].map _, rfl, State.each_emit ..⟩
  refine ⟨blocks, counted, four, ?_, run⟩
  dsimp only [counted]
  rw [markers]

/-- The condition of the choice of picks: two hop measurements of a trained link, and a batten after them (R271, R279). -/
theorem pickDecides_of (ht : s.trained p = true) (hd : (s.link p).decided = false) (hh : 2 ≤ (s.link p).hops)
    (hp : (s.link p).atPick < s.clock.pick) :
    (s.trained p && !(s.link p).decided && decide (2 ≤ (s.link p).hops) && decide ((s.link p).atPick < s.clock.pick)) = true := by
  rw [ht, hd, decide_eq_true hh, decide_eq_true hp]; rfl

/-- An idle block shows the partner's identity and guest budget, and its reference to the candidates of the port (R8, R154, R267). -/
theorem execIdleBlock_shows (ht : (q.at_ t).trained port.val = true) (hb : isBlock 0x00 block = true) :
    let s := q.at_ t
    let p := port.val
    let loom := blockBits block 981 966
    let hop := blockBits block 1005 998
    let up := blockBits block 997 982
    let v := (s.wr (ix Obj.SW_PARTNER_LOOM p) loom).setLink p (fun x => { x with guest := blockBits block 961 946 })
    let w := v.each (slots.filter (fun k => v.candType k == 2 && v.candUnit k == p)) (fun s k =>
      (s.setCand k (fun c => { c with hop := hop, upstream := up })).wr (ix Obj.REF_CAND_QUALITY k)
        (swiskaQuality v.loomId (blockBits block 1013 1006) hop up))
    execIdleBlock t port block q = .next (w.level Ev.LOOM_ID_CONFLICT p p (loom != 0 && loom == w.loomId)) := by
  intro s p loom hop up v w
  have same_loom : v.loomId = s.loomId :=
    congrArg Int.toNat (State.rd_wr_ne _ _ _ _ (ne_of_apply_ne keySub (by rw [keySub_ix]; decide)) rfl)
  refine congrArg Host.Outcome.next ((State.whenever_of ht).trans ((acts_of_isBlock hb).trans ?_))
  dsimp only [w]
  rw [same_loom]

/-- The eye quality of a lane is shown (R276). -/
theorem execSwEqfUpdate_shows {o1 o2 o3 e : Nat} (h2 : 2 ≤ (q.at_ t).swState port.val) :
    ∃ u, execSwEqfUpdate t port lane o1 o2 o3 e q = .next u ∧
      u.rd (laneKey Obj.SW_LANE_EQF port.val lane.val) = (min 255 (eqf o1 o2 o3 e) : Nat) := by
  refine ⟨_, congrArg Host.Outcome.next (State.whenever_of (decide_eq_true h2)), ?_⟩
  extract_lets shown least low
  have other : laneKey Obj.SW_LANE_EQF port.val lane.val ≠ laneKey Obj.SW_LANE_EQF_MIN port.val lane.val :=
    ne_of_apply_ne keySub (by rw [laneKey, keySub_ix, laneKey, keySub_ix]; decide)
  have least_leaves : least.rd (laneKey Obj.SW_LANE_EQF port.val lane.val) = shown.rd (laneKey Obj.SW_LANE_EQF port.val lane.val) := by
    dsimp only [least]
    split
    · exact State.rd_wr_ne _ _ _ _ other (isParam_ix_of_ge _ (by decide))
    · rfl
  exact least_leaves.trans (State.rd_wr_same ..)

end

/-- Settles O17: markers and idle blocks by what they come to, the other blocks by their fields, and the pick assignment and the eye quality
by the conditions of their commands. -/
theorem swiskaTrafficCommandsComplete : Obligations.SwiskaTrafficCommandsComplete := by
  refine ⟨fun t corrected failed port block q h hb => ?marker, fun t corrected failed port block q h4 hb => ?firstMarker,
    fun t corrected failed port block q h2 hb => ?badMarker, fun t port q h0 h7 hg hk => execAlignmentMarkerTx_sends h0 h7 hg hk,
    fun t port block q ht hb => ?badIdle, fun t port block q ht hb => execIdleBlock_shows ht hb,
    fun t port block m q ht hb hm hr => ?cut, fun t port block m q ht hb hm hr => ?cutOfOtherRate, fun t port block q ht hb h0 => ?message,
    fun t port block q ht hb h2 => ?overflow, fun t port block q h6 hl hb => ?pattern, fun t port q ht hd hh hp ha => ?added,
    fun t port q ht hd hh hp ha => ?notAdded, fun t port q ht hd hf hp => ?changed,
    fun t o1 o2 o3 e port lane q h2 => execSwEqfUpdate_shows h2, fun t port lane q ht hl hr => ?low, fun t port q hg => ?burstEnd⟩
  case marker => exact execAlignmentMarker_whole (by omega) hb (if_neg (by omega))
  case firstMarker => exact execAlignmentMarker_whole (by omega) hb (if_pos h4)
  case badMarker => exact congrArg Host.Outcome.next ((State.whenever_of (decide_eq_true h2)).trans (bad_of_not_isBlock hb))
  case badIdle => exact congrArg Host.Outcome.next ((State.whenever_of ht).trans (bad_of_not_isBlock hb))
  case cut =>
    refine congrArg Host.Outcome.next ((State.whenever_of ht).trans ((acts_of_isBlock hb).trans ?_))
    rw [hm]
    exact if_neg (not_not_intro hr)
  case cutOfOtherRate =>
    refine congrArg Host.Outcome.next ((State.whenever_of ht).trans ((acts_of_isBlock hb).trans ?_))
    rw [hm]
    exact if_pos hr
  case message | overflow =>
    refine congrArg Host.Outcome.next ((State.whenever_of ht).trans ((acts_of_isBlock hb).trans ?_))
    rw [‹blockBits block 1013 1006 = _›]
    rfl
  case pattern =>
    exact congrArg Host.Outcome.next ((State.whenever_of (by rw [beq_iff_eq.2 h6, decide_eq_true hl]; rfl)).trans (acts_of_isBlock hb))
  case added | notAdded =>
    refine congrArg Host.Outcome.next ((State.whenever_of (pickDecides_of ht hd hh hp)).trans ?_)
    rw [ha]
    rfl
  case changed =>
    exact congrArg Host.Outcome.next (State.whenever_of (by rw [ht, hd, decide_eq_true hf, decide_eq_true hp]; rfl))
  case low => exact congrArg Host.Outcome.next (State.whenever_of (by rw [ht, decide_eq_true hl, hr]; rfl))
  case burstEnd => exact congrArg Host.Outcome.next (State.whenever_of hg)

end Machine
end Sys2Proof
end

section
/-! SUPPORT. A step and the invariant: what runs, and that a sound state stays sound (R4, R371, R373, R380). -/

namespace Sys2Proof
namespace Machine

/-! ## What a step runs -/

theorem step_of_front {s : State} {c : Instr} {rest : List Instr} (h : s.pending = c :: rest) :
    step s = exec c { s with pending := rest } := by
  unfold step
  rw [h]

theorem step_of_empty {s : State} (h : s.pending = []) : step s = .next s := by
  unfold step
  rw [h]

/-- Settles O33: `step` looks at the front of the queue. -/
theorem stepRunsFrontCommand : Obligations.StepRunsFrontCommand := fun _ _ _ => step_of_front

/-- Settles O34: `step` finds no front. -/
theorem emptyQueueIdles : Obligations.EmptyQueueIdles := fun _ => step_of_empty

/-! ## The invariant -/

/-- What keeps the queue, and memory in its form, keeps the invariant. -/
theorem Sound.inv {s u : State} (h : Sound s u) (hs : s.Inv) : u.Inv := by
  obtain ⟨queue, mem⟩ := h
  obtain ⟨queueOk, memOk⟩ := hs
  exact ⟨by rw [QueueOk, queue]; exact queueOk, mem memOk⟩

/-- A command that is steady from its instant on keeps the queue, and memory in its form. -/
theorem sound_of_steady {s u : State} {t : Nat} (h : Steady (s.at_ t) u) : Sound s u := h.sound

/-- A command that may not write the creel's memory keeps the queue and leaves memory as it is. -/
theorem exec_sound_of_creelMem {c : Instr} {s : State} (hm : writesCreelMemory c = false) : ∃ u, exec c s = .next u ∧ Sound s u := by
  obtain ⟨u, hu, queue⟩ := everyCommandCompletes c s
  obtain ⟨v, hv, mem⟩ := exec_creelMem c s hm
  cases hu.symm.trans hv
  exact ⟨u, hu, queue, fun w => by rw [mem]; exact w⟩

/-- Every command completes and keeps the queue, and memory in its form; the eight that may write memory by laws of their own. -/
theorem exec_sound (c : Instr) (s : State) : ∃ u, exec c s = .next u ∧ Sound s u := by
  cases c with
  | creelWrite => exact (execCreelWrite_steady ..).imp fun _ => And.imp_right sound_of_steady
  | creelTransaction => exact (execCreelTransaction_steady ..).imp fun _ => And.imp_right sound_of_steady
  | creelLockBroken => exact (execCreelLockBroken_steady ..).imp fun _ => And.imp_right sound_of_steady
  | corePgTimeout => exact (execCorePgTimeout_steady ..).imp fun _ => And.imp_right sound_of_steady
  | corePgFall => exact (execCorePgFall_steady ..).imp fun _ => And.imp_right sound_of_steady
  | doffLatchSample => exact (execDoffLatchSample_steady ..).imp fun _ => And.imp_right sound_of_steady
  | powerLoss => exact execPowerLoss_sound ..
  | porstNFall => exact execPorstNFall_sound ..
  | _ => exact exec_sound_of_creelMem rfl

/-- The commands behind the front of a sound queue are a sound queue. -/
theorem State.Inv.rest {s : State} {c : Instr} {rest : List Instr} (h : s.Inv) (hq : s.pending = c :: rest) :
    ({ s with pending := rest } : State).Inv := by
  obtain ⟨queueOk, memOk⟩ := h
  rw [QueueOk, hq, List.all_cons, Bool.and_eq_true] at queueOk
  exact ⟨queueOk.2, memOk⟩

theorem step_inv {s t : State} (hs : s.Inv) (ht : step s = .next t) : t.Inv := by
  cases hq : s.pending with
  | nil =>
    cases (step_of_empty hq).symm.trans ht
    exact hs
  | cons c rest =>
    obtain ⟨u, hu, sound⟩ := exec_sound c { s with pending := rest }
    cases hu.symm.trans ((step_of_front hq).symm.trans ht)
    exact sound.inv (hs.rest hq)

/-- Settles O37: an empty queue idles, and a command is sound from the state with the rest of the queue. -/
theorem everyStepKeepsInvariant : Obligations.EveryStepKeepsInvariant := fun _ _ => step_inv

/-- Settles O35: at reset no command waits and no byte is listed. -/
theorem resetMeetsInvariant : Obligations.ResetMeetsInvariant := ⟨rfl, rfl⟩

end Machine
end Sys2Proof
end

section
/-! SUPPORT. The creel: words of its memory, what one access can do, and its control registers (R369 to R376, R428). -/

namespace Sys2Proof
namespace Machine

/-! ## Words of creel memory -/

section
variable {m : List Host.Cell} {a v : Nat}

/-- A word's write changes its own four bytes alone. -/
theorem memRead_memSetWord_ne {b : Nat} (h : b < a ∨ a + 4 ≤ b) : memRead (memSetWord m a v) b = memRead m b := by
  unfold memSetWord
  rw [memRead_memWrite_ne _ _ _ _ (by omega), memRead_memWrite_ne _ _ _ _ (by omega), memRead_memWrite_ne _ _ _ _ (by omega),
    memRead_memWrite_ne _ _ _ _ (by omega)]

/-- The bytes of a written word, the most significant one at the lowest address. -/
theorem map_memRead_memSetWord :
    (List.range 4).map (fun i => memRead (memSetWord m a v) (a + i)) =
      [BitVec.ofNat 8 (v / 2 ^ 24), BitVec.ofNat 8 (v / 2 ^ 16), BitVec.ofNat 8 (v / 2 ^ 8), BitVec.ofNat 8 v] := by
  simp [List.range_succ, memSetWord, memRead_memWrite_ne]

/-- A word below 2^32 is the number of its four bytes. -/
theorem memWord_memSetWord (hv : v < 2 ^ 32) : memWord (memSetWord m a v) a = v := by
  simp only [memWord, map_memRead_memSetWord, beNat, List.foldl, BitVec.toNat_ofNat]
  omega

end

/-- Settles O51: a word reads back from its bytes, and the other bytes are not its own. -/
theorem creelWordReadsBack : Obligations.CreelWordReadsBack :=
  ⟨fun _ _ _ hv => memWord_memSetWord hv, fun _ _ _ _ h => memRead_memSetWord_ne h⟩

/-! ## What one access can do -/

/-- The states that an access of a master to a word can leave (R369, R373 to R376, R428): the same one, one with an error counted, one with
another segment register, BOOT_CTRL, image length or free value, or one with a word of memory written. -/
inductive CreelEffect (m : Master) (a : Nat) (write : Bool) (data : Nat) (s : State) : State → Prop
  | same : CreelEffect m a write data s s
  | counted : CreelEffect m a write data s (s.bump Obj.CREEL_ERROR_COUNT)
  | segment (segs : List Nat) : CreelEffect m a write data s { s with creel := { s.creel with segs := segs } }
  | bootCtrl (core : m = .coreA) (open_ : s.creel.lock = false) :
      CreelEffect m a write data s { s with creel := { s.creel with remap := bit data 0, lock := bit data 1 } }
  | imageLen : CreelEffect m a write data s { s with power := { s.power with hostLen := data, hostAsked := true } }
  | drawn : CreelEffect m a write data s s.draw.2
  | word {c : Nat} (writes : write = true) (at_ : cellOf s m (a / 4 * 4) = some c) :
      CreelEffect m a write data s { s with creel := { s.creel with mem := memSetWord s.creel.mem c data } }

section
variable {m : Master} {a v : Nat} {w : Bool} {s u : State}

theorem writeSeg_effect (reg : Master) : CreelEffect m a w v s (writeSeg m reg v s).1 := by
  unfold writeSeg
  split
  · exact .segment _
  · exact .counted

theorem writeBootCtrl_effect : CreelEffect m a w v s (writeBootCtrl m v s).1 := by
  unfold writeBootCtrl
  split
  · exact .same
  · split
    · exact .same
    · exact .bootCtrl (not_not.1 ‹_›) (Bool.eq_false_of_not_eq_true ‹_›)

theorem writeImageLen_effect : CreelEffect m a w v s (writeImageLen v s) := by
  unfold writeImageLen
  split
  · exact .imageLen
  · exact .same

/-- Every access has one of these effects. -/
theorem creelAccess_effect (m : Master) (a : Nat) (w : Bool) (v : Nat) (s : State) : CreelEffect m a w v s (creelAccess m a w v s).1 := by
  unfold creelAccess
  dsimp only
  split
  · exact .counted
  · split
    · exact .counted
    split
    · exact .same
    split
    · split
      · exact writeSeg_effect _
      · exact .same
    split
    · split
      · exact writeBootCtrl_effect
      · exact .same
    split
    · split
      · exact writeImageLen_effect
      · exact .drawn
    split
    · split
      · exact .word ‹_› ‹_›
      · exact .same
    · split
      · exact .same
      · split <;> exact .same

/-- A byte that is not one of the word written reads as before (R373). -/
theorem CreelEffect.memRead {b : Nat} (h : CreelEffect m a w v s u)
    (out : ∀ x, w = true → cellOf s m (a / 4 * 4) = some x → b < x ∨ x + 4 ≤ b) :
    memRead u.creel.mem b = memRead s.creel.mem b := by
  cases h with
  | word writes at_ => exact memRead_memSetWord_ne (out _ writes at_)
  | _ => rfl

/-- Of the dictionary an access changes the count of errors alone (R369). -/
theorem CreelEffect.rd {k : Nat} (h : CreelEffect m a w v s u) (hk : k ≠ Obj.CREEL_ERROR_COUNT) (hp : isParam k = false) :
    u.rd k = s.rd k := by
  cases h with
  | counted => exact State.rd_bump_ne _ _ _ _ hk hp
  | _ => rfl

theorem CreelEffect.parts (h : CreelEffect m a w v s u) :
    u.pending = s.pending ∧ u.clock = s.clock ∧ u.heddle = s.heddle ∧ u.governor = s.governor ∧ u.ref = s.ref := by
  cases h <;> exact ⟨rfl, rfl, rfl, rfl, rfl⟩

/-- BOOT_REMAP and BOOT_LOCK change by core A alone, and not once BOOT_LOCK is set (R375). -/
theorem CreelEffect.bootCtrl_parts (h : CreelEffect m a w v s u) (held : s.creel.lock = true ∨ m ≠ .coreA) :
    u.creel.remap = s.creel.remap ∧ u.creel.lock = s.creel.lock := by
  cases h with
  | bootCtrl core open_ => exact held.elim (fun hl => absurd (open_.symm.trans hl) Bool.false_ne_true) (absurd core)
  | _ => exact ⟨rfl, rfl⟩

end

/-- Settles O52: each part holds of every effect of an access. -/
theorem creelAccessFrame : Obligations.CreelAccessFrame :=
  ⟨fun m a w v _ s out => (creelAccess_effect m a w v s).memRead out,
    fun m a w v s _ hk hp => (creelAccess_effect m a w v s).rd hk hp,
    fun m a w v s => (creelAccess_effect m a w v s).parts⟩

/-- Settles O54: an access changes the two by a write of BOOT_CTRL alone. -/
theorem bootLockHolds : Obligations.BootLockHolds :=
  fun m a w v s held => (creelAccess_effect m a w v s).bootCtrl_parts held

/-! ## The matrix of paths -/

/-- An access without a path is a counted error (R369). -/
theorem creelAccess_of_closed {m : Master} {a target v : Nat} {w : Bool} {s : State} (ht : targetOf (a / 4 * 4) = some target)
    (hp : pathOpen s m target w = false) : creelAccess m a w v s = (s.bump Obj.CREEL_ERROR_COUNT, 0, true) := by
  simp [creelAccess, ht, hp, creelError]

/-- Settles O53: an access without a path, and the rows of the agent, the mover and core B's writes in the matrix. -/
theorem creelRefusesClosedPaths : Obligations.CreelRefusesClosedPaths := by
  refine ⟨fun m a w v target s ht hp => creelAccess_of_closed ht hp, fun s target w => ?agent, fun s target w => ?mover, fun s target => ?coreB⟩
  case agent => simp [pathOpen]
  case mover => simp [pathOpen, or_assoc]
  case coreB => simp [pathOpen]

/-! ## Transactions and control registers -/

/-- A master writes its own segment register, and core A any (R374). -/
theorem writeSeg_of_own {m reg : Master} {v : Nat} {s : State} (h : m = reg ∨ m = .coreA) :
    writeSeg m reg v s = ({ s with creel := { s.creel with segs := setAt s.creel.segs (masterNo reg) (v % 16) } }, false) :=
  if_pos h

theorem writeSeg_of_foreign {m reg : Master} {v : Nat} {s : State} (h : m ≠ reg) (ha : m ≠ .coreA) :
    writeSeg m reg v s = (s.bump Obj.CREEL_ERROR_COUNT, true) :=
  if_neg (not_or.2 ⟨h, ha⟩)

theorem writeBootCtrl_of_open {v : Nat} {s : State} (h : s.creel.lock = false) :
    writeBootCtrl .coreA v s = ({ s with creel := { s.creel with remap := bit v 0, lock := bit v 1 } }, false) := by
  simp [writeBootCtrl, h]

theorem writeBootCtrl_of_locked {v : Nat} {s : State} (h : s.creel.lock = true) : writeBootCtrl .coreA v s = (s, false) := by
  simp [writeBootCtrl, h]

theorem writeBootCtrl_of_other {m : Master} {v : Nat} {s : State} (h : m ≠ .coreA) : writeBootCtrl m v s = (s, true) :=
  if_pos h

/-- Core A's write to the address of BOOT_IMAGE_LEN is a write of that register (R428). -/
theorem creelAccess_imageLen {v : Nat} {s : State} : creelAccess .coreA 0x2040C004 true v s = (writeImageLen v s, 0, false) := by
  have target : targetOf (0x2040C004 / 4 * 4) = some 1 := by decide
  simp [creelAccess, target, pathOpen]

theorem writeImageLen_of_stage {v : Nat} {s : State} (h : s.power.stage = 2) :
    writeImageLen v s = { s with power := { s.power with hostLen := v, hostAsked := true } } :=
  if_pos h

/-- Settles O26: each register by the case of its write. -/
theorem creelCommandsComplete : Obligations.CreelCommandsComplete := by
  refine ⟨fun t reqs q => rfl, fun t m l q h => ?broken, fun t v q h => ?bootOpen, fun t v q h => ?bootLocked,
    fun t m v q h => ?bootOther, fun t m reg v q h => ?segOwn, fun t m reg v q h ha => ?segForeign, fun t v q h => ?imageLen⟩
  case broken => simp only [exec, execCreelLockBroken, h]
  case bootOpen => simp only [exec, execBootCtrlWrite, writeBootCtrl_of_open h]
  case bootLocked => simp only [exec, execBootCtrlWrite, writeBootCtrl_of_locked h]
  case bootOther => simp only [exec, execBootCtrlWrite, writeBootCtrl_of_other h]
  case segOwn => simp only [exec, execCrlDdrSegWrite, writeSeg_of_own h]
  case segForeign => simp only [exec, execCrlDdrSegWrite, writeSeg_of_foreign h ha]
  case imageLen => simp only [exec, execBootImageLen, creelAccess_imageLen, writeImageLen_of_stage h]

end Machine
end Sys2Proof
end

section
/-! SUPPORT. The Heddle: what wins a target's arbitration, what a claim writes, how occurrences merge, and filtered levels (R384 to
R393); and the release of leave (R398). -/

namespace Sys2Proof
namespace Machine

/-! ## The first of a sorted list -/

section
variable {α : Type} {f : α → Nat} {x y : α} {xs acc : List α}

theorem mem_insertBy : y ∈ insertBy f x xs ↔ y = x ∨ y ∈ xs := by
  induction xs with
  | nil => rw [insertBy, List.mem_singleton, or_iff_left List.not_mem_nil]
  | cons z r ih =>
    rw [insertBy]
    split
    · exact List.mem_cons
    · rw [List.mem_cons, ih, List.mem_cons, or_left_comm]

/-- An element inserted into a sorted list leaves it sorted. -/
theorem pairwise_insertBy (h : xs.Pairwise (f · ≤ f ·)) : (insertBy f x xs).Pairwise (f · ≤ f ·) := by
  induction xs with
  | nil => exact List.pairwise_singleton _ _
  | cons z r ih =>
    have sorted := List.pairwise_cons.1 h
    rw [insertBy]
    split
    · refine List.pairwise_cons.2 ⟨fun w hw => ?_, h⟩
      obtain rfl | hr := List.mem_cons.1 hw
      · omega
      · have := sorted.1 w hr
        omega
    · refine List.pairwise_cons.2 ⟨fun w hw => ?_, ih sorted.2⟩
      obtain rfl | hr := mem_insertBy.1 hw
      · omega
      · exact sorted.1 w hr

theorem mem_foldl_insertBy : y ∈ xs.foldl (fun a x => insertBy f x a) acc ↔ y ∈ acc ∨ y ∈ xs := by
  induction xs generalizing acc with
  | nil => rw [List.foldl_nil, or_iff_left List.not_mem_nil]
  | cons z r ih => rw [List.foldl_cons, ih, mem_insertBy, List.mem_cons, or_assoc, or_left_comm]

theorem mem_sortBy : y ∈ sortBy f xs ↔ y ∈ xs := by
  rw [sortBy, mem_foldl_insertBy, or_iff_right List.not_mem_nil]

theorem pairwise_sortBy : (sortBy f xs).Pairwise (f · ≤ f ·) :=
  List.foldlRecOn xs _ List.Pairwise.nil fun _ h _ _ => pairwise_insertBy h

/-- The first of a sorted list is one of the elements, and none has a lower key. -/
theorem head?_sortBy (h : (sortBy f xs).head? = some x) : x ∈ xs ∧ ∀ y ∈ xs, f x ≤ f y := by
  obtain ⟨r, hr⟩ := List.head?_eq_some_iff.1 h
  have sorted := pairwise_sortBy (f := f) (xs := xs)
  rw [hr] at sorted
  refine ⟨mem_sortBy.1 (hr ▸ List.mem_cons_self), fun y hy => ?_⟩
  have later : y ∈ x :: r := hr ▸ mem_sortBy.2 hy
  obtain rfl | later := List.mem_cons.1 later
  · exact Nat.le_refl _
  · exact (List.pairwise_cons.1 sorted).1 y later

theorem head?_sortBy_eq_none : (sortBy f xs).head? = none ↔ xs = [] := by
  rw [List.head?_eq_none_iff, List.eq_nil_iff_forall_not_mem, List.eq_nil_iff_forall_not_mem]
  exact forall_congr' fun y => not_congr mem_sortBy

/-- The elements of a list beside their positions. -/
theorem mem_range_zip {i : Nat} : (i, x) ∈ (List.range xs.length).zip xs ↔ xs[i]? = some x := by
  rw [List.mem_iff_getElem?]
  constructor
  · rintro ⟨n, hn⟩
    obtain ⟨at_, el⟩ := List.getElem?_zip_eq_some.1 hn
    obtain ⟨_, rfl⟩ := List.getElem?_eq_some_iff.1 at_
    rwa [List.getElem_range]
  · intro el
    obtain ⟨below, -⟩ := List.getElem?_eq_some_iff.1 el
    exact ⟨i, List.getElem?_zip_eq_some.2 ⟨List.getElem?_range below, el⟩⟩

end

/-! ## The winner of a target (R388) -/

section
variable {s u : State} {target pos slot : Nat} {p x : Pend}

/-- The rank of an entry orders by priority, then by the distance from the source last claimed. -/
theorem before_of_rank_le (h : rank s p ≤ rank s x) :
    s.prioOf p.source < s.prioOf x.source ∨ (s.prioOf p.source = s.prioOf x.source ∧ after s p ≤ after s x) := by
  have rank_eq : ∀ y, rank s y = s.prioOf y.source * 2048 + after s y * 2 + (if y.clear then 0 else 1) := fun _ => rfl
  have after_lt : ∀ y, after s y < 512 := fun _ => Nat.mod_lt _ (by decide)
  have hp := after_lt p
  have hx := after_lt x
  rw [rank_eq, rank_eq] at h
  split at h <;> split at h <;> omega

/-- The entries that a target's arbitration chooses among, with their positions. -/
theorem mem_candidates :
    (pos, p) ∈ ((List.range s.heddle.pend.length).zip s.heddle.pend).filter (fun e => e.2.target == target && s.enabled e.2.source target) ↔
      s.heddle.pend[pos]? = some p ∧ p.target = target ∧ s.enabled p.source target = true := by
  rw [List.mem_filter, mem_range_zip, Bool.and_eq_true, beq_iff_eq]

/-- The winner is a pending entry enabled for its target, and none such has a lower rank. -/
theorem winner_eq_some (h : winner s target = some (pos, p)) :
    s.heddle.pend[pos]? = some p ∧ p.target = target ∧ s.enabled p.source target = true ∧
      ∀ x ∈ s.heddle.pend, x.target = target → s.enabled x.source target = true → rank s p ≤ rank s x := by
  obtain ⟨chosen, least⟩ := head?_sortBy h
  obtain ⟨at_, ht, on⟩ := mem_candidates.1 chosen
  refine ⟨at_, ht, on, fun x hx hxt hxon => ?_⟩
  obtain ⟨i, hi⟩ := List.mem_iff_getElem?.1 hx
  exact least (i, x) (mem_candidates.2 ⟨hi, hxt, hxon⟩)

theorem winner_eq_none : winner s target = none ↔ ∀ x ∈ s.heddle.pend, x.target = target → s.enabled x.source target = false := by
  refine head?_sortBy_eq_none.trans (List.eq_nil_iff_forall_not_mem.trans ⟨fun h x hx ht => ?_, fun h e he => ?_⟩)
  · obtain ⟨i, hi⟩ := List.mem_iff_getElem?.1 hx
    exact Bool.eq_false_of_not_eq_true fun on => h (i, x) (mem_candidates.2 ⟨hi, ht, on⟩)
  · obtain ⟨i, x⟩ := e
    obtain ⟨at_, ht, on⟩ := mem_candidates.1 he
    exact Bool.false_ne_true ((h x (List.mem_of_getElem? at_) ht).symm.trans on)

/-! ## What a claim writes (R389 to R393) -/

@[simp] theorem setBobbin_pend (h : Heddle) (target : Nat) (b : List Record) : (setBobbin h target b).pend = h.pend := by
  unfold setBobbin; split <;> rfl

@[simp] theorem setBobbin_seqs (h : Heddle) (target : Nat) (b : List Record) : (setBobbin h target b).seqs = h.seqs := by
  unfold setBobbin; split <;> rfl

theorem bobbin_setBobbin_same (h : Heddle) (b : List Record) : bobbin (setBobbin h target b) target = b := by
  match target with
  | 0 | 1 | 2 | _ + 3 => rfl

/-- The bobbins of two of the four targets are two. -/
theorem bobbin_setBobbin_ne {other : Nat} (h : Heddle) (b : List Record) (ht : target < 4) (ho : other < 4) (hne : other ≠ target) :
    bobbin (setBobbin h target b) other = bobbin h other := by
  revert hne
  interval_cases target <;> interval_cases other <;> simp [bobbin, setBobbin]

theorem State.putBobbin_heddle (b : List Record) : (s.putBobbin target b).heddle = setBobbin s.heddle target b := by
  unfold State.putBobbin
  dsimp only
  split <;> simp

/-- The Heddle after a claim, its bobbins apart: the entry is no longer pending, SEQ has advanced, the source is the last claimed at its
priority, and a level source is claimed until it falls. -/
def claimedHeddle (s : State) (target pos : Nat) (p : Pend) : Heddle :=
  { s.heddle with
    pend := s.heddle.pend.eraseIdx pos
    seqs := setAt s.heddle.seqs target ((s.heddle.seqs.getD target 0 + 1) % 65536)
    last := (target, s.prioOf p.source, p.source) :: s.heddle.last.filter (fun e => !(e.1 == target && e.2.1 == s.prioOf p.source))
    claimed := if isLevel p.source && !p.clear && !p.withdrawn then (target, p.source) :: s.heddle.claimed else s.heddle.claimed }

/-- A claim appends the winner's record to the target's bobbin. -/
theorem claim_heddle (hw : winner s target = some (pos, p)) (hc : claim s target = some (u, slot)) :
    u.heddle = setBobbin (claimedHeddle s target pos p) target (bobbin s.heddle target ++ [claimRecord s target p]) := by
  simp only [claim, hw, Option.some.injEq, Prod.mk.injEq] at hc
  obtain ⟨rfl, -⟩ := hc
  split <;> exact State.putBobbin_heddle _

theorem claim_eq_none : claim s target = none ↔ winner s target = none := by
  cases hw : winner s target with
  | none => simp [claim, hw]
  | some e => simp [claim, hw]

/-- What is claimed was the winner. -/
theorem winner_of_claim (hc : claim s target = some (u, slot)) : ∃ pos p, winner s target = some (pos, p) := by
  cases hw : winner s target with
  | none => exact absurd (hc.symm.trans (claim_eq_none.2 hw)) (by simp)
  | some e => exact ⟨e.1, e.2, rfl⟩

end

/-- Settles O55: a claim takes the winner, whose rank is the lowest. -/
theorem claimTakesTheWinner : Obligations.ClaimTakesTheWinner := by
  refine ⟨fun s u target slot hc => ?_, fun s target => claim_eq_none.trans winner_eq_none⟩
  obtain ⟨pos, p, hw⟩ := winner_of_claim hc
  obtain ⟨at_, ht, on, least⟩ := winner_eq_some hw
  refine ⟨pos, p, at_, ht, on, ?_, fun x hx hxt hxon => before_of_rank_le (least x hx hxt hxon)⟩
  rw [claim_heddle hw hc, setBobbin_pend, claimedHeddle]

/-- Settles O56: the winner's record enters the target's bobbin, and the others are not that one. -/
theorem claimWritesOneRecord : Obligations.ClaimWritesOneRecord := by
  intro s u target slot pos p ht hw hc
  rw [claim_heddle hw hc]
  refine ⟨bobbin_setBobbin_same .., by rw [setBobbin_seqs, claimedHeddle], fun other ho hne => ?_⟩
  rw [bobbin_setBobbin_ne _ _ ht ho hne]
  unfold bobbin claimedHeddle
  split <;> rfl

/-! ## Occurrences (R384, R391) -/

section
variable {s : State} {src arg target : Nat}

theorem State.occur_of_disabled (he : s.enabled src target = false) : s.occur src arg target = s := by
  simp [State.occur, he]

/-- An occurrence that finds its source pending is merged with it. -/
theorem State.occur_of_pending (he : s.enabled src target = true) (hp : s.heddle.pend.any (isPend target src) = true) :
    s.occur src arg target = State.bump { s with heddle := { s.heddle with
      pend := s.heddle.pend.map (fun p => if isPend target src p then { p with merged := true, arg := arg } else p) } }
      (evtKey Obj.EVT_SRC_MERGED src) := by
  simp [State.occur, he, hp]

/-- An occurrence that does not adds one entry. -/
theorem State.occur_of_new (he : s.enabled src target = true) (hp : s.heddle.pend.any (isPend target src) = false) :
    s.occur src arg target = { s with heddle := { s.heddle with
      pend := s.heddle.pend ++ [⟨target, src, s.pendTime src, arg, false, s.latches src, false, false⟩] } } := by
  simp [State.occur, he, hp]

/-- A merged entry is pending as it was. -/
theorem filter_isPend_merged (n m : Nat) (ps : List Pend) :
    ((ps.map (fun p => if isPend target src p then { p with merged := true, arg := arg } else p)).filter (isPend n m)).length =
      (ps.filter (isPend n m)).length := by
  have kept : isPend n m ∘ (fun p => if isPend target src p then { p with merged := true, arg := arg } else p) = isPend n m := by
    funext p
    dsimp only [Function.comp]
    split <;> rfl
  rw [List.filter_map, List.length_map, kept]

/-- An entry of a source that is not pending makes it pending once. -/
theorem filter_isPend_added {n m : Nat} {ps : List Pend} {p : Pend} (hn : ps.any (isPend target src) = false) (ht : p.target = target)
    (hs : p.source = src) (h1 : (ps.filter (isPend n m)).length ≤ 1) : ((ps ++ [p]).filter (isPend n m)).length ≤ 1 := by
  rw [List.filter_append, List.length_append]
  by_cases mine : isPend n m p = true
  · have same : n = target ∧ m = src := by
      simp only [isPend, Bool.and_eq_true, beq_iff_eq] at mine
      obtain ⟨⟨⟨hn, hm⟩, -⟩, -⟩ := mine
      exact ⟨hn.symm.trans ht, hm.symm.trans hs⟩
    obtain ⟨rfl, rfl⟩ := same
    have none_before : ps.filter (isPend n m) = [] := by
      rw [List.filter_eq_nil_iff]
      exact List.any_eq_false.1 hn
    rw [none_before, List.length_nil, Nat.zero_add]
    exact List.length_filter_le _ _
  · rw [List.filter_cons_of_neg mine]
    exact h1

theorem State.occur_pends_once {n m : Nat} (h : (s.heddle.pend.filter (isPend n m)).length ≤ 1) :
    ((s.occur src arg target).heddle.pend.filter (isPend n m)).length ≤ 1 := by
  cases he : s.enabled src target with
  | false => rwa [State.occur_of_disabled he]
  | true =>
    cases hp : s.heddle.pend.any (isPend target src) with
    | true => rw [State.occur_of_pending he hp, State.bump_heddle, filter_isPend_merged]; exact h
    | false => rw [State.occur_of_new he hp]; exact filter_isPend_added hp rfl rfl h

end

/-- Settles O57: by the two ways of an occurrence that is enabled. -/
theorem heldSourcesMerge : Obligations.HeldSourcesMerge := by
  refine ⟨fun s src arg target he hp => ?merged, fun s src arg target he hp => ?added, fun s src arg target n m h => State.occur_pends_once h⟩
  case merged =>
    rw [State.occur_of_pending he hp]
    exact ⟨rfl, State.rd_bump_same ..⟩
  case added =>
    rw [State.occur_of_new he hp]
    exact ⟨_, rfl, rfl, rfl, rfl, rfl⟩

/-! ## Filtered levels and claims (R386, R389, R390) -/

section
variable {t source slot : Nat} {q u : State}

/-- The condition of a filtered level's change: a level source in filtered mode whose line has held another level long enough. -/
theorem levelChanges_of {s : State} {raw : Bool} {since ns : Nat} (hl : isLevel source = true) (hf : s.heddle.filtered = true)
    (hr : s.lineHigh source = raw) (hh : s.heddle.high.contains source = !raw) (hs : s.ran since ns = true) :
    (isLevel source && s.heddle.filtered && s.lineHigh source != s.heddle.high.contains source && s.ran since ns) = true := by
  rw [hl, hf, hr, hh, hs]
  cases raw <;> rfl

/-- A record of a fall changes nothing of which levels are high. -/
theorem clearFor_high (src arg : Nat) (s : State) (target : Nat) : (clearFor src arg s target).heddle.high = s.heddle.high := by
  unfold clearFor
  split <;> rfl

theorem execBobbinClaim_host (hf : (q.at_ t).bobbinFull 2 = false) (hc : claim (q.at_ t) 2 = some (u, slot)) :
    execBobbinClaim t false q = .next u := by
  have claims : claimOrCount (q.at_ t) 2 = some (u, slot) := by simp [claimOrCount, hf, hc]
  simp [execBobbinClaim, claims]

/-- A record for the field network goes to every session that hears events (R354). -/
theorem execBobbinClaim_field {r : Record} (hf : (q.at_ t).bobbinFull 3 = false) (hc : claim (q.at_ t) 3 = some (u, slot))
    (hr : u.heddle.bobbin3.getLast? = some r) :
    let ids := (u.agent.sessions.map (fun x => x.id)).filter (hearsEvents u)
    execBobbinClaim t true q = .next ((freeRecords { u with heddle := { u.heddle with fieldWait := u.heddle.fieldWait ++ [(r.seq, ids)] } }).each
      ids (fun s id => notifyEvents s id [r])) := by
  simp [execBobbinClaim, hf, hc, hr]

end

/-- Settles O27: a change of level by its condition, and the claims by what they take. -/
theorem heddleCommandsComplete : Obligations.HeddleCommandsComplete := by
  refine ⟨fun t source q hl hf hr hh hs => ?rises, fun t source q hl hf hr hh hs => ?falls, fun t slot core u q hrun hc => ?claims,
    fun t slot u q hf hc => execBobbinClaim_host hf hc, fun t slot u r q hf hc hr => execBobbinClaim_field hf hc hr⟩
  case rises =>
    exact congrArg Host.Outcome.next ((State.whenever_of (levelChanges_of hl hf hr hh hs)).trans (if_pos hr))
  case falls =>
    refine ⟨_, congrArg Host.Outcome.next ((State.whenever_of (levelChanges_of hl hf hr hh hs)).trans (if_neg (by simp [hr]))), ?_, ?_⟩
    · exact State.each_leaves (fun s => s.heddle.high) fun u target _ => clearFor_high _ _ u target
    · intro e he
      simpa using List.of_mem_filter he
  case claims =>
    refine congrArg Host.Outcome.next ((State.whenever_of hrun).trans ?_)
    rw [hc]

/-! ## Release of leave (R398) -/

/-- What a filter keeps all of is found as before. -/
theorem any_filter_of_imp {α : Type} {p f : α → Bool} (h : ∀ a, f a = true → p a = true) (xs : List α) :
    (xs.filter p).any f = xs.any f := by
  rw [List.any_filter]
  congr 1
  funext a
  cases hf : f a with
  | false => rw [Bool.and_false]
  | true => rw [h a hf, Bool.and_true]

theorem any_filter_not {α : Type} (f : α → Bool) (xs : List α) : (xs.filter (fun a => !f a)).any f = false := by
  simp [List.any_filter]

/-- Settles O58: the released ones are filtered out, and the others are not. -/
theorem releaseFreesLeave : Obligations.ReleaseFreesLeave := by
  refine ⟨fun s kind owner => ⟨any_filter_not _ _, any_filter_not _ _⟩,
    fun s kind owner k o other => ⟨any_filter_of_imp ?_ _, any_filter_of_imp ?_ _⟩⟩
  all_goals
    intro r hr
    rw [Bool.and_eq_true, beq_iff_eq, beq_iff_eq] at hr
    obtain ⟨rfl, rfl⟩ := hr
    simpa using other

end Machine
end Sys2Proof
end

section
/-! SUPPORT. The governor: overruns and waits, PMBus, the core voltage, aging and the scrubber (R398 to R417). -/

namespace Sys2Proof
namespace Machine

/-! ## What is read after a release of leave -/

/-- Of the dictionary a release changes the two objects that show leave alone (R398). -/
theorem State.rd_release_ne {k : Nat} (s : State) (kind owner : Nat) (hw : k ≠ Obj.LETOFF_WAITING) (hg : k ≠ Obj.LETOFF_GRANTED_UNITS)
    (p : isParam k = false) : (s.release kind owner).rd k = s.rd k :=
  (State.rd_wr_ne _ _ _ _ hg p).trans (State.rd_wr_ne _ _ _ _ hw p)

/-- A saturating counter after it was raised. -/
theorem State.rd_bumpSat_same (s : State) (k n : Nat) : (s.bumpSat k n).rd k = min (s.rd k + n) 4294967295 := State.rd_wr_same ..

/-! ## The commands by their conditions -/

section
variable {t id sp since words : Nat} {q s : State} {w : BitVec 16}

/-- An overrun grant is marked, counted and reported (R398). -/
theorem execLetoffOverrun_reports {r : Request} (hr : (q.at_ t).governor.grants.find? (fun r => r.id == id && !r.overrun) = some r)
    (ho : (q.at_ t).overdue (r.grantedAt + longestHold (q.at_ t) r) = true) :
    let s := q.at_ t
    execLetoffOverrun t id q = .next ((State.bump { s with governor := { s.governor with
      grants := change s.governor.grants (fun x => x.id == id) (fun x => { x with overrun := true }) } } Obj.LETOFF_OVERRUNS).raise
        Ev.LETOFF_OVERRUN r.kind) := by
  simp only [execLetoffOverrun, hr, State.whenever_of ho]

/-- A request that has waited too long is refused, and its requester's rule follows (R399). -/
theorem execLetoffMaxWait_refuses {r : Request} (hr : (q.at_ t).governor.waiting.find? (fun r => r.id == id) = some r)
    (hc : (q.at_ t).coreRuns 1 = true) (ho : (q.at_ t).overdue (r.asked + (q.at_ t).rdN Obj.LETOFF_MAX_WAIT_MS * 1000000) = true) :
    let s := q.at_ t
    let ws := s.governor.waiting.filter (fun x => x.id != id)
    execLetoffMaxWait t id q = .next
      (refusalFollows ((refuse { s with governor := { s.governor with waiting := ws } } r).wr Obj.LETOFF_WAITING (ws.length : Nat)) r) := by
  have due : ((q.at_ t).coreRuns 1 && (q.at_ t).overdue (r.asked + (q.at_ t).rdN Obj.LETOFF_MAX_WAIT_MS * 1000000)) = true := by rw [hc, ho]; rfl
  simp only [execLetoffMaxWait, hr, State.whenever_of due]

/-- A reading within 5 mV of the new set point ends a voltage step (R403). -/
theorem execReadVout_settles
    (hs : (pmbusGood ((q.at_ t).emit (.pmbus 0x8B 0))).governor.settling = some (sp, since))
    (hl : w.toNat * 1000 ≤ (sp + 5) * 2 ^ (-((q.at_ t).emit (.pmbus 0x8B 0)).rd Obj.PMBUS_VOUT_EXP).toNat)
    (hh : sp * 2 ^ (-((q.at_ t).emit (.pmbus 0x8B 0)).rd Obj.PMBUS_VOUT_EXP).toNat ≤
      w.toNat * 1000 + 5 * 2 ^ (-((q.at_ t).emit (.pmbus 0x8B 0)).rd Obj.PMBUS_VOUT_EXP).toNat) :
    let p := (q.at_ t).emit (.pmbus 0x8B 0)
    let s := pmbusGood p
    let v := { s with governor := { s.governor with vout := voltsOf w (p.rd Obj.PMBUS_VOUT_EXP) } }
    execReadVout t (some w) q = .next (((stepEnds v sp).bump Obj.VCORE_STEP_COUNT).raise Ev.VCORE_STEP sp) := by
  simp only [execReadVout, hs, decide_eq_true hl, decide_eq_true hh, Bool.and_self, State.whenever_true]

/-- A reading outside a voltage step is kept (R400). -/
theorem execReadVout_of_settled (hs : (pmbusGood ((q.at_ t).emit (.pmbus 0x8B 0))).governor.settling = none) :
    let p := (q.at_ t).emit (.pmbus 0x8B 0)
    let s := pmbusGood p
    execReadVout t (some w) q = .next { s with governor := { s.governor with vout := voltsOf w (p.rd Obj.PMBUS_VOUT_EXP) } } := by
  simp only [execReadVout, hs]

/-- A step that does not settle in 5 ms ends with its event (R403). -/
theorem execVcoreNotSettled_ends (hs : (q.at_ t).governor.settling = some (sp, since)) (ho : (q.at_ t).overdue (since + 5000000) = true) :
    execVcoreNotSettled t q = .next ((stepEnds (q.at_ t) sp).raise Ev.VCORE_NOT_SETTLED (q.at_ t).governor.vout) := by
  simp only [execVcoreNotSettled, hs, State.whenever_of ho]

/-- The condition of a step down: a set point above home with ample slack, no step under way or asked for, and PMBus good (R404, R405). -/
theorem stepsDown_of (hh : s.rdN Obj.VCORE_HOME_MV < s.rdN Obj.VCORE_SET_MV) (ha : s.ran s.fabric.ampleSince 600000000000 = true)
    (hs : s.governor.settling = none) (hw : s.governor.waiting.any (fun r => r.kind == 1) = false) (hp : pmbusFault s = false) :
    (decide (s.rdN Obj.VCORE_HOME_MV < s.rdN Obj.VCORE_SET_MV) && s.ran s.fabric.ampleSince 600000000000 && s.governor.settling.isNone &&
      !s.governor.waiting.any (fun r => r.kind == 1) && !pmbusFault s) = true := by
  rw [decide_eq_true hh, ha, hs, hw, hp]; rfl

/-! ## The scrubber -/

/-- A burst with leave gives it back, and short of the last word the pass goes on (R417). -/
theorem execScrubBurst_goesOn (hd : scrubDue (q.at_ t) = true) (hg : (q.at_ t).granted 8 0 = true) :
    let v := (q.at_ t).release 8 0
    let done := v.governor.scrubWords + min words 16777216
    done < scrubbedWords v → ∃ u, execScrubBurst t words q = .next u ∧ u.governor.scrubWords = done ∧ u.dict = v.dict ∧
      u.governor.grants = v.governor.grants := by
  intro v done short
  have open_ : decide (scrubbedWords v ≤ done) = false := decide_eq_false (Nat.not_le.2 short)
  simp only [execScrubBurst, State.whenever_of hd, hg, if_true]
  change ∃ u, Host.Outcome.next (if decide (scrubbedWords v ≤ done) = true then _ else _) = Host.Outcome.next u ∧ _
  rw [open_]
  exact ⟨_, rfl, rfl, rfl, rfl⟩

/-- The burst that reaches the last word ends the pass, which is counted (R417). -/
theorem execScrubBurst_ends (hd : scrubDue (q.at_ t) = true) (hg : (q.at_ t).granted 8 0 = true) :
    let v := (q.at_ t).release 8 0
    let done := v.governor.scrubWords + min words 16777216
    scrubbedWords v ≤ done → ∃ u, execScrubBurst t words q = .next u ∧ u.governor.scrubWords = 0 ∧
      u.rd Obj.SCRUB_PASSES = min ((q.at_ t).rd Obj.SCRUB_PASSES + 1) 4294967295 := by
  intro v done last
  have ended : decide (scrubbedWords v ≤ done) = true := decide_eq_true last
  have passes : v.rd Obj.SCRUB_PASSES = (q.at_ t).rd Obj.SCRUB_PASSES := State.rd_release_ne _ _ _ (by decide) (by decide) (by decide)
  simp only [execScrubBurst, State.whenever_of hd, hg, if_true]
  change ∃ u, Host.Outcome.next (if decide (scrubbedWords v ≤ done) = true then _ else _) = Host.Outcome.next u ∧ _
  rw [ended, if_pos rfl, ← passes]
  exact ⟨_, rfl, rfl, State.rd_bumpSat_same ..⟩

/-- The scrubber runs in service and in the start before it (R417). -/
theorem scrubs_of (h : s.power.stage = 5 ∨ s.power.stage = 4) : (s.power.stage == 5 || s.power.stage == 4) = true := by
  rw [Bool.or_eq_true, beq_iff_eq, beq_iff_eq]; exact h

end

/-- Settles O28: each command by its condition, a reading by its word, and a scrubbed word by its store. -/
theorem governorCommandsComplete : Obligations.GovernorCommandsComplete := by
  refine ⟨fun t id r q hr ho => execLetoffOverrun_reports hr ho, fun t id r q hr hc ho => execLetoffMaxWait_refuses hr hc ho,
    fun t sp since w q hs hl hh => execReadVout_settles hs hl hh, fun t w q hs => execReadVout_of_settled hs, fun t w q => rfl,
    fun t q => ⟨rfl, rfl, rfl⟩, fun t w q => rfl, fun t q => rfl, fun t sp since q hs ho => execVcoreNotSettled_ends hs ho,
    fun t q hh ha hs hw hp => ?stepDown, fun t q hp hr => ?retryGood, fun t q hp hr => ?retryBad, fun t q hp hr => ?hour,
    fun t words q hd hg ha => ?asks, fun t words q hd hg hs => execScrubBurst_goesOn hd hg hs,
    fun t words q hd hg hs => execScrubBurst_ends hd hg hs, fun t tier key pos double q h => ?line, fun t tier key pos double q h => ?state,
    fun t tier key pos q h => ?coef, fun t tier key pos w q h hw => ?badCoef, fun t tier key pos q h => ?badDict,
    fun t tier key pos q h => ?dict, fun t tier key pos q h => ?ram, fun t tier key pos q h => ?badRam⟩
  case stepDown => exact congrArg Host.Outcome.next (State.whenever_of (stepsDown_of hh ha hs hw hp))
  case retryGood | retryBad => exact congrArg Host.Outcome.next (State.whenever_of (by rw [hp, decide_eq_true hr]; rfl))
  case hour => exact congrArg Host.Outcome.next (State.whenever_of (by rw [hp, hr]; rfl))
  case asks =>
    refine congrArg Host.Outcome.next ((State.whenever_of hd).trans ?_)
    rw [hg, ha]
    rfl
  case line | state | coef | badDict | dict | ram | badRam => exact congrArg Host.Outcome.next (State.whenever_of (scrubs_of h))
  case badCoef =>
    refine congrArg Host.Outcome.next ((State.whenever_of (scrubs_of h)).trans ?_)
    dsimp only
    rw [hw]
    rfl

end Machine
end Sys2Proof
end

section
/-! SUPPORT. The twin's pairing, digests and catch-up, and the authority lease (R295 to R315, R356). -/

namespace Sys2Proof
namespace Machine

/-! ## Pairing, digests and catch-up -/

section
variable {s : State} {t names : Nat} {enabled : Bool} {q : State}

/-- When pairing is judged anew: with TWIN_ENABLE at 1, outside a formed pair (R295). -/
theorem judgesPair_of (on : s.on Obj.TWIN_ENABLE = true) (ht : s.twinState ≤ 1 ∨ s.twinState = 7) :
    (s.on Obj.TWIN_ENABLE && (decide (s.twinState ≤ 1) || s.twinState == 7)) = true := by
  rw [on, Bool.true_and, Bool.or_eq_true, decide_eq_true_iff, beq_iff_eq]; exact ht

/-- A pair whose conditions all hold is formed by the holder, and caught up with by the other (R295, R303). -/
theorem execTwinPaired_aligned (on : (q.at_ t).on Obj.TWIN_ENABLE = true) (ht : (q.at_ t).twinState ≤ 1 ∨ (q.at_ t).twinState = 7)
    (hp : pairFails (q.at_ t) enabled names = 0) :
    execTwinPaired t enabled names q = .next (if (q.at_ t).holds then ((q.at_ t).wr Obj.LEASE_ROLE 1).setTwinState 4
      else (catchUp (q.at_ t) 1).setTwin (fun w => { w with silent := true, returns := 0 })) :=
  congrArg Host.Outcome.next ((State.whenever_of (judgesPair_of on ht)).trans (if_neg (not_not_intro hp)))

/-- The states whose exchange can be lost (R299). -/
theorem exchanges_of (ht : s.twinState = 3 ∨ s.twinState = 4 ∨ s.twinState = 5) : [3, 4, 5].contains s.twinState = true := by
  simpa using ht

theorem State.issue_graph (id : Nat) : (s.issue id).graph = s.graph := by
  unfold State.issue
  split <;> rfl

/-- The holder's actions leave the graph (R303). -/
theorem takeActions_graph (acts : List SentAction) : (takeActions s acts).graph = s.graph :=
  State.each_leaves State.graph fun _ _ _ => State.issue_graph _

end

/-- Settles O18: each command by its condition, and the closing of a catch-up by what installs the words. -/
theorem twinCommandsComplete : Obligations.TwinCommandsComplete := by
  refine ⟨fun t names enabled q on ht hp hh => ?holder, fun t names enabled q on ht hp hh => ?joiner, fun t port block q hp hb => ?digest,
    fun t pick q hp hd ho => ?missing, fun t q hm ht => ?lost, fun t image acts q h => ?image, fun t seq words acts q h => ?closing,
    fun t q h hf => ?filled, fun t q h hm => ?verified, fun t q hf hr hp => ?restart, fun t port block q hp hb => ?selvedge⟩
  case holder => exact (execTwinPaired_aligned on ht hp).trans (congrArg Host.Outcome.next (if_pos hh))
  case joiner => exact (execTwinPaired_aligned on ht hp).trans (congrArg Host.Outcome.next (if_neg (ne_true_of_eq_false hh)))
  case digest | selvedge => exact congrArg Host.Outcome.next (State.whenever_of (by rw [hp, hb]; rfl))
  case missing => exact congrArg Host.Outcome.next (State.whenever_of (by rw [hp, decide_eq_true hd, ho]; rfl))
  case lost => exact congrArg Host.Outcome.next (State.whenever_of (by rw [decide_eq_true hm, exchanges_of ht]; rfl))
  case image => exact congrArg Host.Outcome.next (State.whenever_of (decide_eq_true h))
  case closing =>
    exact ⟨_, _, congrArg Host.Outcome.next (State.whenever_of (decide_eq_true h)), rfl, congrArg Graph.works (takeActions_graph acts)⟩
  case filled => exact congrArg Host.Outcome.next (State.whenever_of (by rw [decide_eq_true h, decide_eq_true hf]; rfl))
  case verified => exact congrArg Host.Outcome.next (State.whenever_of (by rw [decide_eq_true h, decide_eq_true hm]; rfl))
  case restart => exact congrArg Host.Outcome.next (State.whenever_of (by rw [decide_eq_true hf, hr, hp]; rfl))

/-! ## The lease -/

section
variable {s v : State} {t n e : Nat} {m : LeaseMsg} {q : State}

/-- A lease message of the pair leaves once LEASE_RENEW_MS has run (R307). -/
theorem execLeaseMessageTx_due (hp : (q.at_ t).paired = true)
    (hr : (q.at_ t).ran (q.at_ t).twin.sentAt ((q.at_ t).rdN Obj.LEASE_RENEW_MS * 1000000) = true) :
    let s := q.at_ t
    let v := s.setTwin (fun w => { w with sentAt := s.clock.now })
    let n := (v.twin.seq + 1) % 2 ^ 32
    execLeaseMessageTx t q = .next (if v.holds then
        sendLease (v.setTwin (fun w => { w with seq := n, sends := ((n, v.engineNs) :: w.sends).take 256 })) 0x02 (v.rdN Obj.LEASE_EPOCH) n 0
      else sendLease v 0x03 v.twin.latest.1 v.twin.latest.2 0) :=
  congrArg Host.Outcome.next (State.whenever_of (by rw [hp, hr]; rfl))

/-- A message that counts acts. -/
theorem acts_of_counts {c : Bool} {u : State} (hc : c = true) : (if !c then u else v) = v := by rw [hc]; rfl

/-- A renewal that counts finds a holder, or moves the deadlines of a standby (R309, R310, R312). -/
theorem execLeaseRenew_counts (hc : (leaseArrives (q.at_ t) 2 m).2 = true) :
    let s := q.at_ t
    let v := (leaseArrives s 2 m).1.setTwin (fun w => { w with peerHolds := true })
    execLeaseRenew t m q = .next (if v.holds then
        (if v.rdN Obj.LEASE_EPOCH < m.epoch ∨ (v.rdN Obj.LEASE_EPOCH = m.epoch ∧ !designated v ∧ !List.contains [1, 2] m.state) then
          releaseLease v true else v)
      else if decide (s.twin.seenEpoch ≤ m.epoch) then
        (v.setTwin (fun w => { w with renewAt := v.engineNs, latest := (m.epoch, m.seq) })).wr Obj.LEASE_EPOCH (m.epoch : Nat)
      else v) :=
  congrArg Host.Outcome.next (acts_of_counts hc)

/-- A standby message that echoes a renewal moves the holder's deadline (R308). -/
theorem execLeaseStandby_echoes {x : Nat × Nat} (hc : (leaseArrives (q.at_ t) 3 m).2 = true)
    (hv : (leaseArrives (q.at_ t) 3 m).1.setTwin (fun w => { w with peerHolds := false }) = v)
    (hs : v.twin.sends.find? (fun e => e.1 == m.seq) = some x) (hh : v.holds = true) (he : m.epoch = v.rdN Obj.LEASE_EPOCH) (hm : m.state < 3) :
    execLeaseStandby t m q = .next (v.setTwin (fun w => { w with echoed := some (max x.2 (w.echoed.getD 0)) })) := by
  refine congrArg Host.Outcome.next ((acts_of_counts hc).trans ?_)
  dsimp only
  rw [hv, hs]
  dsimp only
  rw [if_neg (by rw [hh, he]; simp), if_neg (fun h => Nat.not_lt.2 h.2 hm)]

/-- A holder whose deadline has passed releases, or keeps the lease alone (R308). -/
theorem execLeaseRelease_due (he : (q.at_ t).twin.echoed = some e) (on : (q.at_ t).on Obj.TWIN_ENABLE = true) (hh : (q.at_ t).holds = true)
    (hp : past (q.at_ t).engineNs (e + leaseD (q.at_ t)) = true) :
    let s := q.at_ t
    let d := leaseD s
    execLeaseRelease t q = .next (if e + d - d / 2 ≤ s.twin.aliveAt then releaseLease s false
      else ((s.setTwin (fun w => { w with echoed := none })).wr Obj.LEASE_ROLE 3).setTwinState 7) := by
  refine congrArg Host.Outcome.next ?_
  rw [he]
  exact State.whenever_of (by rw [on, hh, hp]; rfl)

/-- A handover received for a pick that has come is taken (R313). -/
theorem handsOver_takes (hh : s.twin.handover = none) (ht : s.twin.take = some (n, e)) (hn : n ≤ s.clock.pick) (hf : s.holds = false) :
    handsOver s = takeLease s e (n + 1) false := by
  simp [handsOver, hh, ht, hn, hf]

/-- A holder releases at the pick of its handover (R313). -/
theorem handsOver_releases (hh : s.twin.handover = some n) (hn : n ≤ s.clock.pick) (ht : (releaseLease s false).twin.take = none) :
    handsOver s = releaseLease s false := by
  simp [handsOver, hh, hn, ht]

end

/-- Settles O19: each command by its condition and by the branch that its hypotheses choose. -/
theorem leaseCommandsComplete : Obligations.LeaseCommandsComplete := by
  refine ⟨fun t q hp hr hh => ?standbySends, fun t q hp hr hh => ?holderSends, fun t m q hc hh he => ?renewed, fun t m q hc hh he => ?contended,
    fun t m q e hc hs hh he hm => execLeaseStandby_echoes hc rfl hs hh he hm, fun t m q hc he hh => ?handover,
    fun t e q he on hh hp ha => ?released, fun t e q he on hh hp ha => ?alone, fun t q on hh hw hs => ?takenSilent,
    fun t q on hh hw hs h3 h0 hd hr => ?takenNamed, fun t n e q hh ht hn hf => ?takes, fun t n q hh hn ht => ?releases,
    fun t q h0 hh hs hq hl => ?drill, fun t q h0 hh => ?same, fun t q h0 hh => ?differs⟩
  case standbySends => exact (execLeaseMessageTx_due hp hr).trans (congrArg Host.Outcome.next (if_neg (ne_true_of_eq_false hh)))
  case holderSends => exact (execLeaseMessageTx_due hp hr).trans (congrArg Host.Outcome.next (if_pos hh))
  case renewed =>
    exact (execLeaseRenew_counts hc).trans (congrArg Host.Outcome.next ((if_neg (ne_true_of_eq_false hh)).trans (if_pos (decide_eq_true he))))
  case contended => exact (execLeaseRenew_counts hc).trans (congrArg Host.Outcome.next ((if_pos hh).trans (if_pos (.inl he))))
  case handover => exact congrArg Host.Outcome.next (if_pos (by rw [hc, decide_eq_true he, hh]; rfl))
  case released => exact (execLeaseRelease_due he on hh hp).trans (congrArg Host.Outcome.next (if_pos ha))
  case alone => exact (execLeaseRelease_due he on hh hp).trans (congrArg Host.Outcome.next (if_neg (Nat.not_le.2 ha)))
  case takenSilent =>
    refine congrArg Host.Outcome.next ((State.whenever_of (by rw [on, hh, decide_eq_true hw, hs]; rfl)).trans ?_)
    rw [hs]
  case takenNamed =>
    refine congrArg Host.Outcome.next ((State.whenever_of ?_).trans ?_)
    · rw [on, hh, decide_eq_true hw, hs, decide_eq_true h3, decide_eq_true h0, hd, hr]; rfl
    · rw [hs]
  case takes => exact congrArg Host.Outcome.next (handsOver_takes hh ht hn hf)
  case releases => exact congrArg Host.Outcome.next (handsOver_releases hh hn ht)
  case drill =>
    exact congrArg Host.Outcome.next (State.whenever_of (by rw [decide_eq_true h0, hh, hs, decide_eq_true hq, decide_eq_true hl]; rfl))
  case same | differs => exact congrArg Host.Outcome.next (State.whenever_of (by rw [decide_eq_true h0, hh]; rfl))

end Machine
end Sys2Proof
end

section
/-! SUPPORT. The Treadle channels: sequences, protection, and the readings of the pilot and AC tests (R323 to R335). -/

namespace Sys2Proof
namespace Machine

/-! ## The DC test (R332) -/

section
variable {t : Nat} {ch : Fin 32} {volts amps : BitVec 382} {q s : State}

/-- TD_LOAD_RESULT of a load of one kind below or above the limits (R332). -/
def loadResult (low high cap : Bool) : Nat := if low then 2 else if cap then (if high then 1 else 4) else if high then 3 else 1

/-- What follows the test of a channel by its result (R332, R335). -/
def afterLoadTest (s : State) (n result : Nat) : State :=
  match result with
  | 2 => (failChannel s n).1.setTd n (fun c => { c with after := (failChannel s n).2 })
  | 3 => (s.raise Ev.TD_LOAD_OPEN n).setTd n (fun c => { c with after := 0 })
  | 4 => (s.raise Ev.TD_LOAD_DC_PATH n).setTd n (fun c => { c with after := 6 })
  | _ => s.setTd n (fun c => { c with after := 0 })

/-- A DC test that has run its time measures the load, shows its result and acts on it. -/
theorem execTdDcTestMeasure_judges (h : (q.at_ t).tdDue ch 3 15000000 = true) :
    let s := q.at_ t
    let r := ohms s ch (slowValue volts.toNat).natAbs (slowValue amps.toNat).natAbs (2 ^ 21)
    let result := loadResult (decide (r < s.rdN (ix Obj.TD_DC_OHM_MIN ch))) (decide (s.rdN (ix Obj.TD_DC_OHM_MAX ch) < r))
      (decide (s.rd (ix Obj.TD_LOAD_KIND ch) = 1))
    execTdDcTestMeasure t ch volts amps q = .next
      (afterLoadTest (((s.wr (ix Obj.TD_DC_OHM ch) (r : Nat)).wr (ix Obj.TD_LOAD_RESULT ch) (result : Nat)).tdStep ch 4) ch result) :=
  congrArg Host.Outcome.next (State.whenever_of h)

/-- A test whose result is known acts on that result. -/
theorem execTdDcTestMeasure_of_result {result : Nat} (h : (q.at_ t).tdDue ch 3 15000000 = true) :
    let s := q.at_ t
    let r := ohms s ch (slowValue volts.toNat).natAbs (slowValue amps.toNat).natAbs (2 ^ 21)
    loadResult (decide (r < s.rdN (ix Obj.TD_DC_OHM_MIN ch))) (decide (s.rdN (ix Obj.TD_DC_OHM_MAX ch) < r))
      (decide (s.rd (ix Obj.TD_LOAD_KIND ch) = 1)) = result →
    execTdDcTestMeasure t ch volts amps q = .next
      (afterLoadTest (((s.wr (ix Obj.TD_DC_OHM ch) (r : Nat)).wr (ix Obj.TD_LOAD_RESULT ch) (result : Nat)).tdStep ch 4) ch result) := by
  intro s r hr
  rw [← hr]
  exact execTdDcTestMeasure_judges h

end

/-- Settles O20: each step by its time, and the DC test by the result that its limits give. -/
theorem treadleSequenceCommandsComplete : Obligations.TreadleSequenceCommandsComplete := by
  refine ⟨fun t ch q hr hs h0 on => ?start, fun t ch q h => ?relayClose, fun t ch q h ht => ?test, fun t ch q h ht => ?fadeIn,
    fun t ch volts amps q h => ⟨fun low => ?short, fun low high cap => ?open_, fun low high cap => ?dcPath, fun low same => ?good⟩,
    fun t ch q h ha => ?passed, fun t ch q h ha => ?failed, fun t ch q h => ?gain, fun t ch q h => ?stop, fun t ch q h => ?rampDown,
    fun t ch q h => ?relayOpen, fun t ch q h => ?released⟩
  case start => exact congrArg Host.Outcome.next (State.whenever_of (by rw [hr, beq_iff_eq.2 hs, beq_iff_eq.2 h0, on]; rfl))
  case relayClose | gain | rampDown | relayOpen | released => exact congrArg Host.Outcome.next (State.whenever_of h)
  case test => exact congrArg Host.Outcome.next ((State.whenever_of h).trans (if_pos ht))
  case fadeIn => exact congrArg Host.Outcome.next ((State.whenever_of h).trans (if_neg (ne_true_of_eq_false ht)))
  case short => exact execTdDcTestMeasure_of_result (result := 2) h (by rw [decide_eq_true low]; rfl)
  case open_ =>
    exact execTdDcTestMeasure_of_result (result := 3) h (by rw [decide_eq_false low, decide_eq_true high, decide_eq_false cap]; rfl)
  case dcPath =>
    exact execTdDcTestMeasure_of_result (result := 4) h (by rw [decide_eq_false low, decide_eq_false high, decide_eq_true cap]; rfl)
  case good =>
    refine execTdDcTestMeasure_of_result (result := 1) h ?_
    rw [decide_eq_false low, decide_eq_decide.2 same]
    cases decide ((q.at_ t).rd (ix Obj.TD_LOAD_KIND ch) = 1) <;> rfl
  case passed => exact congrArg Host.Outcome.next ((State.whenever_of h).trans (if_pos ha))
  case failed => exact congrArg Host.Outcome.next ((State.whenever_of h).trans (if_neg ha))
  case stop =>
    refine congrArg Host.Outcome.next (State.whenever_of ?_)
    rwa [Bool.or_eq_true, Bool.not_eq_true', Bool.not_eq_true']

/-! ## The pilot's readings (R331) -/

section
variable {s : State} {n k : Nat} {c : Bool} {f : Channel → Channel}

theorem thermalLevel_treadle (src : Nat) (above below : Bool) : (thermalLevel s src n above below).treadle = s.treadle := by
  unfold thermalLevel
  split
  · simp
  · split
    · simp
    · rfl

/-- The thermal levels change no object but the counts of merged events. -/
theorem rd_thermalLevel_ne {src : Nat} (above below : Bool) (h : k ≠ ix Obj.EVT_SRC_MERGED src) (p : isParam k = false) :
    (thermalLevel s src n above below).rd k = s.rd k := by
  unfold thermalLevel
  split
  · exact State.rd_rise_ne _ _ _ h p
  · split
    · exact State.rd_congr (State.fall_dict ..) k
    · rfl

theorem showThermal_treadle : (showThermal s n).treadle = s.treadle := by
  unfold showThermal
  dsimp only
  rw [thermalLevel_treadle, thermalLevel_treadle]
  rfl

/-- Objects that the nodes and levels do not show read as before. -/
theorem rd_showThermal_ne (hsub : keySub k ≠ keySub Obj.TH_COIL_T) (hsub' : keySub k ≠ keySub Obj.TH_MAGNET_T)
    (hev : keySub k ≠ keySub Obj.EVT_SRC_MERGED) (p : isParam k = false) : (showThermal s n).rd k = s.rd k := by
  have other : ∀ {x m : Nat}, keySub k ≠ keySub x → k ≠ ix x m := fun h => ne_of_apply_ne keySub (by rwa [keySub_ix])
  unfold showThermal
  dsimp only
  rw [rd_thermalLevel_ne _ _ (other hev) p, rd_thermalLevel_ne _ _ (other hev) p, State.rd_wr_ne _ _ _ _ (other hsub') p,
    State.rd_wr_ne _ _ _ _ (other hsub) p]

/-- A channel is read of Treadle alone. -/
theorem State.td_congr {u : State} (h : s.treadle = u.treadle) : s.td n = u.td n := by rw [State.td, h, State.td]

/-- The state of a channel that there is, as just changed. -/
theorem State.td_setTd (h : n < s.treadle.channels.length) : (s.setTd n f).td n = f (s.td n) := by
  simp [State.setTd, State.td, setAt, h]

/-- A change of a channel that there is not changes nothing, and it reads as one at rest. -/
theorem State.td_setTd_of_absent (h : ¬n < s.treadle.channels.length) : (s.setTd n f).td n = noChannel ∧ s.td n = noChannel := by
  simp [State.setTd, State.td, setAt, Nat.le_of_not_lt h]

/-- What a change leaves of a channel reads as before. -/
theorem State.setTd_leaves {β : Type} (g : Channel → β) (hf : g (f (s.td n)) = g (s.td n)) : g ((s.setTd n f).td n) = g (s.td n) := by
  by_cases h : n < s.treadle.channels.length
  · rw [State.td_setTd h, hf]
  · obtain ⟨after, before⟩ := State.td_setTd_of_absent (f := f) h
    rw [after, before]

/-- What a change sets as it is at rest reads so. -/
theorem State.setTd_rests {β : Type} (g : Channel → β) (hf : g (f (s.td n)) = g noChannel) : g ((s.setTd n f).td n) = g noChannel := by
  by_cases h : n < s.treadle.channels.length
  · rw [State.td_setTd h, hf]
  · rw [(State.td_setTd_of_absent h).1]

end

section
variable {t : Nat} {ch : Fin 32} {q s : State}

/-- The condition of a reading of the pilot: TH_PILOT reads 1, and a second of values is there (R331). -/
theorem pilotReads_of {a : Sync} (on : s.on (ix Obj.TH_PILOT ch) = true) (hc : senseRate s ≤ a.count) :
    (s.on (ix Obj.TH_PILOT ch) && decide (senseRate s ≤ a.count)) = true := by
  rw [on, decide_eq_true hc]; rfl

/-- A pilot current of 10 mA or more gives Re, and the detection begins anew (R331). -/
theorem execThPilotMeasure_measures (on : (q.at_ t).on (ix Obj.TH_PILOT ch) = true)
    (hc : senseRate (q.at_ t) ≤ ((q.at_ t).td ch).pilot.count) :
    let s := q.at_ t
    let a := (s.td ch).pilot
    let v := amplitude a.vs a.vc
    let i := amplitude a.is a.ic
    let w := s.setTd ch (fun c => { c with pilot := noSync })
    10 * a.count * 2 ^ 45 ≤ i * w.rdN (ix Obj.TD_ISENSE_FS_MA ch) →
    ∃ u, execThPilotMeasure t ch q = .next u ∧ u.rd (ix Obj.TH_RE_MEAS ch) = (ohms w ch v i 1 : Nat) ∧ (u.td ch).pilot = noSync := by
  intro s a v i w enough
  refine ⟨_, congrArg Host.Outcome.next ((State.whenever_of (pilotReads_of on hc)).trans (if_neg (Nat.not_lt.2 enough))), ?_, ?_⟩
  · refine (rd_showThermal_ne ?_ ?_ ?_ (isParam_ix_of_ge _ (by decide))).trans (State.rd_wr_same ..) <;> rw [keySub_ix] <;> decide
  · have begun : (w.td ch).pilot = noSync := State.setTd_rests (n := ch) (f := fun c => { c with pilot := noSync }) Channel.pilot rfl
    rw [State.td_congr showThermal_treadle]
    exact (State.setTd_leaves Channel.pilot rfl).trans begun

end

/-! ## Rails (R323, R327) -/

section
variable {s : State} {n : Nat}

/-- The condition of a rail's fault: it is not faulty yet, and its bitstream is invalid or its voltage outside the limits for 1 ms. -/
theorem railFails_of (hb : s.treadle.badRails.contains n = false)
    (hf : (s.rail n).invalid = true ∨ ((s.rail n).outside = true ∧ s.ran (s.rail n).since 1000000 = true)) :
    (!s.treadle.badRails.contains n && ((s.rail n).invalid || ((s.rail n).outside && s.ran (s.rail n).since 1000000))) = true := by
  rw [hb, Bool.not_false, Bool.true_and, Bool.or_eq_true, Bool.and_eq_true]; exact hf

end

/-- Settles O21: each command by its condition, and the pilot by its two ways. -/
theorem treadleProtectionCommandsComplete : Obligations.TreadleProtectionCommandsComplete := by
  refine ⟨fun t ch bits q ha h10 he => ?overcurrent, fun t ch q h hr => ?short, fun t ch q h => ?hot, fun t ch q h5 h0 hr => ?retry,
    fun t ch q hr hd => ?recover, fun t ch q hr h6 hc => ?reset, fun t ch bits q he h7 hs => ?sense, fun t ch q h => ?drop,
    fun t ch q h7 h0 hr => ?senseRecover, fun t rail q hb hf => ?railFault, fun t rail q hb hi ho hr => ?railRecover,
    fun t ch q on hc hi => execThPilotMeasure_measures on hc hi, fun t ch q on hc hi => ?weakPilot, fun t ch q h => ?acDone⟩
  case overcurrent =>
    refine congrArg Host.Outcome.next ?_
    rw [if_neg fun both => h10 both.1]
    exact State.whenever_of (by rw [he, decide_eq_true ha]; rfl)
  case short => exact congrArg Host.Outcome.next (State.whenever_of (by rw [beq_iff_eq.2 h, hr]; rfl))
  case hot | drop | acDone => exact congrArg Host.Outcome.next (State.whenever_of h)
  case retry => exact congrArg Host.Outcome.next (State.whenever_of (by rw [beq_iff_eq.2 h5, beq_iff_eq.2 h0, hr]; rfl))
  case recover => exact congrArg Host.Outcome.next (State.whenever_of (by rw [hr, hd]; rfl))
  case reset => exact congrArg Host.Outcome.next (State.whenever_of (by rw [hr, beq_iff_eq.2 h6, hc]; rfl))
  case sense =>
    refine congrArg Host.Outcome.next ?_
    rw [if_neg fun both => h7 both.1]
    exact State.whenever_of (by rw [he, hs]; rfl)
  case senseRecover => exact congrArg Host.Outcome.next (State.whenever_of (by rw [beq_iff_eq.2 h7, beq_iff_eq.2 h0, hr]; rfl))
  case railFault => exact congrArg Host.Outcome.next (State.whenever_of (railFails_of hb hf))
  case railRecover => exact congrArg Host.Outcome.next (State.whenever_of (by rw [hb, hi, ho, hr]; rfl))
  case weakPilot => exact congrArg Host.Outcome.next ((State.whenever_of (pilotReads_of on hc)).trans (if_pos hi))

end Machine
end Sys2Proof
end

section
/-! SUPPORT. Hapol: how a message comes to be served, the timers of the agent, core restarts, and the host port (R344 to R382). -/

namespace Sys2Proof
namespace Machine

/-! ## From a message to its service -/

section
variable {t rights : Nat} {k : Kind} {e : Envelope} {m : Msg} {s q : State} {c : Instr}

/-- No command brings a lease message as a request: those have rows of their own (R307, R356). -/
theorem messageOf_ne_lease (h : messageOf c = some (t, k, e)) : k ≠ .lease := by
  cases c with
  | read | write | writeTimed | subscribeValue | subscribeEvents | subscribeRemove | blockWriteBegin | blockWriteData
  | blockReadBegin | blockReadData | blockAbort | debugRequest | debugAnswer | debugPassword | debugClose | notifyAck
  | challengeOpen | challengeProve | challengeClose | forwardedWrite =>
    cases h; exact Kind.noConfusion
  | _ => cases h

/-- A message of the wanted kind whose header passes is served by that kind (R344). -/
theorem takeMessage_of_kind (hl : 20 ≤ e.msg.length) (hh : headerStatus e.path e.msg = Status.OK) (hk : kindOf (readMsg e.msg) = some k) :
    takeMessage (some k) s e =
      serveKind k (if e.path = .mailbox then { s with creel := { s.creel with busy := false } } else s) e (readMsg e.msg) := by
  simp [takeMessage, Nat.not_lt.2 hl, hh, hk]

/-- A message that reaches a running agent is served by its kind after those that waited, and actions that have come due are handed
over (R345, R347). -/
theorem receive_of_arrives (h : arrives t k e q) : receive t k e q = handNow (serveKind k (taken t e q) e (readMsg e.msg)) := by
  obtain ⟨reach, runs, box, hl, hh, hk⟩ := h
  have no_port_fault : ¬(e.path = .mailbox ∧ (!hostPortUp (q.at_ t)) = true) := fun ⟨hp, hu⟩ => by
    rw [(box hp).1] at hu; exact Bool.false_ne_true hu
  have no_overrun : ¬(e.path = .mailbox ∧ (q.at_ t).creel.busy = true) := fun ⟨hp, hb⟩ => Bool.false_ne_true ((box hp).2.symm.trans hb)
  unfold receive
  dsimp only
  rw [reach, if_neg (by exact Bool.false_ne_true), if_neg no_port_fault, if_neg no_overrun, takeIn, if_pos runs, takeMessage_of_kind hl hh hk]
  rfl

theorem exec_of_arrives (hc : messageOf c = some (t, k, e)) (h : arrives t k e q) :
    exec c q = .next (handNow (serveKind k (taken t e q) e (readMsg e.msg))) :=
  (exec_of_messageOf hc q).trans (congrArg Host.Outcome.next (receive_of_arrives h))

/-! ## The service of each kind -/

/-- An admitted request is served once (R348). -/
theorem serveKind_of_request (hk : k ∉ [Kind.ack, .open_, .prove, .close, .forwarded]) (hl : k ≠ .lease) (hp : e.path ≠ .swiska)
    (hr : m.reply = false) (ha : letIn s e m = .ok rights) : serveKind k s e m = serveOnce k (touch s m) e rights m := by
  cases k with
  | ack | open_ | prove | close | forwarded => exact absurd (by decide) hk
  | lease => exact absurd rfl hl
  | _ => simp [serveKind, hp, hr, ha]

/-- An admitted acknowledgement clears its records (R354). -/
theorem serveKind_ack (hp : e.path ≠ .swiska) (ha : letIn s e m = .ok rights) : serveKind .ack s e m = acked (touch s m) m := by
  simp [serveKind, hp, ha]

/-- The rules of open, prove and close (R359, R363). -/
def takeChallenge (k : Kind) (s : State) (e : Envelope) (m : Msg) : State :=
  match k with
  | .open_ => takeOpen s e m
  | .prove => takeProve s e m
  | _ => takeClose s e m

theorem serveKind_of_challenge (hk : k ∈ [Kind.open_, .prove, .close]) (hp : e.path ≠ .swiska) (hr : m.reply = false) :
    serveKind k s e m = takeChallenge k s e m := by
  rw [List.mem_cons, List.mem_cons, List.mem_singleton] at hk
  obtain rfl | rfl | rfl := hk <;> exact if_neg (by simp [hp, hr])

end

/-- Settles O22: a message that arrives is served by its kind. -/
theorem hapolRequestsComplete : Obligations.HapolRequestsComplete := by
  refine ⟨fun c t k e rights q hc hk h hp hr ha => ?request, fun c t e rights q hc h hp ha => ?ack, fun c t k e q hc hk h hp hr => ?challenge,
    fun c t e q hc h => exec_of_arrives hc h⟩
  case request => rw [exec_of_arrives hc h, serveKind_of_request hk (messageOf_ne_lease hc) hp hr ha]
  case ack => rw [exec_of_arrives hc h, serveKind_ack hp ha]
  case challenge => rw [exec_of_arrives hc h, serveKind_of_challenge hk hp hr]; rfl

/-! ## Timers of the agent -/

section
variable {t session req : Nat} {n : Notify} {x : Session} {q : State}

/-- A NOTIFY whose acknowledgement is overdue is sent again, or its subscription ends (R354). -/
theorem execNotifyTimeout_overdue (hn : (q.at_ t).agent.notifies.find? (fun n => n.session == session && n.req == req) = some n)
    (hx : sessionOf (q.at_ t) session = some x) (ha : agentRuns (q.at_ t) = true)
    (ho : (q.at_ t).overdue (n.sentAt + (q.at_ t).rdN Obj.HAPOL_NOTIFY_TIMEOUT_MS * 1000000) = true) :
    let s := q.at_ t
    execNotifyTimeout t session req q = .next (if n.tries < s.rdN Obj.HAPOL_NOTIFY_RETRIES then
        sendNotify (s.setAgent (fun a =>
          { a with notifies := change a.notifies (fun y => y == n) (fun y => { y with sentAt := s.clock.now, tries := y.tries + 1 }) })) x req true
          (eventBody n.records)
      else (eventsEnd (showSubs (s.setAgent (fun a =>
        { a with subs := a.subs.filter (fun u => !(u.session == session && u.events)) })) session) session).raise Ev.HAPOL_SUBSCRIBER_LOST
          (session % 65536)) := by
  have due : (agentRuns (q.at_ t) && (q.at_ t).overdue (n.sentAt + (q.at_ t).rdN Obj.HAPOL_NOTIFY_TIMEOUT_MS * 1000000)) = true := by
    rw [ha, ho]; rfl
  simp only [execNotifyTimeout, hn, hx, State.whenever_of due]

end

/-- Settles O23: what a timer names is found, and its time has run. -/
theorem agentTimerCommandsComplete : Obligations.AgentTimerCommandsComplete := by
  refine ⟨fun t sub x q hx ha hp hr => ?period, fun t session req n x q hn hx ha ho hr => ?again, fun t session req n x q hn hx ha ho hr => ?lost,
    fun t xfer x q hx ho => ?transfer, fun t session x q hx ha ho => ?idle, fun t core q hr hh => ?restartDone, fun t core q hb => ?resume,
    fun t core q hm => ?restarted⟩
  case period =>
    have due : (agentRuns (q.at_ t) && decide (0 < x.periodMs) && (q.at_ t).ran x.lastAt (x.periodMs * 1000000)) = true := by
      rw [ha, decide_eq_true hp, hr]; rfl
    simp only [exec, execNotifyPeriod, hx, State.whenever_of due]
  case again => exact (execNotifyTimeout_overdue hn hx ha ho).trans (congrArg Host.Outcome.next (if_pos hr))
  case lost => exact (execNotifyTimeout_overdue hn hx ha ho).trans (congrArg Host.Outcome.next (if_neg (Nat.not_lt.2 hr)))
  case transfer => simp only [exec, execBlockIdle, hx, State.whenever_of ho]
  case idle =>
    have due : (agentRuns (q.at_ t) && (q.at_ t).overdue (x.lastAt + (q.at_ t).rdN Obj.HAPOL_SESSION_IDLE_S * 1000000000)) = true := by
      rw [ha, ho]; rfl
    simp only [exec, execSessionIdle, hx, State.whenever_of due]
  case restartDone => exact congrArg Host.Outcome.next (State.whenever_of (by rw [decide_eq_true hr, hh]; rfl))
  case resume => exact congrArg Host.Outcome.next (State.whenever_of hb)
  case restarted => exact congrArg Host.Outcome.next (State.whenever_of hm)

/-! ## The host port -/

section
variable {t : Nat} {sent : List Byte} {q : State}

/-- What is wrong with a mailbox message: no length, another length than it states, or more than 1,436 bytes (R381). -/
def mbxBad (sent : List Byte) : Bool :=
  decide (sent.length < 2) || decide (field sent 0 2 ≠ sent.length - 2) || decide (1436 < field sent 0 2) || decide (1436 < sent.length - 2)

theorem execMbxWrite_up (hu : hostPortUp (q.at_ t) = true) :
    let s := q.at_ t
    execMbxWrite t sent q = .next (
      if mbxBad sent then State.bump { s with creel := { s.creel with overrun := true } } Obj.HAPOL_MALFORMED
      else if s.creel.busy then { s with creel := { s.creel with overrun := true } }
      else takeIn none ⟨.mailbox, 0, sent.drop 2⟩ s) :=
  congrArg Host.Outcome.next (State.whenever_of hu)

theorem mbxBad_of_whole (h2 : 2 ≤ sent.length) (hf : field sent 0 2 = sent.length - 2) (hm : sent.length ≤ 1438) : mbxBad sent = false := by
  simp [mbxBad, hf]
  omega

theorem mbxBad_of_malformed (h : sent.length < 2 ∨ field sent 0 2 ≠ sent.length - 2 ∨ 1438 < sent.length) : mbxBad sent = true := by
  simp only [mbxBad, Bool.or_eq_true, decide_eq_true_eq]
  omega

end

/-- Settles O25: with the port up each command does what it does then, and a message by its length and the mailbox. -/
theorem hostPortCommandsComplete : Obligations.HostPortCommandsComplete := by
  refine ⟨fun t b q hu => ?cfg, fun t n q hu => ?id, fun t addr data q hu => ?write, fun t addr words fillers q hu hf => ?read,
    fun t addr words fillers q hu hf => ?late, fun t sent q hu h2 hf hm hb => ?message, fun t sent q hu h2 hf hm hb => ?overrun,
    fun t sent q hu h => ?malformed, fun t n q hu he => ?empty, fun t n m rest q hu he hn => ?whole, fun t n m rest q hu he hn => ?part,
    fun t max clocked q hu => ?events, fun t n q hu => ?status⟩
  case cfg | id | write | events | status => exact congrArg Host.Outcome.next (State.whenever_of hu)
  case read => exact congrArg Host.Outcome.next ((State.whenever_of hu).trans (if_neg (Nat.not_lt.2 hf)))
  case late => exact congrArg Host.Outcome.next ((State.whenever_of hu).trans (if_pos hf))
  case message =>
    exact (execMbxWrite_up hu).trans (congrArg Host.Outcome.next
      ((if_neg (ne_true_of_eq_false (mbxBad_of_whole h2 hf hm))).trans (if_neg (ne_true_of_eq_false hb))))
  case overrun =>
    exact (execMbxWrite_up hu).trans (congrArg Host.Outcome.next
      ((if_neg (ne_true_of_eq_false (mbxBad_of_whole h2 hf hm))).trans (if_pos hb)))
  case malformed => exact (execMbxWrite_up hu).trans (congrArg Host.Outcome.next (if_pos (mbxBad_of_malformed h)))
  case empty =>
    refine congrArg Host.Outcome.next ((State.whenever_of hu).trans ?_)
    rw [he]
  case whole =>
    refine congrArg Host.Outcome.next ((State.whenever_of hu).trans ?_)
    rw [he]
    exact if_pos hn
  case part =>
    refine congrArg Host.Outcome.next ((State.whenever_of hu).trans ?_)
    rw [he]
    exact if_neg (Nat.not_le.2 hn)

end Machine
end Sys2Proof
end

section
/-! SUPPORT. Power and reset, starts, Doff standby and debug access: what a reset leaves, what enters service, and the commands by their
conditions (R422 to R460). -/

namespace Sys2Proof
namespace Machine

/-! ## What a reset of everything but the always-on domain leaves (R425) -/

section
variable {s u : State} {held : Bool}

/-- A state that has put out something, and is otherwise the same. -/
def Emits (s u : State) : Prop := ∃ es, u = { s with sent := es }

theorem Emits.refl : Emits s s := ⟨_, rfl⟩

theorem Emits.emit (h : Emits s u) (e : Emit) : Emits s (u.emit e) := by
  obtain ⟨es, rfl⟩ := h
  exact ⟨_, rfl⟩

theorem Emits.ite {c : Prop} [Decidable c] {v : State} (hu : Emits s u) (hv : Emits s v) : Emits s (if c then u else v) := by
  split <;> assumption

theorem Emits.each {α : Type} {f : State → α → State} (xs : List α) (h : Emits s u) (hf : ∀ v x, Emits s v → Emits s (f v x)) :
    Emits s (u.each xs f) := by
  induction xs generalizing u with
  | nil => exact h
  | cons x xs ih => exact ih (hf u x h)

/-- The pins of a reset. -/
theorem restPins_emits (h : Emits s u) : Emits s (restPins u) :=
  h.ite (((h.each _ fun _ _ hv => ((hv.emit _).emit _).emit _).emit _).emit _)

theorem resetPins_emits : Emits s (resetPins held s) := by
  unfold resetPins
  have channels : ∀ v n, Emits s v → Emits s (let v := if (v.td n).en then (v.emit (.pin "TD_EN" n 0)).pwmLow n else v
      if (v.td n).relay then v.emit (if held then .pinLater "RLY" n 0 (v.clock.now + 10000000) else .pin "RLY" n 0) else v) := by
    intro v n hv
    have enable : Emits s (if (v.td n).en then (v.emit (.pin "TD_EN" n 0)).pwmLow n else v) := (((hv.emit _).emit _).emit _).ite hv
    exact (enable.emit _).ite enable
  have fallen := Emits.refl.each (List.range 32) channels
  exact restPins_emits ((fallen.ite (fallen.emit _)).emit _)

theorem cutProgramming_parts : (cutProgramming s).dict = s.dict ∧ (cutProgramming s).clock = s.clock ∧
    (cutProgramming s).power.wakeLatch = s.power.wakeLatch := by
  unfold cutProgramming
  split
  · exact ⟨rfl, rfl, rfl⟩
  · unfold putSlot
    split <;> exact ⟨rfl, rfl, rfl⟩

/-- Engine time without its slew is read of the clock and the dictionary. -/
theorem State.foldSlew_clock_congr (hd : s.dict = u.dict) (hc : s.clock = u.clock) : s.foldSlew.clock = u.foldSlew.clock := by
  simp only [State.foldSlew, State.slewed, State.rdN, State.rd_congr hd, hc]

/-- A reset lets engine time run on without its slew, and leaves the wake latch. -/
theorem resetEngine_parts : (resetEngine s).clock = { s.foldSlew.clock with step := 0, set := none, slewing := 0, stepped := false } ∧
    (resetEngine s).power.wakeLatch = s.power.wakeLatch := by
  obtain ⟨dict, clock, latch⟩ := cutProgramming_parts (s := s)
  obtain ⟨es, pins⟩ := resetPins_emits (held := true) (s := cutProgramming s)
  unfold resetEngine resetRim
  dsimp only
  rw [pins, ← State.foldSlew_clock_congr dict clock, ← latch]
  generalize cutProgramming s = p
  split
  · exact ⟨rfl, rfl⟩
  · rw [State.raise_clock, State.raise_power]
    exact ⟨rfl, rfl⟩

/-- Engine time that has lost its slew is what it was with it (R136). -/
theorem State.engineNs_of_folded (h : u.clock = { s.foldSlew.clock with step := 0, set := none, slewing := 0, stepped := false }) :
    u.engineNs = s.engineNs := by
  have no_slew : u.slewed = 0 := by simp [State.slewed, h]
  unfold State.engineNs
  rw [no_slew, h]
  simp only [State.foldSlew]
  omega

end

/-! ## What the reset inputs leave -/

section
variable {t : Nat} {q : State}

/-- A fall of PORST_N resets everything, the always-on domain included. -/
theorem execPorstNFall_resets (h : q.power.porst = true) :
    ∃ u, execPorstNFall t q = .next u ∧ u.clock.now = 0 ∧ u.clock.pick = 0 ∧ u.power.wakeLatch = false ∧ u.power.porst = false ∧
      u.creel.mem = [] ∧ u.pending = q.pending := by
  have here : (q.at_ t).power.porst = true := h
  obtain ⟨queue, -⟩ := resetAll_sound (q.at_ t)
  exact ⟨_, congrArg Host.Outcome.next (State.whenever_of here), rfl, rfl, rfl, rfl, rfl, queue⟩

/-- Whether a fall of RESET_N resets or wakes the engine, the state after it is the reset one with RESET_N low and CORE_EN as it then is. -/
theorem execResetNFall_resets (hp : q.power.porst = true) (hr : q.power.resetN = true) :
    ∃ u, execResetNFall t q = .next u ∧ u.clock = (resetEngine (q.at_ t)).clock ∧
      u.power.wakeLatch = (resetEngine (q.at_ t)).power.wakeLatch ∧ u.power.resetN = false ∧ u.pending = (resetEngine (q.at_ t)).pending := by
  have falls : ((q.at_ t).power.porst && (q.at_ t).power.resetN) = true := Bool.and_eq_true_iff.2 ⟨hp, hr⟩
  refine ⟨_, congrArg Host.Outcome.next (State.whenever_of falls), ?_⟩
  dsimp only
  generalize resetEngine (q.at_ t) = r
  split <;> exact ⟨rfl, rfl, rfl, rfl⟩

end

/-- Settles O59: what the two resets leave. -/
theorem resetInputs : Obligations.ResetInputs := by
  refine ⟨fun t q h => execPorstNFall_resets h, fun t q hp hr => ?_⟩
  obtain ⟨u, hu, hclock, hlatch, hreset, hqueue⟩ := execResetNFall_resets (t := t) hp hr
  obtain ⟨rclock, rlatch⟩ := resetEngine_parts (s := q.at_ t)
  obtain ⟨rqueue, -, rnow, rpick⟩ := kept_parts (resetEngine_kept (q.at_ t))
  exact ⟨u, hu, hclock ▸ rnow, State.engineNs_of_folded (hclock.trans rclock), hclock ▸ rpick, hlatch.trans rlatch, hreset,
    hqueue.trans rqueue⟩

/-! ## Power and reset -/

/-- Settles O29: each command by its condition, and what a fall of RESET_N or CORE_PG does by the state it falls in. -/
theorem powerCommandsComplete : Obligations.PowerCommandsComplete := by
  refine ⟨fun t q h => ?powerUp, fun t straps flash q hr hp => ?porstRise, fun t q h => ?porstFall, fun t q hp hr hd => ?resetFall,
    fun t q hp hr hd => ?wakes, fun t q hp hr => ?resetRise, fun t q he hg ha ho => ?corePg, fun t q hs hg ho => ?timeout,
    fun t q hg he => ?fallsOff, fun t q hg he => ?falls, fun t q hg ht => ?trip, fun t q h => ?loss⟩
  case powerUp => exact congrArg Host.Outcome.next (State.whenever_of (by rw [h]; rfl))
  case porstRise =>
    refine congrArg Host.Outcome.next ((State.whenever_of (by rw [hr, hp]; rfl)).trans ?_)
    cases flash <;> rfl
  case porstFall | loss => exact congrArg Host.Outcome.next (State.whenever_of h)
  case resetFall =>
    exact congrArg Host.Outcome.next ((State.whenever_of (by rw [hp, hr]; rfl)).trans (if_neg (by rw [decide_eq_false hd]; exact Bool.false_ne_true)))
  case wakes => exact congrArg Host.Outcome.next ((State.whenever_of (by rw [hp, hr]; rfl)).trans (if_pos (decide_eq_true hd)))
  case resetRise => exact congrArg Host.Outcome.next (State.whenever_of (by rw [hp, hr]; rfl))
  case corePg =>
    have in_time : (starting (q.at_ t) && (q.at_ t).overdue ((q.at_ t).power.coreEnAt + 50000000)) = false := Bool.and_eq_false_iff.2 ho
    exact congrArg Host.Outcome.next (State.whenever_of (by rw [he, hg, decide_eq_true ha, in_time]; rfl))
  case timeout => exact congrArg Host.Outcome.next (State.whenever_of (by rw [hs, hg, ho]; rfl))
  case fallsOff => exact congrArg Host.Outcome.next ((State.whenever_of hg).trans (if_pos (by rw [he]; rfl)))
  case falls => exact congrArg Host.Outcome.next ((State.whenever_of hg).trans (if_neg (by rw [he]; exact Bool.false_ne_true)))
  case trip => exact congrArg Host.Outcome.next (State.whenever_of (by rw [hg, ht]; rfl))

end Machine
end Sys2Proof
end

section
/-! SUPPORT. Starts, the saved image and the firmware slots, Doff standby, and debug access (R343, R427 to R460). -/

namespace Sys2Proof
namespace Machine

/-! ## What entering service leaves (R430, R435) -/

section
variable {s : State}

/-- What showing the reference leaves of a start: the power record and the Heddle. -/
def State.service (s : State) : Power × Heddle := (s.power, s.heddle)

@[simp] theorem State.service_wr (k : Nat) (v : Int) : (s.wr k v).service = s.service := rfl
@[simp] theorem State.service_emit (e : Emit) : (s.emit e).service = s.service := rfl

@[simp] theorem showStates_service : (showStates s).service = s.service := by
  unfold showStates
  extract_lets st plain spindles k _ measured a _ shown d
  have spindles_leave : spindles.service = s.service := calc
    spindles.service = plain.service := State.each_leaves State.service fun u n _ => by split <;> simp
    _ = s.service := (State.service_wr ..).trans (State.service_wr ..)
  clear_value spindles
  have measured_leaves : measured.service = spindles.service := by
    unfold measured
    split <;> rfl
  clear_value measured
  have shown_leaves : shown.service = measured.service := State.service_wr ..
  clear_value shown
  exact (State.each_leaves State.service fun u m _ => (State.service_wr ..).trans (State.service_wr ..)).trans
    (shown_leaves.trans (measured_leaves.trans spindles_leave))

@[simp] theorem showReference_service : (showReference s).service = s.service := by
  simp only [showReference]
  split
  · exact showStates_service
  · rw [State.service_emit, State.service_wr, showStates_service]

@[simp] theorem showScope_service : (showScope s).service = s.service := State.service_wr ..

/-- Entering filtered mode sets it in the Heddle and leaves the power record (R385). -/
theorem enterFiltered_filters : (enterFiltered s).power = s.power ∧ (enterFiltered s).heddle.filtered = true := by
  rw [enterFiltered, State.wr_power, State.wr_heddle]
  exact ⟨rfl, rfl⟩

/-- Service is stage 5 with the Heddle in filtered mode (R385, R435). -/
theorem enterService_service : (enterService s).power.stage = 5 ∧ (enterService s).heddle.filtered = true := by
  have filtered : ∀ v : State, v.power.stage = 5 → (showScope (showReference (enterFiltered v))).power.stage = 5 ∧
      (showScope (showReference (enterFiltered v))).heddle.filtered = true := by
    intro v hv
    obtain ⟨hp, hh⟩ := enterFiltered_filters (s := v)
    have both : (showScope (showReference (enterFiltered v))).service = (enterFiltered v).service :=
      showScope_service.trans showReference_service
    obtain ⟨power, heddle⟩ := Prod.mk.inj both
    rw [power, heddle]
    exact ⟨hp ▸ hv, hh⟩
  unfold enterService
  refine filtered _ ?_
  split
  · simp
  · simp

end

section
variable {t : Nat} {q s : State}

/-- The condition of the end of a start: the boot is over, the self-tests of a cold one have passed but for one harness, both cores run, and it
is in time (R430, R435). -/
theorem startDone_of {bad : Nat} (h4 : s.power.stage = 4) (hb : s.rd Obj.START_KIND ≠ 0 ∨ bad ≤ 1) (h0 : s.coreRuns 0 = true)
    (h1 : s.coreRuns 1 = true) (ho : startOverdue s = false) :
    (s.power.stage == 4 && (s.rd Obj.START_KIND != 0 || decide (bad ≤ 1)) && s.coreRuns 0 && s.coreRuns 1 && !startOverdue s) = true := by
  have passed : (s.rd Obj.START_KIND != 0 || decide (bad ≤ 1)) = true := by rw [Bool.or_eq_true, bne_iff_ne, decide_eq_true_iff]; exact hb
  rw [beq_iff_eq.2 h4, passed, h0, h1, ho]; rfl

/-- A programmed slot is shown with its event (R460). -/
theorem execFwProgrammed_done {n : Nat} {b : List Byte} (h : (q.at_ t).power.programming = some (n, b)) :
    let s := q.at_ t
    execFwProgrammed t true q = .next (((showSlots (putSlot { s with power := { s.power with programming := none } } n b)).wr
      Obj.FW_PROGRESS 100).raise Ev.FW_PROGRAMMED (arg2 n 1)) := by
  simp only [execFwProgrammed, h, if_true]

theorem execFwProgrammed_ended {n : Nat} {b : List Byte} (h : (q.at_ t).power.programming = some (n, b)) :
    execFwProgrammed t false q = .next (endProgramming (q.at_ t)) := by
  simp only [execFwProgrammed, h, Bool.false_eq_true, if_false]

end

/-- Settles O30: each command by its condition, and the end of a start by what enters service. -/
theorem startCommandsComplete : Obligations.StartCommandsComplete := by
  refine ⟨fun t ddr tests q h4 hb h0 h1 ho => ?done, fun t q hs ho => ?timeout, fun t q h2 hb hn => ?noImage, fun t q h2 hb hl ha hi => ?hostImage,
    fun t q h4 hk => ?selfTest, fun t q hp => ?save, fun t q h5 h2 hr => ?record, fun t n b q h => execFwProgrammed_done h,
    fun t n b q h => execFwProgrammed_ended h⟩
  case done => exact ⟨_, congrArg Host.Outcome.next (State.whenever_of (startDone_of h4 hb h0 h1 ho)), enterService_service⟩
  case timeout => exact congrArg Host.Outcome.next (State.whenever_of (by rw [hs, ho]; rfl))
  case noImage => exact congrArg Host.Outcome.next (State.whenever_of (by rw [beq_iff_eq.2 h2, beq_iff_eq.2 hb, hn]; rfl))
  case hostImage =>
    exact congrArg Host.Outcome.next (State.whenever_of (by rw [beq_iff_eq.2 h2, beq_iff_eq.2 hb, bne_iff_ne.2 hl, ha, bne_iff_ne.2 hi]; rfl))
  case selfTest => exact congrArg Host.Outcome.next (State.whenever_of (by rw [beq_iff_eq.2 h4, beq_iff_eq.2 hk]; rfl))
  case save => exact congrArg Host.Outcome.next (State.whenever_of (decide_eq_true hp))
  case record => exact congrArg Host.Outcome.next (State.whenever_of (by rw [beq_iff_eq.2 h5, beq_iff_eq.2 h2, hr]; rfl))

/-! ## Doff standby -/

/-- Settles O31: each command by its condition. -/
theorem doffCommandsComplete : Obligations.DoffCommandsComplete := by
  refine ⟨fun t q h1 h5 hp => ?entry, fun t q h2 hf hr hs => ?sample, fun t q ha h0 ht => ?timer, fun t n q ha hn => ?input, fun t q ha hl => ?link⟩
  case entry => exact congrArg Host.Outcome.next (State.whenever_of (by rw [beq_iff_eq.2 h1, beq_iff_eq.2 h5, decide_eq_true hp]; rfl))
  case sample =>
    exact congrArg Host.Outcome.next (State.whenever_of (by rw [beq_iff_eq.2 h2, bne_iff_ne.2 hf, hr, decide_eq_true hs]; rfl))
  case timer => exact congrArg Host.Outcome.next (State.whenever_of (by rw [ha, bne_iff_ne.2 h0, decide_eq_true ht]; rfl))
  case input => exact congrArg Host.Outcome.next (State.whenever_of (by rw [ha, hn]; rfl))
  case link => exact congrArg Host.Outcome.next (State.whenever_of (by rw [ha, hl]; rfl))

/-! ## Debug access -/

/-- Settles O24: each command by its condition, and the TAP by its instruction. -/
theorem debugCommandsComplete : Obligations.DebugCommandsComplete := by
  refine ⟨fun t q hs he => ?expiry, fun t q hl hu => ?lockout, fun t q hb hh => ?haltA, fun t q hb hh => ?haltB, fun t ins q => rfl⟩
  case expiry => exact congrArg Host.Outcome.next (State.whenever_of (by rw [decide_eq_true hs, decide_eq_true he]; rfl))
  case lockout =>
    exact ⟨_, congrArg Host.Outcome.next (State.whenever_of (by rw [hl, decide_eq_true hu]; rfl)),
      (State.rd_congr (u := (q.at_ t).wr Obj.DEBUG_FAILS 0) rfl _).trans (State.rd_wr_same ..), rfl⟩
  case haltA | haltB =>
    exact congrArg Host.Outcome.next (State.whenever_of (Bool.and_eq_true_iff.2 ⟨hb, congrArg (!·) hh⟩))

end Machine
end Sys2Proof
end
